-- ==== Sys2Proof/Word.lean ====
section
/-! DEFINITION. The word types of the terminal and the reading and writing of a bit range of a register word. -/
namespace Sys2Proof

/-- A register word: the address space is of 32-bit registers (00_scope.md, R1). -/
abbrev Word := BitVec 32

/-- A byte of a frame, a memory or a message. -/
abbrev Byte := BitVec 8

/-- Bits `hi` down to `lo` of a register word, as a number. -/
def Word.field (w : Word) (hi lo : Nat) : Nat := w.toNat / 2 ^ lo % 2 ^ (hi + 1 - lo)

/-- The register word with bits `hi` down to `lo` replaced by `v`, cut to the field's width. -/
def Word.withField (w : Word) (hi lo v : Nat) : Word :=
  BitVec.ofNat 32
    (w.toNat / 2 ^ (hi + 1) * 2 ^ (hi + 1) + v % 2 ^ (hi + 1 - lo) * 2 ^ lo + w.toNat % 2 ^ lo)

/-- The bytes of a number, most significant first, `n` of them. -/
def bytesBE : Nat → Nat → List Byte
  | 0, _ => []
  | n + 1, v => BitVec.ofNat 8 (v / 2 ^ (8 * n)) :: bytesBE n v

/-- The number spelt by bytes, most significant first. -/
def numBE (bs : List Byte) : Nat := bs.foldl (fun a b => a * 256 + b.toNat) 0

/-- A bit range of a big-endian byte string: bytes `from`, `len` of them. -/
def sliceNum (bs : List Byte) (start len : Nat) : Nat := numBE ((bs.drop start).take len)

/-- A signed value as the unsigned number of a field of `n` bits (two's complement, R12). -/
def toField (n : Nat) (v : Int) : Nat := (v % (2 ^ n : Int)).toNat

/-- The signed value of a two's complement field of `n` bits (R12). -/
def signed (n v : Nat) : Int := if v % 2 ^ n < 2 ^ (n - 1) then (v % 2 ^ n : Nat) else (v % 2 ^ n : Nat) - (2 ^ n : Int)

end Sys2Proof
end

