-- ==== Sys2Proof/Syntax.lean ====
section
/-! DEFINITION. The commands of the terminal: one constructor of `Instr` for each row of spec/opcode_table.json, and the
types of their operands. -/
namespace Sys2Proof

/-- The agents of Table 00-5. -/
inductive Agent where
  | carrier | tenant | host | keeper
  deriving DecidableEq, Repr

/-- The two line engines. -/
inductive Engine where
  | la | lb
  deriving DecidableEq, Repr

/-- The number of an engine: 0 for LA, 1 for LB (Table 01-3, ENGINE). -/
def Engine.n : Engine → Nat
  | .la => 0
  | .lb => 1

/-- The other engine of the pair. -/
def Engine.peer : Engine → Engine
  | .la => .lb
  | .lb => .la

/-- A channel of an engine. -/
abbrev Ch := Fin 4
/-- A client lane. -/
abbrev Lane := Fin 128
/-- A client port, named by its lowest lane. -/
abbrev Port := Fin 128
/-- A quad of lanes. -/
abbrev Quad := Fin 32
/-- A CBR framer. -/
abbrev Framer := Fin 32
/-- A pipe. -/
abbrev Pipe := Fin 3
/-- A parse unit of a pipe. -/
abbrev ParseUnit := Fin 16
/-- A time domain of the time engine. -/
abbrev Dom := Fin 2
/-- An Alloc-ID slot, and a reorder stream. -/
abbrev Slot := Fin 64
/-- A line queue. -/
abbrev LineQ := Fin 512
/-- A cipher engine. -/
abbrev CeId := Fin 4
/-- A bag. -/
abbrev Bag := Fin 64
/-- A table bank of the classifier. -/
abbrev Bank := Fin 52
/-- A turn list. -/
abbrev TList := Fin 128
/-- A secure channel. -/
abbrev ScId := Fin 4096
/-- A secure association. -/
abbrev SaId := Fin 8192
/-- An event source. -/
abbrev Source := Fin 1536
/-- A scheduler node of level 0. -/
abbrev L0Node := Fin 135
/-- A mailbox block of the message gate. -/
abbrev MgBlock := Fin 3
/-- A power domain. -/
abbrev PowerDom := Fin 36

/-- A line DSP core: LD-A0, LD-A1, LD-B0, LD-B1. -/
structure Core where
  engine : Engine
  idx : Fin 2
  deriving DecidableEq, Repr

/-- The number of a DSP core, 0 to 3. -/
def Core.n (k : Core) : Nat := 2 * k.engine.n + k.idx.val

/-- A settings domain (Table 17-12). -/
inductive SetDomain where
  | carrier | tenant
  deriving DecidableEq, Repr

/-- A serial number: vendor ID and vendor-specific part (R74). -/
structure Serial where
  vid : Nat
  ssn : Nat
  deriving DecidableEq, Repr

/-- A burst profile: preamble and delimiter in bits, FEC, the upstream rate in steps of 100 kb/s, and the pattern of preamble
and delimiter in bytes (R546, R145, R148). -/
structure Profile where
  preamble : Nat
  delimiter : Nat
  fec : Bool
  rate : Nat
  pattern : List Byte
  deriving DecidableEq, Repr

/-- What a Burst_Profile message carries (R546). -/
structure ProfileMsg where
  index : Nat
  profile : Profile
  deriving DecidableEq, Repr

/-- The address, MIC outcome and sequence number of a downstream PLOAM message (R67, R68). -/
structure PloamHdr where
  onuId : Nat
  micOk : Bool
  seq : Nat
  deriving DecidableEq, Repr

/-- The bodies of the downstream PLOAM messages of Table 03-4, and any other type. -/
inductive PloamBody where
  | burstProfile (p : ProfileMsg)
  | assignOnuId (sn : Serial) (id : Nat)
  | rangingTime (relative : Bool) (v : Int)
  | deactivateOnuId
  | disableSerialNumber (sn : Serial) (enable : Bool)
  | requestRegistration
  | assignAllocId (allocId : Nat) (assign : Bool)
  | keyControl (slot : Fin 2)
  | sleepAllow (allow : Bool)
  | tuningControl
  | other (type : Nat)
  deriving DecidableEq, Repr

/-- A downstream PLOAM message. -/
structure PloamMsg where
  hdr : PloamHdr
  body : PloamBody
  deriving DecidableEq, Repr

/-- An allocation structure (Table 06-2) with the outcome of its HEC check. -/
structure Alloc where
  allocId : Nat
  dbru : Bool
  ploamu : Bool
  start : Nat
  grant : Nat
  fwi : Bool
  profile : Nat
  hecOk : Bool
  deriving DecidableEq, Repr

/-- An XGEM unit as delineated: the header of Table 04-3 with its HEC outcome, the payload bytes as received, whether a
byte of it lies in a marked codeword (R84), and whether its reassembly buffer shows a parity error (R100). -/
structure XgemUnit where
  hecOk : Bool
  pli : Nat
  keyIdx : Nat
  portId : Nat
  lf : Bool
  data : List Byte
  marked : Bool
  parity : Bool
  deriving DecidableEq, Repr

/-- A downstream frame of 125 µs as the receive stages of Table 04-1 find it. -/
structure DsFrame where
  psyncDiff : Nat
  sfc : Nat
  sfcHecOk : Bool
  opctl : Nat
  opctlHecOk : Bool
  hlendHecOk : Bool
  bwmap : List Alloc
  ploam : List PloamMsg
  xgem : List XgemUnit
  cwCorr : Nat
  bitsCorr : Nat
  cwUncorr : Nat
  deriving DecidableEq, Repr

/-- A bonded SDU as it reaches the reorder logic: its 8-byte bond tag, its frame, its Port-ID and key index, and whether
a held cell of it shows a parity error at release (R107, R114). -/
structure BondSdu where
  tag : List Byte
  data : List Byte
  portId : Nat
  keyIdx : Nat
  parity : Bool
  deriving DecidableEq, Repr

/-- One telemetry update of an engine: per channel the launch power averaged over the burst time since the last update,
the bias the laser needs for nominal power, received power and APD
bias; plate temperature and cooler current (R45 to R47, R544). Powers in 0.01 dBm, bias in 2 µA, APD in 10 mV,
temperature in 0.01 °C, current in 1 mA. -/
structure Telemetry where
  txPwr : List Int
  needBias : List Nat
  rxPwr : List Int
  apdV : List Nat
  plate : Int
  tecI : Int
  deriving DecidableEq, Repr

/-- What carrier firmware writes for an assigned or freed Alloc-ID (R137, R141). -/
structure SlotBinding where
  valid : Bool
  ch : Ch
  cells : Nat
  allocId : Nat
  ports : List (Fin 8 × Bool × Nat)
  deriving DecidableEq, Repr

/-- The wake events of R163. -/
inductive WakeCause where
  | fwi | ploam | localFrame | lossOfLock
  deriving DecidableEq, Repr

/-- An ENTER of watchful sleep or doze at an engine, with the wake event that comes in its own cycle, if one does (R159, R160). -/
structure PmEntry where
  engine : Engine
  wake : Option WakeCause
  deriving DecidableEq, Repr

/-- The wake events of R506. -/
inductive WakeEvent where
  | line (e : Engine) (cause : WakeCause)
  | lane (l : Lane)
  | gpio (n : Fin 16)
  | hostPut
  | action
  | powerFail
  | therm
  | exit
  | access (d : PowerDom)
  | tally (src : Source)
  deriving DecidableEq, Repr

/-- What follows a tie header (Table 01-3, KIND): a frame, or the items of a message. -/
structure TiePayload where
  bytes : List Byte
  deriving DecidableEq, Repr

/-- Why a lane in Up loses its link (R235). -/
inductive LaneLoss where
  | cdr | wordLock | alignment | highErrors
  deriving DecidableEq, Repr

/-- A message of a tie link's own as its receiver finds it: the engine whose link it is, and whether its header is good (R19). -/
structure LinkMessage where
  engine : Engine
  good : Bool
  deriving DecidableEq, Repr

/-- What a pattern checker reports: that it has locked, and the errors it has found since its last report (R243). -/
structure CheckerReport where
  lock : Bool
  errs : Nat
  deriving DecidableEq, Repr

/-- A flit as its receiver finds it (Table 09-4): its SEQ, the bytes that its transmitter sent in it, the data lanes whose LPAR
bit fails, and whether FCRC fits. -/
structure Flit where
  seq : Nat
  data : List Byte
  badLanes : BitVec 20
  fcrcOk : Bool
  deriving DecidableEq, Repr

/-- A received MAC control frame (R249): PAUSE with its quanta, PFC with the classes it names and their quanta, or any
other opcode. -/
inductive MacControl where
  | pause (quanta : Nat)
  | pfc (classes : List (Fin 8 × Nat))
  | other (opcode : Nat)
  deriving DecidableEq, Repr

/-- How a word or record kept twice reads: both copies good, one bad, or both (R277, R314). -/
inductive RecordRead where
  | good | oneBad | bothBad
  deriving DecidableEq, Repr

/-- Where a parity error in the scheduler's running state lies (R362). -/
inductive SchedState where
  | meterBucket (m : Nat)
  | shaperBucket (i : Nat)
  | tag (child : Nat)
  | depth (q : Nat)
  | link (q at_ : Nat)
  deriving DecidableEq, Repr

/-- A frame at a client MAC when its last byte arrives: its bytes from the destination address to the FCS; of each of its
fragments after the first, the fragment count and whether the mCRC before it was good (R252); the TIME cycles since its message
timestamp point, at its first byte, and the interpolator phase of that point (R194, R211). -/
structure RxFrame where
  bytes : List Byte
  frags : List (Nat × Bool)
  cycles : Nat
  phase : Fin 8
  deriving DecidableEq, Repr

/-- How tenant firmware marks a frame that it sends for a stamp (R213, R214). -/
inductive SendMark where
  | plain | twoStep | oneStep
  deriving DecidableEq, Repr

/-- A trace message that a received frame completes, and whether its CRC-7 fits (R401). -/
structure TraceMsg where
  bytes : List Byte
  crcOk : Bool
  deriving DecidableEq, Repr

/-- The overhead of one received SDH or OTN frame (Table 15-4, R401, R403). `code` is K2 bits 6 to 8 or PM STAT; `rdiSm` SM
BDI; `ptrBad` an invalid or NDF-enabled pointer; `auOnes` H1 and H2 all ones; `label` C2, or PT where the frame carries one;
`rdiP` G1 bit 5 or PM BDI; `mfasOk` the MFAS value fits; `errs` the block errors of B1, B2 and B3, or of SM and PM BIP-8;
`far` the far-end block counts of MS-REI and G1 REI, or of SM BEI and PM BEI. -/
structure CbrOverhead where
  code : Nat
  rdiSm : Bool
  ptrBad : Bool
  auOnes : Bool
  label : Option Nat
  rdiP : Bool
  mfasOk : Bool
  errs : List Bool
  far : List Nat
  trace0 : Option TraceMsg
  trace1 : Option TraceMsg
  deriving DecidableEq, Repr

/-- Changes of state of a framer's recovery loop (R409). -/
inductive ClkEvent where
  | firstSample | settled | farSample | noSample
  deriving DecidableEq, Repr

/-- Why a framer resynchronises (R411): 16 far-off samples, a house step at the far end, or a write by an agent. -/
inductive ResyncCause where
  | drift
  | farStep
  | command (a : Agent)
  deriving DecidableEq, Repr

/-- The commands: one constructor for each row of the table of operations and events. -/
inductive Instr where
  /-- REGISTER_WRITE (R2). -/
  | registerWrite (a : Agent) (addr size : Nat) (w : Word)
  /-- WIDE_VALUE_READ (R9). -/
  | wideValueRead (a : Agent) (addr size : Nat)
  /-- WIDE_VALUE_WRITE (R10). -/
  | wideValueWrite (a : Agent) (addr size : Nat) (w : Word)
  /-- RC_FIELD_READ (R543). -/
  | rcFieldRead (a : Agent) (addr size : Nat)
  /-- CLIENT_FRAME_RECEIVE (R16). -/
  | clientFrameReceive (p : Port) (f : RxFrame)
  /-- CLIENT_FRAME_TRANSMIT (R248). -/
  | clientFrameTransmit (p : Port)
  /-- TIE_FRAME_RECEIVE (R19). -/
  | tieFrameReceive (e : Engine) (hdr : List Byte) (pay : TiePayload)
  /-- LINE_TIE_FRAME_RECEIVE (R139). -/
  | lineTieFrameReceive (e : Engine) (hdr : List Byte) (pay : TiePayload)
  /-- ENGINE_STATUS_MESSAGE (R139). -/
  | engineStatusMessage (m : LinkMessage)
  /-- HUB_STATUS_MESSAGE (R170). -/
  | hubStatusMessage (m : LinkMessage)
  /-- TX_INHIBIT_ACCEPT (R35). -/
  | txInhibitAccept (lowNs : Nat)
  /-- TX_INHIBIT_RELEASE (R36). -/
  | txInhibitRelease (highNs : Nat)
  /-- ROGUE_DETECT (R37). -/
  | rogueDetect (e : Engine) (c : Ch) (ns : Nat)
  /-- ROGUE_RESTORE (R38). -/
  | rogueRestore (a : Agent) (e : Engine) (mask : BitVec 4)
  /-- TEMP_WARN (R40). -/
  | tempWarn (e : Engine) (dev : Int)
  /-- TEMP_GATE_CHANGE (R40). -/
  | tempGateChange (e : Engine) (dev : Int)
  /-- LOS_CHANGE (R42). -/
  | losChange (e : Engine) (c : Ch) (power : Int)
  /-- EQUALISER_TRAIN (R43). -/
  | equaliserTrain (e : Engine) (c : Ch)
  /-- TELEMETRY_UPDATE (R45). -/
  | telemetryUpdate (e : Engine) (t : Telemetry)
  /-- ACT_EN (R53). -/
  | actEn (a : Agent) (e : Engine) (v : Bool)
  /-- CH_JOIN (R54). -/
  | chJoin (a : Agent) (e : Engine) (c : Ch) (v : Bool)
  /-- DEACT (R70). -/
  | deact (a : Agent) (e : Engine)
  /-- DOWNSTREAM_FRAME (R77). -/
  | downstreamFrame (e : Engine) (c : Ch) (f : DsFrame)
  /-- FRAME_LOCK (R79). -/
  | frameLock (e : Engine) (c : Ch) (diffs : List Nat) (sfc : Option Nat)
  /-- LOSS_OF_LOCK (R80). -/
  | lossOfLock (e : Engine) (c : Ch)
  /-- DEFECT_WINDOW_CLOSE (R101). -/
  | defectWindowClose (e : Engine) (c : Ch)
  /-- BURST_PROFILE (R546). -/
  | burstProfile (e : Engine) (c : Ch) (h : PloamHdr) (p : ProfileMsg)
  /-- ASSIGN_ONU_ID (R61). -/
  | assignOnuId (e : Engine) (c : Ch) (h : PloamHdr) (sn : Serial) (id : Nat)
  /-- RANGING_TIME (R63). -/
  | rangingTime (e : Engine) (c : Ch) (h : PloamHdr) (relative : Bool) (v : Int)
  /-- DEACTIVATE_ONU_ID (R70). -/
  | deactivateOnuId (e : Engine) (c : Ch) (h : PloamHdr)
  /-- DISABLE_SERIAL_NUMBER (R71). -/
  | disableSerialNumber (e : Engine) (c : Ch) (h : PloamHdr) (sn : Serial)
  /-- ENABLE_SERIAL_NUMBER (R71). -/
  | enableSerialNumber (e : Engine) (c : Ch) (h : PloamHdr) (sn : Serial)
  /-- REQUEST_REGISTRATION (R69). -/
  | requestRegistration (e : Engine) (c : Ch) (h : PloamHdr)
  /-- ASSIGN_ALLOC_ID (R137). -/
  | assignAllocId (e : Engine) (s : Slot) (b : SlotBinding)
  /-- KEY_CONTROL (R96). -/
  | keyControl (e : Engine) (c : Ch) (h : PloamHdr) (slot : Fin 2)
  /-- SLEEP_ALLOW (R158). -/
  | sleepAllow (e : Engine) (c : Ch) (h : PloamHdr) (allow : Bool)
  /-- TUNING_CONTROL (R69). -/
  | tuningControl (e : Engine) (c : Ch) (h : PloamHdr)
  /-- UNSUPPORTED_PLOAM (R69). -/
  | unsupportedPloam (e : Engine) (c : Ch) (h : PloamHdr) (type : Nat)
  /-- SERIAL_NUMBER_GRANT (R57). -/
  | serialNumberGrant (e : Engine) (g : Alloc)
  /-- DISCOVERY_TIMEOUT (R59). -/
  | discoveryTimeout (e : Engine)
  /-- RANGING_GRANT (R62). -/
  | rangingGrant (e : Engine) (c : Ch) (g : Alloc)
  /-- TO1_EXPIRY (R62). -/
  | to1Expiry (e : Engine) (c : Ch)
  /-- TO2_EXPIRY (R66). -/
  | to2Expiry (e : Engine) (c : Ch)
  /-- BURST_GATE_OVERRUN (R72). -/
  | burstGateOverrun (e : Engine) (c : Ch)
  /-- PON_KEY_GEN (R96). -/
  | ponKeyGen (a : Agent) (e : Engine) (slot : Fin 2)
  /-- PON_KEY_LOAD (R98). -/
  | ponKeyLoad (a : Agent) (e : Engine) (slot : Fin 2)
  /-- BONDED_SDU_ARRIVAL (R110). -/
  | bondedSduArrival (e : Engine) (c : Ch) (x : BondSdu)
  /-- SKEW_WINDOW_EXPIRY (R110). -/
  | skewWindowExpiry (e : Engine) (st : Slot)
  /-- BOND_WINDOW_CLOSE (R117). -/
  | bondWindowClose (e : Engine) (c : Ch)
  /-- SIT_OUT_ENTRY (R121). -/
  | sitOutEntry (e : Engine) (c : Ch)
  /-- SIT_HOLD_EXPIRY (R122). -/
  | sitHoldExpiry (e : Engine) (c : Ch)
  /-- BOND_IN (R119). -/
  | bondIn (e : Engine) (c : Ch)
  /-- BOND_OUT (R120). -/
  | bondOut (e : Engine) (c : Ch)
  /-- BOND_STRIKE_EXPIRY (R123). -/
  | bondStrikeExpiry (e : Engine) (c : Ch)
  /-- BOND_RESTORE (R124). -/
  | bondRestore (a : Agent) (e : Engine) (mask : BitVec 4)
  /-- US_RESYNC (R130). -/
  | usResync (a : Agent) (e : Engine)
  /-- MEMBER_MASK_SET (R131). -/
  | memberMaskSet (e : Engine) (mask : BitVec 4)
  /-- SLOT_FREE (R141). -/
  | slotFree (a : Agent) (e : Engine) (s : Slot)
  /-- QPORT_DISABLE (R137). -/
  | qportDisable (a : Agent) (e : Engine) (q : LineQ)
  /-- GRANT_RECEIVE (R143). -/
  | grantReceive (e : Engine) (c : Ch) (g : Alloc)
  /-- BURST_ASSEMBLY (R148). -/
  | burstAssembly (e : Engine) (c : Ch)
  /-- BURST_LAUNCH (R145). -/
  | burstLaunch (e : Engine) (c : Ch)
  /-- BURST_END (R173). -/
  | burstEnd (e : Engine) (c : Ch)
  /-- PM_ENTER (R159). -/
  | pmEnter (a : Agent) (p : PmEntry)
  /-- PM_EXIT (R158). -/
  | pmExit (a : Agent) (e : Engine)
  /-- TLOW_EXPIRY (R158). -/
  | tlowExpiry (e : Engine)
  /-- TAWARE_EXPIRY (R158). -/
  | tawareExpiry (e : Engine)
  /-- PM_WAKE (R163). -/
  | pmWake (e : Engine) (cause : WakeCause)
  /-- WAKE_COMPLETE (R163). -/
  | wakeComplete (e : Engine)
  /-- PX_MODE_WRITE (R167). -/
  | pxModeWrite (a : Agent) (mode : Nat)
  /-- PX_PRIMARY_WRITE (R172). -/
  | pxPrimaryWrite (a : Agent) (e : Engine)
  /-- RAISE (R180). -/
  | raise (e : Engine)
  /-- SETTLE (R171). -/
  | settle (e : Engine)
  /-- TIE_LINK_CLAIM_TIMEOUT (R169). -/
  | tieLinkClaimTimeout (e : Engine)
  /-- STEP_DIGEST (R176). -/
  | stepDigest
  /-- RESTEP (R177). -/
  | restep (a : Agent)
  /-- STEP_MARK_SEND (R177). -/
  | stepMarkSend
  /-- STEP_MARK (R177). -/
  | stepMark (m : LinkMessage)
  /-- STEP_BACK (R177). -/
  | stepBack
  /-- PX_SWITCH (R178). -/
  | pxSwitch (a : Agent) (force : Bool)
  /-- SWITCHOVER_TRIGGER (R178). -/
  | switchoverTrigger (causes : List Nat)
  /-- PROTECTION_SWITCH_COMMAND (R188). -/
  | protectionSwitchCommand (v : Nat)
  /-- GUARD_EXPIRY (R179). -/
  | guardExpiry
  /-- READY_POINT (R182). -/
  | readyPoint
  /-- RECOVERY_EXPIRY (R185). -/
  | recoveryExpiry
  /-- SERVO_SAMPLE (R196). -/
  | servoSample (d : Dom)
  /-- SERVO_LOCK (R196). -/
  | servoLock (d : Dom)
  /-- SERVO_HOLDOVER (R198). -/
  | servoHoldover (d : Dom)
  /-- DOMAIN_TIME_WRITE (R199). -/
  | domainTimeWrite (a : Agent) (d : Dom) (word : Fin 4) (w : Word)
  /-- PTP_SAMPLE_WRITE (R200). -/
  | ptpSampleWrite (a : Agent) (d : Dom) (high : Bool) (w : Word)
  /-- TOD_ARM (R202). -/
  | todArm (a : Agent) (e : Engine)
  /-- TOD_ANNOUNCED_FRAME (R201). -/
  | todAnnouncedFrame (e : Engine)
  /-- TOD_STOP (R202). -/
  | todStop (e : Engine)
  /-- HOUSE_SELECT (R205). -/
  | houseSelect (a : Agent) (d : Dom)
  /-- SLEW_DONE (R205). -/
  | slewDone
  /-- FREQ_LOST (R209). -/
  | freqLost
  /-- FREQ_REF_RETURN (R209). -/
  | freqRefReturn
  /-- TS_TX_POP (R213). -/
  | tsTxPop (a : Agent) (p : Port)
  /-- TIN_EDGE_CAPTURE (R216). -/
  | tinEdgeCapture (n : Fin 8) (rising : Bool) (phase : Fin 8)
  /-- TIN_STAMP_POP (R217). -/
  | tinStampPop (a : Agent) (n : Fin 8)
  /-- TOUT_PULSE (R219). -/
  | toutPulse (n : Fin 4)
  /-- ACTION_ARM (R223). -/
  | actionArm (a : Agent) (i : Fin 64) (w : Word)
  /-- ACTION_FIRE (R222). -/
  | actionFire (i : Fin 64)
  /-- LANE_MODE_WRITE (R230). -/
  | laneModeWrite (a : Agent) (l : Lane) (mode : Nat)
  /-- PORT100_WRITE (R229). -/
  | port100Write (a : Agent) (q : Quad) (v : Bool)
  /-- LANE_ENABLE (R232). -/
  | laneEnable (a : Agent) (l : Lane) (v : Bool)
  /-- SIGNAL_DETECT (R232). -/
  | signalDetect (l : Lane)
  /-- CDR_LOCK (R232). -/
  | cdrLock (l : Lane)
  /-- TRAINING_COMPLETE (R232). -/
  | trainingComplete (l : Lane)
  /-- POLARITY_TRY (R233). -/
  | polarityTry (l : Lane)
  /-- WORD_LOCK (R233). -/
  | wordLock (l : Lane)
  /-- ALIGNMENT_LOCK (R234). -/
  | alignmentLock (l : Lane) (map : BitVec 8) (skew : Nat)
  /-- STAGE_TIMEOUT (R232). -/
  | stageTimeout (l : Lane)
  /-- LANE_DOWN (R235). -/
  | laneDown (l : Lane) (why : LaneLoss) (sig : Bool)
  /-- LANE_STRIKE_EXPIRY (R236). -/
  | laneStrikeExpiry (l : Lane)
  /-- LANE_RESTORE (R236). -/
  | laneRestore (a : Agent) (l : Lane)
  /-- TIE_LINK_TRAIN (R238). -/
  | tieLinkTrain (e : Engine) (failHub failLine : BitVec 20) (latHub latLine : Nat)
  /-- TIE_RETRAIN (R238). -/
  | tieRetrain (a : Agent) (e : Engine)
  /-- FLIT_RECEIVE (R239). -/
  | flitReceive (e : Engine) (toLine : Bool) (f : Flit)
  /-- TIE_STRIKE_EXPIRY (R240). -/
  | tieStrikeExpiry (e : Engine) (toLine : Bool) (i : Fin 20)
  /-- TIE_RESTORE (R242). -/
  | tieRestore (a : Agent) (e : Engine)
  /-- PRBS_ENABLE (R243). -/
  | prbsEnable (a : Agent) (l : Lane) (gen chk : Bool)
  /-- INJ_ONE (R244). -/
  | injOne (l : Lane) (again : Bool)
  /-- LPI_TX_ENTER (R245). -/
  | lpiTxEnter (p : Port) (wakeNow : Bool)
  /-- LPI_TX_WAKE (R245). -/
  | lpiTxWake (p : Port)
  /-- LPI_RX_CHANGE (R246). -/
  | lpiRxChange (l : Lane) (low : Bool)
  /-- PAUSE_FRAME_RECEIVE (R249). -/
  | pauseFrameReceive (p : Port) (f : MacControl)
  /-- PAUSE_EXPIRY (R249). -/
  | pauseExpiry (p : Port)
  /-- PAUSE_SEND (R250). -/
  | pauseSend (p : Port)
  /-- MM_VERIFY (R252). -/
  | mmVerify (p : Port) (answered : Bool)
  /-- PASS_READY (R256). -/
  | passReady (src : Nat) (bytes : List Byte) (ended : Bool)
  /-- PASS_DISPATCH (R257). -/
  | passDispatch (p : Pipe) (upsets : List (Nat × Bool))
  /-- PARSE_NOP (R266). -/
  | parseNop (p : Pipe) (u : ParseUnit)
  /-- PARSE_LDF (R266). -/
  | parseLdf (p : Pipe) (u : ParseUnit)
  /-- PARSE_LDI (R266). -/
  | parseLdi (p : Pipe) (u : ParseUnit)
  /-- PARSE_LDIH (R266). -/
  | parseLdih (p : Pipe) (u : ParseUnit)
  /-- PARSE_ADD (R266). -/
  | parseAdd (p : Pipe) (u : ParseUnit)
  /-- PARSE_SUB (R266). -/
  | parseSub (p : Pipe) (u : ParseUnit)
  /-- PARSE_AND (R266). -/
  | parseAnd (p : Pipe) (u : ParseUnit)
  /-- PARSE_OR (R266). -/
  | parseOr (p : Pipe) (u : ParseUnit)
  /-- PARSE_XOR (R266). -/
  | parseXor (p : Pipe) (u : ParseUnit)
  /-- PARSE_ADDI (R266). -/
  | parseAddi (p : Pipe) (u : ParseUnit)
  /-- PARSE_ANDI (R266). -/
  | parseAndi (p : Pipe) (u : ParseUnit)
  /-- PARSE_SHLI (R266). -/
  | parseShli (p : Pipe) (u : ParseUnit)
  /-- PARSE_SHRI (R266). -/
  | parseShri (p : Pipe) (u : ParseUnit)
  /-- PARSE_GET (R266). -/
  | parseGet (p : Pipe) (u : ParseUnit)
  /-- PARSE_BR (R266). -/
  | parseBr (p : Pipe) (u : ParseUnit)
  /-- PARSE_BRI (R266). -/
  | parseBri (p : Pipe) (u : ParseUnit)
  /-- PARSE_SEL (R263). -/
  | parseSel (p : Pipe) (u : ParseUnit)
  /-- PARSE_MOVE (R264). -/
  | parseMove (p : Pipe) (u : ParseUnit)
  /-- PARSE_DONE (R266). -/
  | parseDone (p : Pipe) (u : ParseUnit)
  /-- PARSE_EXC (R266). -/
  | parseExc (p : Pipe) (u : ParseUnit)
  /-- PARSE_KEY (R266). -/
  | parseKey (p : Pipe) (u : ParseUnit)
  /-- PARSE_KCPY (R266). -/
  | parseKcpy (p : Pipe) (u : ParseUnit)
  /-- PARSE_FLAG (R266). -/
  | parseFlag (p : Pipe) (u : ParseUnit)
  /-- PARSE_LEN (R269). -/
  | parseLen (p : Pipe) (u : ParseUnit)
  /-- PARSE_LCHK (R266). -/
  | parseLchk (p : Pipe) (u : ParseUnit)
  /-- PARSE_POPL (R266). -/
  | parsePopl (p : Pipe) (u : ParseUnit)
  /-- PARSE_RESULT_RELEASE (R259). -/
  | parseResultRelease (p : Pipe)
  /-- PARSE_UNIT_PARITY (R275). -/
  | parseUnitParity (p : Pipe) (u : ParseUnit)
  /-- PARSE_STRIKE_EXPIRY (R276). -/
  | parseStrikeExpiry (p : Pipe) (u : ParseUnit)
  /-- PARSE_UNIT_RESTORE (R276). -/
  | parseUnitRestore (a : Agent) (p : Pipe) (mask : BitVec 16)
  /-- PASS_CLASSIFY (R286). -/
  | passClassify (p : Pipe) (upsets : List (Nat × Bool))
  /-- TABLE_ADD (R292). -/
  | tableAdd (a : Agent) (addr : Nat)
  /-- TABLE_REMOVE (R292). -/
  | tableRemove (a : Agent) (addr : Nat)
  /-- COMMIT_NOW (R294). -/
  | commitNow (a : Agent)
  /-- COMMIT_EDGE (R294). -/
  | commitEdge (n : Fin 8)
  /-- ROUND_COMMIT (R295). -/
  | roundCommit
  /-- DRAIN_END (R298). -/
  | drainEnd
  /-- SWEEP_DONE (R293). -/
  | sweepDone
  /-- FORCED_RETIRE (R299). -/
  | forcedRetire
  /-- SCRUB_BANK (R302). -/
  | scrubBank (b : Bank) (bad : List (Nat × Bool)) (diff : Bool)
  /-- BANK_RETIRED (R304). -/
  | bankRetired (b : Bank)
  /-- BANK_STRIKE_EXPIRY (R304). -/
  | bankStrikeExpiry (b : Bank)
  /-- REPAIR_DONE (R305). -/
  | repairDone (a : Agent) (b : Bank) (equal : Bool)
  /-- BANK_RESTORE (R306). -/
  | bankRestore (a : Agent) (b : Bank)
  /-- BM_ALLOC (R318). -/
  | bmAlloc (a : Agent) (r : RecordRead)
  /-- BM_FREE (R322). -/
  | bmFree (a : Agent) (handle : Word) (r : RecordRead)
  /-- BM_SHARE (R321). -/
  | bmShare (a : Agent) (handle : Word)
  /-- HAND_REFILL (R317). -/
  | handRefill (b : Bag)
  /-- BM_INIT (R315). -/
  | bmInit (a : Agent)
  /-- BM_RECOUNT (R328). -/
  | bmRecount (a : Agent) (b : Bag)
  /-- RECOUNT_DONE (R328). -/
  | recountDone (b : Bag)
  /-- BM_UNHOLD (R326). -/
  | bmUnhold (a : Agent)
  /-- DATA_PARITY (R326). -/
  | dataParity (frame : Nat) (tile : Nat)
  /-- TILE_TEST_DONE (R326). -/
  | tileTestDone (tile : Nat) (clean : Bool)
  /-- RING_PARITY (R327). -/
  | ringParity (b : Bag)
  /-- FRAME_ENQUEUE (R336). -/
  | frameEnqueue (frame : Nat)
  /-- FRAME_SELECT (R339). -/
  | frameSelect (n : L0Node)
  /-- SHAPER_WRITE (R342). -/
  | shaperWrite (a : Agent) (s : Nat) (w : Word)
  /-- METER_INSTALL (R347). -/
  | meterInstall (a : Agent) (m : Nat) (w : Word)
  /-- TL_APPLY (R350). -/
  | tlApply (a : Agent) (l : TList)
  /-- TL_CANCEL (R351). -/
  | tlCancel (a : Agent) (l : TList)
  /-- TL_CHANGE (R350). -/
  | tlChange (l : TList)
  /-- TURN_START (R348). -/
  | turnStart (l : TList)
  /-- QUEUE_FLUSH (R360). -/
  | queueFlush (a : Agent) (q : Nat)
  /-- CFG_PARITY (R361). -/
  | cfgParity (addr : Nat) (both : Bool)
  /-- STATE_PARITY (R362). -/
  | stateParity (w : SchedState)
  /-- CIPHER_BULK_ENCRYPT (R369). -/
  | cipherBulkEncrypt (sc : ScId) (frame : Nat)
  /-- CIPHER_BULK_VERIFY (R371). -/
  | cipherBulkVerify (sc : ScId) (frame : Nat)
  /-- CIPHER_SUSPEND (R374). -/
  | cipherSuspend (ce : CeId)
  /-- CIPHER_RESUME (R375). -/
  | cipherResume (ce : CeId)
  /-- CMAC_GEN (R377). -/
  | cmacGen (ce : CeId)
  /-- CMAC_VER (R377). -/
  | cmacVer (ce : CeId)
  /-- GCM_ENC (R377). -/
  | gcmEnc (ce : CeId)
  /-- GCM_DEC (R378). -/
  | gcmDec (ce : CeId)
  /-- WRAP (R384). -/
  | wrap (ce : CeId)
  /-- UNWRAP (R377). -/
  | unwrap (ce : CeId)
  /-- KDF (R377). -/
  | kdf (ce : CeId)
  /-- GEN (R377). -/
  | gen (ce : CeId)
  /-- SEND_LINE (R387). -/
  | sendLine (ce : CeId)
  /-- DEADLINE (R379). -/
  | deadline (ce : CeId)
  /-- JOB_DONE (R379). -/
  | jobDone (ce : CeId)
  /-- PAWN_WRITE (R380). -/
  | pawnWrite (a : Agent) (ce : CeId) (code : Nat)
  /-- KEY_SLOT_INSTALL (R382). -/
  | keySlotInstall (a : Agent) (sa : Bool) (slot : Nat) (w : Word)
  /-- NEXT_PN_WRITE (R370). -/
  | nextPnWrite (a : Agent) (sa : SaId) (high : Bool) (w : Word)
  /-- KEY_PARITY (R385). -/
  | keyParity (sa : Bool) (slot : Nat) (both : Bool)
  /-- CIPHER_ENGINE_PARITY (R389). -/
  | cipherEngineParity (ce : CeId)
  /-- CIPHER_STRIKE_EXPIRY (R389). -/
  | cipherStrikeExpiry (ce : CeId)
  /-- CIPHER_RESTORE (R390). -/
  | cipherRestore (a : Agent) (mask : BitVec 4)
  /-- FRAMER_ENABLE (R395). -/
  | framerEnable (a : Agent) (f : Framer) (v : Bool)
  /-- SEGMENT_CUT (R396). -/
  | segmentCut (f : Framer) (payload : List Byte)
  /-- IN_FRAME (R399). -/
  | inFrame (f : Framer) (matched : Nat)
  /-- OOF (R399). -/
  | oof (f : Framer) (errored : Nat)
  /-- DLOF (R399). -/
  | dlof (f : Framer) (present : Bool)
  /-- CBR_FRAME_MONITOR (R400). -/
  | cbrFrameMonitor (f : Framer) (o : CbrOverhead)
  /-- FAILURE_CHANGE (R402). -/
  | failureChange (f : Framer) (n : Fin 15)
  /-- PM_SECOND (R403). -/
  | pmSecond (f : Framer)
  /-- PM_SECOND_ENTRY (R404). -/
  | pmSecondEntry (f : Framer)
  /-- SEGMENT_RECEIVE (R406). -/
  | segmentReceive (f : Framer)
  /-- SEGMENT_PLAYOUT (R407). -/
  | segmentPlayout (f : Framer) (phase : Int)
  /-- CLK_CHG (R409). -/
  | clkChg (f : Framer) (k : ClkEvent)
  /-- RESYNC (R411). -/
  | resync (f : Framer) (why : ResyncCause)
  /-- DSP_RUN (R419). -/
  | dspRun (a : Agent) (k : Core)
  /-- DSP_STOP (R419). -/
  | dspStop (a : Agent) (k : Core)
  /-- DSP_NOP (R433). -/
  | dspNop (k : Core)
  /-- DSP_BR (R424). -/
  | dspBr (k : Core)
  /-- DSP_CALL (R433). -/
  | dspCall (k : Core)
  /-- DSP_JR (R433). -/
  | dspJr (k : Core)
  /-- DSP_LOOP (R425). -/
  | dspLoop (k : Core)
  /-- LOOP_END (R426). -/
  | loopEnd (k : Core)
  /-- DSP_RTI (R433). -/
  | dspRti (k : Core)
  /-- DSP_TRAP (R433). -/
  | dspTrap (k : Core)
  /-- DSP_HALT (R433). -/
  | dspHalt (k : Core)
  /-- DSP_SWOP (R433). -/
  | dspSwop (k : Core)
  /-- DSP_MOV (R433). -/
  | dspMov (k : Core)
  /-- DSP_LDI (R433). -/
  | dspLdi (k : Core)
  /-- DSP_LD (R433). -/
  | dspLd (k : Core)
  /-- DSP_ST (R433). -/
  | dspSt (k : Core)
  /-- DSP_LDP (R433). -/
  | dspLdp (k : Core)
  /-- DSP_ALU (R433). -/
  | dspAlu (k : Core)
  /-- DSP_ALUI (R433). -/
  | dspAlui (k : Core)
  /-- DSP_MAC (R429). -/
  | dspMac (k : Core)
  /-- DSP_MSU (R429). -/
  | dspMsu (k : Core)
  /-- DSP_MPY (R429). -/
  | dspMpy (k : Core)
  /-- DSP_DMAC (R433). -/
  | dspDmac (k : Core)
  /-- DSP_ACOP (R433). -/
  | dspAcop (k : Core)
  /-- DSP_ACLD (R433). -/
  | dspAcld (k : Core)
  /-- DSP_EXT (R430). -/
  | dspExt (k : Core)
  /-- DSP_MAXX (R431). -/
  | dspMaxx (k : Core)
  /-- DSP_MINX (R431). -/
  | dspMinx (k : Core)
  /-- INTERRUPT_ENTRY (R436). -/
  | interruptEntry (k : Core)
  /-- DSP_TIMER_EXPIRY (R440). -/
  | dspTimerExpiry (k : Core) (t : Fin 2)
  /-- KICK (R441). -/
  | kick (k : Core)
  /-- WATCHDOG_HALF (R441). -/
  | watchdogHalf (k : Core)
  /-- WATCHDOG_HALT (R441). -/
  | watchdogHalt (k : Core)
  /-- BELL (R418). -/
  | bell (k : Core)
  /-- DSP_MBOX_IN (R439). -/
  | dspMboxIn (a : Agent) (k : Core)
  /-- DSP_MBOX_ACK (R439). -/
  | dspMboxAck (k : Core)
  /-- DSP_MBOX_OUT (R439). -/
  | dspMboxOut (k : Core)
  /-- DSP_MBOX_OUT_CLEAR (R439). -/
  | dspMboxOutClear (a : Agent) (k : Core)
  /-- CAP_GO (R442). -/
  | capGo (k : Core) (c : Ch) (mode trig : Nat)
  /-- CAP_RELEASE (R442). -/
  | capRelease (k : Core) (c : Ch)
  /-- CAPTURE_COMPLETE (R442). -/
  | captureComplete (e : Engine) (c : Ch) (samples : List Byte) (bad : List Nat) (sfc ui : Nat)
  /-- DSP_PARITY (R445). -/
  | dspParity (k : Core)
  /-- DSP_STRIKE_EXPIRY (R447). -/
  | dspStrikeExpiry (k : Core)
  /-- CORE_RESTORE (R447). -/
  | coreRestore (a : Agent) (k : Core)
  /-- BOOT (R457). -/
  | boot
  /-- SETTINGS_RESTORE (R459). -/
  | settingsRestore (d : SetDomain)
  /-- SETTINGS_GET (R459). -/
  | settingsGet (a : Agent) (d : SetDomain)
  /-- SETTINGS_PUT (R462). -/
  | settingsPut (a : Agent) (d : SetDomain)
  /-- SETTINGS_DELETE (R460). -/
  | settingsDelete (a : Agent) (d : SetDomain)
  /-- JOURNALED (R462). -/
  | journaled
  /-- WRITE_INHIBIT (R463). -/
  | writeInhibit (vin : Nat)
  /-- JOURNAL_RESUME (R463). -/
  | journalResume (vin : Nat)
  /-- PFAIL_MONITOR_ARM (R465). -/
  | pfailMonitorArm (vin : Nat)
  /-- POWER_FAIL_EVENT (R465). -/
  | powerFailEvent (pin : Bool) (vin : Nat)
  /-- GASP_RECOVERY_RESET (R468). -/
  | gaspRecoveryReset (vin : Nat)
  /-- SUPPLY_WRITE (R549). -/
  | supplyWrite (a : Agent) (w : Word)
  /-- MG_SEND (R469). -/
  | mgSend (a : Agent) (m : MgBlock)
  /-- MG_POP (R470). -/
  | mgPop (a : Agent) (m : MgBlock)
  /-- HOSTLINK_STATUS (R473). -/
  | hostlinkStatus (crcOk : Bool)
  /-- HOSTLINK_PUT (R473). -/
  | hostlinkPut (crcOk : Bool) (msg : List Byte)
  /-- HOSTLINK_GET (R473). -/
  | hostlinkGet (crcOk : Bool)
  /-- HOSTLINK_RESET (R474). -/
  | hostlinkReset (crcOk : Bool) (payload : Word)
  /-- FLASH_READ (R453). -/
  | flashRead (crcOk : Bool) (off len : Nat)
  /-- FLASH_WRITE (R453). -/
  | flashWrite (crcOk : Bool) (off : Nat) (data : List Byte)
  /-- FLASH_ERASE (R453). -/
  | flashErase (crcOk : Bool) (off len : Nat)
  /-- REBOOT (R453). -/
  | reboot (crcOk : Bool)
  /-- HOST_READ (R475). -/
  | hostRead (n : Nat) (addr : Nat) (tag : Byte)
  /-- HOST_WRITE (R475). -/
  | hostWrite (addr : Nat) (ws : List Word) (tag : Byte)
  /-- TALLY_DELTA_ARRIVE (R482). -/
  | tallyDeltaArrive (src : Source)
  /-- SWSET (R491). -/
  | swset (a : Agent) (g : Nat) (w : Word)
  /-- PERMIT_WRITE (R490). -/
  | permitWrite (a : Agent) (high : Bool) (w : Word)
  /-- REST_REQUEST (R497). -/
  | restRequest (a : Agent) (wake : Option WakeEvent)
  /-- REST_DOMAIN_ANSWER (R498). -/
  | restDomainAnswer
  /-- REST_DELAY_EXPIRY (R499). -/
  | restDelayExpiry
  /-- REST_WAKE (R504). -/
  | restWake (w : WakeEvent)
  /-- REST_EXIT_DONE (R504). -/
  | restExitDone
  /-- PWR_EXIT (R504). -/
  | pwrExit (a : Agent)
  /-- ACTION_LEAD_WAKE (R505). -/
  | actionLeadWake
  /-- POWER_GATE_WRITE (R507). -/
  | powerGateWrite (a : Agent) (high : Bool) (w : Word)
  /-- ACCESS_WAKE (R508). -/
  | accessWake (d : PowerDom)
  /-- POR (R509). -/
  | por
  /-- RESET_N_LOW (R510). -/
  | resetNLow (lowNs : Nat)
  /-- RESET_N_DRIVE_END (R511). -/
  | resetNDriveEnd
  /-- BROWNOUT (R509). -/
  | brownout (vin : Nat)
  /-- THERMAL_RESET (R509). -/
  | thermalReset (dieC : Int)
  /-- THERM_N_CHANGE (R515). -/
  | thermNChange (dieC : Int)
  /-- WATCHDOG_EXPIRY (R514). -/
  | watchdogExpiry (x : Fin 3)
  /-- WDOG_KICK (R514). -/
  | wdogKick (a : Agent) (x : Fin 3)
  /-- RST_FULL (R509). -/
  | rstFull (a : Agent)
  /-- RST_MODULE (R509). -/
  | rstModule (a : Agent)
  /-- HE_REBOOT (R509). -/
  | heReboot (a : Agent)
  /-- HE_REBOOT_RESET (R509). -/
  | heRebootReset
  /-- RST_ENGINE (R509). -/
  | rstEngine (a : Agent) (e : Engine)
  /-- RST_TENANT (R509). -/
  | rstTenant (a : Agent)
  /-- RST_CARRIER (R509). -/
  | rstCarrier (a : Agent)
  /-- RST_HOLD (R458). -/
  | rstHold (a : Agent) (mask : BitVec 4)
  /-- RST_BLOCK_GO (R509). -/
  | rstBlockGo (a : Agent) (target index : Nat)
  /-- ACCESS_TIMEOUT (R523). -/
  | accessTimeout (a : Agent)
  /-- RESET_RELEASE (R512). -/
  | resetRelease (src : Fin 20)
  /-- CLOCK_FAIL (R523). -/
  | clockFail (k : Fin 10)
  /-- GPIO_EDGE (R530). -/
  | gpioEdge (n : Fin 16) (level : Bool) (heldNs : Nat)
  /-- TIE_LANE_LOCK_LOSS (R240). -/
  | tieLaneLockLoss (e : Engine) (toLine : Bool) (lane : Option (Fin 20))
  /-- CHECKER_LOCK (R243). -/
  | checkerLock (l : Lane) (r : CheckerReport)
  /-- WAKE_HOLD_EXPIRY (R245). -/
  | wakeHoldExpiry (p : Port)
  /-- DLOS (R400). -/
  | dlos (f : Framer) (present : Bool)
  /-- CONTROLLER_PORT_SEND (R320). -/
  | controllerPortSend (handle : Word) (len : Nat) (bytes : List Byte) (mark : SendMark)
  /-- UNKNOWN_OPCODE (R473). -/
  | unknownOpcode (op : Nat)
  deriving DecidableEq, Repr

end Sys2Proof
end

