-- ==== Sys2Proof/Decode.lean ====
section
/-! DEFINITION. Words of the table. The table of operations and events gives no row any bits: commands reach the terminal as
register accesses, frames, messages and events, never as encoded words. -/
namespace Sys2Proof

/-- The command that a table word spells: none, since no row has bits. -/
def decodeTableWord (_nbits _w : Nat) : Option Instr := none

end Sys2Proof
end

