-- ==== Sys2Proof/Machine/Aes.lean ====
section
/-! DEFINITION. The block cipher and the modes that 14_cipher_keys.md names by their standards: AES (FIPS 197), CMAC (NIST
SP 800-38B), GCM (NIST SP 800-38D) and key wrap (RFC 3394). PRESUMED: the algorithms come from those standards. -/
namespace Sys2Proof.Machine

/-! ### AES -/

/-- Multiplication by x in the field of AES. -/
def aesX (a : Nat) : Nat := if 128 ≤ a then ((a * 2) % 256) ^^^ 0x1B else a * 2

/-- Product in the field of AES. -/
def aesMul (a b : Nat) : Nat :=
  ((List.range 8).foldl (fun (x : Nat × Nat) i => (if b / 2 ^ i % 2 = 1 then x.1 ^^^ x.2 else x.1, aesX x.2)) (0, a)).1

/-- The inverse in the field of AES: the 254th power. -/
def aesInv (a : Nat) : Nat :=
  let p127 := (List.range 6).foldl (fun x _ => aesMul (aesMul x x) a) a
  aesMul p127 p127

/-- A byte turned left by `n` bits. -/
def rotl8 (a n : Nat) : Nat := (a * 2 ^ n + a / 2 ^ (8 - n)) % 256

/-- The S-box. -/
def aesSub (a : Nat) : Nat :=
  let b := aesInv a
  b ^^^ rotl8 b 1 ^^^ rotl8 b 2 ^^^ rotl8 b 3 ^^^ rotl8 b 4 ^^^ 0x63

/-- The inverse S-box. -/
def aesUnsub (a : Nat) : Nat := aesInv (rotl8 a 1 ^^^ rotl8 a 3 ^^^ rotl8 a 6 ^^^ 5)

/-- Bytewise exclusive or of two lists; the longer one is cut. -/
def xorBytes (a b : List Nat) : List Nat := List.zipWith (· ^^^ ·) a b

/-- The words of the expanded key, newest first, `n` more of them; `i` is the index of the next. -/
def aesExpand (nk : Nat) : Nat → Nat → Nat → List (List Nat) → List (List Nat)
  | 0, _, _, ws => ws
  | n + 1, i, rcon, ws =>
    let t := ws.headD []
    let (t, rcon) :=
      if i % nk = 0 then
        (xorBytes ((t.drop 1 ++ t.take 1).map aesSub) [rcon, 0, 0, 0], aesX rcon)
      else if 6 < nk ∧ i % nk = 4 then (t.map aesSub, rcon)
      else (t, rcon)
    aesExpand nk n (i + 1) rcon (xorBytes (ws.getD (nk - 1) []) t :: ws)

/-- The round keys of a 16-byte or 32-byte key. -/
def aesRoundKeys (key : List Nat) : List (List Nat) :=
  let nk := key.length / 4
  let first := (List.range nk).map (fun i => (key.drop (4 * i)).take 4)
  let ws := (aesExpand nk (4 * (nk + 7) - nk) nk 1 first.reverse).reverse
  (List.range (nk + 7)).map (fun r => ((ws.drop (4 * r)).take 4).flatten)

/-- ShiftRows, by `d` columns per row. -/
def aesShift (d : Nat) (b : List Nat) : List Nat :=
  (List.range 16).map (fun i => b.getD (i % 4 + 4 * ((i / 4 + d * (i % 4)) % 4)) 0)

/-- MixColumns with the coefficients of one row. -/
def aesMix (cs : List Nat) (b : List Nat) : List Nat :=
  (List.range 16).map (fun i =>
    (List.range 4).foldl (fun a j => a ^^^ aesMul (cs.getD ((j + 4 - i % 4) % 4) 0) (b.getD (i / 4 * 4 + j) 0)) 0)

/-- AES encryption of one block. -/
def aesBlock (key block : List Nat) : List Nat :=
  match aesRoundKeys key with
  | [] => block
  | k0 :: ks =>
    let n := ks.length
    (ks.zipIdx).foldl (fun b k =>
      let b := aesShift 1 (b.map aesSub)
      xorBytes (if k.2 + 1 = n then b else aesMix [2, 3, 1, 1] b) k.1) (xorBytes block k0)

/-- AES decryption of one block. -/
def aesUnblock (key block : List Nat) : List Nat :=
  match (aesRoundKeys key).reverse with
  | [] => block
  | k0 :: ks =>
    let n := ks.length
    (ks.zipIdx).foldl (fun b k =>
      let b := xorBytes ((aesShift 3 b).map aesUnsub) k.1
      if k.2 + 1 = n then b else aesMix [14, 11, 13, 9] b) (xorBytes block k0)

/-! ### Bytes and numbers -/

/-- Bytes as numbers. -/
def toNats (bs : List Byte) : List Nat := bs.map (·.toNat)

/-- Numbers as bytes. -/
def toBytes (ns : List Nat) : List Byte := ns.map (BitVec.ofNat 8)

/-- The number that 16 bytes spell. -/
def blockNum (b : List Nat) : Nat := b.foldl (fun a x => a * 256 + x) 0

/-- A number as 16 bytes. -/
def numBlock (v : Nat) : List Nat := toNats (bytesBE 16 v)

/-- A byte list in blocks of 16; the last may be short. -/
def blocks : Nat → List Nat → List (List Nat)
  | 0, _ => []
  | n + 1, bs => if bs.length ≤ 16 then [bs] else bs.take 16 :: blocks n (bs.drop 16)

/-- A block padded with zero bytes. -/
def padBlock (b : List Nat) : List Nat := b ++ List.replicate (16 - b.length) 0

/-! ### CMAC (NIST SP 800-38B) -/

/-- A subkey: doubling in the field of 2^128. -/
def cmacDouble (b : List Nat) : List Nat :=
  let v := blockNum b
  numBlock (if 2 ^ 127 ≤ v then (v * 2 % 2 ^ 128) ^^^ 0x87 else v * 2)

/-- The 16-byte CMAC of a message. -/
def aesCmac (key msg : List Byte) : List Byte :=
  let k := toNats key
  let k1 := cmacDouble (aesBlock k (List.replicate 16 0))
  let bs := blocks (msg.length + 1) (toNats msg)
  let last := bs.getLast?.getD []
  let fin := if last.length = 16 then xorBytes last k1 else xorBytes (padBlock (last ++ [0x80])) (cmacDouble k1)
  toBytes (((bs.dropLast ++ [fin]).foldl (fun c b => aesBlock k (xorBytes c b)) (List.replicate 16 0)))

/-! ### GCM (NIST SP 800-38D) -/

/-- Product in the field of GHASH. -/
def ghashMul (x y : Nat) : Nat :=
  ((List.range 128).foldl (fun (z : Nat × Nat) i =>
    (if x / 2 ^ (127 - i) % 2 = 1 then z.1 ^^^ z.2 else z.1,
     if z.2 % 2 = 1 then (z.2 / 2) ^^^ 0xE1000000000000000000000000000000 else z.2 / 2)) (0, y)).1

/-- GHASH of additional data and ciphertext. -/
def ghash (h : Nat) (aad ct : List Nat) : Nat :=
  let part (bs : List Nat) : List Nat :=
    if bs.isEmpty then [] else (blocks (bs.length + 1) bs).map (fun b => blockNum (padBlock b))
  (part aad ++ part ct ++ [aad.length * 8 * 2 ^ 64 + ct.length * 8]).foldl (fun y b => ghashMul (y ^^^ b) h) 0

/-- Counter mode from a counter block on. -/
def aesCtr (key : List Nat) (j0 : Nat) (bs : List Nat) : List Nat :=
  ((blocks (bs.length + 1) bs).zipIdx.map (fun b => xorBytes b.1 (aesBlock key (numBlock (j0 + 1 + b.2))))).flatten

/-- The tag of GCM. -/
def gcmTag (key : List Nat) (j0 : Nat) (aad ct : List Nat) : List Byte :=
  toBytes (xorBytes (numBlock (ghash (blockNum (aesBlock key (List.replicate 16 0))) aad ct)) (aesBlock key (numBlock j0)))

/-- GCM encryption with a 12-byte IV: ciphertext and 16-byte tag. -/
def gcmEncrypt (key iv aad pt : List Byte) : List Byte × List Byte :=
  let j0 := blockNum (toNats iv) * 2 ^ 32 + 1
  let ct := aesCtr (toNats key) j0 (toNats pt)
  (toBytes ct, gcmTag (toNats key) j0 (toNats aad) ct)

/-- GCM decryption with a 12-byte IV: the plaintext and whether the tag fits. -/
def gcmDecrypt (key iv aad ct tag : List Byte) : List Byte × Bool :=
  let j0 := blockNum (toNats iv) * 2 ^ 32 + 1
  (toBytes (aesCtr (toNats key) j0 (toNats ct)), gcmTag (toNats key) j0 (toNats aad) (toNats ct) = tag)

/-! ### Key wrap (RFC 3394) -/

/-- The halves of a list of 64-bit blocks. -/
def octets8 (bs : List Nat) : List (List Nat) := (List.range (bs.length / 8)).map (fun i => (bs.drop (8 * i)).take 8)

/-- A 64-bit number as 8 bytes. -/
def num8 (v : Nat) : List Nat := toNats (bytesBE 8 v)

/-- Wrap of a key under a key-encryption key. -/
def aesWrap (kek key : List Byte) : List Byte :=
  let rs := octets8 (toNats key)
  let n := rs.length
  let x := (List.range (6 * n)).foldl (fun (x : List Nat × List (List Nat)) t =>
    let i := t % n
    let b := aesBlock (toNats kek) (x.1 ++ x.2.getD i [])
    (xorBytes (b.take 8) (num8 (t + 1)), x.2.set i (b.drop 8))) (List.replicate 8 0xA6, rs)
  toBytes (x.1 ++ x.2.flatten)

/-- Unwrap: the key, or none when the check fails. -/
def aesUnwrap (kek wrapped : List Byte) : Option (List Byte) :=
  let rs := octets8 (toNats wrapped)
  let n := rs.length - 1
  let x := (List.range (6 * n)).reverse.foldl (fun (x : List Nat × List (List Nat)) t =>
    let i := t % n
    let b := aesUnblock (toNats kek) (xorBytes x.1 (num8 (t + 1)) ++ x.2.getD i [])
    (b.take 8, x.2.set i (b.drop 8))) (rs.headD [], rs.drop 1)
  if x.1 = List.replicate 8 0xA6 then some (toBytes x.2.flatten) else none

/-- The key check of a key: the first 64 bits of the encryption of 16 bytes of 0xA5 (R370). -/
def keyCheck (key : List Byte) : Nat := blockNum ((aesBlock (toNats key) (List.replicate 16 0xA5)).take 8)

end Sys2Proof.Machine
end

