-- ==== Sys2Proof/Config.lean ====
section
/-! DEFINITION. What an implementation fixes and the values the spec leaves open: constants without a body, so that no
proof can see what they are. -/
namespace Sys2Proof

/-- The vendor-specific serial number of LA, set at manufacture; it is even and LB's is one more (R74). -/
opaque Config.serialNumber : Word

/-- The result of the k-th random draw: rolls, skip counts, keys and nonces take their values from it (R57, R59, R96). -/
opaque Config.drawn : Nat → Nat

/-- The outcome of the k-th case that R13 calls undefined: true takes the edge at which the event is accepted. -/
opaque Config.band : Nat → Bool

/-- The first counter block of a PON-layer payload, as G.9804.2 builds it: upstream or not, superframe counter, position (R95,
R150). -/
opaque Config.ponCounter : Bool → Nat → Nat → Nat

/-- The 13-bit HEC of G.9804.2 over the other bits of an XGEM header (Table 04-3). -/
opaque Config.xgemHec : Nat → Nat

/-- The burst header of G.9804.2 for an ONU-ID and a dying-gasp indication, the report of an occupancy, and the trailer with
the BIP of a burst's earlier content (R142, R148). -/
opaque Config.burstHeader : Nat → Bool → List Byte
opaque Config.occupancyReport : Nat → List Byte
opaque Config.burstTrailer : List Byte → List Byte

/-- An upstream PLOAM message of G.9804.2 with its MIC: none queued (0), Serial_Number_ONU (1), Registration (2) or
Acknowledgement (3), and what it carries (R57, R62, R68, R148). -/
opaque Config.upPloam : Nat → List Nat → List Byte

/-- The bytes of the k-th item toward the hub whose layout the spec leaves to G.9804.2 or to the design: a PLOAM copy, an operation
control structure, a status message (R69, R83, R139). -/
opaque Config.itemBytes : Nat → List Byte

/-- The 336 parity bytes of an upstream LDPC codeword of G.9804.3 (R149). -/
opaque Config.ldpcParity : List Byte → List Byte

/-- The key-encryption key that G.9804.2 gives for a terminal without a master session key (14_cipher_keys.md). -/
opaque Config.defaultKek : List Byte

/-- The k-th word that the spec leaves open: a configuration word both of whose copies are bad, a word of a part whose
content the spec does not give. -/
opaque Config.freeWord : Nat → Nat

/-- The module wrap key, set at manufacture (R384). -/
opaque Config.moduleKey : List Byte

/-- The transfer key that the keeper draws at the k-th free value (R388). -/
opaque Config.transferKey : Nat → List Byte

/-- The k-th draw of an engine's hardware random source, as bytes (Table 14-4, GEN). -/
opaque Config.randomBytes : Nat → List Byte

/-- The KDF of IEEE 802.1X-2020: key, label and context, length of the result in bytes (Table 14-4). -/
opaque Config.kdf : List Byte → List Byte → Nat → List Byte

/-- The key-encryption key that G.9804.2 derives from a master session key (R387). -/
opaque Config.kekOf : List Byte → List Byte

/-- What a framer's recovery loop gives its oscillator at the k-th free value, in 0.1 ppb: the spec gives the loop's
bandwidth and damping, not its gains (R409). -/
opaque Config.cbrDco : Nat → Int

/-- A servo's proportional-integral loop: code of its bandwidth, TIME cycles since the last sample, integral, sample in
pips; its new integral and its correction in pips per cycle. The spec gives the loop's bandwidth and damping, not its gains
(R196). -/
opaque Config.servoLoop : Nat → Nat → Int → Int → Int × Int

/-- Where FOUT's edges lie against house time, in pips, while the selected domain is not Locked (R209). -/
opaque Config.foutPhase : Nat → Nat

/-- The six bytes of a client port's own MAC address: the spec gives none (R250). -/
opaque Config.portMac : Nat → List Byte

/-- SHA-384 of bytes, and ECDSA P-384 verification of a signature over a digest by a public key (R454). -/
opaque Config.sha384 : List Byte → List Byte
opaque Config.ecdsaOk : List Byte → List Byte → List Byte → Bool

/-- Tyrok's public key in the ROM, and the hashes of the two owner keys in the one-time store (R455). -/
opaque Config.tyrokKey : List Byte
opaque Config.ownerHash : Nat → List Byte

/-- The engine (0 LA, 1 LB) and the serial number that a clear-disable section names; the spec does not give its bytes
(R464). -/
opaque Config.clearDisable : List Byte → Nat × Nat × Nat

/-- STATUS of the reply to a host request that was served, or of one with a refusal: the spec names the field and gives no
codes but 0x7 (R475, R523). -/
opaque Config.hostStatus : Bool → Byte

end Sys2Proof
end

