-- ==== Sys2Proof/Machine/RegTable.lean ====
section
/-! DEFINITION. The register catalogue: one entry per register table of spec/, with its place, the agents that may
read and write it, and for every field its bits, access code (Table 00-6), reset value and accepted values (R7). -/
namespace Sys2Proof.Machine

/-- Access codes, Table 00-6. -/
inductive Acc where
  | ro | rw | wo | w1c | w1s | rc
  deriving DecidableEq, Repr

/-- One field of a register table: `ok` lists the accepted value ranges of R7 (empty: every value), `word` is the
word of a wide value it lies in, `only` the single agent whose write it takes where its Effect cell names one. -/
structure FieldDesc where
  hi : Nat
  lo : Nat
  acc : Acc
  rst : Nat := 0
  ok : List (Nat × Nat) := []
  word : Nat := 0
  only : Option Agent := none
  deriving DecidableEq, Repr

/-- One register, or an array of them: `dims` gives stride and count of each index, `wide` the words of one value. -/
structure RegDesc where
  base : Nat
  dims : List (Nat × Nat)
  readers : List Agent
  writers : List Agent
  wide : Nat
  fields : List FieldDesc
  deriving DecidableEq, Repr

/-- The registers of block PFE. -/
def regsPFE : List RegDesc := [
  -- PFE_CTRL, Table 02-6
  { base := 0x08C00000, dims := [(0x4000000, 2)], readers := [.carrier], writers := [.carrier], wide := 1,
    fields := [{ hi := 23, lo := 20, acc := .w1s },
      { hi := 19, lo := 16, acc := .rw },
      { hi := 15, lo := 12, acc := .rw },
      { hi := 8, lo := 8, acc := .rw }] },
  -- PFE_STATUS, Table 02-7
  { base := 0x08C00004, dims := [(0x4000000, 2)], readers := [.carrier], writers := [.carrier], wide := 1,
    fields := [{ hi := 31, lo := 28, acc := .ro },
      { hi := 27, lo := 24, acc := .ro },
      { hi := 23, lo := 20, acc := .ro },
      { hi := 19, lo := 16, acc := .ro, rst := 15 },
      { hi := 15, lo := 15, acc := .ro, rst := 1 },
      { hi := 14, lo := 14, acc := .ro },
      { hi := 13, lo := 13, acc := .ro },
      { hi := 12, lo := 12, acc := .ro }] },
  -- PFE_FLAGS, Table 02-8
  { base := 0x08C00008, dims := [(0x4000000, 2)], readers := [.carrier], writers := [.carrier], wide := 1,
    fields := [{ hi := 14, lo := 14, acc := .w1c },
      { hi := 13, lo := 13, acc := .w1c },
      { hi := 12, lo := 12, acc := .w1c },
      { hi := 11, lo := 8, acc := .w1c },
      { hi := 7, lo := 4, acc := .w1c },
      { hi := 3, lo := 0, acc := .w1c }] },
  -- PFE_TEMP, Table 02-9
  { base := 0x08C0000C, dims := [(0x4000000, 2)], readers := [.carrier], writers := [.carrier], wide := 1,
    fields := [{ hi := 31, lo := 16, acc := .ro },
      { hi := 15, lo := 0, acc := .ro }] },
  -- PFE_TXMON, Table 02-10
  { base := 0x08C00010, dims := [(0x4000000, 2), (0x4, 4)], readers := [.carrier], writers := [.carrier], wide := 1,
    fields := [{ hi := 31, lo := 16, acc := .ro, rst := 0x8000 },
      { hi := 15, lo := 0, acc := .ro }] },
  -- PFE_RXMON, Table 02-11
  { base := 0x08C00020, dims := [(0x4000000, 2), (0x4, 4)], readers := [.carrier], writers := [.carrier], wide := 1,
    fields := [{ hi := 31, lo := 16, acc := .ro, rst := 0x8000 },
      { hi := 15, lo := 0, acc := .ro }] }]

/-- The registers of block TC. -/
def regsTC1 : List RegDesc := [
  -- TC_ACT_CTRL, Table 03-5
  { base := 0x08000100, dims := [(0x4000000, 2)], readers := [.carrier], writers := [.carrier], wide := 1,
    fields := [{ hi := 11, lo := 9, acc := .rw },
      { hi := 2, lo := 2, acc := .w1s },
      { hi := 1, lo := 1, acc := .rw, rst := 1 },
      { hi := 0, lo := 0, acc := .rw }] },
  -- TC_ACT_STATUS, Table 03-6
  { base := 0x08000104, dims := [(0x4000000, 2)], readers := [.carrier], writers := [.carrier], wide := 1,
    fields := [{ hi := 17, lo := 17, acc := .rw },
      { hi := 16, lo := 16, acc := .ro },
      { hi := 15, lo := 12, acc := .ro },
      { hi := 11, lo := 8, acc := .ro },
      { hi := 7, lo := 4, acc := .ro },
      { hi := 3, lo := 0, acc := .ro }] },
  -- TC_ONU_ID, Table 03-7
  { base := 0x08000108, dims := [(0x4000000, 2)], readers := [.carrier], writers := [.carrier], wide := 1,
    fields := [{ hi := 9, lo := 0, acc := .ro, rst := 0x3FF }] },
  -- TC_DISC_CFG, Table 03-8
  { base := 0x0800010C, dims := [(0x4000000, 2)], readers := [.carrier], writers := [.carrier], wide := 1,
    fields := [{ hi := 19, lo := 12, acc := .rw, rst := 16, ok := [(1, 255)] },
      { hi := 10, lo := 0, acc := .rw, rst := 1500, ok := [(1, 2047)] }] },
  -- TC_DISC_STAT, Table 03-9
  { base := 0x08000110, dims := [(0x4000000, 2)], readers := [.carrier], writers := [.carrier], wide := 1,
    fields := [{ hi := 26, lo := 16, acc := .ro },
      { hi := 7, lo := 0, acc := .ro }] },
  -- TC_TIMERS, Table 03-10
  { base := 0x08000114, dims := [(0x4000000, 2)], readers := [.carrier], writers := [.carrier], wide := 1,
    fields := [{ hi := 25, lo := 16, acc := .rw, rst := 125, ok := [(1, 1023)] },
      { hi := 7, lo := 0, acc := .rw, rst := 100, ok := [(1, 255)] }] },
  -- TC_EQD, Table 03-11
  { base := 0x08000120, dims := [(0x4000000, 2), (0x4, 4)], readers := [.carrier], writers := [.carrier], wide := 1,
    fields := [{ hi := 31, lo := 31, acc := .ro },
      { hi := 25, lo := 0, acc := .ro }] },
  -- TC_SERIAL_VID, Table 03-12
  { base := 0x08000130, dims := [(0x4000000, 2)], readers := [.carrier], writers := [.carrier], wide := 1,
    fields := [{ hi := 31, lo := 0, acc := .ro, rst := 0x5459524B }] },
  -- TC_SERIAL_NUM, Table 03-12
  { base := 0x08000134, dims := [(0x4000000, 2)], readers := [.carrier], writers := [.carrier], wide := 1,
    fields := [{ hi := 31, lo := 0, acc := .ro }] },
  -- TC_ACT_FLAGS, Table 03-13
  { base := 0x08000138, dims := [(0x4000000, 2)], readers := [.carrier], writers := [.carrier], wide := 1,
    fields := [{ hi := 14, lo := 14, acc := .w1c },
      { hi := 13, lo := 13, acc := .w1c },
      { hi := 12, lo := 12, acc := .w1c },
      { hi := 11, lo := 8, acc := .w1c },
      { hi := 7, lo := 4, acc := .w1c },
      { hi := 3, lo := 0, acc := .w1c }] },
  -- TC_REG_ID, Table 03-14
  { base := 0x08000140, dims := [(0x4000000, 2), (0x4, 9)], readers := [.carrier], writers := [.carrier], wide := 1,
    fields := [{ hi := 31, lo := 0, acc := .rw }] },
  -- TC_CNT, Table 04-5
  { base := 0x08000400, dims := [(0x4000000, 2), (0x80, 4), (0x8, 16)], readers := [.carrier], writers := [.carrier], wide := 2,
    fields := [{ hi := 31, lo := 0, acc := .ro },
      { hi := 15, lo := 0, acc := .ro, word := 1 }] },
  -- TC_HDR_DROP, Table R103
  { base := 0x08000600, dims := [(0x4000000, 2)], readers := [.carrier], writers := [.carrier], wide := 2,
    fields := [{ hi := 31, lo := 0, acc := .ro },
      { hi := 15, lo := 0, acc := .ro, word := 1 }] },
  -- TC_SYNC_CFG, Table 04-6
  { base := 0x08000200, dims := [(0x4000000, 2)], readers := [.carrier], writers := [.carrier], wide := 1,
    fields := [{ hi := 20, lo := 16, acc := .rw, rst := 8, ok := [(0, 16)] },
      { hi := 12, lo := 8, acc := .rw, rst := 3, ok := [(1, 16)] },
      { hi := 3, lo := 0, acc := .rw, rst := 2, ok := [(1, 8)] }] },
  -- TC_DS_STATUS, Table 04-7
  { base := 0x08000204, dims := [(0x4000000, 2)], readers := [.carrier], writers := [.carrier], wide := 1,
    fields := [{ hi := 15, lo := 12, acc := .ro },
      { hi := 11, lo := 8, acc := .ro },
      { hi := 7, lo := 4, acc := .ro },
      { hi := 3, lo := 0, acc := .ro }] },
  -- TC_DEF_CFG, Table 04-8
  { base := 0x08000208, dims := [(0x4000000, 2)], readers := [.carrier], writers := [.carrier], wide := 1,
    fields := [{ hi := 31, lo := 24, acc := .rw, rst := 100, ok := [(1, 255)] },
      { hi := 23, lo := 16, acc := .rw, rst := 10, ok := [(1, 255)] },
      { hi := 15, lo := 8, acc := .rw, rst := 3, ok := [(1, 255)] },
      { hi := 6, lo := 0, acc := .rw, rst := 50, ok := [(1, 100)] }] },
  -- TC_DS_FLAGS, Table 04-9
  { base := 0x08000214, dims := [(0x4000000, 2)], readers := [.carrier], writers := [.carrier], wide := 1,
    fields := [{ hi := 19, lo := 19, acc := .w1c },
      { hi := 18, lo := 18, acc := .w1c },
      { hi := 17, lo := 17, acc := .w1c },
      { hi := 16, lo := 16, acc := .w1c },
      { hi := 15, lo := 15, acc := .w1c },
      { hi := 14, lo := 14, acc := .w1c },
      { hi := 13, lo := 13, acc := .w1c },
      { hi := 12, lo := 12, acc := .w1c },
      { hi := 11, lo := 8, acc := .w1c },
      { hi := 7, lo := 4, acc := .w1c },
      { hi := 3, lo := 0, acc := .w1c }] },
  -- TC_SFC, Table 04-10
  { base := 0x08000220, dims := [(0x4000000, 2), (0x8, 4)], readers := [.carrier], writers := [.carrier], wide := 2,
    fields := [{ hi := 31, lo := 0, acc := .ro },
      { hi := 18, lo := 0, acc := .ro, word := 1 }] }]

/-- The registers of block TC, part 2. -/
def regsTC2 : List RegDesc := [
  -- TC_KEY_CMD, Table 04-11
  { base := 0x08000240, dims := [(0x4000000, 2)], readers := [.carrier], writers := [.carrier], wide := 1,
    fields := [{ hi := 8, lo := 8, acc := .w1c },
      { hi := 5, lo := 4, acc := .rw, rst := 1, ok := [(1, 2)] },
      { hi := 1, lo := 1, acc := .w1s },
      { hi := 0, lo := 0, acc := .w1s }] },
  -- TC_KEY_STATUS, Table 04-12
  { base := 0x08000244, dims := [(0x4000000, 2)], readers := [.carrier], writers := [.carrier], wide := 1,
    fields := [{ hi := 5, lo := 4, acc := .ro },
      { hi := 3, lo := 3, acc := .ro },
      { hi := 2, lo := 2, acc := .ro },
      { hi := 1, lo := 1, acc := .ro },
      { hi := 0, lo := 0, acc := .ro }] },
  -- TC_KEY_OUT, Table 04-13
  { base := 0x08000250, dims := [(0x4000000, 2), (0x4, 6)], readers := [.carrier], writers := [.carrier], wide := 1,
    fields := [{ hi := 31, lo := 0, acc := .ro }] },
  -- TC_KEY_IN, Table 04-13
  { base := 0x08000270, dims := [(0x4000000, 2), (0x4, 6)], readers := [.carrier], writers := [.carrier], wide := 1,
    fields := [{ hi := 31, lo := 0, acc := .wo }] },
  -- TC_PORT_FILTER, Table 04-14
  { base := 0x08001000, dims := [(0x4000000, 2), (0x4, 1024)], readers := [.carrier], writers := [.carrier], wide := 1,
    fields := [{ hi := 31, lo := 31, acc := .rw },
      { hi := 30, lo := 30, acc := .rw },
      { hi := 29, lo := 29, acc := .rw },
      { hi := 28, lo := 28, acc := .rw },
      { hi := 27, lo := 24, acc := .rw },
      { hi := 15, lo := 0, acc := .rw, ok := [(0, 65534)] }] },
  -- TC_TOD_SFC, Table 08-20
  { base := 0x08000300, dims := [(0x4000000, 2)], readers := [.carrier], writers := [.carrier], wide := 1,
    fields := [{ hi := 31, lo := 0, acc := .rw }] },
  -- TC_TOD_TIME, Table 08-20
  { base := 0x08000304, dims := [(0x4000000, 2)], readers := [.carrier], writers := [.carrier], wide := 4,
    fields := [{ hi := 31, lo := 0, acc := .rw },
      { hi := 31, lo := 0, acc := .rw, word := 1 },
      { hi := 29, lo := 0, acc := .rw, ok := [(0, 999999999)], word := 2 },
      { hi := 31, lo := 0, acc := .rw, word := 3 }] },
  -- TC_TOD_TEQD, Table 08-20
  { base := 0x08000314, dims := [(0x4000000, 2)], readers := [.carrier], writers := [.carrier], wide := 1,
    fields := [{ hi := 27, lo := 0, acc := .rw }] },
  -- TC_TOD_ASYM, Table 08-20
  { base := 0x08000318, dims := [(0x4000000, 2)], readers := [.carrier], writers := [.carrier], wide := 1,
    fields := [{ hi := 31, lo := 0, acc := .rw, rst := 0x80000000 }] },
  -- TC_TOD_CTRL, Table 08-20
  { base := 0x0800031C, dims := [(0x4000000, 2)], readers := [.carrier], writers := [.carrier], wide := 1,
    fields := [{ hi := 31, lo := 16, acc := .rw },
      { hi := 2, lo := 2, acc := .w1c },
      { hi := 1, lo := 1, acc := .ro },
      { hi := 0, lo := 0, acc := .w1s }] }]

/-- All registers of block TC. -/
def regsTC : List RegDesc := regsTC1 ++ regsTC2

/-- The registers of block BOND. -/
def regsBOND : List RegDesc := [
  -- BOND_CTRL, Table 05-8
  { base := 0x08400000, dims := [(0x4000000, 2)], readers := [.carrier], writers := [.carrier], wide := 1,
    fields := [{ hi := 12, lo := 12, acc := .rw, rst := 1 },
      { hi := 8, lo := 8, acc := .w1s },
      { hi := 7, lo := 4, acc := .w1s },
      { hi := 3, lo := 0, acc := .rw }] },
  -- BOND_CFG, Table 05-9
  { base := 0x08400004, dims := [(0x4000000, 2)], readers := [.carrier], writers := [.carrier], wide := 1,
    fields := [{ hi := 31, lo := 24, acc := .rw, rst := 60, ok := [(1, 255)] },
      { hi := 23, lo := 16, acc := .rw, rst := 10, ok := [(1, 255)] },
      { hi := 15, lo := 8, acc := .rw, rst := 16, ok := [(1, 255)] },
      { hi := 7, lo := 0, acc := .rw, rst := 32, ok := [(1, 128)] }] },
  -- BOND_CH_STATE, Table 05-10
  { base := 0x08400008, dims := [(0x4000000, 2)], readers := [.carrier], writers := [.carrier], wide := 1,
    fields := [{ hi := 23, lo := 16, acc := .ro },
      { hi := 15, lo := 0, acc := .ro }] },
  -- BOND_BUF, Table 05-11
  { base := 0x0840000C, dims := [(0x4000000, 2)], readers := [.carrier], writers := [.carrier], wide := 1,
    fields := [{ hi := 31, lo := 16, acc := .rc },
      { hi := 15, lo := 0, acc := .ro }] },
  -- BOND_DS_CHMAP, Table 05-12
  { base := 0x08400010, dims := [(0x4000000, 2)], readers := [.carrier], writers := [.carrier], wide := 1,
    fields := [{ hi := 31, lo := 31, acc := .ro },
      { hi := 3, lo := 0, acc := .ro }] },
  -- BOND_US_BONDED, Table 05-13
  { base := 0x08400014, dims := [(0x4000000, 2), (0x4, 2)], readers := [.carrier], writers := [.carrier], wide := 1,
    fields := [{ hi := 31, lo := 0, acc := .rw }] },
  -- BOND_SIT_CAUSE, Table 05-14
  { base := 0x0840001C, dims := [(0x4000000, 2)], readers := [.carrier], writers := [.carrier], wide := 1,
    fields := [{ hi := 31, lo := 0, acc := .ro }] },
  -- BOND_LAG, Table 05-15
  { base := 0x08400020, dims := [(0x4000000, 2), (0x4, 4)], readers := [.carrier], writers := [.carrier], wide := 1,
    fields := [{ hi := 15, lo := 0, acc := .ro }] },
  -- BOND_FLAGS, Table 05-16
  { base := 0x08400030, dims := [(0x4000000, 2)], readers := [.carrier], writers := [.carrier], wide := 1,
    fields := [{ hi := 18, lo := 18, acc := .w1c },
      { hi := 17, lo := 17, acc := .w1c },
      { hi := 16, lo := 16, acc := .w1c },
      { hi := 15, lo := 15, acc := .w1c },
      { hi := 14, lo := 14, acc := .w1c },
      { hi := 13, lo := 13, acc := .w1c },
      { hi := 11, lo := 8, acc := .w1c },
      { hi := 7, lo := 4, acc := .w1c },
      { hi := 3, lo := 0, acc := .w1c }] },
  -- BOND_CNT, Table 05-7
  { base := 0x08400100, dims := [(0x4000000, 2), (0x8, 7)], readers := [.carrier], writers := [.carrier], wide := 2,
    fields := [{ hi := 31, lo := 0, acc := .ro },
      { hi := 15, lo := 0, acc := .ro, word := 1 }] },
  -- BOND_CHCNT, Table 05-7
  { base := 0x08400200, dims := [(0x4000000, 2), (0x40, 4), (0x8, 5)], readers := [.carrier], writers := [.carrier], wide := 2,
    fields := [{ hi := 31, lo := 0, acc := .ro },
      { hi := 15, lo := 0, acc := .ro, word := 1 }] }]

/-- The registers of block BURST. -/
def regsBURST : List RegDesc := [
  -- BURST_PM_CTRL, Table 06-6
  { base := 0x08800000, dims := [(0x4000000, 2)], readers := [.carrier], writers := [.carrier], wide := 1,
    fields := [{ hi := 1, lo := 1, acc := .w1s },
      { hi := 0, lo := 0, acc := .w1s }] },
  -- BURST_ROOM, Table 06-7
  { base := 0x08800010, dims := [(0x4000000, 2)], readers := [.carrier], writers := [.carrier], wide := 1,
    fields := [{ hi := 28, lo := 16, acc := .rc, rst := 4096 },
      { hi := 12, lo := 0, acc := .ro, rst := 4096 }] },
  -- BURST_PM_CFG, Table 06-8
  { base := 0x08800020, dims := [(0x4000000, 2)], readers := [.carrier], writers := [.carrier], wide := 1,
    fields := [{ hi := 31, lo := 22, acc := .rw, rst := 100, ok := [(1, 1023)] },
      { hi := 21, lo := 14, acc := .rw, rst := 5, ok := [(1, 255)] },
      { hi := 13, lo := 6, acc := .rw, rst := 10, ok := [(1, 255)] },
      { hi := 2, lo := 2, acc := .rw, rst := 1 },
      { hi := 1, lo := 0, acc := .rw, ok := [(0, 2)] }] },
  -- BURST_PM_STATUS, Table 06-9
  { base := 0x08800024, dims := [(0x4000000, 2)], readers := [.carrier], writers := [.carrier], wide := 1,
    fields := [{ hi := 10, lo := 8, acc := .ro },
      { hi := 2, lo := 0, acc := .ro }] },
  -- BURST_FLAGS, Table 06-10
  { base := 0x08800030, dims := [(0x4000000, 2)], readers := [.carrier], writers := [.carrier], wide := 1,
    fields := [{ hi := 7, lo := 7, acc := .w1c },
      { hi := 6, lo := 6, acc := .w1c },
      { hi := 5, lo := 5, acc := .w1c },
      { hi := 4, lo := 4, acc := .w1c },
      { hi := 3, lo := 3, acc := .w1c },
      { hi := 2, lo := 2, acc := .w1c },
      { hi := 1, lo := 1, acc := .w1c },
      { hi := 0, lo := 0, acc := .w1c }] },
  -- BURST_SLOT, Table 06-11
  { base := 0x08800100, dims := [(0x4000000, 2), (0x4, 64)], readers := [.carrier], writers := [.carrier], wide := 1,
    fields := [{ hi := 31, lo := 31, acc := .rw },
      { hi := 29, lo := 28, acc := .rw },
      { hi := 27, lo := 16, acc := .rw, rst := 256, ok := [(1, 4095)] },
      { hi := 13, lo := 0, acc := .rw }] },
  -- BURST_QPORT, Table 06-12
  { base := 0x08800400, dims := [(0x4000000, 2), (0x4, 512)], readers := [.carrier], writers := [.carrier], wide := 1,
    fields := [{ hi := 31, lo := 31, acc := .rw },
      { hi := 30, lo := 30, acc := .rw },
      { hi := 15, lo := 0, acc := .rw, ok := [(0, 65534)] }] },
  -- BURST_CNT, Table 06-5
  { base := 0x08801000, dims := [(0x4000000, 2), (0x80, 4), (0x8, 12)], readers := [.carrier], writers := [.carrier], wide := 2,
    fields := [{ hi := 31, lo := 0, acc := .ro },
      { hi := 15, lo := 0, acc := .ro, word := 1 }] },
  -- BURST_FLUSHED, Table 06-5
  { base := 0x08801200, dims := [(0x4000000, 2)], readers := [.carrier], writers := [.carrier], wide := 2,
    fields := [{ hi := 31, lo := 0, acc := .ro },
      { hi := 15, lo := 0, acc := .ro, word := 1 }] }]

/-- The registers of block PX. -/
def regsPX : List RegDesc := [
  -- PX_CTRL, Table 07-8
  { base := 0x04C00000, dims := [], readers := [.carrier], writers := [.carrier], wide := 1,
    fields := [{ hi := 16, lo := 16, acc := .w1s },
      { hi := 12, lo := 12, acc := .rw, rst := 1 },
      { hi := 9, lo := 9, acc := .rw },
      { hi := 8, lo := 8, acc := .w1s },
      { hi := 4, lo := 4, acc := .rw },
      { hi := 1, lo := 0, acc := .rw, ok := [(0, 2)] }] },
  -- PX_CFG, Table 07-9
  { base := 0x04C00004, dims := [], readers := [.carrier], writers := [.carrier], wide := 1,
    fields := [{ hi := 23, lo := 16, acc := .rw, rst := 50 },
      { hi := 10, lo := 8, acc := .rw, rst := 2, ok := [(1, 4)] },
      { hi := 6, lo := 0, acc := .rw, rst := 20, ok := [(0, 100)] }] },
  -- PX_STATUS, Table 07-10
  { base := 0x04C00008, dims := [], readers := [.carrier], writers := [.carrier], wide := 1,
    fields := [{ hi := 10, lo := 8, acc := .ro },
      { hi := 7, lo := 7, acc := .ro },
      { hi := 6, lo := 5, acc := .ro },
      { hi := 4, lo := 4, acc := .ro },
      { hi := 3, lo := 3, acc := .ro },
      { hi := 2, lo := 2, acc := .ro },
      { hi := 0, lo := 0, acc := .ro }] },
  -- PX_CLAIMS, Table 07-11
  { base := 0x04C0000C, dims := [], readers := [.carrier], writers := [.carrier], wide := 1,
    fields := [{ hi := 31, lo := 16, acc := .ro },
      { hi := 15, lo := 0, acc := .ro }] },
  -- PX_FLAGS, Table 07-12
  { base := 0x04C00010, dims := [], readers := [.carrier], writers := [.carrier], wide := 1,
    fields := [{ hi := 6, lo := 6, acc := .w1c },
      { hi := 5, lo := 5, acc := .w1c },
      { hi := 4, lo := 4, acc := .w1c },
      { hi := 3, lo := 3, acc := .w1c },
      { hi := 2, lo := 2, acc := .w1c },
      { hi := 1, lo := 1, acc := .w1c },
      { hi := 0, lo := 0, acc := .w1c }] },
  -- PX_LAST_SWITCH, Table 07-13
  { base := 0x04C00020, dims := [], readers := [.carrier], writers := [.carrier], wide := 4,
    fields := [{ hi := 31, lo := 0, acc := .ro },
      { hi := 31, lo := 0, acc := .ro, word := 1 },
      { hi := 29, lo := 0, acc := .ro, word := 2 },
      { hi := 31, lo := 0, acc := .ro, word := 3 }] },
  -- PX_CNT, Table 07-7
  { base := 0x04C00100, dims := [(0x8, 6)], readers := [.carrier], writers := [.carrier], wide := 2,
    fields := [{ hi := 31, lo := 0, acc := .ro },
      { hi := 15, lo := 0, acc := .ro, word := 1 }] },
  -- PX_HDR_DROP, Table 07-7
  { base := 0x04C00160, dims := [(0x8, 2)], readers := [.carrier], writers := [.carrier], wide := 2,
    fields := [{ hi := 31, lo := 0, acc := .ro },
      { hi := 15, lo := 0, acc := .ro, word := 1 }] },
  -- PX_FLIT, Table 09-15
  { base := 0x04C00140, dims := [(0x10, 2), (0x8, 2)], readers := [.carrier], writers := [.carrier], wide := 2,
    fields := [{ hi := 31, lo := 0, acc := .ro },
      { hi := 15, lo := 0, acc := .ro, word := 1 }] },
  -- PX_TIE_CFG, Table 09-14
  { base := 0x04C00700, dims := [], readers := [.carrier], writers := [.carrier], wide := 1,
    fields := [{ hi := 11, lo := 11, acc := .w1s },
      { hi := 10, lo := 10, acc := .w1s },
      { hi := 9, lo := 9, acc := .w1s },
      { hi := 8, lo := 8, acc := .w1s },
      { hi := 7, lo := 0, acc := .rw, rst := 10, ok := [(1, 255)] }] },
  -- PX_TIE_FLAGS, Table 09-14
  { base := 0x04C00704, dims := [], readers := [.carrier], writers := [.carrier], wide := 1,
    fields := [{ hi := 13, lo := 8, acc := .w1c },
      { hi := 5, lo := 0, acc := .w1c }] },
  -- PX_TIE_STATUS, Table 09-15
  { base := 0x04C00800, dims := [(0x400, 2)], readers := [.carrier], writers := [.carrier], wide := 1,
    fields := [{ hi := 15, lo := 8, acc := .ro },
      { hi := 2, lo := 2, acc := .ro },
      { hi := 1, lo := 1, acc := .ro },
      { hi := 0, lo := 0, acc := .ro }] },
  -- PX_TIE_HUB, Table 09-15
  { base := 0x04C00804, dims := [(0x400, 2), (0x4, 2)], readers := [.carrier], writers := [.carrier], wide := 1,
    fields := [{ hi := 21, lo := 21, acc := .ro },
      { hi := 20, lo := 20, acc := .ro },
      { hi := 19, lo := 0, acc := .ro }] },
  -- PX_TIE_LAT, Table 09-15
  { base := 0x04C0080C, dims := [(0x400, 2)], readers := [.carrier], writers := [.carrier], wide := 1,
    fields := [{ hi := 31, lo := 16, acc := .ro },
      { hi := 15, lo := 0, acc := .ro }] }]

/-- The registers of block DSP. -/
def regsDSP : List RegDesc := [
  -- DSP_CTRL, Table 16-12
  { base := 0x09000000, dims := [(0x4000000, 2), (0x80, 2)], readers := [.carrier], writers := [.carrier], wide := 1,
    fields := [{ hi := 31, lo := 31, acc := .w1s },
      { hi := 23, lo := 16, acc := .rw },
      { hi := 0, lo := 0, acc := .rw }] },
  -- DSP_STATUS, Table 16-12
  { base := 0x09000004, dims := [(0x4000000, 2), (0x80, 2)], readers := [.carrier], writers := [.carrier], wide := 1,
    fields := [{ hi := 30, lo := 16, acc := .ro },
      { hi := 13, lo := 12, acc := .ro },
      { hi := 11, lo := 8, acc := .ro, rst := 6 },
      { hi := 2, lo := 0, acc := .ro }] },
  -- DSP_MBOX, Table 16-12
  { base := 0x09000008, dims := [(0x4000000, 2), (0x80, 2)], readers := [.carrier], writers := [.carrier], wide := 1,
    fields := [{ hi := 1, lo := 1, acc := .w1c },
      { hi := 0, lo := 0, acc := .w1s }] },
  -- DSP_MBOX_IN, Table 16-12
  { base := 0x09000020, dims := [(0x4000000, 2), (0x80, 2), (0x4, 8)], readers := [.carrier], writers := [.carrier], wide := 1,
    fields := [{ hi := 31, lo := 0, acc := .rw }] },
  -- DSP_MBOX_OUT, Table 16-12
  { base := 0x09000040, dims := [(0x4000000, 2), (0x80, 2), (0x4, 8)], readers := [.carrier], writers := [.carrier], wide := 1,
    fields := [{ hi := 31, lo := 0, acc := .ro }] },
  -- DSP_FLAGS, Table 16-12
  { base := 0x09000100, dims := [(0x4000000, 2)], readers := [.carrier], writers := [.carrier], wide := 1,
    fields := [{ hi := 10, lo := 0, acc := .w1c }] },
  -- DSP_STRIKE_CFG, Table 16-12
  { base := 0x09000104, dims := [(0x4000000, 2)], readers := [.carrier], writers := [.carrier], wide := 1,
    fields := [{ hi := 7, lo := 0, acc := .rw, rst := 10, ok := [(1, 255)] }] },
  -- DSP_CNT, Table 16-12
  { base := 0x09000400, dims := [(0x4000000, 2), (0x40, 2), (0x8, 8)], readers := [.carrier], writers := [.carrier], wide := 2,
    fields := [{ hi := 31, lo := 0, acc := .ro },
      { hi := 15, lo := 0, acc := .ro, word := 1 }] }]

/-- The registers of block TE. -/
def regsTE : List RegDesc := [
  -- TE_HOUSE_CFG, Table 08-10
  { base := 0x00800010, dims := [], readers := [.tenant], writers := [.tenant], wide := 1,
    fields := [{ hi := 19, lo := 16, acc := .rw, rst := 1, ok := [(1, 10)] },
      { hi := 8, lo := 8, acc := .rw },
      { hi := 4, lo := 4, acc := .rw, rst := 1 },
      { hi := 0, lo := 0, acc := .rw }] },
  -- TE_FREQ_CFG, Table 08-12
  { base := 0x00800020, dims := [], readers := [.tenant], writers := [.tenant], wide := 1,
    fields := [{ hi := 14, lo := 8, acc := .rw },
      { hi := 7, lo := 7, acc := .rw },
      { hi := 6, lo := 6, acc := .rw },
      { hi := 5, lo := 4, acc := .rw, rst := 2, ok := [(0, 2)] },
      { hi := 2, lo := 0, acc := .rw, ok := [(0, 4)] }] },
  -- TE_FLAGS, Table 08-13
  { base := 0x00800030, dims := [], readers := [.tenant], writers := [.tenant], wide := 1,
    fields := [{ hi := 14, lo := 0, acc := .w1c }] },
  -- TE_DOM_CFG, Table 08-14
  { base := 0x00800110, dims := [(0x80, 2)], readers := [.tenant], writers := [.tenant], wide := 1,
    fields := [{ hi := 31, lo := 24, acc := .rw, rst := 4, ok := [(1, 255)] },
      { hi := 23, lo := 12, acc := .rw, rst := 10, ok := [(1, 4095)] },
      { hi := 11, lo := 9, acc := .rw },
      { hi := 8, lo := 6, acc := .rw, rst := 1, ok := [(0, 4)] },
      { hi := 2, lo := 0, acc := .rw, ok := [(0, 4)] }] },
  -- TE_DOM_ADJ, Table 08-15
  { base := 0x00800114, dims := [(0x80, 2)], readers := [.tenant, .carrier], writers := [.tenant], wide := 1,
    fields := [{ hi := 31, lo := 0, acc := .rw }] },
  -- TE_DOM_STATUS, Table 08-15
  { base := 0x00800118, dims := [(0x80, 2)], readers := [.tenant, .carrier], writers := [.tenant], wide := 1,
    fields := [{ hi := 31, lo := 16, acc := .ro },
      { hi := 1, lo := 0, acc := .ro }] },
  -- TE_DOM_SAMPLE, Table 08-15
  { base := 0x00800120, dims := [(0x80, 2)], readers := [.tenant], writers := [.tenant], wide := 2,
    fields := [{ hi := 31, lo := 0, acc := .wo },
      { hi := 31, lo := 0, acc := .wo, word := 1 }] },
  -- TE_TOUT, Table 08-16
  { base := 0x00800400, dims := [(0x20, 4)], readers := [.tenant], writers := [.tenant], wide := 1,
    fields := [{ hi := 31, lo := 16, acc := .rw },
      { hi := 1, lo := 0, acc := .rw }] },
  -- TE_TOUT_PERIOD, Table 08-16
  { base := 0x00800404, dims := [(0x20, 4)], readers := [.tenant], writers := [.tenant], wide := 1,
    fields := [{ hi := 31, lo := 0, acc := .rw, rst := 1000000000, ok := [(100, 4000000000)] }] },
  -- TE_TOUT_WIDTH, Table 08-16
  { base := 0x00800408, dims := [(0x20, 4)], readers := [.tenant], writers := [.tenant], wide := 1,
    fields := [{ hi := 31, lo := 0, acc := .rw, rst := 100000000, ok := [(8, 3999999992)] }] },
  -- TE_TOUT_START, Table 08-16
  { base := 0x00800410, dims := [(0x20, 4)], readers := [.tenant], writers := [.tenant], wide := 4,
    fields := [{ hi := 31, lo := 0, acc := .rw },
      { hi := 31, lo := 0, acc := .rw, word := 1 },
      { hi := 29, lo := 0, acc := .rw, ok := [(0, 999999999)], word := 2 },
      { hi := 31, lo := 0, acc := .rw, word := 3 }] },
  -- TE_TIN_CFG, Table 08-17
  { base := 0x00800600, dims := [(0x4, 8)], readers := [.tenant], writers := [.tenant], wide := 1,
    fields := [{ hi := 3, lo := 2, acc := .rw, ok := [(0, 2)] },
      { hi := 1, lo := 0, acc := .rw }] },
  -- TE_ACT_TIME, Table 08-18
  { base := 0x00801000, dims := [(0x20, 48)], readers := [.tenant, .host], writers := [.tenant, .host], wide := 4,
    fields := [{ hi := 31, lo := 0, acc := .rw },
      { hi := 31, lo := 0, acc := .rw, word := 1 },
      { hi := 29, lo := 0, acc := .rw, ok := [(0, 999999999)], word := 2 },
      { hi := 31, lo := 0, acc := .rw, word := 3 }] },
  -- TE_ACT_CTRL, Table 08-18
  { base := 0x00801010, dims := [(0x20, 48)], readers := [.tenant, .host], writers := [.tenant, .host], wide := 1,
    fields := [{ hi := 31, lo := 31, acc := .rw },
      { hi := 30, lo := 30, acc := .ro },
      { hi := 19, lo := 16, acc := .rw },
      { hi := 15, lo := 0, acc := .rw }] },
  -- TE_ACT_PERIOD, Table 08-18
  { base := 0x00801014, dims := [(0x20, 48)], readers := [.tenant, .host], writers := [.tenant, .host], wide := 2,
    fields := [{ hi := 31, lo := 0, acc := .rw },
      { hi := 29, lo := 0, acc := .rw, ok := [(0, 999999999)], word := 1 }] },
  -- TE_ACT_TIME_C, Table 08-18
  { base := 0x00801600, dims := [(0x20, 16)], readers := [.carrier], writers := [.carrier], wide := 4,
    fields := [{ hi := 31, lo := 0, acc := .rw },
      { hi := 31, lo := 0, acc := .rw, word := 1 },
      { hi := 29, lo := 0, acc := .rw, ok := [(0, 999999999)], word := 2 },
      { hi := 31, lo := 0, acc := .rw, word := 3 }] },
  -- TE_ACT_CTRL_C, Table 08-18
  { base := 0x00801610, dims := [(0x20, 16)], readers := [.carrier], writers := [.carrier], wide := 1,
    fields := [{ hi := 31, lo := 31, acc := .rw },
      { hi := 30, lo := 30, acc := .ro },
      { hi := 19, lo := 16, acc := .rw },
      { hi := 15, lo := 0, acc := .rw }] },
  -- TE_ACT_PERIOD_C, Table 08-18
  { base := 0x00801614, dims := [(0x20, 16)], readers := [.carrier], writers := [.carrier], wide := 2,
    fields := [{ hi := 31, lo := 0, acc := .rw },
      { hi := 29, lo := 0, acc := .rw, ok := [(0, 999999999)], word := 1 }] }]

/-- The registers of block CM. -/
def regsCM : List RegDesc := [
  -- CM_TS_CORR, Table 08-19
  { base := 0x01400800, dims := [(0x1000, 128)], readers := [.tenant, .host], writers := [.tenant, .host], wide := 1,
    fields := [{ hi := 31, lo := 16, acc := .rw },
      { hi := 15, lo := 0, acc := .rw }] },
  -- CM_CFG, Table 09-11
  { base := 0x01400000, dims := [(0x1000, 128)], readers := [.tenant, .host], writers := [.tenant, .host], wide := 1,
    fields := [{ hi := 29, lo := 16, acc := .rw, rst := 1522, ok := [(64, 12288)] },
      { hi := 4, lo := 4, acc := .rw, rst := 1 },
      { hi := 3, lo := 2, acc := .rw, ok := [(0, 2)] },
      { hi := 0, lo := 0, acc := .rw }] },
  -- CM_QUANTA, Table 09-11
  { base := 0x01400004, dims := [(0x1000, 128)], readers := [.tenant, .host], writers := [.tenant, .host], wide := 1,
    fields := [{ hi := 15, lo := 0, acc := .rw, rst := 0xFFFF }] },
  -- CM_MM, Table 09-11
  { base := 0x01400008, dims := [(0x1000, 128)], readers := [.tenant, .host], writers := [.tenant, .host], wide := 1,
    fields := [{ hi := 31, lo := 24, acc := .rw },
      { hi := 18, lo := 16, acc := .ro },
      { hi := 15, lo := 8, acc := .rw, rst := 10, ok := [(1, 128)] },
      { hi := 3, lo := 2, acc := .rw },
      { hi := 1, lo := 1, acc := .rw },
      { hi := 0, lo := 0, acc := .rw }] },
  -- CM_LPI, Table 09-11
  { base := 0x0140000C, dims := [(0x1000, 128)], readers := [.tenant, .host], writers := [.tenant, .host], wide := 1,
    fields := [{ hi := 31, lo := 16, acc := .rw },
      { hi := 15, lo := 8, acc := .rw, rst := 10, ok := [(1, 255)] },
      { hi := 0, lo := 0, acc := .rw }] },
  -- CM_FLAGS, Table 09-12
  { base := 0x01400010, dims := [(0x1000, 128)], readers := [.tenant, .host], writers := [.tenant, .host], wide := 1,
    fields := [{ hi := 5, lo := 0, acc := .w1c }] },
  -- CM_CNT, Table 09-13
  { base := 0x01400400, dims := [(0x1000, 128), (0x8, 14)], readers := [.tenant, .host], writers := [.tenant, .host], wide := 2,
    fields := [{ hi := 31, lo := 0, acc := .ro },
      { hi := 15, lo := 0, acc := .ro, word := 1 }] }]

/-- The registers of block CL. -/
def regsCL : List RegDesc := [
  -- CL_CFG, Table 09-5
  { base := 0x01000000, dims := [(0x1000, 128)], readers := [.tenant, .host], writers := [.tenant, .host], wide := 1,
    fields := [{ hi := 24, lo := 24, acc := .w1s },
      { hi := 23, lo := 23, acc := .rw },
      { hi := 21, lo := 21, acc := .rw, rst := 1 },
      { hi := 20, lo := 20, acc := .rw },
      { hi := 19, lo := 19, acc := .rw },
      { hi := 18, lo := 18, acc := .rw, rst := 1 },
      { hi := 17, lo := 17, acc := .rw },
      { hi := 16, lo := 16, acc := .rw },
      { hi := 9, lo := 8, acc := .rw, ok := [(0, 2)] },
      { hi := 7, lo := 4, acc := .rw },
      { hi := 0, lo := 0, acc := .rw }] },
  -- CL_STATUS, Table 09-6
  { base := 0x01000004, dims := [(0x1000, 128)], readers := [.tenant, .host], writers := [.tenant, .host], wide := 1,
    fields := [{ hi := 15, lo := 12, acc := .ro },
      { hi := 11, lo := 10, acc := .ro },
      { hi := 9, lo := 9, acc := .ro },
      { hi := 8, lo := 8, acc := .ro },
      { hi := 7, lo := 7, acc := .ro },
      { hi := 6, lo := 6, acc := .ro },
      { hi := 5, lo := 5, acc := .ro },
      { hi := 4, lo := 4, acc := .ro },
      { hi := 3, lo := 0, acc := .ro }] },
  -- CL_FLAGS, Table 09-7
  { base := 0x01000008, dims := [(0x1000, 128)], readers := [.tenant, .host], writers := [.tenant, .host], wide := 1,
    fields := [{ hi := 5, lo := 0, acc := .w1c }] },
  -- CL_PRBS, Table 09-8
  { base := 0x01000010, dims := [(0x1000, 128)], readers := [.tenant, .host], writers := [.tenant, .host], wide := 1,
    fields := [{ hi := 20, lo := 16, acc := .rw, ok := [(0, 0), (10, 30)] },
      { hi := 8, lo := 8, acc := .w1s },
      { hi := 7, lo := 4, acc := .rw, rst := 4, ok := [(0, 5)] },
      { hi := 1, lo := 1, acc := .rw },
      { hi := 0, lo := 0, acc := .rw }] },
  -- CL_PRBS_CNT, Table 09-8
  { base := 0x01000020, dims := [(0x1000, 128), (0x8, 2)], readers := [.tenant, .host], writers := [.tenant, .host], wide := 2,
    fields := [{ hi := 31, lo := 0, acc := .ro },
      { hi := 15, lo := 0, acc := .ro, word := 1 }] },
  -- CL_QUAD_CFG, Table 09-9
  { base := 0x01000100, dims := [(0x4000, 32)], readers := [.tenant, .host], writers := [.tenant, .host], wide := 1,
    fields := [{ hi := 8, lo := 8, acc := .rw },
      { hi := 4, lo := 4, acc := .rw },
      { hi := 2, lo := 1, acc := .rw, ok := [(0, 2)] },
      { hi := 0, lo := 0, acc := .rw }] },
  -- CL_QUAD_STATUS, Table 09-9
  { base := 0x01000104, dims := [(0x4000, 32)], readers := [.tenant, .host], writers := [.tenant, .host], wide := 1,
    fields := [{ hi := 31, lo := 16, acc := .ro },
      { hi := 9, lo := 9, acc := .ro },
      { hi := 8, lo := 8, acc := .ro },
      { hi := 7, lo := 0, acc := .ro }] },
  -- CL_STRIKE_CFG, Table 09-10
  { base := 0x01080000, dims := [], readers := [.tenant], writers := [.tenant], wide := 1,
    fields := [{ hi := 7, lo := 0, acc := .rw, rst := 10, ok := [(1, 255)] }] }]

/-- The registers of block PA. -/
def regsPA : List RegDesc := [
  -- PA_STAGE, Table 10-11
  { base := 0x02000000, dims := [], readers := [.tenant, .host], writers := [.tenant, .host], wide := 1,
    fields := [{ hi := 8, lo := 8, acc := .ro },
      { hi := 4, lo := 4, acc := .ro, rst := 1 },
      { hi := 1, lo := 1, acc := .ro, rst := 1 },
      { hi := 0, lo := 0, acc := .ro }] },
  -- PA_FLAGS, Table 10-12
  { base := 0x02000008, dims := [], readers := [.tenant, .host], writers := [.tenant, .host], wide := 1,
    fields := [{ hi := 11, lo := 0, acc := .w1c }] },
  -- PA_CNT, Table 10-10
  { base := 0x02000100, dims := [(0x80, 3), (0x8, 10)], readers := [.tenant, .host], writers := [.tenant, .host], wide := 2,
    fields := [{ hi := 31, lo := 0, acc := .ro },
      { hi := 15, lo := 0, acc := .ro, word := 1 }] },
  -- PA_STRIKE_CFG, Table 10-13
  { base := 0x0200000C, dims := [], readers := [.tenant], writers := [.tenant], wide := 1,
    fields := [{ hi := 7, lo := 0, acc := .rw, rst := 10, ok := [(1, 255)] }] },
  -- PA_UNITS, Table 10-14
  { base := 0x02000010, dims := [(0x4, 3)], readers := [.tenant, .host], writers := [.tenant, .host], wide := 1,
    fields := [{ hi := 31, lo := 16, acc := .w1s },
      { hi := 15, lo := 0, acc := .ro, rst := 0xFFFF }] },
  -- PA_QUEUE, Table 10-15
  { base := 0x02000020, dims := [(0x4, 3)], readers := [.tenant, .host], writers := [.tenant, .host], wide := 1,
    fields := [{ hi := 24, lo := 16, acc := .rc },
      { hi := 8, lo := 0, acc := .ro }] }]

/-- The registers of block CX. -/
def regsCX : List RegDesc := [
  -- CX_ROUND, Table 11-9
  { base := 0x02400000, dims := [], readers := [.tenant, .host, .carrier], writers := [.tenant, .host], wide := 1,
    fields := [{ hi := 31, lo := 0, acc := .ro, rst := 0xFFFFFFFF }] },
  -- CX_STATE, Table 11-9
  { base := 0x02400004, dims := [], readers := [.tenant, .host, .carrier], writers := [.tenant, .host], wide := 1,
    fields := [{ hi := 31, lo := 20, acc := .rc },
      { hi := 6, lo := 5, acc := .ro },
      { hi := 4, lo := 4, acc := .ro },
      { hi := 3, lo := 3, acc := .ro },
      { hi := 2, lo := 2, acc := .ro },
      { hi := 1, lo := 1, acc := .ro },
      { hi := 0, lo := 0, acc := .ro, rst := 1 }] },
  -- CX_COMMIT, Table 11-10
  { base := 0x02400008, dims := [], readers := [.tenant, .host], writers := [.tenant, .host], wide := 1,
    fields := [{ hi := 26, lo := 24, acc := .rw },
      { hi := 9, lo := 9, acc := .rw, rst := 1 },
      { hi := 8, lo := 8, acc := .rw },
      { hi := 0, lo := 0, acc := .w1s }] },
  -- CX_COMMIT_DIGEST, Table 11-11
  { base := 0x02400010, dims := [], readers := [.tenant, .host, .carrier], writers := [.tenant, .host], wide := 2,
    fields := [{ hi := 31, lo := 0, acc := .rw },
      { hi := 31, lo := 0, acc := .rw, word := 1 }] },
  -- CX_DIGEST_CUR, Table 11-11
  { base := 0x02400018, dims := [], readers := [.tenant, .host, .carrier], writers := [.tenant, .host], wide := 2,
    fields := [{ hi := 31, lo := 0, acc := .ro },
      { hi := 31, lo := 0, acc := .ro, word := 1 }] },
  -- CX_DIGEST_STAGE, Table 11-11
  { base := 0x02400020, dims := [], readers := [.tenant, .host, .carrier], writers := [.tenant, .host], wide := 2,
    fields := [{ hi := 31, lo := 0, acc := .ro },
      { hi := 31, lo := 0, acc := .ro, word := 1 }] },
  -- CX_LAST_COMMIT, Table 11-11
  { base := 0x02400030, dims := [], readers := [.tenant, .host, .carrier], writers := [.tenant, .host], wide := 4,
    fields := [{ hi := 31, lo := 0, acc := .ro },
      { hi := 31, lo := 0, acc := .ro, word := 1 },
      { hi := 29, lo := 0, acc := .ro, word := 2 },
      { hi := 31, lo := 0, acc := .ro, word := 3 }] },
  -- CX_FLAGS, Table 11-12
  { base := 0x02400040, dims := [], readers := [.tenant, .host], writers := [.tenant, .host], wide := 1,
    fields := [{ hi := 14, lo := 0, acc := .w1c }] },
  -- CX_STRIKE_CFG, Table 11-12
  { base := 0x02400044, dims := [], readers := [.tenant, .host], writers := [.tenant, .host], wide := 1,
    fields := [{ hi := 7, lo := 0, acc := .rw, rst := 10, ok := [(1, 255)] }] },
  -- CX_CNT, Table 11-8
  { base := 0x02400100, dims := [(0x8, 7)], readers := [.tenant, .host], writers := [.tenant, .host], wide := 2,
    fields := [{ hi := 31, lo := 0, acc := .ro },
      { hi := 15, lo := 0, acc := .ro, word := 1 }] },
  -- CX_DEFCNT, Table 11-8
  { base := 0x02400200, dims := [(0x8, 11)], readers := [.tenant, .host], writers := [.tenant, .host], wide := 2,
    fields := [{ hi := 31, lo := 0, acc := .ro },
      { hi := 15, lo := 0, acc := .ro, word := 1 }] },
  -- CX_BANK, Table 11-13
  { base := 0x02400400, dims := [(0x4, 52)], readers := [.tenant, .host], writers := [.tenant, .host], wide := 1,
    fields := [{ hi := 31, lo := 31, acc := .w1s },
      { hi := 30, lo := 30, acc := .w1s, only := some .tenant },
      { hi := 29, lo := 29, acc := .ro },
      { hi := 28, lo := 28, acc := .ro },
      { hi := 27, lo := 26, acc := .ro },
      { hi := 16, lo := 0, acc := .ro, rst := 0x1FFFF }] }]

/-- The registers of block BM. -/
def regsBM : List RegDesc := [
  -- BM_CTRL, Table 12-7
  { base := 0x04000000, dims := [], readers := [.tenant, .host], writers := [.tenant, .host], wide := 1,
    fields := [{ hi := 13, lo := 8, acc := .rw, ok := [(0, 63)] },
      { hi := 3, lo := 3, acc := .w1s },
      { hi := 2, lo := 2, acc := .w1s },
      { hi := 0, lo := 0, acc := .w1s }] },
  -- BM_STATUS, Table 12-7
  { base := 0x04000004, dims := [], readers := [.tenant, .host], writers := [.tenant, .host], wide := 1,
    fields := [{ hi := 31, lo := 20, acc := .ro },
      { hi := 19, lo := 2, acc := .ro },
      { hi := 1, lo := 1, acc := .ro },
      { hi := 0, lo := 0, acc := .ro }] },
  -- BM_FLAGS, Table 12-8
  { base := 0x04000008, dims := [], readers := [.tenant, .host], writers := [.tenant, .host], wide := 1,
    fields := [{ hi := 12, lo := 0, acc := .w1c }] },
  -- BM_ALLOC, Table 12-9
  { base := 0x04000010, dims := [], readers := [.tenant], writers := [.tenant], wide := 1,
    fields := [{ hi := 31, lo := 0, acc := .ro }] },
  -- BM_FREE, Table 12-9
  { base := 0x04000014, dims := [], readers := [.tenant], writers := [.tenant], wide := 1,
    fields := [{ hi := 31, lo := 0, acc := .wo }] },
  -- BM_SHARE, Table 12-9
  { base := 0x04000018, dims := [], readers := [.tenant], writers := [.tenant], wide := 1,
    fields := [{ hi := 31, lo := 0, acc := .wo }] },
  -- BM_ALLOC_BAG, Table 12-9
  { base := 0x0400001C, dims := [], readers := [.tenant], writers := [.tenant], wide := 1,
    fields := [{ hi := 5, lo := 0, acc := .rw }] },
  -- BM_LAST_REJECT, Table 12-10
  { base := 0x04000020, dims := [], readers := [.tenant, .host], writers := [.tenant, .host], wide := 2,
    fields := [{ hi := 31, lo := 0, acc := .ro },
      { hi := 15, lo := 0, acc := .ro, word := 1 }] },
  -- BM_CNT, Table 12-6
  { base := 0x04000200, dims := [(0x8, 9)], readers := [.tenant, .host], writers := [.tenant, .host], wide := 2,
    fields := [{ hi := 31, lo := 0, acc := .ro },
      { hi := 15, lo := 0, acc := .ro, word := 1 }] },
  -- BM_NO_TILE, Table 12-6
  { base := 0x04000800, dims := [(0x8, 64)], readers := [.tenant, .host], writers := [.tenant, .host], wide := 2,
    fields := [{ hi := 31, lo := 0, acc := .ro },
      { hi := 15, lo := 0, acc := .ro, word := 1 }] },
  -- BM_BAG_TILES, Table 12-11
  { base := 0x04001000, dims := [(0x10, 1)], readers := [.tenant, .host], writers := [.tenant, .host], wide := 1,
    fields := [{ hi := 18, lo := 0, acc := .rw, rst := 387072 }] },
  -- BM_BAG_TILES, Table 12-11
  { base := 0x04001000, dims := [(0x10, 64)], readers := [.tenant, .host], writers := [.tenant, .host], wide := 1,
    fields := [{ hi := 18, lo := 0, acc := .rw }] },
  -- BM_BAG_XON, Table 12-11
  { base := 0x04001004, dims := [(0x10, 64)], readers := [.tenant, .host], writers := [.tenant, .host], wide := 1,
    fields := [{ hi := 31, lo := 16, acc := .rw, rst := 512 },
      { hi := 15, lo := 0, acc := .rw, rst := 256 }] },
  -- BM_BAG_FREE, Table 12-11
  { base := 0x04001008, dims := [(0x10, 1)], readers := [.tenant, .host], writers := [.tenant, .host], wide := 1,
    fields := [{ hi := 31, lo := 31, acc := .ro },
      { hi := 18, lo := 0, acc := .ro, rst := 387072 }] },
  -- BM_BAG_FREE, Table 12-11
  { base := 0x04001008, dims := [(0x10, 64)], readers := [.tenant, .host], writers := [.tenant, .host], wide := 1,
    fields := [{ hi := 31, lo := 31, acc := .ro },
      { hi := 18, lo := 0, acc := .ro }] },
  -- BM_BAG_LOW, Table 12-11
  { base := 0x0400100C, dims := [(0x10, 1)], readers := [.tenant, .host], writers := [.tenant, .host], wide := 1,
    fields := [{ hi := 18, lo := 0, acc := .rc, rst := 387072 }] },
  -- BM_BAG_LOW, Table 12-11
  { base := 0x0400100C, dims := [(0x10, 64)], readers := [.tenant, .host], writers := [.tenant, .host], wide := 1,
    fields := [{ hi := 18, lo := 0, acc := .rc }] },
  -- BM_SRCMAP, Table 12-12
  { base := 0x04000400, dims := [(0x4, 131)], readers := [.tenant, .host], writers := [.tenant, .host], wide := 1,
    fields := [{ hi := 5, lo := 0, acc := .rw }] }]

/-- The registers of block QS. -/
def regsQS1 : List RegDesc := [
  -- QS_CFG, Table 13-6
  { base := 0x04400000, dims := [], readers := [.tenant, .host], writers := [.tenant, .host], wide := 1,
    fields := [{ hi := 28, lo := 16, acc := .rw },
      { hi := 15, lo := 8, acc := .rw, rst := 20, ok := [(10, 255)] },
      { hi := 0, lo := 0, acc := .rw }] },
  -- QS_STATUS, Table 13-6
  { base := 0x04400004, dims := [], readers := [.tenant, .host], writers := [.tenant, .host], wide := 1,
    fields := [{ hi := 0, lo := 0, acc := .ro }] },
  -- QS_FLAGS, Table 13-6
  { base := 0x04400008, dims := [], readers := [.tenant, .host], writers := [.tenant, .host], wide := 1,
    fields := [{ hi := 11, lo := 0, acc := .w1c }] },
  -- QS_CNT, Table 13-5
  { base := 0x04400100, dims := [(0x8, 10)], readers := [.tenant, .host], writers := [.tenant, .host], wide := 2,
    fields := [{ hi := 31, lo := 0, acc := .ro },
      { hi := 15, lo := 0, acc := .ro, word := 1 }] },
  -- QS_NODE, Table 13-7
  { base := 0x04410000, dims := [(0x8, 1472)], readers := [.tenant, .host], writers := [.tenant, .host], wide := 1,
    fields := [{ hi := 31, lo := 31, acc := .rw },
      { hi := 30, lo := 28, acc := .rw },
      { hi := 27, lo := 18, acc := .rw, rst := 1, ok := [(1, 1023)] },
      { hi := 10, lo := 0, acc := .rw }] },
  -- QS_NODE_OH, Table 13-7
  { base := 0x04410004, dims := [(0x8, 128)], readers := [.tenant, .host], writers := [.tenant, .host], wide := 1,
    fields := [{ hi := 7, lo := 0, acc := .rw, rst := 20 }] },
  -- QS_NODE_OH, Table 13-7
  { base := 0x04410004, dims := [(0x8, 1472)], readers := [.tenant, .host], writers := [.tenant, .host], wide := 1,
    fields := [{ hi := 7, lo := 0, acc := .rw }] },
  -- QS_SHAPER, Table 13-8
  { base := 0x04420214, dims := [(0x4, 1)], readers := [.tenant, .host], writers := [.tenant, .host], wide := 1,
    fields := [{ hi := 31, lo := 12, acc := .rw, rst := 480000 },
      { hi := 11, lo := 0, acc := .rw, rst := 64, ok := [(1, 4095)] }] },
  -- QS_SHAPER, Table 13-8
  { base := 0x04420000, dims := [(0x4, 9664)], readers := [.tenant, .host], writers := [.tenant, .host], wide := 1,
    fields := [{ hi := 31, lo := 12, acc := .rw },
      { hi := 11, lo := 0, acc := .rw, rst := 64, ok := [(1, 4095)] }] },
  -- QS_Q, Table 13-9
  { base := 0x04440000, dims := [(0x20, 8192)], readers := [.tenant, .host], writers := [.tenant, .host], wide := 1,
    fields := [{ hi := 31, lo := 31, acc := .rw },
      { hi := 30, lo := 28, acc := .rw },
      { hi := 27, lo := 18, acc := .rw, rst := 1, ok := [(1, 1023)] },
      { hi := 10, lo := 0, acc := .rw, rst := 448, ok := [(448, 1471)] }] },
  -- QS_QGATE, Table 13-9
  { base := 0x04440004, dims := [(0x20, 8192)], readers := [.tenant, .host], writers := [.tenant, .host], wide := 1,
    fields := [{ hi := 31, lo := 31, acc := .rw },
      { hi := 30, lo := 24, acc := .rw },
      { hi := 23, lo := 21, acc := .rw },
      { hi := 20, lo := 20, acc := .rw },
      { hi := 19, lo := 11, acc := .rw },
      { hi := 0, lo := 0, acc := .w1s }] },
  -- QS_QMAX, Table 13-9
  { base := 0x04440008, dims := [(0x20, 8192)], readers := [.tenant, .host], writers := [.tenant, .host], wide := 1,
    fields := [{ hi := 31, lo := 16, acc := .rw, rst := 32 },
      { hi := 15, lo := 0, acc := .rw, rst := 64 }] },
  -- QS_QTILES, Table 13-9
  { base := 0x0444000C, dims := [(0x20, 8192)], readers := [.tenant, .host], writers := [.tenant, .host], wide := 1,
    fields := [{ hi := 18, lo := 0, acc := .ro }] },
  -- QS_QFRAMES, Table 13-9
  { base := 0x04440010, dims := [(0x20, 8192)], readers := [.tenant, .host], writers := [.tenant, .host], wide := 1,
    fields := [{ hi := 19, lo := 0, acc := .ro }] },
  -- QS_QBLOCK, Table 13-9
  { base := 0x04440014, dims := [(0x20, 8192)], readers := [.tenant, .host], writers := [.tenant, .host], wide := 1,
    fields := [{ hi := 11, lo := 8, acc := .ro },
      { hi := 2, lo := 0, acc := .ro }] },
  -- QS_QCNT, Table 13-9
  { base := 0x04480000, dims := [(0x20, 8192), (0x8, 3)], readers := [.tenant, .host], writers := [.tenant, .host], wide := 2,
    fields := [{ hi := 31, lo := 0, acc := .ro },
      { hi := 15, lo := 0, acc := .ro, word := 1 }] },
  -- QS_METER, Table 13-10
  { base := 0x04500000, dims := [(0x10, 65536)], readers := [.tenant, .host], writers := [.tenant, .host], wide := 3,
    fields := [{ hi := 31, lo := 30, acc := .rw, ok := [(0, 2)] },
      { hi := 29, lo := 29, acc := .rw },
      { hi := 28, lo := 28, acc := .rw },
      { hi := 23, lo := 0, acc := .rw },
      { hi := 23, lo := 0, acc := .rw, word := 1 },
      { hi := 31, lo := 16, acc := .rw, word := 2 },
      { hi := 15, lo := 0, acc := .rw, word := 2 }] },
  -- QS_METER_LAST, Table 13-10
  { base := 0x0450000C, dims := [(0x10, 65536)], readers := [.tenant, .host], writers := [.tenant, .host], wide := 1,
    fields := [{ hi := 1, lo := 0, acc := .ro }] }]

/-- The registers of block QS, part 2. -/
def regsQS2 : List RegDesc := [
  -- QS_MCNT, Table 13-11
  { base := 0x04600000, dims := [(0x18, 65536), (0x8, 3)], readers := [.tenant, .host], writers := [.tenant, .host], wide := 2,
    fields := [{ hi := 31, lo := 0, acc := .ro },
      { hi := 15, lo := 0, acc := .ro, word := 1 }] },
  -- QS_TL_TURN, Table 13-12
  { base := 0x04780000, dims := [(0x1000, 128), (0x4, 256)], readers := [.tenant, .host], writers := [.tenant, .host], wide := 1,
    fields := [{ hi := 31, lo := 0, acc := .rw }] },
  -- QS_TL_OPER, Table 13-12
  { base := 0x04780400, dims := [(0x1000, 128), (0x4, 256)], readers := [.tenant, .host], writers := [.tenant, .host], wide := 1,
    fields := [{ hi := 31, lo := 0, acc := .ro }] },
  -- QS_TL_BASE, Table 13-12
  { base := 0x04780800, dims := [(0x1000, 128)], readers := [.tenant, .host], writers := [.tenant, .host], wide := 3,
    fields := [{ hi := 31, lo := 0, acc := .rw },
      { hi := 31, lo := 0, acc := .rw, word := 1 },
      { hi := 29, lo := 0, acc := .rw, ok := [(0, 999999999)], word := 2 }] },
  -- QS_TL_CYCLE, Table 13-12
  { base := 0x0478080C, dims := [(0x1000, 128)], readers := [.tenant, .host], writers := [.tenant, .host], wide := 1,
    fields := [{ hi := 31, lo := 0, acc := .rw, rst := 1000000, ok := [(1000, 4294967295)] }] },
  -- QS_TL_CTRL, Table 13-12
  { base := 0x04780810, dims := [(0x1000, 128)], readers := [.tenant, .host], writers := [.tenant, .host], wide := 1,
    fields := [{ hi := 31, lo := 31, acc := .w1s },
      { hi := 30, lo := 30, acc := .w1s },
      { hi := 29, lo := 29, acc := .ro },
      { hi := 28, lo := 28, acc := .ro },
      { hi := 22, lo := 16, acc := .rw },
      { hi := 8, lo := 0, acc := .rw, rst := 1, ok := [(1, 256)] }] },
  -- QS_TL_CHANGE, Table 13-12
  { base := 0x04780814, dims := [(0x1000, 128)], readers := [.tenant, .host], writers := [.tenant, .host], wide := 3,
    fields := [{ hi := 31, lo := 0, acc := .ro },
      { hi := 31, lo := 0, acc := .ro, word := 1 },
      { hi := 29, lo := 0, acc := .ro, word := 2 }] },
  -- QS_TL_OCYCLE, Table 13-12
  { base := 0x04780820, dims := [(0x1000, 128)], readers := [.tenant, .host], writers := [.tenant, .host], wide := 1,
    fields := [{ hi := 31, lo := 0, acc := .ro }] },
  -- QS_TL_CUR, Table 13-12
  { base := 0x04780824, dims := [(0x1000, 128)], readers := [.tenant, .host], writers := [.tenant, .host], wide := 1,
    fields := [{ hi := 7, lo := 0, acc := .ro }] }]

/-- All registers of block QS. -/
def regsQS : List RegDesc := regsQS1 ++ regsQS2

/-- The registers of block CE. -/
def regsCE1 : List RegDesc := [
  -- CE_CTRL, Table 14-7
  { base := 0x04800000, dims := [], readers := [.tenant, .host], writers := [.tenant, .host], wide := 1,
    fields := [{ hi := 19, lo := 16, acc := .w1s },
      { hi := 7, lo := 0, acc := .rw, rst := 10, ok := [(1, 255)] }] },
  -- CE_STATUS, Table 14-7
  { base := 0x04800004, dims := [], readers := [.tenant, .host], writers := [.tenant, .host], wide := 1,
    fields := [{ hi := 31, lo := 28, acc := .ro },
      { hi := 27, lo := 20, acc := .ro },
      { hi := 11, lo := 4, acc := .ro, rst := 0xE4 },
      { hi := 3, lo := 0, acc := .ro, rst := 15 }] },
  -- CE_FLAGS, Table 14-7
  { base := 0x04800008, dims := [], readers := [.tenant, .host], writers := [.tenant, .host], wide := 1,
    fields := [{ hi := 17, lo := 0, acc := .w1c }] },
  -- CE_STRIKE_CFG, Table 14-7
  { base := 0x0480000C, dims := [], readers := [.tenant, .host], writers := [.tenant, .host], wide := 1,
    fields := [{ hi := 7, lo := 0, acc := .rw, rst := 10, ok := [(1, 255)] }] },
  -- CE_PAWN, Table 14-8
  { base := 0x04800100, dims := [(0x80, 4)], readers := [.tenant, .host, .carrier, .keeper], writers := [.tenant, .host, .carrier, .keeper], wide := 1,
    fields := [{ hi := 2, lo := 0, acc := .rw }] },
  -- CE_OP, Table 14-8
  { base := 0x04800104, dims := [(0x80, 4)], readers := [.tenant, .host, .carrier, .keeper], writers := [.tenant, .host, .carrier, .keeper], wide := 1,
    fields := [{ hi := 31, lo := 31, acc := .w1s },
      { hi := 30, lo := 30, acc := .rw },
      { hi := 29, lo := 29, acc := .rw },
      { hi := 28, lo := 28, acc := .rw },
      { hi := 27, lo := 24, acc := .rw, ok := [(1, 9)] },
      { hi := 23, lo := 16, acc := .rw },
      { hi := 15, lo := 0, acc := .rw }] },
  -- CE_KW, Table 14-8
  { base := 0x04800108, dims := [(0x80, 4)], readers := [.tenant, .host, .carrier, .keeper], writers := [.tenant, .host, .carrier, .keeper], wide := 1,
    fields := [{ hi := 28, lo := 16, acc := .rw },
      { hi := 12, lo := 0, acc := .rw }] },
  -- CE_D, Table 14-8
  { base := 0x0480010C, dims := [(0x80, 4)], readers := [.tenant, .host, .carrier, .keeper], writers := [.tenant, .host, .carrier, .keeper], wide := 1,
    fields := [{ hi := 31, lo := 31, acc := .rw },
      { hi := 12, lo := 0, acc := .rw }] },
  -- CE_SRC, Table 14-8
  { base := 0x04800110, dims := [(0x80, 4)], readers := [.tenant, .host, .carrier, .keeper], writers := [.tenant, .host, .carrier, .keeper], wide := 1,
    fields := [{ hi := 31, lo := 0, acc := .rw }] },
  -- CE_DST, Table 14-8
  { base := 0x04800114, dims := [(0x80, 4)], readers := [.tenant, .host, .carrier, .keeper], writers := [.tenant, .host, .carrier, .keeper], wide := 1,
    fields := [{ hi := 31, lo := 0, acc := .rw }] },
  -- CE_LEN, Table 14-8
  { base := 0x04800118, dims := [(0x80, 4)], readers := [.tenant, .host, .carrier, .keeper], writers := [.tenant, .host, .carrier, .keeper], wide := 1,
    fields := [{ hi := 22, lo := 0, acc := .rw, ok := [(0, 4194304)] }] },
  -- CE_AADLEN, Table 14-8
  { base := 0x0480011C, dims := [(0x80, 4)], readers := [.tenant, .host, .carrier, .keeper], writers := [.tenant, .host, .carrier, .keeper], wide := 1,
    fields := [{ hi := 22, lo := 0, acc := .rw, ok := [(0, 4194304)] }] },
  -- CE_IV, Table 14-8
  { base := 0x04800120, dims := [(0x80, 4), (0x4, 4)], readers := [.tenant, .host, .carrier, .keeper], writers := [.tenant, .host, .carrier, .keeper], wide := 1,
    fields := [{ hi := 31, lo := 0, acc := .rw }] },
  -- CE_DATA, Table 14-8
  { base := 0x04800130, dims := [(0x80, 4), (0x4, 10)], readers := [.tenant, .host, .carrier, .keeper], writers := [.tenant, .host, .carrier, .keeper], wide := 1,
    fields := [{ hi := 31, lo := 0, acc := .rw }] },
  -- CE_JOB, Table 14-8
  { base := 0x04800158, dims := [(0x80, 4)], readers := [.tenant, .host, .carrier, .keeper], writers := [.tenant, .host, .carrier, .keeper], wide := 1,
    fields := [{ hi := 31, lo := 31, acc := .ro },
      { hi := 30, lo := 30, acc := .w1c },
      { hi := 29, lo := 29, acc := .ro },
      { hi := 3, lo := 0, acc := .ro }] },
  -- CE_CNT, Table 14-6
  { base := 0x04800800, dims := [(0x40, 4), (0x8, 6)], readers := [.tenant, .host], writers := [.tenant, .host], wide := 2,
    fields := [{ hi := 31, lo := 0, acc := .ro },
      { hi := 15, lo := 0, acc := .ro, word := 1 }] },
  -- CE_GCNT, Table 14-6
  { base := 0x04800A00, dims := [(0x8, 2)], readers := [.tenant, .host], writers := [.tenant, .host], wide := 2,
    fields := [{ hi := 31, lo := 0, acc := .ro },
      { hi := 15, lo := 0, acc := .ro, word := 1 }] },
  -- CE_SC, Table 14-9
  { base := 0x04810000, dims := [(0x20, 4096)], readers := [.tenant, .host], writers := [.tenant, .host], wide := 1,
    fields := [{ hi := 31, lo := 31, acc := .rw },
      { hi := 30, lo := 30, acc := .rw },
      { hi := 29, lo := 28, acc := .rw },
      { hi := 27, lo := 26, acc := .rw },
      { hi := 25, lo := 24, acc := .rw, ok := [(0, 1)] },
      { hi := 23, lo := 23, acc := .rw, rst := 1 },
      { hi := 22, lo := 22, acc := .rw, rst := 1 },
      { hi := 21, lo := 21, acc := .rw },
      { hi := 20, lo := 20, acc := .rw },
      { hi := 19, lo := 18, acc := .rw },
      { hi := 17, lo := 17, acc := .rw, rst := 1 }] }]

/-- The registers of block CE, part 2. -/
def regsCE2 : List RegDesc := [
  -- CE_SC_WINDOW, Table 14-9
  { base := 0x04810004, dims := [(0x20, 4096)], readers := [.tenant, .host], writers := [.tenant, .host], wide := 1,
    fields := [{ hi := 29, lo := 0, acc := .rw }] },
  -- CE_SC_SCI, Table 14-9
  { base := 0x04810008, dims := [(0x20, 4096)], readers := [.tenant, .host], writers := [.tenant, .host], wide := 2,
    fields := [{ hi := 31, lo := 0, acc := .rw },
      { hi := 31, lo := 0, acc := .rw, word := 1 }] },
  -- CE_SC_AN, Table 14-9
  { base := 0x04810010, dims := [(0x20, 4096), (0x4, 2)], readers := [.tenant, .host], writers := [.tenant, .host], wide := 1,
    fields := [{ hi := 31, lo := 31, acc := .rw },
      { hi := 28, lo := 16, acc := .rw },
      { hi := 15, lo := 15, acc := .rw },
      { hi := 12, lo := 0, acc := .rw }] },
  -- CE_SC_THRESH, Table 14-9
  { base := 0x04810018, dims := [(0x20, 4096)], readers := [.tenant, .host], writers := [.tenant, .host], wide := 2,
    fields := [{ hi := 31, lo := 0, acc := .rw, rst := 0xC0000000 },
      { hi := 31, lo := 0, acc := .rw, word := 1 }] },
  -- CE_SA, Table 14-10
  { base := 0x04840000, dims := [(0x20, 8192)], readers := [.tenant, .host], writers := [.tenant, .host], wide := 1,
    fields := [{ hi := 31, lo := 31, acc := .rw },
      { hi := 30, lo := 30, acc := .ro },
      { hi := 29, lo := 29, acc := .ro },
      { hi := 28, lo := 28, acc := .ro },
      { hi := 27, lo := 27, acc := .ro }] },
  -- CE_SA_PN, Table 14-10
  { base := 0x04840008, dims := [(0x20, 8192)], readers := [.tenant, .host], writers := [.tenant, .host], wide := 2,
    fields := [{ hi := 31, lo := 0, acc := .rw, rst := 1 },
      { hi := 31, lo := 0, acc := .rw, word := 1 }] },
  -- CE_KEYSTAT, Table 14-12
  { base := 0x04A803FC, dims := [(0x4, 1)], readers := [.tenant, .host, .carrier], writers := [.tenant, .host, .carrier], wide := 1,
    fields := [{ hi := 31, lo := 31, acc := .ro, rst := 1 },
      { hi := 30, lo := 30, acc := .ro, rst := 1 },
      { hi := 1, lo := 0, acc := .ro }] },
  -- CE_KEYSTAT, Table 14-12
  { base := 0x04A80000, dims := [(0x4, 256)], readers := [.tenant, .host, .carrier], writers := [.tenant, .host, .carrier], wide := 1,
    fields := [{ hi := 31, lo := 31, acc := .ro },
      { hi := 30, lo := 30, acc := .ro },
      { hi := 1, lo := 0, acc := .ro }] },
  -- CE_SACNT, Table 14-6
  { base := 0x04B00000, dims := [(0x40, 8192), (0x8, 6)], readers := [.tenant, .host], writers := [.tenant, .host], wide := 2,
    fields := [{ hi := 31, lo := 0, acc := .ro },
      { hi := 15, lo := 0, acc := .ro, word := 1 }] },
  -- CE_SCCNT, Table 14-6
  { base := 0x04B80000, dims := [(0x20, 4096), (0x8, 4)], readers := [.tenant, .host], writers := [.tenant, .host], wide := 2,
    fields := [{ hi := 31, lo := 0, acc := .ro },
      { hi := 15, lo := 0, acc := .ro, word := 1 }] }]

/-- All registers of block CE. -/
def regsCE : List RegDesc := regsCE1 ++ regsCE2

/-- The registers of block CF. -/
def regsCF1 : List RegDesc := [
  -- CF_CFG, Table 15-8
  { base := 0x01800000, dims := [(0x4000, 32)], readers := [.tenant, .host], writers := [.tenant, .host], wide := 1,
    fields := [{ hi := 31, lo := 31, acc := .w1s },
      { hi := 23, lo := 16, acc := .rw, rst := 1 },
      { hi := 14, lo := 8, acc := .rw },
      { hi := 1, lo := 1, acc := .rw },
      { hi := 0, lo := 0, acc := .rw }] },
  -- CF_ALIGN, Table 15-8
  { base := 0x01800004, dims := [(0x4000, 32)], readers := [.tenant, .host], writers := [.tenant, .host], wide := 1,
    fields := [{ hi := 12, lo := 8, acc := .rw, ok := [(0, 16)] },
      { hi := 3, lo := 0, acc := .rw, rst := 2, ok := [(1, 8)] }] },
  -- CF_INTEG, Table 15-8
  { base := 0x01800008, dims := [(0x4000, 32)], readers := [.tenant, .host], writers := [.tenant, .host], wide := 1,
    fields := [{ hi := 23, lo := 16, acc := .rw, rst := 100, ok := [(0, 200)] },
      { hi := 7, lo := 0, acc := .rw, rst := 25, ok := [(0, 200)] }] },
  -- CF_MON, Table 15-9
  { base := 0x0180000C, dims := [(0x4000, 32)], readers := [.tenant, .host], writers := [.tenant, .host], wide := 1,
    fields := [{ hi := 27, lo := 24, acc := .rw, rst := 7, ok := [(2, 10)] },
      { hi := 22, lo := 16, acc := .rw, rst := 30, ok := [(1, 100)] },
      { hi := 15, lo := 8, acc := .rw, rst := 2 },
      { hi := 6, lo := 6, acc := .rw },
      { hi := 5, lo := 4, acc := .rw },
      { hi := 2, lo := 2, acc := .rw, rst := 1 },
      { hi := 1, lo := 0, acc := .rw }] },
  -- CF_STATUS, Table 15-9
  { base := 0x01800010, dims := [(0x4000, 32)], readers := [.tenant, .host], writers := [.tenant, .host], wide := 1,
    fields := [{ hi := 14, lo := 0, acc := .ro }] },
  -- CF_FAIL, Table 15-9
  { base := 0x01800014, dims := [(0x4000, 32)], readers := [.tenant, .host], writers := [.tenant, .host], wide := 1,
    fields := [{ hi := 14, lo := 0, acc := .ro }] },
  -- CF_FLAGS, Table 15-9
  { base := 0x01800018, dims := [(0x4000, 32)], readers := [.tenant, .host], writers := [.tenant, .host], wide := 1,
    fields := [{ hi := 25, lo := 17, acc := .w1c },
      { hi := 14, lo := 0, acc := .w1c }] },
  -- CF_DA, Table 15-10
  { base := 0x01800020, dims := [(0x4000, 32), (0x4, 3)], readers := [.tenant, .host], writers := [.tenant, .host], wide := 1,
    fields := [{ hi := 31, lo := 0, acc := .rw }] },
  -- CF_VLAN, Table 15-10
  { base := 0x0180002C, dims := [(0x4000, 32)], readers := [.tenant, .host], writers := [.tenant, .host], wide := 1,
    fields := [{ hi := 31, lo := 31, acc := .rw },
      { hi := 30, lo := 28, acc := .rw },
      { hi := 27, lo := 16, acc := .rw },
      { hi := 15, lo := 0, acc := .rw, rst := 0x88B5 }] },
  -- CF_CID, Table 15-10
  { base := 0x01800030, dims := [(0x4000, 32)], readers := [.tenant, .host], writers := [.tenant, .host], wide := 1,
    fields := [{ hi := 15, lo := 0, acc := .rw }] },
  -- CF_RXID, Table 15-10
  { base := 0x01800040, dims := [(0x4000, 32)], readers := [.tenant, .host], writers := [.tenant, .host], wide := 1,
    fields := [{ hi := 31, lo := 16, acc := .rw, rst := 0x88B5 },
      { hi := 15, lo := 0, acc := .rw }] },
  -- CF_RXBUF, Table 15-10
  { base := 0x01800044, dims := [(0x4000, 32)], readers := [.tenant, .host], writers := [.tenant, .host], wide := 1,
    fields := [{ hi := 18, lo := 16, acc := .rw, rst := 3, ok := [(0, 6)] },
      { hi := 15, lo := 0, acc := .rw, rst := 1000, ok := [(100, 4000)] }] },
  -- CF_CLK, Table 15-11
  { base := 0x01800050, dims := [(0x4000, 32)], readers := [.tenant, .host], writers := [.tenant, .host], wide := 1,
    fields := [{ hi := 1, lo := 0, acc := .ro }] },
  -- CF_DCO, Table 15-11
  { base := 0x01800054, dims := [(0x4000, 32)], readers := [.tenant, .host], writers := [.tenant, .host], wide := 1,
    fields := [{ hi := 31, lo := 0, acc := .ro }] },
  -- CF_PHASE, Table 15-11
  { base := 0x01800058, dims := [(0x4000, 32)], readers := [.tenant, .host], writers := [.tenant, .host], wide := 1,
    fields := [{ hi := 31, lo := 0, acc := .ro }] },
  -- CF_HELD, Table 15-11
  { base := 0x0180005C, dims := [(0x4000, 32)], readers := [.tenant, .host], writers := [.tenant, .host], wide := 1,
    fields := [{ hi := 13, lo := 0, acc := .ro }] },
  -- CF_CNT, Table 15-7
  { base := 0x01800100, dims := [(0x4000, 32), (0x8, 11)], readers := [.tenant, .host], writers := [.tenant, .host], wide := 2,
    fields := [{ hi := 31, lo := 0, acc := .ro },
      { hi := 15, lo := 0, acc := .ro, word := 1 }] },
  -- CF_BIN_START, Table 15-12
  { base := 0x01801000, dims := [(0x4000, 32), (0x100, 19)], readers := [.tenant, .host], writers := [.tenant, .host], wide := 2,
    fields := [{ hi := 31, lo := 0, acc := .ro },
      { hi := 31, lo := 0, acc := .ro, word := 1 }] }]

/-- The registers of block CF, part 2. -/
def regsCF2 : List RegDesc := [
  -- CF_BIN_LEN, Table 15-12
  { base := 0x01801008, dims := [(0x4000, 32), (0x100, 19)], readers := [.tenant, .host], writers := [.tenant, .host], wide := 1,
    fields := [{ hi := 31, lo := 0, acc := .ro }] },
  -- CF_BIN_FLAGS, Table 15-12
  { base := 0x0180100C, dims := [(0x4000, 32), (0x100, 19)], readers := [.tenant, .host], writers := [.tenant, .host], wide := 1,
    fields := [{ hi := 31, lo := 31, acc := .ro },
      { hi := 30, lo := 30, acc := .ro },
      { hi := 29, lo := 29, acc := .ro }] },
  -- CF_BIN_COUNT, Table 15-12
  { base := 0x01801010, dims := [(0x4000, 32), (0x100, 19), (0x4, 32)], readers := [.tenant, .host], writers := [.tenant, .host], wide := 1,
    fields := [{ hi := 31, lo := 0, acc := .ro }] },
  -- CF_EXP_TRACE, Table 15-12
  { base := 0x01802400, dims := [(0x4000, 32), (0x40, 2), (0x4, 16)], readers := [.tenant, .host], writers := [.tenant, .host], wide := 1,
    fields := [{ hi := 31, lo := 0, acc := .rw }] },
  -- CF_ACC_TRACE, Table 15-12
  { base := 0x01802480, dims := [(0x4000, 32), (0x40, 2), (0x4, 16)], readers := [.tenant, .host], writers := [.tenant, .host], wide := 1,
    fields := [{ hi := 31, lo := 0, acc := .ro }] }]

/-- All registers of block CF. -/
def regsCF : List RegDesc := regsCF1 ++ regsCF2

/-- The registers of block KP. -/
def regsKP1 : List RegDesc := [
  -- KP_RST_CAUSE, Table 19-11
  { base := 0x00000100, dims := [], readers := [.carrier, .tenant, .keeper], writers := [.carrier, .tenant, .keeper], wide := 1,
    fields := [{ hi := 19, lo := 0, acc := .w1c, rst := 1 }] },
  -- KP_RST_CTRL, Table 19-12
  { base := 0x00000104, dims := [], readers := [.carrier, .tenant, .keeper], writers := [.carrier, .tenant, .keeper], wide := 1,
    fields := [{ hi := 11, lo := 8, acc := .rw, only := some .keeper },
      { hi := 6, lo := 6, acc := .w1s, only := some .keeper },
      { hi := 5, lo := 5, acc := .w1s, only := some .keeper },
      { hi := 4, lo := 4, acc := .w1s, only := some .carrier },
      { hi := 3, lo := 2, acc := .w1s, only := some .carrier },
      { hi := 1, lo := 1, acc := .w1s, only := some .tenant },
      { hi := 0, lo := 0, acc := .w1s, only := some .carrier }] },
  -- KP_RST_BLOCK, Table 19-13
  { base := 0x00000108, dims := [], readers := [.tenant, .host], writers := [.tenant, .host], wide := 1,
    fields := [{ hi := 31, lo := 31, acc := .w1s },
      { hi := 25, lo := 24, acc := .rw, ok := [(0, 2)] },
      { hi := 6, lo := 0, acc := .rw }] },
  -- KP_WDOG0, Table 19-14
  { base := 0x00000110, dims := [], readers := [.keeper], writers := [.keeper], wide := 1,
    fields := [{ hi := 31, lo := 31, acc := .w1s },
      { hi := 7, lo := 0, acc := .rw, rst := 100, ok := [(1, 255)] }] },
  -- KP_WDOG1, Table 19-14
  { base := 0x00000114, dims := [], readers := [.carrier], writers := [.carrier], wide := 1,
    fields := [{ hi := 31, lo := 31, acc := .w1s },
      { hi := 7, lo := 0, acc := .rw, rst := 100, ok := [(1, 255)] }] },
  -- KP_WDOG2, Table 19-14
  { base := 0x00000118, dims := [], readers := [.tenant], writers := [.tenant], wide := 1,
    fields := [{ hi := 31, lo := 31, acc := .w1s },
      { hi := 7, lo := 0, acc := .rw, rst := 100, ok := [(1, 255)] }] },
  -- KP_PWR_CTRL, Table 19-15
  { base := 0x00000120, dims := [], readers := [.carrier, .tenant, .keeper], writers := [.carrier, .tenant, .keeper], wide := 1,
    fields := [{ hi := 9, lo := 9, acc := .rw, only := some .tenant },
      { hi := 8, lo := 8, acc := .rw, only := some .carrier },
      { hi := 1, lo := 1, acc := .w1s },
      { hi := 0, lo := 0, acc := .w1s }] },
  -- KP_PWR_STATUS, Table 19-15
  { base := 0x00000124, dims := [], readers := [.carrier, .tenant, .keeper], writers := [.carrier, .tenant, .keeper], wide := 1,
    fields := [{ hi := 13, lo := 8, acc := .ro },
      { hi := 5, lo := 4, acc := .ro },
      { hi := 1, lo := 0, acc := .ro }] },
  -- KP_PWR_REFUSE, Table 19-16
  { base := 0x00000128, dims := [], readers := [.carrier, .tenant, .keeper], writers := [.carrier, .tenant, .keeper], wide := 1,
    fields := [{ hi := 20, lo := 16, acc := .ro },
      { hi := 10, lo := 8, acc := .ro },
      { hi := 5, lo := 0, acc := .ro }] },
  -- KP_WAKE_LAST, Table 19-16
  { base := 0x0000012C, dims := [], readers := [.carrier, .tenant, .keeper], writers := [.carrier, .tenant, .keeper], wide := 1,
    fields := [{ hi := 17, lo := 17, acc := .ro },
      { hi := 16, lo := 16, acc := .ro },
      { hi := 15, lo := 8, acc := .ro },
      { hi := 3, lo := 0, acc := .ro }] },
  -- KP_PWR_FLAGS, Table 19-17
  { base := 0x00000130, dims := [], readers := [.carrier, .tenant, .keeper], writers := [.carrier, .tenant, .keeper], wide := 1,
    fields := [{ hi := 8, lo := 0, acc := .w1c }] },
  -- KP_WAKE_EN, Table 19-17
  { base := 0x00000134, dims := [], readers := [.carrier, .tenant, .keeper], writers := [.carrier, .tenant, .keeper], wide := 1,
    fields := [{ hi := 31, lo := 16, acc := .rw, only := some .tenant },
      { hi := 4, lo := 4, acc := .rw, rst := 1, only := some .tenant },
      { hi := 3, lo := 3, acc := .rw, rst := 1, only := some .tenant },
      { hi := 2, lo := 2, acc := .rw, rst := 1, only := some .tenant },
      { hi := 1, lo := 0, acc := .rw, rst := 3, only := some .carrier }] },
  -- KP_PWR_GATE0, Table 19-18
  { base := 0x00000138, dims := [], readers := [.carrier, .tenant, .keeper], writers := [.carrier, .tenant, .keeper], wide := 1,
    fields := [{ hi := 31, lo := 0, acc := .rw }] },
  -- KP_PWR_GATE1, Table 19-18
  { base := 0x0000013C, dims := [], readers := [.carrier, .tenant, .keeper], writers := [.carrier, .tenant, .keeper], wide := 1,
    fields := [{ hi := 3, lo := 0, acc := .rw }] },
  -- KP_CLK_STATUS, Table 19-18
  { base := 0x00000140, dims := [], readers := [.carrier, .tenant, .keeper], writers := [.carrier, .tenant, .keeper], wide := 1,
    fields := [{ hi := 9, lo := 0, acc := .ro }] },
  -- KP_BOOT, Table 17-10
  { base := 0x00000200, dims := [], readers := [.carrier, .tenant, .host, .keeper], writers := [.carrier, .tenant, .host, .keeper], wide := 1,
    fields := [{ hi := 23, lo := 20, acc := .ro },
      { hi := 19, lo := 16, acc := .ro },
      { hi := 15, lo := 12, acc := .ro },
      { hi := 11, lo := 10, acc := .ro },
      { hi := 9, lo := 8, acc := .ro },
      { hi := 7, lo := 6, acc := .ro },
      { hi := 5, lo := 5, acc := .ro },
      { hi := 4, lo := 4, acc := .ro }] },
  -- KP_SVN, Table 17-10
  { base := 0x00000204, dims := [], readers := [.carrier, .tenant, .host, .keeper], writers := [.carrier, .tenant, .host, .keeper], wide := 1,
    fields := [{ hi := 31, lo := 0, acc := .ro }] },
  -- KP_SVN_MIN, Table 17-10
  { base := 0x00000208, dims := [], readers := [.carrier, .tenant, .host, .keeper], writers := [.carrier, .tenant, .host, .keeper], wide := 1,
    fields := [{ hi := 31, lo := 0, acc := .ro }] }]

/-- The registers of block KP, part 2. -/
def regsKP2 : List RegDesc := [
  -- KP_SUPPLY, Table 17-11
  { base := 0x00000210, dims := [], readers := [.keeper, .carrier, .tenant], writers := [.keeper], wide := 1,
    fields := [{ hi := 31, lo := 16, acc := .rw, rst := 420 },
      { hi := 15, lo := 0, acc := .rw, rst := 435 }] },
  -- KP_VIN, Table 17-11
  { base := 0x00000214, dims := [], readers := [.keeper, .carrier, .tenant], writers := [.keeper], wide := 1,
    fields := [{ hi := 18, lo := 18, acc := .ro },
      { hi := 17, lo := 17, acc := .ro },
      { hi := 16, lo := 16, acc := .ro },
      { hi := 15, lo := 0, acc := .ro }] },
  -- KP_START_FLAGS, Table 17-11
  { base := 0x00000218, dims := [], readers := [.keeper, .carrier, .tenant], writers := [.keeper], wide := 1,
    fields := [{ hi := 10, lo := 0, acc := .w1c }] },
  -- KP_SET_CTRL, Table 17-12
  { base := 0x00004000, dims := [], readers := [.carrier], writers := [.carrier], wide := 1,
    fields := [{ hi := 31, lo := 31, acc := .w1s },
      { hi := 29, lo := 28, acc := .rw, ok := [(0, 2)] },
      { hi := 26, lo := 16, acc := .rw },
      { hi := 15, lo := 0, acc := .rw }] },
  -- KP_SET_STAT, Table 17-12
  { base := 0x00004004, dims := [], readers := [.carrier], writers := [.carrier], wide := 1,
    fields := [{ hi := 31, lo := 31, acc := .ro },
      { hi := 30, lo := 30, acc := .ro },
      { hi := 3, lo := 0, acc := .ro }] },
  -- KP_SET_DATA, Table 17-12
  { base := 0x00004400, dims := [(0x4, 256)], readers := [.carrier], writers := [.carrier], wide := 1,
    fields := [{ hi := 31, lo := 0, acc := .rw }] },
  -- KP_SETT_CTRL, Table 17-12
  { base := 0x00005000, dims := [], readers := [.tenant], writers := [.tenant], wide := 1,
    fields := [{ hi := 31, lo := 31, acc := .w1s },
      { hi := 29, lo := 28, acc := .rw, ok := [(0, 2)] },
      { hi := 26, lo := 16, acc := .rw },
      { hi := 15, lo := 0, acc := .rw }] },
  -- KP_SETT_STAT, Table 17-12
  { base := 0x00005004, dims := [], readers := [.tenant], writers := [.tenant], wide := 1,
    fields := [{ hi := 31, lo := 31, acc := .ro },
      { hi := 30, lo := 30, acc := .ro },
      { hi := 3, lo := 0, acc := .ro }] },
  -- KP_SETT_DATA, Table 17-12
  { base := 0x00005400, dims := [(0x4, 256)], readers := [.tenant], writers := [.tenant], wide := 1,
    fields := [{ hi := 31, lo := 0, acc := .rw }] },
  -- KP_GPIO, Table 20-7
  { base := 0x00000300, dims := [(0x4, 8)], readers := [.tenant, .keeper], writers := [.tenant, .keeper], wide := 1,
    fields := [{ hi := 31, lo := 31, acc := .ro },
      { hi := 13, lo := 12, acc := .rw },
      { hi := 11, lo := 8, acc := .rw, ok := [(0, 0), (1, 1), (3, 3), (5, 5)] },
      { hi := 5, lo := 4, acc := .rw, rst := 1, ok := [(0, 2)] },
      { hi := 2, lo := 2, acc := .rw },
      { hi := 1, lo := 0, acc := .rw, ok := [(0, 2)] }] },
  -- KP_GPIO_C, Table 20-7
  { base := 0x00000320, dims := [(0x4, 8)], readers := [.carrier, .keeper], writers := [.carrier, .keeper], wide := 1,
    fields := [{ hi := 31, lo := 31, acc := .ro },
      { hi := 13, lo := 12, acc := .rw },
      { hi := 11, lo := 8, acc := .rw, ok := [(0, 5)] },
      { hi := 5, lo := 4, acc := .rw, rst := 1, ok := [(0, 2)] },
      { hi := 2, lo := 2, acc := .rw },
      { hi := 1, lo := 0, acc := .rw, ok := [(0, 2)] }] }]

/-- All registers of block KP. -/
def regsKP : List RegDesc := regsKP1 ++ regsKP2

/-- The registers of block MG. -/
def regsMG : List RegDesc := [
  -- MG_TX_DATA, Table 17-13
  { base := 0x05000000, dims := [(0x1000, 1), (0x4, 16)], readers := [.carrier], writers := [.carrier], wide := 1,
    fields := [{ hi := 31, lo := 0, acc := .wo }] },
  -- MG_TX, Table 17-13
  { base := 0x05000040, dims := [(0x1000, 1)], readers := [.carrier], writers := [.carrier], wide := 1,
    fields := [{ hi := 31, lo := 31, acc := .w1s },
      { hi := 30, lo := 28, acc := .ro },
      { hi := 21, lo := 16, acc := .rw },
      { hi := 6, lo := 0, acc := .rw }] },
  -- MG_RX_DATA, Table 17-13
  { base := 0x05000080, dims := [(0x1000, 1), (0x4, 16)], readers := [.carrier], writers := [.carrier], wide := 1,
    fields := [{ hi := 31, lo := 0, acc := .ro }] },
  -- MG_RX, Table 17-13
  { base := 0x050000C0, dims := [(0x1000, 1)], readers := [.carrier], writers := [.carrier], wide := 1,
    fields := [{ hi := 31, lo := 31, acc := .ro },
      { hi := 30, lo := 30, acc := .w1s },
      { hi := 21, lo := 16, acc := .ro },
      { hi := 6, lo := 0, acc := .ro }] },
  -- MG_FLAGS, Table 17-13
  { base := 0x050000D0, dims := [(0x1000, 1)], readers := [.carrier], writers := [.carrier], wide := 1,
    fields := [{ hi := 4, lo := 0, acc := .w1c }] },
  -- MG_CNT, Table 17-13
  { base := 0x05000100, dims := [(0x1000, 1), (0x8, 5)], readers := [.carrier], writers := [.carrier], wide := 2,
    fields := [{ hi := 31, lo := 0, acc := .ro },
      { hi := 15, lo := 0, acc := .ro, word := 1 }] },
  -- MG_TX_DATA, Table 17-13
  { base := 0x05001000, dims := [(0x1000, 2), (0x4, 16)], readers := [.tenant], writers := [.tenant], wide := 1,
    fields := [{ hi := 31, lo := 0, acc := .wo }] },
  -- MG_TX, Table 17-13
  { base := 0x05001040, dims := [(0x1000, 2)], readers := [.tenant], writers := [.tenant], wide := 1,
    fields := [{ hi := 31, lo := 31, acc := .w1s },
      { hi := 30, lo := 28, acc := .ro },
      { hi := 21, lo := 16, acc := .rw },
      { hi := 6, lo := 0, acc := .rw }] },
  -- MG_RX_DATA, Table 17-13
  { base := 0x05001080, dims := [(0x1000, 2), (0x4, 16)], readers := [.tenant], writers := [.tenant], wide := 1,
    fields := [{ hi := 31, lo := 0, acc := .ro }] },
  -- MG_RX, Table 17-13
  { base := 0x050010C0, dims := [(0x1000, 2)], readers := [.tenant], writers := [.tenant], wide := 1,
    fields := [{ hi := 31, lo := 31, acc := .ro },
      { hi := 30, lo := 30, acc := .w1s },
      { hi := 21, lo := 16, acc := .ro },
      { hi := 6, lo := 0, acc := .ro }] },
  -- MG_FLAGS, Table 17-13
  { base := 0x050010D0, dims := [(0x1000, 2)], readers := [.tenant], writers := [.tenant], wide := 1,
    fields := [{ hi := 4, lo := 0, acc := .w1c }] },
  -- MG_CNT, Table 17-13
  { base := 0x05001100, dims := [(0x1000, 2), (0x8, 5)], readers := [.tenant], writers := [.tenant], wide := 2,
    fields := [{ hi := 31, lo := 0, acc := .ro },
      { hi := 15, lo := 0, acc := .ro, word := 1 }] }]

/-- The registers of block EV. -/
def regsEV : List RegDesc := [
  -- EV_FLAGS, Table 18-6
  { base := 0x00409000, dims := [], readers := [.carrier, .tenant, .host, .keeper], writers := [.carrier, .tenant, .host, .keeper], wide := 1,
    fields := [{ hi := 1, lo := 1, acc := .w1c },
      { hi := 0, lo := 0, acc := .w1c }] },
  -- EV_SWSET, Table 18-6
  { base := 0x00408010, dims := [(0x4, 4)], readers := [.carrier], writers := [.carrier], wide := 1,
    fields := [{ hi := 31, lo := 0, acc := .wo }] },
  -- EV_SWSET, Table 18-6
  { base := 0x00408020, dims := [(0x4, 4)], readers := [.tenant], writers := [.tenant], wide := 1,
    fields := [{ hi := 31, lo := 0, acc := .wo }] }]

end Sys2Proof.Machine
end

