-- ==== Sys2Proof/Machine/State.lean ====
section
/-! DEFINITION. The state of the terminal as plain data: every register (one sparse list of words whose unlisted
addresses read as their reset value), and the state the spec gives the blocks outside their registers. -/
namespace Sys2Proof.Machine

/-- A sparse array: pairs of index and value, indices strictly rising, no entry equal to what an unlisted index reads
as. That value is the argument `d` of the operations. -/
abbrev Store (α : Type) := List (Nat × α)

/-- Read an entry. -/
def sget {α : Type} (d : Nat → α) : Store α → Nat → α
  | [], k => d k
  | (i, v) :: t, k => if i = k then v else sget d t k

/-- Keep only the entries whose index satisfies `p`: what is dropped reads as its reset value again. -/
def skeep {α : Type} (p : Nat → Bool) (st : Store α) : Store α := st.filter (fun x => p x.1)

/-- Put an entry at its place. -/
def sput {α : Type} : Store α → Nat → α → Store α
  | [], k, v => [(k, v)]
  | (i, w) :: t, k, v => if k < i then (k, v) :: (i, w) :: t else if k = i then (k, v) :: t else (i, w) :: sput t k v

/-- Write an entry and keep the canonical form. -/
def sset {α : Type} [DecidableEq α] (d : Nat → α) : Store α → Nat → α → Store α
  | [], k, v => if v = d k then [] else [(k, v)]
  | x :: t, k, v => if v = d k then skeep (fun i => decide (i ≠ k)) (x :: t) else sput (x :: t) k v

/-- The canonical form of a sparse array, from index `lo` up. -/
def swf {α : Type} [DecidableEq α] (d : Nat → α) : Nat → Store α → Bool
  | _, [] => true
  | lo, (i, v) :: t => decide (lo ≤ i) && decide (v ≠ d i) && swf d (i + 1) t

/-- The index of an element of a register array, and the word of a wide value, that an address names. -/
def RegDesc.locate (r : RegDesc) (addr : Nat) : Option (List Nat × Nat) :=
  let rec go : List (Nat × Nat) → Nat → Option (List Nat × Nat)
    | [], off => if off % 4 = 0 ∧ off / 4 < r.wide then some ([], off / 4) else none
    | (stride, count) :: ds, off =>
      if off / stride < count then
        match go ds (off % stride) with
        | some (is, w) => some (off / stride :: is, w)
        | none => none
      else none
  if r.base ≤ addr then go r.dims (addr - r.base) else none

/-- The first register of a list that an address lies in, with the word of its value. -/
def findReg : List RegDesc → Nat → Option (RegDesc × Nat)
  | [], _ => none
  | r :: rs, addr =>
    match r.locate addr with
    | some (_, w) => some (r, w)
    | none => findReg rs addr

/-- The registers of the block an address lies in (Table 00-4). Line engine B's blocks stand 0x0400_0000 above A's. -/
def blockRegs (addr : Nat) : List RegDesc :=
  if addr < 0x00400000 then regsKP
  else if addr < 0x00800000 then regsEV
  else if addr < 0x01000000 then regsTE
  else if addr < 0x01400000 then regsCL
  else if addr < 0x01800000 then regsCM
  else if addr < 0x02000000 then regsCF
  else if addr < 0x02400000 then regsPA
  else if addr < 0x04000000 then regsCX
  else if addr < 0x04400000 then regsBM
  else if addr < 0x04800000 then regsQS
  else if addr < 0x04C00000 then regsCE
  else if addr < 0x05000000 then regsPX
  else if addr < 0x08000000 then regsMG
  else
    let o := addr % 0x04000000
    if o < 0x00400000 then regsTC
    else if o < 0x00800000 then regsBOND
    else if o < 0x00C00000 then regsBURST
    else if o < 0x01000000 then regsPFE
    else regsDSP

/-- The register an address lies in. -/
def regAt (addr : Nat) : Option (RegDesc × Nat) := findReg (blockRegs addr) addr

/-- The reset value of one word of a register: its fields at their Reset column (R8). -/
def RegDesc.resetWord (r : RegDesc) (word : Nat) : Word :=
  r.fields.foldl (fun w f => if f.word = word then w.withField f.hi f.lo f.rst else w) 0

/-- What an address reads as while nothing has been written: the Reset column (R8), the serial numbers set at
manufacture (R74), and 0 where no register lies. -/
def regReset (addr : Nat) : Word :=
  if addr = 0x08000134 then 2 * Config.serialNumber
  else if addr = 0x0C000134 then 2 * Config.serialNumber + 1
  else match regAt addr with
    | some (r, w) => r.resetWord w
    | none => 0

/-- A field of a register word: its address and its bits. -/
structure Fld where
  addr : Nat
  hi : Nat
  lo : Nat
  deriving DecidableEq, Repr

/-- A snapshot of a wide value held for one agent (R9): agent, address of the lowest word, the words. -/
structure Snapshot where
  agent : Agent
  addr : Nat
  words : List Word
  deriving DecidableEq, Repr

/-- A word held aside for one agent's wide write (R10). -/
structure HeldWord where
  agent : Agent
  addr : Nat
  word : Word
  deriving DecidableEq, Repr

/-! ### The line engines -/

/-- An upstream frame held in a slot queue or in the control queue: its identity, its bytes (FCS included), and whether
an assembled burst that has not ended carries it. -/
structure UpFrame where
  id : Nat
  bytes : List Byte
  placed : Bool
  deriving DecidableEq, Repr

/-- A kept grant: the allocations of one burst, in map order (R143, R154). -/
structure Grant where
  allocs : List Alloc
  /-- The first allocation is chained to a structure that was not kept (R155). -/
  orphan : Bool
  /-- Superframe counter of frame k, whose map carried it. -/
  sfc : Nat
  /-- PSync instant of frame k at the pigtail, in steps of 10^-4 unit interval. -/
  psync : Nat
  /-- The equalisation delay that applies to frame k's grants (R64). -/
  eqd : Nat
  /-- When the burst engine took it, in TIME cycles. -/
  arrived : Nat
  /-- For each allocation, the slot bound to its Alloc-ID when the map was read, and that slot's CH (R137). -/
  binds : List (Option (Nat × Nat))
  deriving DecidableEq, Repr

/-- A frame placed in a burst: its queue, Port-ID, key index and bond tag, the frame, its position in the burst's content
and its payload as the fibre carries it, encrypted where it has a key (R126, R150). -/
structure Placed where
  lq : Option Nat
  portId : Nat
  keyIdx : Nat
  tag : List Byte
  frame : UpFrame
  pos : Nat
  payload : List Byte
  deriving DecidableEq, Repr

/-- What one allocation of a burst carries: its report if one is asked for, then its frames, then idle XGEM frames of
Port-ID 0xFFFF that fill it to exactly its GRANT (R144, R148). -/
structure BurstPart where
  report : Option Nat
  frames : List Placed
  idle : Nat
  deriving DecidableEq, Repr

/-- Why a burst is sent: traffic, a serial-number answer, or a registration (R56, R547). -/
inductive BurstKind where
  | traffic | serialNumber | registration
  deriving DecidableEq, Repr

/-- An upstream PLOAM message (Table 03-4's text): none queued, or what the activation state machine or carrier
firmware sends. -/
inductive UpPloam where
  | noMessage
  | serialNumberOnu (sn : Serial) (roll : Nat)
  | registration (id : List Word)
  | acknowledge (seq : Nat) (supported : Bool)
  | firmware (bytes : List Byte)
  deriving DecidableEq, Repr

/-- An assembled burst (R148). -/
structure Burst where
  kind : BurstKind
  /-- Launch instant of the first preamble bit, in steps of 10^-4 unit interval (R145). -/
  launch : Nat
  /-- Start of its first preamble word and of its last word, in the same steps (R156). -/
  first : Nat
  last : Nat
  /-- ONU-ID and dying-gasp indication of the burst header. -/
  header : Nat × Bool
  ploam : Option UpPloam
  /-- Its allocations, in map order. -/
  parts : List BurstPart
  contentWords : Nat
  /-- Its burst profile: preamble, delimiter, rate, and whether the content is encoded with FEC (R148, R149). -/
  profile : Profile
  /-- Assembled by an engine without the permit: no SEQ, no light (R174). -/
  shadow : Bool
  deriving DecidableEq, Repr

/-- The frames that a burst carries. -/
def Burst.frames (b : Burst) : List Placed := b.parts.flatMap (·.frames)

/-- The reports that a burst carries. -/
def Burst.reports (b : Burst) : List Nat := b.parts.filterMap (·.report)

/-- The SDU a channel holds in fragments (R90, R91): its Port-ID, limit and bond mark, kept from its first fragment (R94),
the length of its fragments so far, their plain bytes and key index, whether a fragment of it was dropped, and whether it
has crossed its limit, so that the rest is skipped. -/
structure HeldFrag where
  port : Nat
  limit : Nat
  bonded : Bool
  len : Nat
  bytes : List Byte
  keyIdx : Nat
  lost : Bool
  skip : Bool
  deriving DecidableEq, Repr

/-- What one channel of a line engine holds outside its registers. -/
structure Chan where
  /-- The burst gate is open (R30, R72). -/
  gate : Bool := false
  /-- Equaliser taps trained and held (R43). -/
  trained : Bool := false
  /-- A burst was sent since the last telemetry update, and when light last stood on the fibre, in TIME cycles (R46). -/
  lit : Bool := false
  lastLight : Option Nat := none
  /-- The time engine's stamp of the last launch, in pips of house time (R146). -/
  launchStamp : Option Nat := none
  /-- The laser has reached end of life (R47). -/
  worn : Bool := false
  /-- Burst profiles by index (R546). -/
  profiles : List (Nat × Profile) := []
  to1 : Bool := false
  to2 : Bool := false
  /-- Sequence number of the last unicast message accepted and its acknowledgement (R68). -/
  lastSeq : Option Nat := none
  ack : Option UpPloam := none
  /-- Acknowledgements that wait for a grant with a PLOAM place, oldest first (R68, R69). -/
  ackQ : List UpPloam := []
  regPending : Bool := false
  /-- PLOAM messages of carrier firmware that wait for a grant with a PLOAM place, oldest first (Table 03-4's text). -/
  fwPloam : List (List Byte) := []
  /-- Deactivated: waits for its CH_JOIN bit to be cleared and set again (R70). -/
  hold : Bool := false
  /-- Consecutive missing PSyncs (R80). -/
  misses : Nat := 0
  /-- LOCK_N of the hunt in progress, where it was changed since the hunt began (R80). -/
  huntN : Option Nat := none
  /-- A good counter that did not match the prediction, awaiting its successor (R82). -/
  sfcCand : Option Nat := none
  opctl : Option Nat := none
  /-- The SDU held in fragments (R91). -/
  frag : Option HeldFrag := none
  /-- Sums of the open 10 ms window and runs of windows: the sign of a run is its truth (R101). -/
  winBits : Nat := 0
  winErr : Nat := 0
  winUncorr : Nat := 0
  sdTrue : Nat := 0
  sdFalse : Nat := 0
  sfTrue : Nat := 0
  sfFalse : Nat := 0
  /-- SET and CLEAR of the open window, where they were changed since it opened (R102). -/
  winCfg : Option (Nat × Nat) := none
  /-- PSync instant of the last frame processed, in steps of 10^-4 unit interval. -/
  psync : Nat := 0
  /-- The structure before the next one of the map was kept (R154). -/
  prevKept : Bool := false
  grants : List Grant := []
  bursts : List Burst := []
  /-- The burst whose light is on the fibre, or was last. -/
  flying : Option Burst := none
  /-- The last burst that left whole. -/
  sent : Option Burst := none
  /-- First and last word of the latest burst not stopped by the first three rows of Table 06-3 (R156). -/
  lastSpan : Option (Nat × Nat) := none
  /-- Late SDUs and longest gap fill of the open window, in 0.1 µs (R117, Table 05-5). -/
  lateN : Nat := 0
  lagMax : Nat := 0
  /-- Returning from watchful sleep: sits out with LOF, adds no strike and skips SIT_HOLD (R164). -/
  wakeReturn : Bool := false
  deriving DecidableEq, Repr

/-- An SDU held by the reorder logic: sequence number, cells, arrival, window in force, channel (R110, R115). -/
structure HeldSdu where
  seq : Nat
  sdu : BondSdu
  arrived : Nat
  window : Nat
  chan : Nat
  deriving DecidableEq, Repr

/-- A downstream reorder stream. `next = none` is 'holds no state' (R110). -/
structure Stream where
  next : Option Nat := none
  held : List HeldSdu := []
  deriving DecidableEq, Repr

/-- A downstream data SDU on its way to the hub, with what its tie header carries (R19). -/
structure DownSdu where
  chan : Nat
  bonded : Bool
  portId : Nat
  keyIdx : Nat
  bytes : List Byte
  deriving DecidableEq, Repr

/-- What a line engine sends toward the hub behind a tie header of its own (R19, R21, R83): a data SDU, an OMCC frame, a copy
of a PLOAM message, an operation control structure, or a step digest (R176). -/
inductive ToHub where
  | data (x : DownSdu)
  | omcc (bytes : List Byte)
  | ploam (c : Nat) (m : PloamMsg)
  | opctl (c : Nat) (v : Nat)
  | digest (v : Nat)
  deriving DecidableEq, Repr

/-- What one line engine holds outside its registers. -/
structure Line where
  /-- Instant from which a burst may launch after an inhibit, in TIME cycles (R36). -/
  inhFrom : Nat := 0
  claim : Nat := 0
  discWait : Bool := false
  skip : Nat := 0
  omccOpen : Bool := false
  sleepAllow : Bool := false
  /-- The keys of the PON-layer key slots, and when each slot last decrypted a unit, whatever key it then held (R95, R97). -/
  keys : List (Nat × Nat) := []
  keyUse : Store (Option Nat) := []
  kek : Option (List Byte) := none
  /-- Data SDUs handed to the reorder logic and not yet taken, oldest first (R77). -/
  bondIn : List (Nat × BondSdu) := []
  /-- Headers and items that the line die has sent toward the hub and the hub has not received, oldest first. -/
  toHub : List (List Byte × ToHub) := []
  /-- This die's copy of the transfer key; none: the first one drawn (R388). -/
  transfer : Option (List Byte) := none
  /-- A wrapped master session key that waits for the next status message toward this die (R387). -/
  masterKey : Option (List Byte) := none
  /-- Headers and bytes that the hub has sent toward the line and the line die has not received, oldest first. -/
  toLine : List (List Byte × List Byte) := []
  streams : Store Stream := []
  slotSeq : Store Nat := []
  /-- Slots whose bonded frames no longer carry RS: the first after a reset, a bind or a resync has gone (R130). -/
  rsDone : Store Bool := []
  lq : Store (List UpFrame) := []
  ctrl : List UpFrame := []
  removed : Store Nat := []
  /-- The standby has discarded a frame under R139 and not yet reported it (R175). -/
  discarded : Bool := false
  hubBacklog : Store Nat := []
  hubFrames : Store Nat := []
  /-- What the hub last heard of this engine: room per slot and removal counts. -/
  hubRoom : Store Nat := []
  hubRemoved : Store Nat := []
  pmActiveAt : Nat := 0
  /-- SEQ sent and next expected, toward the line and toward the hub; none: the next header starts it (R548). -/
  txLine : Nat := 0
  rxLine : Option Nat := none
  txHub : Nat := 0
  rxHub : Option Nat := none
  /-- A gap showed on this link toward the hub (R548). -/
  hubGap : Bool := false
  /-- Items of `toLine` that stand ahead of the step mark on its way (R177). -/
  markIn : Option Nat := none
  /-- A gap showed on this link toward the line, or the engine was reset, since the last step mark (R175). -/
  gap : Bool := false
  /-- Frames of each queue behind which the step mark stands, while a mark is in progress (R177). -/
  markAt : Option (Store Nat) := none
  /-- Frames since the announced one, and the source's time at the last PSync, in pips (R201). -/
  todK : Nat := 0
  todOut : Option Int := none
  /-- The two domain counters when that PSync reached the pigtail, in pips (R194, R201). -/
  todAt : Nat × Nat := (0, 0)
  /-- SEQ of the DSP telemetry page, and its FEC ring by 256 × channel + frame mod 256 (R444, Table 16-9). -/
  telSeq : Nat := 0
  fecRing : Store Nat := []
  deriving DecidableEq, Repr

/-- The data SDUs that a line die has sent and the hub has not received. -/
def Line.down (l : Line) : List DownSdu := l.toHub.filterMap (fun x => match x.2 with | .data d => some d | _ => none)

/-- The items for carrier firmware that it has sent and the hub has not received; a step digest is PX's own (R21). -/
def Line.toCarrier (l : Line) : List ToHub :=
  (l.toHub.map (·.2)).filter (fun x => match x with | .data _ | .digest _ => false | _ => true)

/-! ### The pair of engines -/

/-- A switch-over in progress: the engine it goes to, its cause, and whether the referee has moved (R180). -/
structure SwitchOp where
  target : Engine
  cause : Nat
  moved : Bool
  deriving DecidableEq, Repr

/-- Where the procedure of R177 stands. -/
inductive StepPhase where
  | idle | digestWait | markReady | marked
  deriving DecidableEq, Repr

/-- The protection block outside its registers. -/
structure Pair where
  /-- The mode in force; `PX.CTRL.MODE` holds the mode asked for (R167, R172). -/
  mode : Nat := 0
  /-- MODE and PRIMARY before a write that R172 may undo. -/
  undo : Option (Nat × Nat) := none
  sw : Option SwitchOp := none
  guard : Bool := false
  /-- Triggers held until the pair is settled, and automatic triggers held until GUARD ends (R179). -/
  waiting : List Nat := []
  guarded : List Nat := []
  /-- Automatic triggers that hold and have been judged (R178). -/
  judged : List Nat := []
  step : StepPhase := .idle
  digest : Store (Option Nat) := []
  digestDiff : Bool := false
  /-- The claim last received of each engine stands in PX.CLAIMS; this tells which links carry good headers (R169). -/
  good : Store Bool := []
  ready : Bool := true
  /-- The referee has moved in a switch-over and the new active has not reached its ready point (R182). -/
  arming : Bool := false
  /-- Levels of the GPIO outputs, one bit each, when the gap of a switch-over began (R184). -/
  gpioHeld : Nat := 0
  /-- Both engines' receipt of the step mark in progress (R177). -/
  marksDue : List Engine := []
  /-- Frames the referee has admitted that wait at pipe 2, oldest first (R20): engine and bytes. -/
  admitted : List (Engine × List Byte) := []
  /-- Messages delivered to the carrier controller (R21): engine, kind, bytes. -/
  toController : List (Engine × Nat × List Byte) := []
  deriving DecidableEq, Repr

/-! ### The time engine -/

/-- A stamp of a capture input: the time in pips, and whether the edge rose (R217). -/
structure TinStamp where
  time : Nat
  rise : Bool
  deriving DecidableEq, Repr

/-- An entry of a port's stamp queue (R213): the stamp in pips, sequenceId, domainNumber, messageType. -/
structure TxStamp where
  time : Nat
  seqId : Nat
  domain : Nat
  msgType : Nat
  deriving DecidableEq, Repr

/-- The time engine outside its registers. Times are whole pips since 0.000000000 (R192). -/
structure TimeEngine where
  /-- The counters of the two domains. -/
  dom0 : Nat := 0
  dom1 : Nat := 0
  /-- The house offset in pips, and the domain that house time follows (R204). -/
  off : Int := 0
  sel : Fin 2 := 0
  /-- When the unbroken run of samples within ±50 ns of each servo began, in TIME cycles; none: its last sample lay outside
  (R196). -/
  calmAt : Store (Option Nat) := []
  /-- The integral of each servo's loop, and when the servo took its last sample, in TIME cycles (R196, R197). -/
  integ : Store Int := []
  smpAt : Store (Option Nat) := []
  /-- What ADJ has been since each servo entered Acquire, newest first, with the TIME cycle of each value: the last 60 s
  (R196). -/
  adjLog : Store (List (Nat × Int)) := []
  /-- The source of domain d has delivered a sample that its servo has not taken (R195). -/
  fresh : Store Bool := []
  /-- When domain d took its last PTP sample, in TIME cycles (R200). -/
  ptpAt : Store (Option Nat) := []
  /-- The synthesiser is in holdover (R209). -/
  freqHold : Bool := false
  /-- The unread stamps of each capture input, oldest first (R216, R217). -/
  tin : Store (List TinStamp) := []
  /-- When the last stamped edge of each input fell, in eighths of a TIME cycle, and both domain counters at it. -/
  tinAt : Store (Option Nat) := []
  tinDom : Store (Nat × Nat) := []
  /-- The stamp queue of each port, oldest first (R213). -/
  tsTx : Store (List TxStamp) := []
  /-- The level of each time output, its next rising edge, and where the pulse that is high falls (R218, R219). -/
  tout : Store Bool := []
  toutNext : Store (Option Nat) := []
  toutFall : Store (Option Nat) := []
  deriving DecidableEq, Repr

/-! ### Client lanes, ports and tie links -/

/-- What a client lane holds outside its registers: training attempts made, the polarity being tried, when it entered Up,
and that it is retired until a restore, in Off too (R232, R233, R236, R245). -/
structure LaneX where
  attempts : Nat := 0
  tryInv : Bool := false
  upAt : Nat := 0
  retired : Bool := false
  /-- The bits inverted by INJ_ONE and, up to the TIME cycle `injAt`, by INJ_RATE (R244). -/
  injected : Nat := 0
  injAt : Nat := 0
  /-- While the pattern checker is locked: the TIME cycle up to which its bit counter has counted (R243). -/
  bitsAt : Option Nat := none
  deriving DecidableEq, Repr

/-- What a client port holds outside its registers. -/
structure PortX where
  /-- End of the pause in force, in TIME cycles, and of each class's (R249). -/
  pauseUntil : Option Nat := none
  classPause : List (Nat × Nat) := []
  /-- Quanta of the last PAUSE or PFC frame sent; none: none in force (R250). -/
  pauseSent : Option Nat := none
  /-- When it was sent, in TIME cycles (R250). -/
  pauseAt : Nat := 0
  /-- A frame is held for TW_TX after a wake (R245). -/
  wakeHold : Bool := false
  /-- The MAC holds preemptable frames back (R352). -/
  held : Bool := false
  /-- The last frame that left the port. -/
  wire : List Byte := []
  /-- The preemptable frame that an express frame has cut, and how many of its bytes have left the port (R251). -/
  cut : Option (Nat × Nat) := none
  /-- The changes of MAX_FRAME, newest first: the TIME cycle of each and the value before it (R248). -/
  maxLog : List (Nat × Nat) := []
  /-- Unanswered verification attempts (R252). -/
  verifyTries : Nat := 0
  deriving DecidableEq, Repr

/-- One direction of a tie link. At its receiver: the SEQ it waits for, one beyond ACK; a NAK outstanding; failures of that
flit in a row; the bytes of the flit last delivered; the strikes of each data lane; the lane named in REPAIR until the new map is
in use (R239, R240). At its transmitter: the last 256 flits, oldest first, and the lane map: the data lanes that S1 and S0
carry. -/
structure TieDir where
  next : Option Nat := none
  nak : Bool := false
  fails : Nat := 0
  got : List Byte := []
  strikes : Store Nat := []
  repair : Option Nat := none
  kept : List (Nat × List Byte) := []
  onS1 : Option Nat := none
  onS0 : Option Nat := none
  deriving DecidableEq, Repr

/-- The two directions of a tie link. -/
structure TieLink where
  toHub : TieDir := {}
  toLine : TieDir := {}
  deriving DecidableEq, Repr

/-! ### Frames, parsing, classification and tiles -/

/-- What a pass hands to the classifier (Table 10-9). `opened`: it was parsed while its frame scope was open; `high` is
HIGH (R267); `deferred` is the deferred check: declared end, EXACT, TRUNC (R270). -/
structure ParseResult where
  num : Nat
  frame : Nat
  second : Bool
  source : Nat
  parity : Bool
  wstart : Nat
  status : Nat
  cause : Nat
  lastSq : Nat
  depth : Nat
  steps : Nat
  layers : Store (Option Nat)
  uflags : Nat
  trunc : Bool
  opened : Bool
  high : Nat
  deferred : Option (Nat × Bool × Bool)
  fields : Store Byte
  deriving DecidableEq, Repr

/-- A pass: its place in dispatch order, its frame, source, round parity, window start and window, and the end of its frame
scope counted from the window start (none: open, R256). -/
structure Pass where
  num : Nat
  frame : Nat
  second : Bool
  source : Nat
  parity : Bool
  wstart : Nat
  window : List Byte
  scopeEnd : Option Nat
  /-- Start square of a second pass whose action named one (R261). -/
  square : Option Nat
  rerun : Bool
  deriving DecidableEq, Repr

/-- A pass on a parse unit (R265). -/
structure ParseRun where
  pass : Pass
  regs : Store Word := []
  pc : Nat := 0
  cursor : Nat := 0
  /-- The next-square register; none: END. -/
  nsq : Option Nat := none
  sq : Nat := 0
  depth : Nat := 0
  steps : Nat := 0
  /-- Ends of the scopes above the frame scope, innermost first. -/
  scopes : List Nat := []
  layers : Store (Option Nat) := []
  fields : Store Byte := []
  uflags : Nat := 0
  trunc : Bool := false
  high : Nat := 0
  deferred : Option (Nat × Bool × Bool) := none
  deriving DecidableEq, Repr

/-- One pipe: the number of its next pass and of the next to release, its dispatch queue, the unit chosen last, results
that wait for release, and results that wait for the classifier (R257, R259). -/
structure PipeX where
  nextNum : Nat := 0
  relNum : Nat := 0
  queue : List Pass := []
  lastUnit : Nat := 15
  /-- The input of pipe 2 that was served last: 0 tie link A, 1 tie link B, 2 recirculation, 3 controller port (R24). -/
  lastInput : Nat := 3
  /-- Passes that are to be rerun and wait for an idle unit: they have kept their place in dispatch order (R275). -/
  reruns : List Pass := []
  results : List ParseResult := []
  released : List ParseResult := []
  deriving DecidableEq, Repr

/-- A frame in the hub. -/
structure Frame where
  /-- ORIGIN: source of its first pass (Table 11-2). -/
  origin : Nat
  bytes : List Byte
  /-- Its end has arrived; its FCS and length have been checked and found good (R16). -/
  whole : Bool := false
  checked : Bool := false
  /-- Version bit of the round it entered under (R297). -/
  parity : Bool := false
  head : Option Nat := none
  /-- The first pass's result, until its deferred check is judged (R271). -/
  result : Option ParseResult := none
  /-- Final action word, once classified, and the meter and round of a RECIRC word's second pass. -/
  action : Option Nat := none
  carry : Nat := 0
  meter : Option Nat := none
  red : Bool := false
  yellow : Bool := false
  /-- Its secure-channel operation before queueing has passed (R289, R290). -/
  verified : Bool := false
  /-- It is MACsec ciphertext of a channel of the terminal (R214). -/
  secured : Bool := false
  mark : SendMark := .plain
  /-- sequenceId, domainNumber and messageType of a marked frame (R213). -/
  ptp : Nat × Nat × Nat := (0, 0, 0)
  /-- A bounded length was truncated (R269, R271). -/
  trunc : Bool := false
  /-- Its first pass has entered a dispatch queue. -/
  passed : Bool := true
  /-- Ingress stamp in pips (R211). -/
  stamp : Nat := 0
  queue : Option Nat := none
  deriving DecidableEq, Repr

/-- A tile record that differs from a free tile of its bag at GEN 0 (R312): state 0 free, 1 used,
2 under test, 3 held, 4 lost under R314. -/
structure TileRec where
  state : Nat
  gen : Nat
  owner : Nat
  count : Nat
  head : Bool
  /-- NEXT, none when LAST. -/
  next : Option Nat
  deriving DecidableEq, Repr

/-- A bag's free handles: the hand, and the ring as runs of tiles (first, length), both oldest first (R317). -/
structure BagX where
  hand : List Nat := []
  ring : List (Nat × Nat) := []
  deriving DecidableEq, Repr

/-- The bags right after a reset: every tile in bag 0's ring (R329). -/
def bagReset (b : Nat) : BagX := if b = 0 then { ring := [(0, 387072)] } else {}

/-- The bag sizes laid out by the last INIT. -/
def sizeReset (b : Nat) : Nat := if b = 0 then 387072 else 0

/-- The bag manager outside its registers. -/
structure BagMgr where
  tiles : Store (Option TileRec) := []
  bags : Store BagX := []
  sizes : Store Nat := []
  /-- The bag being recounted, and those that wait (R328). -/
  recount : Option Nat := none
  waiting : List Nat := []
  deriving DecidableEq, Repr

/-- The classifier outside its registers. -/
structure Classifier where
  /-- Content words of the table windows by address (Table 11-17). -/
  mem : Store Word := []
  /-- Slot marks by address of the control word: bit 0 valid under parity 0, bit 1 under parity 1 (R292). -/
  marks : Store Nat := []
  /-- The content words marked BAD, by address (R302, R303). -/
  badWords : List Nat := []
  /-- Words of the parser and control banks, by 2^26 × parity + address, of whose two copies one (1) or both (2) are bad (R277). -/
  badCopy : Store Nat := []
  /-- What each word rewritten by a repair held when the current round was committed: its bank's CRC is held of that content
  (R305). -/
  golden : Store Word := []
  /-- The two control banks by 2^26 × parity + address, and the two parser banks likewise (R292, R279). -/
  ctl : Store Word := []
  parse : Store Word := []
  /-- A commit has been requested, with its time and whether it is held (R294 to R296). -/
  request : Option Nat := none
  /-- The TIME cycle of that request (R295). -/
  requestAt : Nat := 0
  /-- When the draining round began to drain, in TIME cycles (R299). -/
  drainFrom : Option Nat := none
  /-- The stamp of the edge that `CX.COMMIT.EDGE_ARM` waits for, once it has come, and whether it has requested the commit
  (R294). -/
  edgeAt : Option Nat := none
  edgeTaken : Bool := false
  /-- Banks being copied into their spare (R304), and the strikes that stand against each bank. -/
  retiring : List Nat := []
  strikes : Store Nat := []
  deriving DecidableEq, Repr
/-! ### The scheduler -/

/-- The operational copy of a turn list, beside its turns in `QS.TLl.OPER_TURN` (R348): its base in pips, its cycle in ns,
the number of its turns and its port. -/
structure OperList where
  base : Nat
  cycle : Nat
  len : Nat
  port : Nat
  deriving DecidableEq, Repr

/-- The queue and scheduler outside its registers. A child is a node 0 to 1,471, or queue q as 1,472 + q. -/
structure Sched where
  /-- The frames of each queue, oldest first. -/
  queues : Store (List Nat) := []
  /-- The tag of each child, and V of band b of node n at 8 n + b (R339). -/
  tags : Store Nat := []
  vt : Store Nat := []
  /-- Children that were eligible when last observed; when each of the others last was, in TIME cycles; and the parent
  and band under which each was last stamped, 8 n + b (R339, R341). -/
  live : List Nat := []
  lastOn : Store (Option Nat) := []
  place : Store (Option Nat) := []
  /-- Shaper buckets in 1/8,000 byte at a TIME cycle; none: full (R342). -/
  buckets : Store (Option (Int × Nat)) := []
  /-- Both buckets of a meter in 1/125,000 byte at a TIME cycle (R344). -/
  meters : Store (Nat × Nat × Nat) := []
  /-- Operational copies, and C of each pending change in pips (R348, R350). -/
  oper : Store (Option OperList) := []
  change : Store Nat := []
  /-- Configuration words whose two copies are both bad (R361). -/
  bad : List Nat := []
  /-- Frames selected for each L0 node that have not left it, oldest first (R337). -/
  egress : Store (List Nat) := []
  deriving DecidableEq, Repr
/-! ### The cipher engines -/

/-- A loaded key slot: the key, and an SA slot's salt and SSCI (R382). -/
structure CeKey where
  key : List Byte
  salt : List Byte := []
  ssci : List Byte := []
  deriving DecidableEq, Repr

/-- What an engine works on: a bulk frame, whether it may be suspended and when it is done, or its service job. -/
inductive CeWork where
  | bulk (frame : Nat) (preemptable : Bool) (done : Nat)
  | service
  deriving DecidableEq, Repr

/-- A cipher engine outside its registers: its work, its suspend slot, when its waiting service job was submitted, the
agent code that submitted it, the result of a job that has run, the key it leaves in D when it ends (slot, origin, key), and
whether it has been run again. -/
structure CeEngine where
  work : Option CeWork := none
  slot : Option CeWork := none
  go : Option Nat := none
  agent : Nat := 0
  result : Option Nat := none
  dest : Option (Nat × Nat × List Byte) := none
  rerun : Bool := false
  deriving DecidableEq, Repr

/-- What a key slot holds while nothing has been written: the transfer key in service slot 254, the module wrap key in
255 (R384, R388). SA slot a is slot a, service slot k is slot 8,192 + k. -/
def keyReset (k : Nat) : Option CeKey :=
  if k = 8446 then some { key := Config.transferKey 0 }
  else if k = 8447 then some { key := Config.moduleKey }
  else none

/-- The cipher engines outside their registers. -/
structure Cipher where
  engines : Store CeEngine := []
  keys : Store (Option CeKey) := []
  /-- The last-used check of each SA (R370), and the accepted packet numbers among the 64 below NEXT_PN (R372). -/
  checks : Store (Option Nat) := []
  seen : Store (List Nat) := []
  deriving DecidableEq, Repr
/-! ### The CBR framers -/

/-- A held segment (R406): its sequence number, the time of its first bit in pips, its flags LOS, LOF and TUNL, its payload,
its tiles and its arrival in pips. -/
structure HeldSeg where
  seq : Nat
  time : Nat
  los : Bool
  lof : Bool
  tunl : Bool
  payload : List Byte
  head : Option Nat
  arrived : Nat
  deriving DecidableEq, Repr

/-- One judged second of one layer and direction (R403): errored, severely errored, background errors, unavailable. -/
structure PmLayer where
  es : Bool := false
  ses : Bool := false
  bbe : Nat := 0
  uas : Bool := false
  deriving DecidableEq, Repr

/-- A judged second that waits for its bin: the generations of the two series at its end, and eight layers, near end 0 to 3
and far end 4 to 7 (R404). -/
structure PmSecond where
  gen15 : Nat
  gen24 : Nat
  layers : List PmLayer
  deriving DecidableEq, Repr

/-- A CBR framer outside its registers. -/
structure CbrX where
  /-- SEQ of the next segment, and the time of its first bit in pips (R397). -/
  seq : Nat := 0
  segStart : Nat := 0
  aligned : Bool := false
  /-- LOCK_N of the hunt in progress, where it was changed since the hunt began (R399). -/
  huntN : Option Nat := none
  /-- Frames in a row for and against each defect of Table 15-4; the candidate label with its count, and the accepted one. -/
  runs : Store Nat := []
  clears : Store Nat := []
  labelCand : Nat × Nat := (0, 0)
  label : Option Nat := none
  /-- Errored MFAS values in a row, and when out-of-multiframe began (R399). -/
  mfasBad : Nat := 0
  outSince : Option Nat := none
  inSince : Option Nat := none
  /-- Trace candidates with their counts, and accepted traces (R401). -/
  cand : Store (List Byte × Nat) := []
  accepted : Store (Option (List Byte)) := []
  /-- The open second: blocks, errored blocks by layer (near 0 to 3, far 4 to 7), and the defects seen in it. -/
  blocks : Nat := 0
  errored : Store Nat := []
  seen : Nat := 0
  /-- Bad and good seconds in a row of each dDEG. -/
  degBad : Store Nat := []
  degGood : Store Nat := []
  /-- Availability of each layer and direction, and seconds in a row against it (R403). -/
  unavail : Store Bool := []
  against : Store Nat := []
  seconds : List PmSecond := []
  gen15 : Nat := 0
  gen24 : Nat := 0
  /-- Held segments, NEXT (none: playout has not started), BUF in force in µs, and the last 64 played (R406, R407). -/
  held : List HeldSeg := []
  next : Option Nat := none
  buf : Nat := 1000
  played : List Nat := []
  /-- The last usable sample less the build-out offset and its time, the offset, since when every sample lies within
  ±100 ns, and far-off samples in a row (R409, R411). Samples are in pips. -/
  sample : Option Int := none
  sampleAt : Nat := 0
  buildOut : Int := 0
  goodSince : Option Nat := none
  farOff : Nat := 0
  deriving DecidableEq, Repr
/-! ### The line DSP cores -/

/-- The capture settings and the last end of one core for one channel (Table 16-10): MODE, TRIG, PERIOD, END. -/
structure CapSet where
  mode : Nat := 0
  trig : Nat := 0
  period : Nat := 1
  fin : Nat := 0
  deriving DecidableEq, Repr

/-- A capture buffer (R442, R443): its owner (0 none, 1 core 0, 2 core 1), STATE, COUNT, the start words, its samples, and
the samples whose parity is bad (R446). -/
structure CapBuf where
  owner : Nat := 0
  st : Nat := 0
  count : Nat := 0
  sfc : Nat := 0
  ui : Nat := 0
  /-- The capture begins at a PSync: its GO found TRIG at 0b01 (R443). -/
  atPsync : Bool := false
  samples : Store Byte := []
  bad : List Nat := []
  deriving DecidableEq, Repr

/-- What a register of Table 16-3 reads after a reset (R421, Table 16-4): SW reads LEN, the others 0. -/
def dspRegReset (code : Nat) : Nat := if code = 0x35 then 0x80 else 0

/-- A DSP core outside its `LE.DSP` registers. -/
structure DspCore where
  /-- The registers of Table 16-3 by code; the accumulators whole, 40 bits, at 0x10 to 0x13; the loop registers and LEN as
  the loop hardware sees them. -/
  r : Store Nat := []
  /-- The address of the next instruction. -/
  next : Nat := 0
  /-- Delay slots still to come, where control continues after them, and whether the branch was RTI (R424). -/
  slots : Nat := 0
  target : Option Nat := none
  rti : Bool := false
  /-- Loads of the last instruction that have not landed: D register and value (R422, R423). -/
  loads : List (Nat × Nat) := []
  /-- An and Mn registers written by MOV or LDI in the last instruction, as address generation still sees them (R422). -/
  old : List (Nat × Nat) := []
  /-- Writes of loop registers that the loop hardware does not see yet: code, value, issues still to come (R422). -/
  late : List (Nat × Nat × Nat) := []
  /-- The instruction last issued stood at the end of this level and has not been judged (R426). -/
  judge : Option Nat := none
  /-- The level whose body the repeat cache holds (R428). -/
  cache : Option Nat := none
  /-- ISW holds an entry that has not been returned (R436). -/
  entered : Bool := false
  /-- Retired: recorded in the keeper island (R447). -/
  retired : Bool := false
  /-- Half a watchdog period has passed since the last KICK (R441). -/
  half : Bool := false
  prog : Store Word := []
  x : Store Byte := []
  y : Store Byte := []
  /-- CAUSE.ADDR, CAUSE.KIND and the CODE of the last TRAP. -/
  causeAddr : Nat := 0
  causeKind : Nat := 0
  code : Nat := 0
  reload : Store Nat := []
  ien : Nat := 0
  ipend : Nat := 0
  caps : Store CapSet := []
  deriving DecidableEq, Repr

/-! ### The keeper island, the message gate and the event fabric -/

/-- A message in the gate or a host mailbox (R469, R475): its kind or TYPE, and its bytes. -/
structure GateMsg where
  kind : Nat
  bytes : List Byte
  deriving DecidableEq, Repr

/-- A settings record (R459): its domain (0 carrier, 1 tenant, 2 keeper), key and value. -/
structure SetRec where
  dom : Nat
  key : Nat
  value : List Byte
  deriving DecidableEq, Repr

/-- A record that waits for flash: a value, or none for a DELETE; `begun`: its program has started (R462, R463). -/
structure JournalItem where
  dom : Nat
  key : Nat
  value : Option (List Byte)
  begun : Bool
  deriving DecidableEq, Repr

/-- The option bytes in force (Table 17-2). -/
structure OptBytes where
  flags : Nat
  flashMode : Nat
  flashClk : Nat
  imgA : Nat
  imgB : Option Nat
  /-- Offset of journal area 0 and the size of each area; none on safe defaults (R453). -/
  jrnl : Option (Nat × Nat)
  wiThr : Nat
  dgThr : Nat
  pfail : Nat
  mgmtPort : Nat
  mgmtVlan : Nat
  deriving DecidableEq, Repr

/-- The keeper island outside its registers: what the flash holds is 0xFF where nothing has been programmed. -/
structure Keeper where
  flash : Store Byte := []
  /-- The size of the attached flash in bytes, as its SFDP table reports it (Table 17-2's text). DESIGN CHOICE: 64 MiB, log 8. -/
  flashSize : Nat := 67108864
  /-- The option bytes that govern; none before the first boot. -/
  opt : Option OptBytes := none
  /-- The running image: its offset, its header FLAGS, and whether its configuration waits to be committed (R455). -/
  image : Option Nat := none
  imgFlags : Nat := 0
  /-- Owner key 0 is revoked in the one-time store (R455). -/
  revoked0 : Bool := false
  /-- The boot sequence has run since the last MODULE or FULL release (R457). -/
  booted : Bool := false
  /-- The retained settings store, and whether it is valid (R459). -/
  recs : List SetRec := []
  storeValid : Bool := false
  /-- Records that wait for flash, oldest first, the active journal area, the next free offset in it and the highest SEQ
  written (R460 to R462). -/
  journal : List JournalItem := []
  area : Option Nat := none
  jPos : Nat := 0
  jSeq : Nat := 0
  /-- The power-fail monitor is armed, and the load has been shed (R465). -/
  armed : Bool := false
  shed : Bool := false
  /-- Messages toward the carrier (0), the tenant (1) and the host (2), and from the host (3), oldest first (R470). -/
  gate : Store (List GateMsg) := []
  /-- Result byte of the last HOSTLINK transaction, and the last reply on HOST_MISO (R473). -/
  hostResult : Nat := 0
  hostReply : List Byte := []
  /-- Reset sources that stand asserted, by bit of Table 19-5, and the RESET_N drive (R511). -/
  asserted : Nat := 0
  driving : Bool := false
  /-- A MODULE or FULL reset has come, or no image passes: the controllers wait for step 0x2 of the boot (R453, R457). -/
  unreleased : Bool := false
  /-- When each watchdog was last kicked, in TIME cycles (R514). -/
  kicked : Store Nat := []
  /-- THERM_N is driven low (R515). -/
  hot : Bool := false
  /-- Step of Table 19-3 whose domain is asked (0: none) and since when, in TIME cycles; the steps whose domains have
  stopped; and the latched wake event (R498 to R503). -/
  restStep : Nat := 0
  askedAt : Nat := 0
  stopSteps : List Nat := []
  wake : Option WakeEvent := none
  /-- Counters of the scoreboard by source, and WRAP words by group (R483, R484). -/
  counts : Store Nat := []
  wraps : Store Word := []
  /-- Pending and enable words by 64 × bank + group (R486). -/
  pend : Store Word := []
  enab : Store Word := []
  /-- `SB.PERMIT` (R489). -/
  permit : Nat := 0
  /-- ALARM_N is held low until STAGE 0x5, and until each domain's SETTINGS_DONE (Table 19-8). -/
  alarmBoot : Bool := true
  alarmC : Bool := false
  alarmT : Bool := false
  deriving DecidableEq, Repr

/-- The state of the terminal. -/
structure State where
  /-- The commands that wait, first in, first out. -/
  pending : List Instr := []
  /-- TIME cycles counted by the idle step; the model's own clock. -/
  now : Nat := 0
  /-- Index of the next free value; the model's own field. -/
  freeCtr : Nat := 0
  /-- Identity of the next frame; the model's own field. -/
  nextId : Nat := 1
  regs : Store Word := []
  /-- Agents held in reset: they issue no access (R1). -/
  stopped : List Agent := []
  /-- The last answer to a read of each agent (R1, R9). -/
  rdata : Store Word := []
  snaps : List Snapshot := []
  aside : List HeldWord := []
  /-- The tally of each event source (R481). -/
  tally : Store Nat := []
  chans : Store Chan := []
  lines : Store Line := []
  pair : Pair := {}
  te : TimeEngine := {}
  lanes : Store LaneX := []
  ports : Store PortX := []
  ties : Store TieLink := []
  frames : Store (Option Frame) := []
  pipes : Store PipeX := []
  units : Store (Option ParseRun) := []
  unitStrikes : Store Nat := []
  /-- Frames queued for the recirculation port (R290): frame, WOFF position, start square. -/
  recirc : List (Nat × Nat × Option Nat) := []
  /-- Frames from the tenant controller port that wait for their pass, and frames delivered to it with their trailers. -/
  ctlSend : List Nat := []
  ctlRecv : List (List Byte) := []
  bm : BagMgr := {}
  cx : Classifier := {}
  qs : Sched := {}
  ce : Cipher := {}
  /-- The controllers' and the housekeeper's own memories, by 2^23 × (0 carrier, 1 tenant, 2 keeper) + byte offset (R378). -/
  sram : Store Byte := []
  cbr : Store CbrX := []
  /-- The DSP cores by their number, and the capture buffers by 4 × engine + channel. -/
  dsp : Store DspCore := []
  capBufs : Store CapBuf := []
  kp : Keeper := {}
  deriving DecidableEq, Repr

/-- The terminal right after reset: every register at its Reset column, every queue and store empty, no time counted. -/
def State.reset : State := {}

/-- Reasons for which the terminal stops. None: a refused access or an error is an effect on the state (R1), never a
stop of the machine. -/
inductive Fault where
  deriving DecidableEq, Repr

/-- Reasons for which a command has no meaning. -/
inductive Refusal where
  /-- The command has no meaning in this model yet: raised by the arm of `exec` alone; safe. -/
  | notModelled (mnemonic : String)
  deriving DecidableEq, Repr

end Sys2Proof.Machine
end

