-- ==== Sys2Proof/Machine/RegNames.lean ====
section
/-! DEFINITION. The names of the registers and of their fields, each from the register table its comment cites:
a register name gives the address of the word, a field name its place. -/
namespace Sys2Proof.Machine
set_option linter.unusedVariables false

/-- Table 02-6. -/
def PFE_CTRL (e : Nat) : Nat := 0x08C00000 + 0x4000000 * e
/-- Table 02-6. -/
def PFE_CTRL_RX_EN (e : Nat) : Fld := ⟨PFE_CTRL e, 19, 16⟩
/-- Table 02-6. -/
def PFE_CTRL_TX_EN (e : Nat) : Fld := ⟨PFE_CTRL e, 15, 12⟩
/-- Table 02-6. -/
def PFE_CTRL_COOL_EN (e : Nat) : Fld := ⟨PFE_CTRL e, 8, 8⟩
/-- Table 02-7. -/
def PFE_STATUS (e : Nat) : Nat := 0x08C00004 + 0x4000000 * e
/-- Table 02-7. -/
def PFE_STATUS_LATCH (e : Nat) : Fld := ⟨PFE_STATUS e, 31, 28⟩
/-- Table 02-7. -/
def PFE_STATUS_LIGHT (e : Nat) : Fld := ⟨PFE_STATUS e, 27, 24⟩
/-- Table 02-7. -/
def PFE_STATUS_ROGUE_OFF (e : Nat) : Fld := ⟨PFE_STATUS e, 23, 20⟩
/-- Table 02-7. -/
def PFE_STATUS_RX_LOS (e : Nat) : Fld := ⟨PFE_STATUS e, 19, 16⟩
/-- Table 02-7. -/
def PFE_STATUS_INHIBIT (e : Nat) : Fld := ⟨PFE_STATUS e, 15, 15⟩
/-- Table 02-7. -/
def PFE_STATUS_PERMIT (e : Nat) : Fld := ⟨PFE_STATUS e, 14, 14⟩
/-- Table 02-7. -/
def PFE_STATUS_TEMP_OK (e : Nat) : Fld := ⟨PFE_STATUS e, 13, 13⟩
/-- Table 02-7. -/
def PFE_STATUS_TEMP_GATE (e : Nat) : Fld := ⟨PFE_STATUS e, 12, 12⟩
/-- Table 02-8. -/
def PFE_FLAGS (e : Nat) : Nat := 0x08C00008 + 0x4000000 * e
/-- Table 02-9. -/
def PFE_TEMP (e : Nat) : Nat := 0x08C0000C + 0x4000000 * e
/-- Table 02-9. -/
def PFE_TEMP_ARRAY_T (e : Nat) : Fld := ⟨PFE_TEMP e, 31, 16⟩
/-- Table 02-9. -/
def PFE_TEMP_TEC_I (e : Nat) : Fld := ⟨PFE_TEMP e, 15, 0⟩
/-- Table 02-10. -/
def PFE_TXMON (e : Nat) (c : Nat) : Nat := 0x08C00010 + 0x4000000 * e + 0x4 * c
/-- Table 02-10. -/
def PFE_TXMON_TXPWR (e : Nat) (c : Nat) : Fld := ⟨PFE_TXMON e c, 31, 16⟩
/-- Table 02-10. -/
def PFE_TXMON_BIAS (e : Nat) (c : Nat) : Fld := ⟨PFE_TXMON e c, 15, 0⟩
/-- Table 02-11. -/
def PFE_RXMON (e : Nat) (c : Nat) : Nat := 0x08C00020 + 0x4000000 * e + 0x4 * c
/-- Table 02-11. -/
def PFE_RXMON_RXPWR (e : Nat) (c : Nat) : Fld := ⟨PFE_RXMON e c, 31, 16⟩
/-- Table 02-11. -/
def PFE_RXMON_APD_V (e : Nat) (c : Nat) : Fld := ⟨PFE_RXMON e c, 15, 0⟩
/-- Table 03-5. -/
def TC_ACT_CTRL (e : Nat) : Nat := 0x08000100 + 0x4000000 * e
/-- Table 03-5. -/
def TC_ACT_CTRL_CH_JOIN (e : Nat) : Fld := ⟨TC_ACT_CTRL e, 11, 9⟩
/-- Table 03-5. -/
def TC_ACT_CTRL_DEACT (e : Nat) : Fld := ⟨TC_ACT_CTRL e, 2, 2⟩
/-- Table 03-5. -/
def TC_ACT_CTRL_BACKOFF_EN (e : Nat) : Fld := ⟨TC_ACT_CTRL e, 1, 1⟩
/-- Table 03-5. -/
def TC_ACT_CTRL_ACT_EN (e : Nat) : Fld := ⟨TC_ACT_CTRL e, 0, 0⟩
/-- Table 03-6. -/
def TC_ACT_STATUS (e : Nat) : Nat := 0x08000104 + 0x4000000 * e
/-- Table 03-6. -/
def TC_ACT_STATUS_OMCC_UP (e : Nat) : Fld := ⟨TC_ACT_STATUS e, 17, 17⟩
/-- Table 03-6. -/
def TC_ACT_STATUS_DISABLED (e : Nat) : Fld := ⟨TC_ACT_STATUS e, 16, 16⟩
/-- Table 03-7. -/
def TC_ONU_ID (e : Nat) : Nat := 0x08000108 + 0x4000000 * e
/-- Table 03-7. -/
def TC_ONU_ID_ONU_ID (e : Nat) : Fld := ⟨TC_ONU_ID e, 9, 0⟩
/-- Table 03-8. -/
def TC_DISC_CFG (e : Nat) : Nat := 0x0800010C + 0x4000000 * e
/-- Table 03-8. -/
def TC_DISC_CFG_ROLL_SPAN (e : Nat) : Fld := ⟨TC_DISC_CFG e, 10, 0⟩
/-- Table 03-9. -/
def TC_DISC_STAT (e : Nat) : Nat := 0x08000110 + 0x4000000 * e
/-- Table 03-9. -/
def TC_DISC_STAT_LAST_ROLL (e : Nat) : Fld := ⟨TC_DISC_STAT e, 26, 16⟩
/-- Table 03-9. -/
def TC_DISC_STAT_TRIES (e : Nat) : Fld := ⟨TC_DISC_STAT e, 7, 0⟩
/-- Table 03-10. -/
def TC_TIMERS (e : Nat) : Nat := 0x08000114 + 0x4000000 * e
/-- Table 03-11. -/
def TC_EQD (e : Nat) (c : Nat) : Nat := 0x08000120 + 0x4000000 * e + 0x4 * c
/-- Table 03-11. -/
def TC_EQD_VALID (e : Nat) (c : Nat) : Fld := ⟨TC_EQD e c, 31, 31⟩
/-- Table 03-11. -/
def TC_EQD_EQD (e : Nat) (c : Nat) : Fld := ⟨TC_EQD e c, 25, 0⟩
/-- Table 03-12. -/
def TC_SERIAL_VID (e : Nat) : Nat := 0x08000130 + 0x4000000 * e
/-- Table 03-12. -/
def TC_SERIAL_NUM (e : Nat) : Nat := 0x08000134 + 0x4000000 * e
/-- Table 03-13. -/
def TC_ACT_FLAGS (e : Nat) : Nat := 0x08000138 + 0x4000000 * e
/-- Table 03-14. -/
def TC_REG_ID (e : Nat) (w : Nat) : Nat := 0x08000140 + 0x4000000 * e + 0x4 * w
/-- Table 04-5. -/
def TC_CNT (e : Nat) (c : Nat) (k : Nat) : Nat := 0x08000400 + 0x4000000 * e + 0x80 * c + 0x8 * k
/-- R103. -/
def TC_HDR_DROP (e : Nat) : Nat := 0x08000600 + 0x4000000 * e
/-- Table 04-6. -/
def TC_SYNC_CFG (e : Nat) : Nat := 0x08000200 + 0x4000000 * e
/-- Table 04-6. -/
def TC_SYNC_CFG_PSYNC_TOL (e : Nat) : Fld := ⟨TC_SYNC_CFG e, 20, 16⟩
/-- Table 04-6. -/
def TC_SYNC_CFG_LOSS_M (e : Nat) : Fld := ⟨TC_SYNC_CFG e, 12, 8⟩
/-- Table 04-6. -/
def TC_SYNC_CFG_LOCK_N (e : Nat) : Fld := ⟨TC_SYNC_CFG e, 3, 0⟩
/-- Table 04-7. -/
def TC_DS_STATUS (e : Nat) : Nat := 0x08000204 + 0x4000000 * e
/-- Table 04-7. -/
def TC_DS_STATUS_SF (e : Nat) : Fld := ⟨TC_DS_STATUS e, 15, 12⟩
/-- Table 04-7. -/
def TC_DS_STATUS_SD (e : Nat) : Fld := ⟨TC_DS_STATUS e, 11, 8⟩
/-- Table 04-7. -/
def TC_DS_STATUS_SFC_VALID (e : Nat) : Fld := ⟨TC_DS_STATUS e, 7, 4⟩
/-- Table 04-7. -/
def TC_DS_STATUS_LOCK (e : Nat) : Fld := ⟨TC_DS_STATUS e, 3, 0⟩
/-- Table 04-8. -/
def TC_DEF_CFG (e : Nat) : Nat := 0x08000208 + 0x4000000 * e
/-- Table 04-8. -/
def TC_DEF_CFG_CLEAR (e : Nat) : Fld := ⟨TC_DEF_CFG e, 31, 24⟩
/-- Table 04-8. -/
def TC_DEF_CFG_SET (e : Nat) : Fld := ⟨TC_DEF_CFG e, 23, 16⟩
/-- Table 04-8. -/
def TC_DEF_CFG_SF_CW (e : Nat) : Fld := ⟨TC_DEF_CFG e, 15, 8⟩
/-- Table 04-8. -/
def TC_DEF_CFG_SD_THR (e : Nat) : Fld := ⟨TC_DEF_CFG e, 6, 0⟩
/-- Table 04-9. -/
def TC_DS_FLAGS (e : Nat) : Nat := 0x08000214 + 0x4000000 * e
/-- Table 04-10. -/
def TC_SFC (e : Nat) (c : Nat) : Nat := 0x08000220 + 0x4000000 * e + 0x8 * c
/-- Table 04-10. -/
def TC_SFC_SFC_LO (e : Nat) (c : Nat) : Fld := ⟨TC_SFC e c, 31, 0⟩
/-- Table 04-10. -/
def TC_SFC_SFC_HI (e : Nat) (c : Nat) : Fld := ⟨TC_SFC e c + 4, 18, 0⟩
/-- Table 04-11. -/
def TC_KEY_CMD (e : Nat) : Nat := 0x08000240 + 0x4000000 * e
/-- Table 04-11. -/
def TC_KEY_CMD_LOAD_ERR (e : Nat) : Fld := ⟨TC_KEY_CMD e, 8, 8⟩
/-- Table 04-11. -/
def TC_KEY_CMD_SLOT (e : Nat) : Fld := ⟨TC_KEY_CMD e, 5, 4⟩
/-- Table 04-11. -/
def TC_KEY_CMD_LOAD (e : Nat) : Fld := ⟨TC_KEY_CMD e, 1, 1⟩
/-- Table 04-11. -/
def TC_KEY_CMD_GEN (e : Nat) : Fld := ⟨TC_KEY_CMD e, 0, 0⟩
/-- Table 04-12. -/
def TC_KEY_STATUS (e : Nat) : Nat := 0x08000244 + 0x4000000 * e
/-- Table 04-12. -/
def TC_KEY_STATUS_LAST_UK (e : Nat) : Fld := ⟨TC_KEY_STATUS e, 5, 4⟩
/-- Table 04-13. -/
def TC_KEY_OUT (e : Nat) (w : Nat) : Nat := 0x08000250 + 0x4000000 * e + 0x4 * w
/-- Table 04-13. -/
def TC_KEY_IN (e : Nat) (w : Nat) : Nat := 0x08000270 + 0x4000000 * e + 0x4 * w
/-- Table 04-14. -/
def TC_PORT_FILTER (e : Nat) (i : Nat) : Nat := 0x08001000 + 0x4000000 * e + 0x4 * i
/-- Table 08-20. -/
def TC_TOD_SFC (e : Nat) : Nat := 0x08000300 + 0x4000000 * e
/-- Table 08-20. -/
def TC_TOD_TIME (e : Nat) : Nat := 0x08000304 + 0x4000000 * e
/-- Table 08-20. -/
def TC_TOD_TEQD (e : Nat) : Nat := 0x08000314 + 0x4000000 * e
/-- Table 08-20. -/
def TC_TOD_TEQD_TOD_TEQD (e : Nat) : Fld := ⟨TC_TOD_TEQD e, 27, 0⟩
/-- Table 08-20. -/
def TC_TOD_ASYM (e : Nat) : Nat := 0x08000318 + 0x4000000 * e
/-- Table 08-20. -/
def TC_TOD_CTRL (e : Nat) : Nat := 0x0800031C + 0x4000000 * e
/-- Table 08-20. -/
def TC_TOD_CTRL_TRIM (e : Nat) : Fld := ⟨TC_TOD_CTRL e, 31, 16⟩
/-- Table 08-20. -/
def TC_TOD_CTRL_STALE (e : Nat) : Fld := ⟨TC_TOD_CTRL e, 2, 2⟩
/-- Table 08-20. -/
def TC_TOD_CTRL_VALID (e : Nat) : Fld := ⟨TC_TOD_CTRL e, 1, 1⟩
/-- Table 08-20. -/
def TC_TOD_CTRL_ARM (e : Nat) : Fld := ⟨TC_TOD_CTRL e, 0, 0⟩
/-- Table 05-8. -/
def BOND_CTRL (e : Nat) : Nat := 0x08400000 + 0x4000000 * e
/-- Table 05-8. -/
def BOND_CTRL_SD_SITOUT (e : Nat) : Fld := ⟨BOND_CTRL e, 12, 12⟩
/-- Table 05-8. -/
def BOND_CTRL_MEMBER (e : Nat) : Fld := ⟨BOND_CTRL e, 3, 0⟩
/-- Table 05-9. -/
def BOND_CFG (e : Nat) : Nat := 0x08400004 + 0x4000000 * e
/-- Table 05-9. -/
def BOND_CFG_LATE_THR (e : Nat) : Fld := ⟨BOND_CFG e, 15, 8⟩
/-- Table 05-9. -/
def BOND_CFG_SKEW_WIN (e : Nat) : Fld := ⟨BOND_CFG e, 7, 0⟩
/-- Table 05-10. -/
def BOND_CH_STATE (e : Nat) : Nat := 0x08400008 + 0x4000000 * e
/-- Table 05-11. -/
def BOND_BUF (e : Nat) : Nat := 0x0840000C + 0x4000000 * e
/-- Table 05-11. -/
def BOND_BUF_HWM (e : Nat) : Fld := ⟨BOND_BUF e, 31, 16⟩
/-- Table 05-11. -/
def BOND_BUF_USED (e : Nat) : Fld := ⟨BOND_BUF e, 15, 0⟩
/-- Table 05-12. -/
def BOND_DS_CHMAP (e : Nat) : Nat := 0x08400010 + 0x4000000 * e
/-- Table 05-12. -/
def BOND_DS_CHMAP_VALID (e : Nat) : Fld := ⟨BOND_DS_CHMAP e, 31, 31⟩
/-- Table 05-12. -/
def BOND_DS_CHMAP_CHMAP (e : Nat) : Fld := ⟨BOND_DS_CHMAP e, 3, 0⟩
/-- Table 05-13. -/
def BOND_US_BONDED (e : Nat) (w : Nat) : Nat := 0x08400014 + 0x4000000 * e + 0x4 * w
/-- Table 05-13. -/
def BOND_US_BONDED_SLOTS (e : Nat) (w : Nat) : Fld := ⟨BOND_US_BONDED e w, 31, 0⟩
/-- Table 05-14. -/
def BOND_SIT_CAUSE (e : Nat) : Nat := 0x0840001C + 0x4000000 * e
/-- Table 05-15. -/
def BOND_LAG (e : Nat) (c : Nat) : Nat := 0x08400020 + 0x4000000 * e + 0x4 * c
/-- Table 05-15. -/
def BOND_LAG_LAG (e : Nat) (c : Nat) : Fld := ⟨BOND_LAG e c, 15, 0⟩
/-- Table 05-16. -/
def BOND_FLAGS (e : Nat) : Nat := 0x08400030 + 0x4000000 * e
/-- Table 05-7. -/
def BOND_CNT (e : Nat) (k : Nat) : Nat := 0x08400100 + 0x4000000 * e + 0x8 * k
/-- Table 05-7. -/
def BOND_CHCNT (e : Nat) (c : Nat) (k : Nat) : Nat := 0x08400200 + 0x4000000 * e + 0x40 * c + 0x8 * k
/-- Table 06-6. -/
def BURST_PM_CTRL (e : Nat) : Nat := 0x08800000 + 0x4000000 * e
/-- Table 06-6. -/
def BURST_PM_CTRL_EXIT (e : Nat) : Fld := ⟨BURST_PM_CTRL e, 1, 1⟩
/-- Table 06-7. -/
def BURST_ROOM (e : Nat) : Nat := 0x08800010 + 0x4000000 * e
/-- Table 06-7. -/
def BURST_ROOM_LOW (e : Nat) : Fld := ⟨BURST_ROOM e, 28, 16⟩
/-- Table 06-7. -/
def BURST_ROOM_FREE (e : Nat) : Fld := ⟨BURST_ROOM e, 12, 0⟩
/-- Table 06-8. -/
def BURST_PM_CFG (e : Nat) : Nat := 0x08800020 + 0x4000000 * e
/-- Table 06-8. -/
def BURST_PM_CFG_THOLD (e : Nat) : Fld := ⟨BURST_PM_CFG e, 13, 6⟩
/-- Table 06-8. -/
def BURST_PM_CFG_LOCAL_WAKE (e : Nat) : Fld := ⟨BURST_PM_CFG e, 2, 2⟩
/-- Table 06-8. -/
def BURST_PM_CFG_MODE (e : Nat) : Fld := ⟨BURST_PM_CFG e, 1, 0⟩
/-- Table 06-9. -/
def BURST_PM_STATUS (e : Nat) : Nat := 0x08800024 + 0x4000000 * e
/-- Table 06-9. -/
def BURST_PM_STATUS_WAKE_CAUSE (e : Nat) : Fld := ⟨BURST_PM_STATUS e, 10, 8⟩
/-- Table 06-9. -/
def BURST_PM_STATUS_STATE (e : Nat) : Fld := ⟨BURST_PM_STATUS e, 2, 0⟩
/-- Table 06-10. -/
def BURST_FLAGS (e : Nat) : Nat := 0x08800030 + 0x4000000 * e
/-- Table 06-11. -/
def BURST_SLOT (e : Nat) (s : Nat) : Nat := 0x08800100 + 0x4000000 * e + 0x4 * s
/-- Table 06-11. -/
def BURST_SLOT_VALID (e : Nat) (s : Nat) : Fld := ⟨BURST_SLOT e s, 31, 31⟩
/-- Table 06-11. -/
def BURST_SLOT_CH (e : Nat) (s : Nat) : Fld := ⟨BURST_SLOT e s, 29, 28⟩
/-- Table 06-11. -/
def BURST_SLOT_CELLS (e : Nat) (s : Nat) : Fld := ⟨BURST_SLOT e s, 27, 16⟩
/-- Table 06-11. -/
def BURST_SLOT_ALLOC_ID (e : Nat) (s : Nat) : Fld := ⟨BURST_SLOT e s, 13, 0⟩
/-- Table 06-12. -/
def BURST_QPORT (e : Nat) (q : Nat) : Nat := 0x08800400 + 0x4000000 * e + 0x4 * q
/-- Table 06-12. -/
def BURST_QPORT_VALID (e : Nat) (q : Nat) : Fld := ⟨BURST_QPORT e q, 31, 31⟩
/-- Table 06-12. -/
def BURST_QPORT_ENC (e : Nat) (q : Nat) : Fld := ⟨BURST_QPORT e q, 30, 30⟩
/-- Table 06-12. -/
def BURST_QPORT_PORTID (e : Nat) (q : Nat) : Fld := ⟨BURST_QPORT e q, 15, 0⟩
/-- Table 06-5. -/
def BURST_CNT (e : Nat) (c : Nat) (k : Nat) : Nat := 0x08801000 + 0x4000000 * e + 0x80 * c + 0x8 * k
/-- Table 06-5. -/
def BURST_FLUSHED (e : Nat) : Nat := 0x08801200 + 0x4000000 * e
/-- Table 07-8. -/
def PX_CTRL : Nat := 0x04C00000
/-- Table 07-8. -/
def PX_CTRL_RESTEP : Fld := ⟨PX_CTRL, 16, 16⟩
/-- Table 07-8. -/
def PX_CTRL_AUTO_EN : Fld := ⟨PX_CTRL, 12, 12⟩
/-- Table 07-8. -/
def PX_CTRL_FORCE : Fld := ⟨PX_CTRL, 9, 9⟩
/-- Table 07-8. -/
def PX_CTRL_SWITCH : Fld := ⟨PX_CTRL, 8, 8⟩
/-- Table 07-8. -/
def PX_CTRL_PRIMARY : Fld := ⟨PX_CTRL, 4, 4⟩
/-- Table 07-8. -/
def PX_CTRL_MODE : Fld := ⟨PX_CTRL, 1, 0⟩
/-- Table 07-9. -/
def PX_CFG : Nat := 0x04C00004
/-- Table 07-9. -/
def PX_CFG_GUARD : Fld := ⟨PX_CFG, 23, 16⟩
/-- Table 07-9. -/
def PX_CFG_SD_COUNT : Fld := ⟨PX_CFG, 10, 8⟩
/-- Table 07-9. -/
def PX_CFG_RECOVERY : Fld := ⟨PX_CFG, 6, 0⟩
/-- Table 07-10. -/
def PX_STATUS : Nat := 0x04C00008
/-- Table 07-10. -/
def PX_STATUS_LAST_CAUSE : Fld := ⟨PX_STATUS, 10, 8⟩
/-- Table 07-10. -/
def PX_STATUS_PRACTICE : Fld := ⟨PX_STATUS, 7, 7⟩
/-- Table 07-10. -/
def PX_STATUS_PHASE : Fld := ⟨PX_STATUS, 6, 5⟩
/-- Table 07-10. -/
def PX_STATUS_STEP : Fld := ⟨PX_STATUS, 4, 4⟩
/-- Table 07-10. -/
def PX_STATUS_ACTIVE : Fld := ⟨PX_STATUS, 0, 0⟩
/-- Table 07-11. -/
def PX_CLAIMS : Nat := 0x04C0000C
/-- Table 07-11. -/
def PX_CLAIMS_CLAIM_B : Fld := ⟨PX_CLAIMS, 31, 16⟩
/-- Table 07-11. -/
def PX_CLAIMS_CLAIM_A : Fld := ⟨PX_CLAIMS, 15, 0⟩
/-- Table 07-12. -/
def PX_FLAGS : Nat := 0x04C00010
/-- Table 07-13. -/
def PX_LAST_SWITCH : Nat := 0x04C00020
/-- Table 07-7. -/
def PX_CNT (k : Nat) : Nat := 0x04C00100 + 0x8 * k
/-- Table 07-7. -/
def PX_HDR_DROP (e : Nat) : Nat := 0x04C00160 + 0x8 * e
/-- Table 09-15. -/
def PX_FLIT (e : Nat) (k : Nat) : Nat := 0x04C00140 + 0x10 * e + 0x8 * k
/-- Table 09-14. -/
def PX_TIE_CFG : Nat := 0x04C00700
/-- Table 09-14. -/
def PX_TIE_CFG_RETRAIN_A : Fld := ⟨PX_TIE_CFG, 10, 10⟩
/-- Table 09-14. -/
def PX_TIE_FLAGS : Nat := 0x04C00704
/-- Table 09-15. -/
def PX_TIE_STATUS (n : Nat) : Nat := 0x04C00800 + 0x400 * n
/-- Table 09-15. -/
def PX_TIE_STATUS_TRAINS (n : Nat) : Fld := ⟨PX_TIE_STATUS n, 15, 8⟩
/-- Table 09-15. -/
def PX_TIE_STATUS_CHK_LINE (n : Nat) : Fld := ⟨PX_TIE_STATUS n, 2, 2⟩
/-- Table 09-15. -/
def PX_TIE_STATUS_CHK_HUB (n : Nat) : Fld := ⟨PX_TIE_STATUS n, 1, 1⟩
/-- Table 09-15. -/
def PX_TIE_STATUS_UP (n : Nat) : Fld := ⟨PX_TIE_STATUS n, 0, 0⟩
/-- Table 09-15. -/
def PX_TIE_HUB (n : Nat) (d : Nat) : Nat := 0x04C00804 + 0x400 * n + 0x4 * d
/-- Table 09-15. -/
def PX_TIE_HUB_S1_USED (n : Nat) (d : Nat) : Fld := ⟨PX_TIE_HUB n d, 21, 21⟩
/-- Table 09-15. -/
def PX_TIE_HUB_S0_USED (n : Nat) (d : Nat) : Fld := ⟨PX_TIE_HUB n d, 20, 20⟩
/-- Table 09-15. -/
def PX_TIE_HUB_RETIRED (n : Nat) (d : Nat) : Fld := ⟨PX_TIE_HUB n d, 19, 0⟩
/-- Table 09-15. -/
def PX_TIE_LAT (n : Nat) : Nat := 0x04C0080C + 0x400 * n
/-- Table 09-15. -/
def PX_TIE_LAT_LAT_LINE (n : Nat) : Fld := ⟨PX_TIE_LAT n, 31, 16⟩
/-- Table 09-15. -/
def PX_TIE_LAT_LAT_HUB (n : Nat) : Fld := ⟨PX_TIE_LAT n, 15, 0⟩
/-- Table 16-12. -/
def DSP_CTRL (e : Nat) (k : Nat) : Nat := 0x09000000 + 0x4000000 * e + 0x80 * k
/-- Table 16-12. -/
def DSP_CTRL_WDOG (e : Nat) (k : Nat) : Fld := ⟨DSP_CTRL e k, 23, 16⟩
/-- Table 16-12. -/
def DSP_CTRL_RUN (e : Nat) (k : Nat) : Fld := ⟨DSP_CTRL e k, 0, 0⟩
/-- Table 16-12. -/
def DSP_STATUS (e : Nat) (k : Nat) : Nat := 0x09000004 + 0x4000000 * e + 0x80 * k
/-- Table 16-12. -/
def DSP_STATUS_PC (e : Nat) (k : Nat) : Fld := ⟨DSP_STATUS e k, 30, 16⟩
/-- Table 16-12. -/
def DSP_STATUS_STRIKES (e : Nat) (k : Nat) : Fld := ⟨DSP_STATUS e k, 13, 12⟩
/-- Table 16-12. -/
def DSP_STATUS_CAUSE (e : Nat) (k : Nat) : Fld := ⟨DSP_STATUS e k, 11, 8⟩
/-- Table 16-12. -/
def DSP_STATUS_STATE (e : Nat) (k : Nat) : Fld := ⟨DSP_STATUS e k, 2, 0⟩
/-- Table 16-12. -/
def DSP_MBOX (e : Nat) (k : Nat) : Nat := 0x09000008 + 0x4000000 * e + 0x80 * k
/-- Table 16-12. -/
def DSP_MBOX_OUT_FULL (e : Nat) (k : Nat) : Fld := ⟨DSP_MBOX e k, 1, 1⟩
/-- Table 16-12. -/
def DSP_MBOX_IN_FULL (e : Nat) (k : Nat) : Fld := ⟨DSP_MBOX e k, 0, 0⟩
/-- Table 16-12. -/
def DSP_MBOX_IN (e : Nat) (k : Nat) (w : Nat) : Nat := 0x09000020 + 0x4000000 * e + 0x80 * k + 0x4 * w
/-- Table 16-12. -/
def DSP_MBOX_OUT (e : Nat) (k : Nat) (w : Nat) : Nat := 0x09000040 + 0x4000000 * e + 0x80 * k + 0x4 * w
/-- Table 16-12. -/
def DSP_FLAGS (e : Nat) : Nat := 0x09000100 + 0x4000000 * e
/-- Table 16-12. -/
def DSP_STRIKE_CFG (e : Nat) : Nat := 0x09000104 + 0x4000000 * e
/-- Table 16-12. -/
def DSP_CNT (e : Nat) (k : Nat) (j : Nat) : Nat := 0x09000400 + 0x4000000 * e + 0x40 * k + 0x8 * j
/-- Table 08-10. -/
def TE_HOUSE_CFG : Nat := 0x00800010
/-- Table 08-10. -/
def TE_HOUSE_CFG_SLEW : Fld := ⟨TE_HOUSE_CFG, 19, 16⟩
/-- Table 08-10. -/
def TE_HOUSE_CFG_FOLLOW_PX : Fld := ⟨TE_HOUSE_CFG, 8, 8⟩
/-- Table 08-10. -/
def TE_HOUSE_CFG_STEP_EN : Fld := ⟨TE_HOUSE_CFG, 4, 4⟩
/-- Table 08-10. -/
def TE_HOUSE_CFG_SEL : Fld := ⟨TE_HOUSE_CFG, 0, 0⟩
/-- Table 08-12. -/
def TE_FREQ_CFG : Nat := 0x00800020
/-- Table 08-12. -/
def TE_FREQ_CFG_LANE : Fld := ⟨TE_FREQ_CFG, 14, 8⟩
/-- Table 08-12. -/
def TE_FREQ_CFG_FOUT_FREQ : Fld := ⟨TE_FREQ_CFG, 7, 7⟩
/-- Table 08-12. -/
def TE_FREQ_CFG_FOUT_EN : Fld := ⟨TE_FREQ_CFG, 6, 6⟩
/-- Table 08-12. -/
def TE_FREQ_CFG_REF_FREQ : Fld := ⟨TE_FREQ_CFG, 5, 4⟩
/-- Table 08-12. -/
def TE_FREQ_CFG_FSRC : Fld := ⟨TE_FREQ_CFG, 2, 0⟩
/-- Table 08-13. -/
def TE_FLAGS : Nat := 0x00800030
/-- Table 08-14. -/
def TE_DOM_CFG (d : Nat) : Nat := 0x00800110 + 0x80 * d
/-- Table 08-14. -/
def TE_DOM_CFG_HOLD_TO (d : Nat) : Fld := ⟨TE_DOM_CFG d, 31, 24⟩
/-- Table 08-14. -/
def TE_DOM_CFG_STEP_THR (d : Nat) : Fld := ⟨TE_DOM_CFG d, 23, 12⟩
/-- Table 08-14. -/
def TE_DOM_CFG_TIN (d : Nat) : Fld := ⟨TE_DOM_CFG d, 11, 9⟩
/-- Table 08-14. -/
def TE_DOM_CFG_BW (d : Nat) : Fld := ⟨TE_DOM_CFG d, 8, 6⟩
/-- Table 08-14. -/
def TE_DOM_CFG_SOURCE (d : Nat) : Fld := ⟨TE_DOM_CFG d, 2, 0⟩
/-- Table 08-15. -/
def TE_DOM_ADJ (d : Nat) : Nat := 0x00800114 + 0x80 * d
/-- Table 08-15. -/
def TE_DOM_STATUS (d : Nat) : Nat := 0x00800118 + 0x80 * d
/-- Table 08-15. -/
def TE_DOM_STATUS_LAST_OFF (d : Nat) : Fld := ⟨TE_DOM_STATUS d, 31, 16⟩
/-- Table 08-15. -/
def TE_DOM_STATUS_STATE (d : Nat) : Fld := ⟨TE_DOM_STATUS d, 1, 0⟩
/-- Table 08-15. -/
def TE_DOM_SAMPLE (d : Nat) : Nat := 0x00800120 + 0x80 * d
/-- Table 08-16. -/
def TE_TOUT (n : Nat) : Nat := 0x00800400 + 0x20 * n
/-- Table 08-16. -/
def TE_TOUT_COMP (n : Nat) : Fld := ⟨TE_TOUT n, 31, 16⟩
/-- Table 08-16. -/
def TE_TOUT_MODE (n : Nat) : Fld := ⟨TE_TOUT n, 1, 0⟩
/-- Table 08-16. -/
def TE_TOUT_PERIOD (n : Nat) : Nat := 0x00800404 + 0x20 * n
/-- Table 08-16. -/
def TE_TOUT_WIDTH (n : Nat) : Nat := 0x00800408 + 0x20 * n
/-- Table 08-16. -/
def TE_TOUT_START (n : Nat) : Nat := 0x00800410 + 0x20 * n
/-- Table 08-17. -/
def TE_TIN_CFG (n : Nat) : Nat := 0x00800600 + 0x4 * n
/-- Table 08-17. -/
def TE_TIN_CFG_REF (n : Nat) : Fld := ⟨TE_TIN_CFG n, 3, 2⟩
/-- Table 08-17. -/
def TE_TIN_CFG_EDGE (n : Nat) : Fld := ⟨TE_TIN_CFG n, 1, 0⟩
/-- Table 08-18. -/
def TE_ACT_TIME (i : Nat) : Nat := 0x00801000 + 0x20 * i
/-- Table 08-18. -/
def TE_ACT_CTRL (i : Nat) : Nat := 0x00801010 + 0x20 * i
/-- Table 08-18. -/
def TE_ACT_PERIOD (i : Nat) : Nat := 0x00801014 + 0x20 * i
/-- Table 08-18. -/
def TE_ACT_TIME_C (i : Nat) : Nat := 0x00801600 + 0x20 * i
/-- Table 08-18. -/
def TE_ACT_CTRL_C (i : Nat) : Nat := 0x00801610 + 0x20 * i
/-- Table 08-18. -/
def TE_ACT_PERIOD_C (i : Nat) : Nat := 0x00801614 + 0x20 * i
/-- Table 08-19. -/
def CM_TS_CORR (p : Nat) : Nat := 0x01400800 + 0x1000 * p
/-- Table 08-19. -/
def CM_TS_CORR_RX_CORR (p : Nat) : Fld := ⟨CM_TS_CORR p, 31, 16⟩
/-- Table 08-19. -/
def CM_TS_CORR_TX_CORR (p : Nat) : Fld := ⟨CM_TS_CORR p, 15, 0⟩
/-- Table 09-5. -/
def CL_CFG (l : Nat) : Nat := 0x01000000 + 0x1000 * l
/-- Table 09-5. -/
def CL_CFG_WAKE_EN (l : Nat) : Fld := ⟨CL_CFG l, 23, 23⟩
/-- Table 09-5. -/
def CL_CFG_POL_AUTO (l : Nat) : Fld := ⟨CL_CFG l, 21, 21⟩
/-- Table 09-5. -/
def CL_CFG_RX_POL (l : Nat) : Fld := ⟨CL_CFG l, 20, 20⟩
/-- Table 09-5. -/
def CL_CFG_TRAIN_EN (l : Nat) : Fld := ⟨CL_CFG l, 18, 18⟩
/-- Table 09-5. -/
def CL_CFG_ANEG_EN (l : Nat) : Fld := ⟨CL_CFG l, 17, 17⟩
/-- Table 09-5. -/
def CL_CFG_TX_EN (l : Nat) : Fld := ⟨CL_CFG l, 16, 16⟩
/-- Table 09-5. -/
def CL_CFG_FEC (l : Nat) : Fld := ⟨CL_CFG l, 9, 8⟩
/-- Table 09-5. -/
def CL_CFG_MODE (l : Nat) : Fld := ⟨CL_CFG l, 7, 4⟩
/-- Table 09-5. -/
def CL_CFG_EN (l : Nat) : Fld := ⟨CL_CFG l, 0, 0⟩
/-- Table 09-6. -/
def CL_STATUS (l : Nat) : Nat := 0x01000004 + 0x1000 * l
/-- Table 09-6. -/
def CL_STATUS_CAUSE (l : Nat) : Fld := ⟨CL_STATUS l, 15, 12⟩
/-- Table 09-6. -/
def CL_STATUS_STRIKES (l : Nat) : Fld := ⟨CL_STATUS l, 11, 10⟩
/-- Table 09-6. -/
def CL_STATUS_LPI_TX (l : Nat) : Fld := ⟨CL_STATUS l, 9, 9⟩
/-- Table 09-6. -/
def CL_STATUS_LPI_RX (l : Nat) : Fld := ⟨CL_STATUS l, 8, 8⟩
/-- Table 09-6. -/
def CL_STATUS_CHK_LOCK (l : Nat) : Fld := ⟨CL_STATUS l, 7, 7⟩
/-- Table 09-6. -/
def CL_STATUS_CDR (l : Nat) : Fld := ⟨CL_STATUS l, 6, 6⟩
/-- Table 09-6. -/
def CL_STATUS_SIG (l : Nat) : Fld := ⟨CL_STATUS l, 5, 5⟩
/-- Table 09-6. -/
def CL_STATUS_RX_INV (l : Nat) : Fld := ⟨CL_STATUS l, 4, 4⟩
/-- Table 09-6. -/
def CL_STATUS_STAGE (l : Nat) : Fld := ⟨CL_STATUS l, 3, 0⟩
/-- Table 09-7. -/
def CL_FLAGS (l : Nat) : Nat := 0x01000008 + 0x1000 * l
/-- Table 09-8. -/
def CL_PRBS (l : Nat) : Nat := 0x01000010 + 0x1000 * l
/-- Table 09-8. -/
def CL_PRBS_INJ_RATE (l : Nat) : Fld := ⟨CL_PRBS l, 20, 16⟩
/-- Table 09-8. -/
def CL_PRBS_INJ_ONE (l : Nat) : Fld := ⟨CL_PRBS l, 8, 8⟩
/-- Table 09-8. -/
def CL_PRBS_CHK_EN (l : Nat) : Fld := ⟨CL_PRBS l, 1, 1⟩
/-- Table 09-8. -/
def CL_PRBS_GEN_EN (l : Nat) : Fld := ⟨CL_PRBS l, 0, 0⟩
/-- Table 09-8. -/
def CL_PRBS_CNT (l : Nat) (k : Nat) : Nat := 0x01000020 + 0x1000 * l + 0x8 * k
/-- Table 09-9. -/
def CL_QUAD_CFG (q : Nat) : Nat := 0x01000100 + 0x4000 * q
/-- Table 09-9. -/
def CL_QUAD_CFG_MODE100 (q : Nat) : Fld := ⟨CL_QUAD_CFG q, 2, 1⟩
/-- Table 09-9. -/
def CL_QUAD_CFG_PORT100 (q : Nat) : Fld := ⟨CL_QUAD_CFG q, 0, 0⟩
/-- Table 09-9. -/
def CL_QUAD_STATUS (q : Nat) : Nat := 0x01000104 + 0x4000 * q
/-- Table 09-9. -/
def CL_QUAD_STATUS_SKEW (q : Nat) : Fld := ⟨CL_QUAD_STATUS q, 31, 16⟩
/-- Table 09-9. -/
def CL_QUAD_STATUS_ALIGNED (q : Nat) : Fld := ⟨CL_QUAD_STATUS q, 9, 9⟩
/-- Table 09-9. -/
def CL_QUAD_STATUS_REVERSED (q : Nat) : Fld := ⟨CL_QUAD_STATUS q, 8, 8⟩
/-- Table 09-9. -/
def CL_QUAD_STATUS_RX_MAP (q : Nat) : Fld := ⟨CL_QUAD_STATUS q, 7, 0⟩
/-- Table 09-10. -/
def CL_STRIKE_CFG : Nat := 0x01080000
/-- Table 09-11. -/
def CM_CFG (p : Nat) : Nat := 0x01400000 + 0x1000 * p
/-- Table 09-11. -/
def CM_CFG_MAX_FRAME (p : Nat) : Fld := ⟨CM_CFG p, 29, 16⟩
/-- Table 09-11. -/
def CM_CFG_PAUSE_RX (p : Nat) : Fld := ⟨CM_CFG p, 4, 4⟩
/-- Table 09-11. -/
def CM_CFG_PAUSE_MODE (p : Nat) : Fld := ⟨CM_CFG p, 3, 2⟩
/-- Table 09-11. -/
def CM_CFG_EN (p : Nat) : Fld := ⟨CM_CFG p, 0, 0⟩
/-- Table 09-11. -/
def CM_QUANTA (p : Nat) : Nat := 0x01400004 + 0x1000 * p
/-- Table 09-11. -/
def CM_QUANTA_QUANTA (p : Nat) : Fld := ⟨CM_QUANTA p, 15, 0⟩
/-- Table 09-11. -/
def CM_MM (p : Nat) : Nat := 0x01400008 + 0x1000 * p
/-- Table 09-11. -/
def CM_MM_EXPRESS (p : Nat) : Fld := ⟨CM_MM p, 31, 24⟩
/-- Table 09-11. -/
def CM_MM_MM_STATE (p : Nat) : Fld := ⟨CM_MM p, 18, 16⟩
/-- Table 09-11. -/
def CM_MM_ADD_FRAG (p : Nat) : Fld := ⟨CM_MM p, 3, 2⟩
/-- Table 09-11. -/
def CM_MM_VERIFY_DIS (p : Nat) : Fld := ⟨CM_MM p, 1, 1⟩
/-- Table 09-11. -/
def CM_MM_PREEMPT_EN (p : Nat) : Fld := ⟨CM_MM p, 0, 0⟩
/-- Table 09-11. -/
def CM_LPI (p : Nat) : Nat := 0x0140000C + 0x1000 * p
/-- Table 09-11. -/
def CM_LPI_TX_EN (p : Nat) : Fld := ⟨CM_LPI p, 0, 0⟩
/-- Table 09-12. -/
def CM_FLAGS (p : Nat) : Nat := 0x01400010 + 0x1000 * p
/-- Table 09-13. -/
def CM_CNT (p : Nat) (k : Nat) : Nat := 0x01400400 + 0x1000 * p + 0x8 * k
/-- Table 10-11. -/
def PA_STAGE : Nat := 0x02000000
/-- Table 10-11. -/
def PA_STAGE_STAGE_BANK : Fld := ⟨PA_STAGE, 8, 8⟩
/-- Table 10-11. -/
def PA_STAGE_CUR_BANK : Fld := ⟨PA_STAGE, 4, 4⟩
/-- Table 10-11. -/
def PA_STAGE_READY : Fld := ⟨PA_STAGE, 1, 1⟩
/-- Table 10-11. -/
def PA_STAGE_BUSY : Fld := ⟨PA_STAGE, 0, 0⟩
/-- Table 10-12. -/
def PA_FLAGS : Nat := 0x02000008
/-- Table 10-10. -/
def PA_CNT (p : Nat) (k : Nat) : Nat := 0x02000100 + 0x80 * p + 0x8 * k
/-- Table 10-13. -/
def PA_STRIKE_CFG : Nat := 0x0200000C
/-- Table 10-14. -/
def PA_UNITS (p : Nat) : Nat := 0x02000010 + 0x4 * p
/-- Table 10-14. -/
def PA_UNITS_IN_SERVICE (p : Nat) : Fld := ⟨PA_UNITS p, 15, 0⟩
/-- Table 10-15. -/
def PA_QUEUE (p : Nat) : Nat := 0x02000020 + 0x4 * p
/-- Table 10-15. -/
def PA_QUEUE_HWM (p : Nat) : Fld := ⟨PA_QUEUE p, 24, 16⟩
/-- Table 10-15. -/
def PA_QUEUE_DEPTH (p : Nat) : Fld := ⟨PA_QUEUE p, 8, 0⟩
/-- Table 11-9. -/
def CX_ROUND : Nat := 0x02400000
/-- Table 11-9. -/
def CX_STATE : Nat := 0x02400004
/-- Table 11-9. -/
def CX_STATE_DRAIN_HWM : Fld := ⟨CX_STATE, 31, 20⟩
/-- Table 11-9. -/
def CX_STATE_LAST_RESULT : Fld := ⟨CX_STATE, 6, 5⟩
/-- Table 11-9. -/
def CX_STATE_PARITY : Fld := ⟨CX_STATE, 4, 4⟩
/-- Table 11-9. -/
def CX_STATE_HELD : Fld := ⟨CX_STATE, 3, 3⟩
/-- Table 11-9. -/
def CX_STATE_SWEEP : Fld := ⟨CX_STATE, 2, 2⟩
/-- Table 11-9. -/
def CX_STATE_DRAINING : Fld := ⟨CX_STATE, 1, 1⟩
/-- Table 11-9. -/
def CX_STATE_READY : Fld := ⟨CX_STATE, 0, 0⟩
/-- Table 11-10. -/
def CX_COMMIT : Nat := 0x02400008
/-- Table 11-10. -/
def CX_COMMIT_EDGE_TIN : Fld := ⟨CX_COMMIT, 26, 24⟩
/-- Table 11-10. -/
def CX_COMMIT_CHECK_EN : Fld := ⟨CX_COMMIT, 9, 9⟩
/-- Table 11-10. -/
def CX_COMMIT_EDGE_ARM : Fld := ⟨CX_COMMIT, 8, 8⟩
/-- Table 11-10. -/
def CX_COMMIT_NOW : Fld := ⟨CX_COMMIT, 0, 0⟩
/-- Table 11-11. -/
def CX_COMMIT_DIGEST : Nat := 0x02400010
/-- Table 11-11. -/
def CX_DIGEST_CUR : Nat := 0x02400018
/-- Table 11-11. -/
def CX_DIGEST_STAGE : Nat := 0x02400020
/-- Table 11-11. -/
def CX_LAST_COMMIT : Nat := 0x02400030
/-- Table 11-12. -/
def CX_FLAGS : Nat := 0x02400040
/-- Table 11-12. -/
def CX_STRIKE_CFG : Nat := 0x02400044
/-- Table 11-8. -/
def CX_CNT (k : Nat) : Nat := 0x02400100 + 0x8 * k
/-- Table 11-8. -/
def CX_DEFCNT (k : Nat) : Nat := 0x02400200 + 0x8 * k
/-- Table 11-13. -/
def CX_BANK (b : Nat) : Nat := 0x02400400 + 0x4 * b
/-- Table 11-13. -/
def CX_BANK_REPAIR_DONE (b : Nat) : Fld := ⟨CX_BANK b, 30, 30⟩
/-- Table 11-13. -/
def CX_BANK_ERR (b : Nat) : Fld := ⟨CX_BANK b, 29, 29⟩
/-- Table 11-13. -/
def CX_BANK_RETIRED (b : Nat) : Fld := ⟨CX_BANK b, 28, 28⟩
/-- Table 11-13. -/
def CX_BANK_STRIKES (b : Nat) : Fld := ⟨CX_BANK b, 27, 26⟩
/-- Table 11-13. -/
def CX_BANK_FIRST_BAD (b : Nat) : Fld := ⟨CX_BANK b, 16, 0⟩
/-- Table 12-7. -/
def BM_CTRL : Nat := 0x04000000
/-- Table 12-7. -/
def BM_CTRL_RECOUNT_BAG : Fld := ⟨BM_CTRL, 13, 8⟩
/-- Table 12-7. -/
def BM_STATUS : Nat := 0x04000004
/-- Table 12-7. -/
def BM_STATUS_HELD : Fld := ⟨BM_STATUS, 31, 20⟩
/-- Table 12-7. -/
def BM_STATUS_LEAKED : Fld := ⟨BM_STATUS, 19, 2⟩
/-- Table 12-7. -/
def BM_STATUS_BUSY : Fld := ⟨BM_STATUS, 1, 1⟩
/-- Table 12-7. -/
def BM_STATUS_READY : Fld := ⟨BM_STATUS, 0, 0⟩
/-- Table 12-8. -/
def BM_FLAGS : Nat := 0x04000008
/-- Table 12-9. -/
def BM_ALLOC : Nat := 0x04000010
/-- Table 12-9. -/
def BM_FREE : Nat := 0x04000014
/-- Table 12-9. -/
def BM_SHARE : Nat := 0x04000018
/-- Table 12-9. -/
def BM_ALLOC_BAG : Nat := 0x0400001C
/-- Table 12-9. -/
def BM_ALLOC_BAG_ALLOC_BAG : Fld := ⟨BM_ALLOC_BAG, 5, 0⟩
/-- Table 12-10. -/
def BM_LAST_REJECT : Nat := 0x04000020
/-- Table 12-6. -/
def BM_CNT (k : Nat) : Nat := 0x04000200 + 0x8 * k
/-- Table 12-6. -/
def BM_NO_TILE (b : Nat) : Nat := 0x04000800 + 0x8 * b
/-- Table 12-11. -/
def BM_BAG_TILES (b : Nat) : Nat := 0x04001000 + 0x10 * b
/-- Table 12-11. -/
def BM_BAG_TILES_TILES (b : Nat) : Fld := ⟨BM_BAG_TILES b, 18, 0⟩
/-- Table 12-11. -/
def BM_BAG_XON (b : Nat) : Nat := 0x04001004 + 0x10 * b
/-- Table 12-11. -/
def BM_BAG_XON_XON (b : Nat) : Fld := ⟨BM_BAG_XON b, 31, 16⟩
/-- Table 12-11. -/
def BM_BAG_XON_XOFF (b : Nat) : Fld := ⟨BM_BAG_XON b, 15, 0⟩
/-- Table 12-11. -/
def BM_BAG_FREE (b : Nat) : Nat := 0x04001008 + 0x10 * b
/-- Table 12-11. -/
def BM_BAG_FREE_XOFF_ST (b : Nat) : Fld := ⟨BM_BAG_FREE b, 31, 31⟩
/-- Table 12-11. -/
def BM_BAG_FREE_FREE (b : Nat) : Fld := ⟨BM_BAG_FREE b, 18, 0⟩
/-- Table 12-11. -/
def BM_BAG_LOW (b : Nat) : Nat := 0x0400100C + 0x10 * b
/-- Table 12-11. -/
def BM_BAG_LOW_LOW (b : Nat) : Fld := ⟨BM_BAG_LOW b, 18, 0⟩
/-- Table 12-12. -/
def BM_SRCMAP (i : Nat) : Nat := 0x04000400 + 0x4 * i
/-- Table 12-12. -/
def BM_SRCMAP_BAG (i : Nat) : Fld := ⟨BM_SRCMAP i, 5, 0⟩
/-- Table 13-6. -/
def QS_CFG : Nat := 0x04400000
/-- Table 13-6. -/
def QS_CFG_CPUQ : Fld := ⟨QS_CFG, 28, 16⟩
/-- Table 13-6. -/
def QS_CFG_LEAD : Fld := ⟨QS_CFG, 15, 8⟩
/-- Table 13-6. -/
def QS_CFG_PRACTICE_ALL : Fld := ⟨QS_CFG, 0, 0⟩
/-- Table 13-6. -/
def QS_STATUS : Nat := 0x04400004
/-- Table 13-6. -/
def QS_FLAGS : Nat := 0x04400008
/-- Table 13-5. -/
def QS_CNT (k : Nat) : Nat := 0x04400100 + 0x8 * k
/-- Table 13-7. -/
def QS_NODE (n : Nat) : Nat := 0x04410000 + 0x8 * n
/-- Table 13-7. -/
def QS_NODE_VALID (n : Nat) : Fld := ⟨QS_NODE n, 31, 31⟩
/-- Table 13-7. -/
def QS_NODE_BAND (n : Nat) : Fld := ⟨QS_NODE n, 30, 28⟩
/-- Table 13-7. -/
def QS_NODE_WEIGHT (n : Nat) : Fld := ⟨QS_NODE n, 27, 18⟩
/-- Table 13-7. -/
def QS_NODE_PARENT (n : Nat) : Fld := ⟨QS_NODE n, 10, 0⟩
/-- Table 13-7. -/
def QS_NODE_OH (n : Nat) : Nat := 0x04410004 + 0x8 * n
/-- Table 13-7. -/
def QS_NODE_OH_OVERHEAD (n : Nat) : Fld := ⟨QS_NODE_OH n, 7, 0⟩
/-- Table 13-8. -/
def QS_SHAPER (s : Nat) : Nat := 0x04420000 + 0x4 * s
/-- Table 13-8. -/
def QS_SHAPER_RATE (s : Nat) : Fld := ⟨QS_SHAPER s, 31, 12⟩
/-- Table 13-8. -/
def QS_SHAPER_BURST (s : Nat) : Fld := ⟨QS_SHAPER s, 11, 0⟩
/-- Table 13-9. -/
def QS_Q (q : Nat) : Nat := 0x04440000 + 0x20 * q
/-- Table 13-9. -/
def QS_Q_VALID (q : Nat) : Fld := ⟨QS_Q q, 31, 31⟩
/-- Table 13-9. -/
def QS_Q_BAND (q : Nat) : Fld := ⟨QS_Q q, 30, 28⟩
/-- Table 13-9. -/
def QS_Q_WEIGHT (q : Nat) : Fld := ⟨QS_Q q, 27, 18⟩
/-- Table 13-9. -/
def QS_Q_PARENT (q : Nat) : Fld := ⟨QS_Q q, 10, 0⟩
/-- Table 13-9. -/
def QS_QGATE (q : Nat) : Nat := 0x04440004 + 0x20 * q
/-- Table 13-9. -/
def QS_QGATE_GATE_EN (q : Nat) : Fld := ⟨QS_QGATE q, 31, 31⟩
/-- Table 13-9. -/
def QS_QGATE_GATE_LIST (q : Nat) : Fld := ⟨QS_QGATE q, 30, 24⟩
/-- Table 13-9. -/
def QS_QGATE_GATE_BIT (q : Nat) : Fld := ⟨QS_QGATE q, 23, 21⟩
/-- Table 13-9. -/
def QS_QGATE_LINE (q : Nat) : Fld := ⟨QS_QGATE q, 20, 20⟩
/-- Table 13-9. -/
def QS_QGATE_LQ (q : Nat) : Fld := ⟨QS_QGATE q, 19, 11⟩
/-- Table 13-9. -/
def QS_QMAX (q : Nat) : Nat := 0x04440008 + 0x20 * q
/-- Table 13-9. -/
def QS_QMAX_YMAX (q : Nat) : Fld := ⟨QS_QMAX q, 31, 16⟩
/-- Table 13-9. -/
def QS_QMAX_MAX (q : Nat) : Fld := ⟨QS_QMAX q, 15, 0⟩
/-- Table 13-9. -/
def QS_QTILES (q : Nat) : Nat := 0x0444000C + 0x20 * q
/-- Table 13-9. -/
def QS_QTILES_TILES (q : Nat) : Fld := ⟨QS_QTILES q, 18, 0⟩
/-- Table 13-9. -/
def QS_QFRAMES (q : Nat) : Nat := 0x04440010 + 0x20 * q
/-- Table 13-9. -/
def QS_QFRAMES_FRAMES (q : Nat) : Fld := ⟨QS_QFRAMES q, 19, 0⟩
/-- Table 13-9. -/
def QS_QBLOCK (q : Nat) : Nat := 0x04440014 + 0x20 * q
/-- Table 13-9. -/
def QS_QCNT (q : Nat) (k : Nat) : Nat := 0x04480000 + 0x20 * q + 0x8 * k
/-- Table 13-10. -/
def QS_METER (m : Nat) : Nat := 0x04500000 + 0x10 * m
/-- Table 13-10. -/
def QS_METER_MODE (m : Nat) : Fld := ⟨QS_METER m, 31, 30⟩
/-- Table 13-10. -/
def QS_METER_AWARE (m : Nat) : Fld := ⟨QS_METER m, 29, 29⟩
/-- Table 13-10. -/
def QS_METER_PRACTICE (m : Nat) : Fld := ⟨QS_METER m, 28, 28⟩
/-- Table 13-10. -/
def QS_METER_CIR (m : Nat) : Fld := ⟨QS_METER m, 23, 0⟩
/-- Table 13-10. -/
def QS_METER_EIR (m : Nat) : Fld := ⟨QS_METER m + 4, 23, 0⟩
/-- Table 13-10. -/
def QS_METER_EBS (m : Nat) : Fld := ⟨QS_METER m + 8, 31, 16⟩
/-- Table 13-10. -/
def QS_METER_CBS (m : Nat) : Fld := ⟨QS_METER m + 8, 15, 0⟩
/-- Table 13-10. -/
def QS_METER_LAST (m : Nat) : Nat := 0x0450000C + 0x10 * m
/-- Table 13-10. -/
def QS_METER_LAST_LAST (m : Nat) : Fld := ⟨QS_METER_LAST m, 1, 0⟩
/-- Table 13-11. -/
def QS_MCNT (m : Nat) (k : Nat) : Nat := 0x04600000 + 0x18 * m + 0x8 * k
/-- Table 13-12. -/
def QS_TL_TURN (l : Nat) (t : Nat) : Nat := 0x04780000 + 0x1000 * l + 0x4 * t
/-- Table 13-12. -/
def QS_TL_OPER (l : Nat) (t : Nat) : Nat := 0x04780400 + 0x1000 * l + 0x4 * t
/-- Table 13-12. -/
def QS_TL_BASE (l : Nat) : Nat := 0x04780800 + 0x1000 * l
/-- Table 13-12. -/
def QS_TL_CYCLE (l : Nat) : Nat := 0x0478080C + 0x1000 * l
/-- Table 13-12. -/
def QS_TL_CTRL (l : Nat) : Nat := 0x04780810 + 0x1000 * l
/-- Table 13-12. -/
def QS_TL_CTRL_PENDING (l : Nat) : Fld := ⟨QS_TL_CTRL l, 29, 29⟩
/-- Table 13-12. -/
def QS_TL_CTRL_OPER (l : Nat) : Fld := ⟨QS_TL_CTRL l, 28, 28⟩
/-- Table 13-12. -/
def QS_TL_CTRL_PORT (l : Nat) : Fld := ⟨QS_TL_CTRL l, 22, 16⟩
/-- Table 13-12. -/
def QS_TL_CTRL_LEN (l : Nat) : Fld := ⟨QS_TL_CTRL l, 8, 0⟩
/-- Table 13-12. -/
def QS_TL_CHANGE (l : Nat) : Nat := 0x04780814 + 0x1000 * l
/-- Table 13-12. -/
def QS_TL_OCYCLE (l : Nat) : Nat := 0x04780820 + 0x1000 * l
/-- Table 13-12. -/
def QS_TL_CUR (l : Nat) : Nat := 0x04780824 + 0x1000 * l
/-- Table 13-12. -/
def QS_TL_CUR_CUR_TURN (l : Nat) : Fld := ⟨QS_TL_CUR l, 7, 0⟩
/-- Table 14-7. -/
def CE_CTRL : Nat := 0x04800000
/-- Table 14-7. -/
def CE_STATUS : Nat := 0x04800004
/-- Table 14-7. -/
def CE_STATUS_SUSP : Fld := ⟨CE_STATUS, 31, 28⟩
/-- Table 14-7. -/
def CE_STATUS_STRIKES : Fld := ⟨CE_STATUS, 27, 20⟩
/-- Table 14-7. -/
def CE_STATUS_STAND_IN : Fld := ⟨CE_STATUS, 11, 4⟩
/-- Table 14-7. -/
def CE_STATUS_IN_SERVICE : Fld := ⟨CE_STATUS, 3, 0⟩
/-- Table 14-7. -/
def CE_FLAGS : Nat := 0x04800008
/-- Table 14-7. -/
def CE_STRIKE_CFG : Nat := 0x0480000C
/-- Table 14-8. -/
def CE_PAWN (e : Nat) : Nat := 0x04800100 + 0x80 * e
/-- Table 14-8. -/
def CE_PAWN_HOLDER (e : Nat) : Fld := ⟨CE_PAWN e, 2, 0⟩
/-- Table 14-8. -/
def CE_OP (e : Nat) : Nat := 0x04800104 + 0x80 * e
/-- Table 14-8. -/
def CE_OP_GO (e : Nat) : Fld := ⟨CE_OP e, 31, 31⟩
/-- Table 14-8. -/
def CE_OP_URGENT (e : Nat) : Fld := ⟨CE_OP e, 30, 30⟩
/-- Table 14-8. -/
def CE_OP_KSA (e : Nat) : Fld := ⟨CE_OP e, 29, 29⟩
/-- Table 14-8. -/
def CE_OP_DSA (e : Nat) : Fld := ⟨CE_OP e, 28, 28⟩
/-- Table 14-8. -/
def CE_OP_OP (e : Nat) : Fld := ⟨CE_OP e, 27, 24⟩
/-- Table 14-8. -/
def CE_OP_ARG (e : Nat) : Fld := ⟨CE_OP e, 23, 16⟩
/-- Table 14-8. -/
def CE_OP_DL (e : Nat) : Fld := ⟨CE_OP e, 15, 0⟩
/-- Table 14-8. -/
def CE_KW (e : Nat) : Nat := 0x04800108 + 0x80 * e
/-- Table 14-8. -/
def CE_KW_W (e : Nat) : Fld := ⟨CE_KW e, 28, 16⟩
/-- Table 14-8. -/
def CE_KW_K (e : Nat) : Fld := ⟨CE_KW e, 12, 0⟩
/-- Table 14-8. -/
def CE_D (e : Nat) : Nat := 0x0480010C + 0x80 * e
/-- Table 14-8. -/
def CE_D_DSIZE (e : Nat) : Fld := ⟨CE_D e, 31, 31⟩
/-- Table 14-8. -/
def CE_D_D (e : Nat) : Fld := ⟨CE_D e, 12, 0⟩
/-- Table 14-8. -/
def CE_SRC (e : Nat) : Nat := 0x04800110 + 0x80 * e
/-- Table 14-8. -/
def CE_DST (e : Nat) : Nat := 0x04800114 + 0x80 * e
/-- Table 14-8. -/
def CE_LEN (e : Nat) : Nat := 0x04800118 + 0x80 * e
/-- Table 14-8. -/
def CE_LEN_LEN (e : Nat) : Fld := ⟨CE_LEN e, 22, 0⟩
/-- Table 14-8. -/
def CE_AADLEN (e : Nat) : Nat := 0x0480011C + 0x80 * e
/-- Table 14-8. -/
def CE_AADLEN_AADLEN (e : Nat) : Fld := ⟨CE_AADLEN e, 22, 0⟩
/-- Table 14-8. -/
def CE_IV (e : Nat) (w : Nat) : Nat := 0x04800120 + 0x80 * e + 0x4 * w
/-- Table 14-8. -/
def CE_DATA (e : Nat) (w : Nat) : Nat := 0x04800130 + 0x80 * e + 0x4 * w
/-- Table 14-8. -/
def CE_JOB (e : Nat) : Nat := 0x04800158 + 0x80 * e
/-- Table 14-8. -/
def CE_JOB_BUSY (e : Nat) : Fld := ⟨CE_JOB e, 31, 31⟩
/-- Table 14-8. -/
def CE_JOB_DONE (e : Nat) : Fld := ⟨CE_JOB e, 30, 30⟩
/-- Table 14-8. -/
def CE_JOB_SUSPENDED (e : Nat) : Fld := ⟨CE_JOB e, 29, 29⟩
/-- Table 14-8. -/
def CE_JOB_RESULT (e : Nat) : Fld := ⟨CE_JOB e, 3, 0⟩
/-- Table 14-6. -/
def CE_CNT (e : Nat) (k : Nat) : Nat := 0x04800800 + 0x40 * e + 0x8 * k
/-- Table 14-6. -/
def CE_GCNT (k : Nat) : Nat := 0x04800A00 + 0x8 * k
/-- Table 14-9. -/
def CE_SC (s : Nat) : Nat := 0x04810000 + 0x20 * s
/-- Table 14-9. -/
def CE_SC_VALID (s : Nat) : Fld := ⟨CE_SC s, 31, 31⟩
/-- Table 14-9. -/
def CE_SC_DIR (s : Nat) : Fld := ⟨CE_SC s, 30, 30⟩
/-- Table 14-9. -/
def CE_SC_CE (s : Nat) : Fld := ⟨CE_SC s, 29, 28⟩
/-- Table 14-9. -/
def CE_SC_SUITE (s : Nat) : Fld := ⟨CE_SC s, 27, 26⟩
/-- Table 14-9. -/
def CE_SC_VALIDATE (s : Nat) : Fld := ⟨CE_SC s, 25, 24⟩
/-- Table 14-9. -/
def CE_SC_ENC (s : Nat) : Fld := ⟨CE_SC s, 23, 23⟩
/-- Table 14-9. -/
def CE_SC_INCL_SCI (s : Nat) : Fld := ⟨CE_SC s, 22, 22⟩
/-- Table 14-9. -/
def CE_SC_ES (s : Nat) : Fld := ⟨CE_SC s, 21, 21⟩
/-- Table 14-9. -/
def CE_SC_SCB (s : Nat) : Fld := ⟨CE_SC s, 20, 20⟩
/-- Table 14-9. -/
def CE_SC_ENC_AN (s : Nat) : Fld := ⟨CE_SC s, 19, 18⟩
/-- Table 14-9. -/
def CE_SC_RP_EN (s : Nat) : Fld := ⟨CE_SC s, 17, 17⟩
/-- Table 14-9. -/
def CE_SC_WINDOW (s : Nat) : Nat := 0x04810004 + 0x20 * s
/-- Table 14-9. -/
def CE_SC_WINDOW_WINDOW (s : Nat) : Fld := ⟨CE_SC_WINDOW s, 29, 0⟩
/-- Table 14-9. -/
def CE_SC_SCI (s : Nat) : Nat := 0x04810008 + 0x20 * s
/-- Table 14-9. -/
def CE_SC_AN (s : Nat) (j : Nat) : Nat := 0x04810010 + 0x20 * s + 0x4 * j
/-- Table 14-9. -/
def CE_SC_THRESH (s : Nat) : Nat := 0x04810018 + 0x20 * s
/-- Table 14-10. -/
def CE_SA (a : Nat) : Nat := 0x04840000 + 0x20 * a
/-- Table 14-10. -/
def CE_SA_VALID (a : Nat) : Fld := ⟨CE_SA a, 31, 31⟩
/-- Table 14-10. -/
def CE_SA_KEYED (a : Nat) : Fld := ⟨CE_SA a, 30, 30⟩
/-- Table 14-10. -/
def CE_SA_KSIZE (a : Nat) : Fld := ⟨CE_SA a, 29, 29⟩
/-- Table 14-10. -/
def CE_SA_NEAR (a : Nat) : Fld := ⟨CE_SA a, 28, 28⟩
/-- Table 14-10. -/
def CE_SA_EXHAUSTED (a : Nat) : Fld := ⟨CE_SA a, 27, 27⟩
/-- Table 14-10. -/
def CE_SA_PN (a : Nat) : Nat := 0x04840008 + 0x20 * a
/-- Table 14-12. -/
def CE_KEYSTAT (k : Nat) : Nat := 0x04A80000 + 0x4 * k
/-- Table 14-12. -/
def CE_KEYSTAT_LOADED (k : Nat) : Fld := ⟨CE_KEYSTAT k, 31, 31⟩
/-- Table 14-12. -/
def CE_KEYSTAT_SIZE (k : Nat) : Fld := ⟨CE_KEYSTAT k, 30, 30⟩
/-- Table 14-12. -/
def CE_KEYSTAT_ORIGIN (k : Nat) : Fld := ⟨CE_KEYSTAT k, 1, 0⟩
/-- Table 14-6. -/
def CE_SACNT (a : Nat) (k : Nat) : Nat := 0x04B00000 + 0x40 * a + 0x8 * k
/-- Table 14-6. -/
def CE_SCCNT (s : Nat) (k : Nat) : Nat := 0x04B80000 + 0x20 * s + 0x8 * k
/-- Table 15-8. -/
def CF_CFG (f : Nat) : Nat := 0x01800000 + 0x4000 * f
/-- Table 15-8. -/
def CF_CFG_RESYNC (f : Nat) : Fld := ⟨CF_CFG f, 31, 31⟩
/-- Table 15-8. -/
def CF_CFG_PATH (f : Nat) : Fld := ⟨CF_CFG f, 23, 16⟩
/-- Table 15-8. -/
def CF_CFG_LANE (f : Nat) : Fld := ⟨CF_CFG f, 14, 8⟩
/-- Table 15-8. -/
def CF_CFG_EN (f : Nat) : Fld := ⟨CF_CFG f, 0, 0⟩
/-- Table 15-8. -/
def CF_ALIGN (f : Nat) : Nat := 0x01800004 + 0x4000 * f
/-- Table 15-8. -/
def CF_ALIGN_LOSS_M (f : Nat) : Fld := ⟨CF_ALIGN f, 12, 8⟩
/-- Table 15-8. -/
def CF_ALIGN_LOCK_N (f : Nat) : Fld := ⟨CF_ALIGN f, 3, 0⟩
/-- Table 15-8. -/
def CF_INTEG (f : Nat) : Nat := 0x01800008 + 0x4000 * f
/-- Table 15-8. -/
def CF_INTEG_CLEAR (f : Nat) : Fld := ⟨CF_INTEG f, 23, 16⟩
/-- Table 15-8. -/
def CF_INTEG_SET (f : Nat) : Fld := ⟨CF_INTEG f, 7, 0⟩
/-- Table 15-9. -/
def CF_MON (f : Nat) : Nat := 0x0180000C + 0x4000 * f
/-- Table 15-9. -/
def CF_MON_DEG_M (f : Nat) : Fld := ⟨CF_MON f, 27, 24⟩
/-- Table 15-9. -/
def CF_MON_DEG_THR (f : Nat) : Fld := ⟨CF_MON f, 22, 16⟩
/-- Table 15-9. -/
def CF_MON_EXP_SL (f : Nat) : Fld := ⟨CF_MON f, 15, 8⟩
/-- Table 15-9. -/
def CF_MON_TLEN1 (f : Nat) : Fld := ⟨CF_MON f, 6, 6⟩
/-- Table 15-9. -/
def CF_MON_TMODE1 (f : Nat) : Fld := ⟨CF_MON f, 5, 4⟩
/-- Table 15-9. -/
def CF_MON_TLEN0 (f : Nat) : Fld := ⟨CF_MON f, 2, 2⟩
/-- Table 15-9. -/
def CF_MON_TMODE0 (f : Nat) : Fld := ⟨CF_MON f, 1, 0⟩
/-- Table 15-9. -/
def CF_STATUS (f : Nat) : Nat := 0x01800010 + 0x4000 * f
/-- Table 15-9. -/
def CF_STATUS_DEFECT (f : Nat) : Fld := ⟨CF_STATUS f, 14, 0⟩
/-- Table 15-9. -/
def CF_FAIL (f : Nat) : Nat := 0x01800014 + 0x4000 * f
/-- Table 15-9. -/
def CF_FAIL_FAILURE (f : Nat) : Fld := ⟨CF_FAIL f, 14, 0⟩
/-- Table 15-9. -/
def CF_FLAGS (f : Nat) : Nat := 0x01800018 + 0x4000 * f
/-- Table 15-10. -/
def CF_DA (f : Nat) (w : Nat) : Nat := 0x01800020 + 0x4000 * f + 0x4 * w
/-- Table 15-10. -/
def CF_VLAN (f : Nat) : Nat := 0x0180002C + 0x4000 * f
/-- Table 15-10. -/
def CF_VLAN_VLAN_EN (f : Nat) : Fld := ⟨CF_VLAN f, 31, 31⟩
/-- Table 15-10. -/
def CF_VLAN_PCP (f : Nat) : Fld := ⟨CF_VLAN f, 30, 28⟩
/-- Table 15-10. -/
def CF_VLAN_VID (f : Nat) : Fld := ⟨CF_VLAN f, 27, 16⟩
/-- Table 15-10. -/
def CF_VLAN_ETYPE (f : Nat) : Fld := ⟨CF_VLAN f, 15, 0⟩
/-- Table 15-10. -/
def CF_CID (f : Nat) : Nat := 0x01800030 + 0x4000 * f
/-- Table 15-10. -/
def CF_CID_CID (f : Nat) : Fld := ⟨CF_CID f, 15, 0⟩
/-- Table 15-10. -/
def CF_RXID (f : Nat) : Nat := 0x01800040 + 0x4000 * f
/-- Table 15-10. -/
def CF_RXID_RX_ETYPE (f : Nat) : Fld := ⟨CF_RXID f, 31, 16⟩
/-- Table 15-10. -/
def CF_RXID_RX_CID (f : Nat) : Fld := ⟨CF_RXID f, 15, 0⟩
/-- Table 15-10. -/
def CF_RXBUF (f : Nat) : Nat := 0x01800044 + 0x4000 * f
/-- Table 15-10. -/
def CF_RXBUF_BUF (f : Nat) : Fld := ⟨CF_RXBUF f, 15, 0⟩
/-- Table 15-11. -/
def CF_CLK (f : Nat) : Nat := 0x01800050 + 0x4000 * f
/-- Table 15-11. -/
def CF_CLK_STATE (f : Nat) : Fld := ⟨CF_CLK f, 1, 0⟩
/-- Table 15-11. -/
def CF_DCO (f : Nat) : Nat := 0x01800054 + 0x4000 * f
/-- Table 15-11. -/
def CF_DCO_DCO (f : Nat) : Fld := ⟨CF_DCO f, 31, 0⟩
/-- Table 15-11. -/
def CF_PHASE (f : Nat) : Nat := 0x01800058 + 0x4000 * f
/-- Table 15-11. -/
def CF_PHASE_PHASE (f : Nat) : Fld := ⟨CF_PHASE f, 31, 0⟩
/-- Table 15-11. -/
def CF_HELD (f : Nat) : Nat := 0x0180005C + 0x4000 * f
/-- Table 15-11. -/
def CF_HELD_HELD (f : Nat) : Fld := ⟨CF_HELD f, 13, 0⟩
/-- Table 15-7. -/
def CF_CNT (f : Nat) (k : Nat) : Nat := 0x01800100 + 0x4000 * f + 0x8 * k
/-- Table 15-12. -/
def CF_BIN_START (f : Nat) (k : Nat) : Nat := 0x01801000 + 0x4000 * f + 0x100 * k
/-- Table 15-12. -/
def CF_BIN_LEN (f : Nat) (k : Nat) : Nat := 0x01801008 + 0x4000 * f + 0x100 * k
/-- Table 15-12. -/
def CF_BIN_FLAGS (f : Nat) (k : Nat) : Nat := 0x0180100C + 0x4000 * f + 0x100 * k
/-- Table 15-12. -/
def CF_BIN_FLAGS_VALID (f : Nat) (k : Nat) : Fld := ⟨CF_BIN_FLAGS f k, 31, 31⟩
/-- Table 15-12. -/
def CF_BIN_FLAGS_SUSPECT (f : Nat) (k : Nat) : Fld := ⟨CF_BIN_FLAGS f k, 30, 30⟩
/-- Table 15-12. -/
def CF_BIN_FLAGS_FINAL (f : Nat) (k : Nat) : Fld := ⟨CF_BIN_FLAGS f k, 29, 29⟩
/-- Table 15-12. -/
def CF_BIN_COUNT (f : Nat) (k : Nat) (j : Nat) : Nat := 0x01801010 + 0x4000 * f + 0x100 * k + 0x4 * j
/-- Table 15-12. -/
def CF_EXP_TRACE (f : Nat) (t : Nat) (w : Nat) : Nat := 0x01802400 + 0x4000 * f + 0x40 * t + 0x4 * w
/-- Table 15-12. -/
def CF_ACC_TRACE (f : Nat) (t : Nat) (w : Nat) : Nat := 0x01802480 + 0x4000 * f + 0x40 * t + 0x4 * w
/-- Table 19-11. -/
def KP_RST_CAUSE : Nat := 0x00000100
/-- Table 19-12. -/
def KP_RST_CTRL : Nat := 0x00000104
/-- Table 19-12. -/
def KP_RST_CTRL_HOLD : Fld := ⟨KP_RST_CTRL, 11, 8⟩
/-- Table 19-12. -/
def KP_RST_CTRL_HE_REBOOT : Fld := ⟨KP_RST_CTRL, 4, 4⟩
/-- Table 19-13. -/
def KP_RST_BLOCK : Nat := 0x00000108
/-- Table 19-13. -/
def KP_RST_BLOCK_GO : Fld := ⟨KP_RST_BLOCK, 31, 31⟩
/-- Table 19-13. -/
def KP_RST_BLOCK_TARGET : Fld := ⟨KP_RST_BLOCK, 25, 24⟩
/-- Table 19-13. -/
def KP_RST_BLOCK_INDEX : Fld := ⟨KP_RST_BLOCK, 6, 0⟩
/-- Table 19-14. -/
def KP_WDOG0 : Nat := 0x00000110
/-- Table 19-14. -/
def KP_WDOG1 : Nat := 0x00000114
/-- Table 19-14. -/
def KP_WDOG2 : Nat := 0x00000118
/-- Table 19-15. -/
def KP_PWR_CTRL : Nat := 0x00000120
/-- Table 19-15. -/
def KP_PWR_CTRL_T_ALLOW : Fld := ⟨KP_PWR_CTRL, 9, 9⟩
/-- Table 19-15. -/
def KP_PWR_CTRL_C_ALLOW : Fld := ⟨KP_PWR_CTRL, 8, 8⟩
/-- Table 19-15. -/
def KP_PWR_CTRL_REQ : Fld := ⟨KP_PWR_CTRL, 0, 0⟩
/-- Table 19-15. -/
def KP_PWR_STATUS : Nat := 0x00000124
/-- Table 19-15. -/
def KP_PWR_STATUS_STEP : Fld := ⟨KP_PWR_STATUS, 13, 8⟩
/-- Table 19-15. -/
def KP_PWR_STATUS_PHASE : Fld := ⟨KP_PWR_STATUS, 5, 4⟩
/-- Table 19-16. -/
def KP_PWR_REFUSE : Nat := 0x00000128
/-- Table 19-16. -/
def KP_PWR_REFUSE_STEP : Fld := ⟨KP_PWR_REFUSE, 20, 16⟩
/-- Table 19-16. -/
def KP_PWR_REFUSE_REASON : Fld := ⟨KP_PWR_REFUSE, 10, 8⟩
/-- Table 19-16. -/
def KP_PWR_REFUSE_DOMAIN : Fld := ⟨KP_PWR_REFUSE, 5, 0⟩
/-- Table 19-16. -/
def KP_WAKE_LAST : Nat := 0x0000012C
/-- Table 19-16. -/
def KP_WAKE_LAST_AFTER_PNR : Fld := ⟨KP_WAKE_LAST, 17, 17⟩
/-- Table 19-16. -/
def KP_WAKE_LAST_REPLAYED : Fld := ⟨KP_WAKE_LAST, 16, 16⟩
/-- Table 19-16. -/
def KP_WAKE_LAST_INDEX : Fld := ⟨KP_WAKE_LAST, 15, 8⟩
/-- Table 19-16. -/
def KP_WAKE_LAST_SOURCE : Fld := ⟨KP_WAKE_LAST, 3, 0⟩
/-- Table 19-17. -/
def KP_PWR_FLAGS : Nat := 0x00000130
/-- Table 19-17. -/
def KP_WAKE_EN : Nat := 0x00000134
/-- Table 19-17. -/
def KP_WAKE_EN_GPIO : Fld := ⟨KP_WAKE_EN, 31, 16⟩
/-- Table 19-17. -/
def KP_WAKE_EN_ACT : Fld := ⟨KP_WAKE_EN, 4, 4⟩
/-- Table 19-17. -/
def KP_WAKE_EN_HOSTLINK : Fld := ⟨KP_WAKE_EN, 3, 3⟩
/-- Table 19-17. -/
def KP_WAKE_EN_LANES : Fld := ⟨KP_WAKE_EN, 2, 2⟩
/-- Table 19-17. -/
def KP_WAKE_EN_LE : Fld := ⟨KP_WAKE_EN, 1, 0⟩
/-- Table 19-18. -/
def KP_PWR_GATE0 : Nat := 0x00000138
/-- Table 19-18. -/
def KP_PWR_GATE1 : Nat := 0x0000013C
/-- Table 19-18. -/
def KP_CLK_STATUS : Nat := 0x00000140
/-- Table 19-18. -/
def KP_CLK_STATUS_FAILED : Fld := ⟨KP_CLK_STATUS, 9, 0⟩
/-- Table 17-10. -/
def KP_BOOT : Nat := 0x00000200
/-- Table 17-10. -/
def KP_BOOT_C_STAGE : Fld := ⟨KP_BOOT, 23, 20⟩
/-- Table 17-10. -/
def KP_BOOT_T_STAGE : Fld := ⟨KP_BOOT, 19, 16⟩
/-- Table 17-10. -/
def KP_BOOT_STAGE : Fld := ⟨KP_BOOT, 15, 12⟩
/-- Table 17-10. -/
def KP_BOOT_OPT : Fld := ⟨KP_BOOT, 11, 10⟩
/-- Table 17-10. -/
def KP_BOOT_IMAGE : Fld := ⟨KP_BOOT, 9, 8⟩
/-- Table 17-10. -/
def KP_BOOT_RESTORE : Fld := ⟨KP_BOOT, 7, 6⟩
/-- Table 17-10. -/
def KP_BOOT_OWNER_KEY : Fld := ⟨KP_BOOT, 5, 5⟩
/-- Table 17-10. -/
def KP_BOOT_CFG_OK : Fld := ⟨KP_BOOT, 4, 4⟩
/-- Table 17-10. -/
def KP_SVN : Nat := 0x00000204
/-- Table 17-10. -/
def KP_SVN_MIN : Nat := 0x00000208
/-- Table 17-11. -/
def KP_SUPPLY : Nat := 0x00000210
/-- Table 17-11. -/
def KP_SUPPLY_DG_THR : Fld := ⟨KP_SUPPLY, 31, 16⟩
/-- Table 17-11. -/
def KP_SUPPLY_WI_THR : Fld := ⟨KP_SUPPLY, 15, 0⟩
/-- Table 17-11. -/
def KP_VIN : Nat := 0x00000214
/-- Table 17-11. -/
def KP_VIN_PFAIL : Fld := ⟨KP_VIN, 18, 18⟩
/-- Table 17-11. -/
def KP_VIN_DG_ACTIVE : Fld := ⟨KP_VIN, 17, 17⟩
/-- Table 17-11. -/
def KP_VIN_WI_ACTIVE : Fld := ⟨KP_VIN, 16, 16⟩
/-- Table 17-11. -/
def KP_VIN_VIN : Fld := ⟨KP_VIN, 15, 0⟩
/-- Table 17-11. -/
def KP_START_FLAGS : Nat := 0x00000218
/-- Table 17-12. -/
def KP_SET_CTRL : Nat := 0x00004000
/-- Table 17-12. -/
def KP_SET_STAT : Nat := 0x00004004
/-- Table 17-12. -/
def KP_SET_DATA (w : Nat) : Nat := 0x00004400 + 0x4 * w
/-- Table 17-12. -/
def KP_SETT_CTRL : Nat := 0x00005000
/-- Table 17-12. -/
def KP_SETT_STAT : Nat := 0x00005004
/-- Table 17-12. -/
def KP_SETT_DATA (w : Nat) : Nat := 0x00005400 + 0x4 * w
/-- Table 20-7. -/
def KP_GPIO (n : Nat) : Nat := 0x00000300 + 0x4 * n
/-- Table 20-7. -/
def KP_GPIO_C (n : Nat) : Nat := 0x00000320 + 0x4 * n
/-- Table 17-13. -/
def MG_TX_DATA (m : Nat) (w : Nat) : Nat := 0x05000000 + 0x1000 * m + 0x4 * w
/-- Table 17-13. -/
def MG_TX (m : Nat) : Nat := 0x05000040 + 0x1000 * m
/-- Table 17-13. -/
def MG_TX_SEND (m : Nat) : Fld := ⟨MG_TX m, 31, 31⟩
/-- Table 17-13. -/
def MG_TX_TX_RESULT (m : Nat) : Fld := ⟨MG_TX m, 30, 28⟩
/-- Table 17-13. -/
def MG_TX_KIND (m : Nat) : Fld := ⟨MG_TX m, 21, 16⟩
/-- Table 17-13. -/
def MG_TX_LEN (m : Nat) : Fld := ⟨MG_TX m, 6, 0⟩
/-- Table 17-13. -/
def MG_RX_DATA (m : Nat) (w : Nat) : Nat := 0x05000080 + 0x1000 * m + 0x4 * w
/-- Table 17-13. -/
def MG_RX (m : Nat) : Nat := 0x050000C0 + 0x1000 * m
/-- Table 17-13. -/
def MG_FLAGS (m : Nat) : Nat := 0x050000D0 + 0x1000 * m
/-- Table 17-13. -/
def MG_CNT (m : Nat) (k : Nat) : Nat := 0x05000100 + 0x1000 * m + 0x8 * k
/-- Table 18-6. -/
def EV_FLAGS : Nat := 0x00409000
/-- Table 18-6. -/
def EV_SWSET (g : Nat) : Nat := 0x00408010 + 0x4 * g

end Sys2Proof.Machine
end

