-- ==== Sys2Proof/Machine/Ops.lean ====
section
/-! DEFINITION. The shared operations: registers and their fields, counters, event occurrences, free values, and the
records that hold the state outside the registers. -/
namespace Sys2Proof.Machine

/-- The outcome of a command. -/
abbrev Out := Host.Outcome State Fault Refusal

/-! ### Registers -/

/-- The word of a register (R1). -/
def State.reg (s : State) (a : Nat) : Word := sget regReset s.regs a

/-- The state with one register word replaced. -/
def State.setReg (s : State) (a : Nat) (w : Word) : State := { s with regs := sset regReset s.regs a w }

/-- The value of a field. -/
def State.get (s : State) (f : Fld) : Nat := (s.reg f.addr).field f.hi f.lo

/-- The state with one field replaced. -/
def State.put (s : State) (f : Fld) (v : Nat) : State := s.setReg f.addr ((s.reg f.addr).withField f.hi f.lo v)

/-- Bit `i` of a field, as a field. -/
def Fld.bit (f : Fld) (i : Nat) : Fld := ⟨f.addr, f.lo + i, f.lo + i⟩

/-- Part `i` of a field made of parts of `n` bits. -/
def Fld.part (f : Fld) (n i : Nat) : Fld := ⟨f.addr, f.lo + n * i + n - 1, f.lo + n * i⟩

/-- Whether a one-bit field is 1. -/
def State.isSet (s : State) (f : Fld) : Bool := s.get f = 1

/-- The state with a one-bit field set or cleared. -/
def State.putB (s : State) (f : Fld) (b : Bool) : State := s.put f b.toNat

/-- Keep only the registers whose address satisfies `p`; the others read as after reset (R8). -/
def State.resetRegs (s : State) (keep : Nat → Bool) : State := { s with regs := skeep keep s.regs }

/-! ### Counters: 48 bits in two words, wrapping (R9, R103) -/

/-- The value of a 48-bit counter at its lower word. -/
def State.count (s : State) (a : Nat) : Nat := (s.reg a).toNat + (s.reg (a + 4)).toNat % 2 ^ 16 * 2 ^ 32

/-- Set a 48-bit counter. -/
def State.setCount (s : State) (a v : Nat) : State :=
  (s.setReg a (BitVec.ofNat 32 v)).setReg (a + 4) (BitVec.ofNat 32 (v / 2 ^ 32 % 2 ^ 16))

/-- Advance a 48-bit counter, which wraps from 2^48 - 1 to 0. -/
def State.bump (s : State) (a : Nat) (n : Nat := 1) : State := s.setCount a ((s.count a + n) % 2 ^ 48)

/-- A value held in a 4-bit or wider saturating field, advanced. -/
def State.satInc (s : State) (f : Fld) (top : Nat) : State := s.put f (min (s.get f + 1) top)

/-! ### Events (R479, R481) -/

/-- The tally of a source. -/
def State.tallyOf (s : State) (src : Nat) : Nat := sget (fun _ => 0) s.tally src

/-- A source occurs: its 16-bit tally grows (R479, R481). -/
def State.occur (s : State) (src : Nat) : State :=
  { s with tally := sset (fun _ => 0) s.tally src (min (s.tallyOf src + 1) 65535) }

/-- Hardware sets bit `b` of the flag word at `a`, and the bit's source occurs (R479). -/
def State.raise (s : State) (a b src : Nat) : State := (s.putB ⟨a, b, b⟩ true).occur src

/-! ### Free values and identities -/

/-- The next random draw below `n` (0 when `n` is 0). -/
def State.drawn (s : State) (n : Nat) : Nat := Config.drawn s.freeCtr % n

/-- The next random draw, uncut. -/
def State.drawnFull (s : State) : Nat := Config.drawn s.freeCtr

/-- The next choice of a band of R13. -/
def State.bandBit (s : State) : Bool := Config.band s.freeCtr

/-- A free value has been taken. -/
def State.used (s : State) : State := { s with freeCtr := s.freeCtr + 1 }

/-- An identity for a new frame. -/
def State.newId (s : State) : State := { s with nextId := s.nextId + 1 }

/-! ### Access by an agent (R1) -/

/-- The mailbox block whose REFUSED_ACCESS counter counts an agent's refusals: carrier 0, tenant 1, host 2
(Table 17-13); the housekeeper has none. -/
def agentBlock : Agent → Option Nat
  | .carrier => some 0
  | .tenant => some 1
  | .host => some 2
  | .keeper => none

/-- The message gate counts a refused access (R1). -/
def State.refuse (s : State) (a : Agent) : State :=
  match agentBlock a with
  | some m => s.bump (MG_CNT m 4)
  | none => s

/-- The tenant proxy serves the host's writes: the option bytes hold HOST_WRITE at 1 (R475, Table 17-2). Safe defaults and a
terminal that has not booted hold it at 0. -/
def State.hostMay (s : State) : Bool :=
  match s.kp.opt with
  | some o => o.flags.testBit 4
  | none => false

/-- Whether an agent's write to a register that `allowed` may write is served (R1, R475). -/
def State.served (s : State) (allowed : List Agent) (a : Agent) : Bool := allowed.contains a && (a ≠ .host || s.hostMay)

/-- A write by agent `a` to a register that `allowed` may write: done by `f`, or refused and counted. An agent held in reset
issues none (R1). -/
def State.byAgent (s : State) (allowed : List Agent) (a : Agent) (f : State → State) : State :=
  if s.stopped.contains a then s
  else if s.served allowed a then f s
  else s.refuse a

/-- The index of an agent's read answer. -/
def agentNum : Agent → Nat
  | .carrier => 0
  | .tenant => 1
  | .host => 2
  | .keeper => 3

/-- A read by an agent answers a word (R1). -/
def State.answer (s : State) (a : Agent) (w : Word) : State := { s with rdata := sset (fun _ => 0) s.rdata (agentNum a) w }

/-- A read by agent `a` of a register that `allowed` may read: answered by `f`, or refused, counted and answered 0 (R1). -/
def State.byReader (s : State) (allowed : List Agent) (a : Agent) (f : State → State) : State :=
  if s.stopped.contains a then s
  else if allowed.contains a then f s
  else (s.refuse a).answer a 0

/-! ### Records outside the registers -/

/-- The record of a channel of an engine. -/
def State.ch (s : State) (e : Engine) (c : Ch) : Chan := sget (fun _ => {}) s.chans (4 * e.n + c.val)

/-- Change the record of a channel. -/
def State.modCh (s : State) (e : Engine) (c : Ch) (f : Chan → Chan) : State :=
  { s with chans := sset (fun _ => {}) s.chans (4 * e.n + c.val) (f (s.ch e c)) }

/-- The record of a line engine. -/
def State.line (s : State) (e : Engine) : Line := sget (fun _ => {}) s.lines e.n

/-- Change the record of a line engine. -/
def State.modLine (s : State) (e : Engine) (f : Line → Line) : State :=
  { s with lines := sset (fun _ => {}) s.lines e.n (f (s.line e)) }

/-- Change the record of the pair. -/
def State.modPair (s : State) (f : Pair → Pair) : State := { s with pair := f s.pair }

/-- Apply an operation for each member of a list, in order. -/
def State.each {α : Type} (s : State) (xs : List α) (f : α → State → State) : State :=
  xs.foldl (fun s x => f x s) s

/-- Apply an operation when a condition holds. -/
def State.when (s : State) (b : Bool) (f : State → State) : State := if b then f s else s

/-- The four channels of an engine. -/
def channels : List Ch := [0, 1, 2, 3]

/-- Channels 1 to 3. -/
def sideChannels : List Ch := [1, 2, 3]

/-- The present instant in steps of 10^-4 unit interval of 49.7664 Gb/s: one TIME cycle of 1 ns is 497,664 of them. -/
def State.uiNow (s : State) : Nat := s.now * 497664

end Sys2Proof.Machine
end

