-- ==== Sys2Proof/Machine/Flags.lean ====
section
/-! DEFINITION. Hardware setting a W1C flag: the bit of the flag word and the occurrence of its event source, block by
block, with the source numbers that each block's chapter gives (R479, R480). -/
namespace Sys2Proof.Machine

/-- `LE.PFE.FLAGS` bit `b` (R49). -/
def pfeFlag (e : Engine) (b : Nat) (s : State) : State := s.raise (PFE_FLAGS e.n) b (384 + 32 * e.n + b)

/-- `LE.TC.ACT_FLAGS` bit `b` (R76). -/
def actFlag (e : Engine) (b : Nat) (s : State) : State := s.raise (TC_ACT_FLAGS e.n) b (448 + 32 * e.n + b)

/-- `LE.TC.DS_FLAGS` bit `b` (R104). -/
def dsFlag (e : Engine) (b : Nat) (s : State) : State := s.raise (TC_DS_FLAGS e.n) b (512 + 32 * e.n + b)

/-- `LE.BOND.FLAGS` bit `b` (R134). -/
def bondFlag (e : Engine) (b : Nat) (s : State) : State := s.raise (BOND_FLAGS e.n) b (576 + 32 * e.n + b)

/-- `LE.BURST.FLAGS` bit `b` (R165). -/
def burstFlag (e : Engine) (b : Nat) (s : State) : State := s.raise (BURST_FLAGS e.n) b (640 + 32 * e.n + b)

/-- `PX.FLAGS` bit `b` (R189). -/
def pxFlag (b : Nat) (s : State) : State := s.raise PX_FLAGS b (704 + b)

/-- `TE.FLAGS` bit `b` (R227). -/
def teFlag (b : Nat) (s : State) : State := s.raise TE_FLAGS b (736 + b)

/-- `CL.FLAGS` bit `b` of lane `l`: any bit of the word is the lane's one source (R253). -/
def clFlag (l b : Nat) (s : State) : State := s.raise (CL_FLAGS l) b (768 + l)

/-- `CM.FLAGS` bit `b` of port `p`: any bit of the word is the port's one source (R253). -/
def cmFlag (p b : Nat) (s : State) : State := s.raise (CM_FLAGS p) b (896 + p)

/-- `PX.TIE_FLAGS` bit `b` of engine `e`'s half (R253, Table 09-14). -/
def tieFlag (e : Engine) (b : Nat) (s : State) : State :=
  s.raise PX_TIE_FLAGS (8 * e.n + b) (1024 + 8 * e.n + b)

/-- `PA.FLAGS` bit `b` (R282). -/
def paFlag (b : Nat) (s : State) : State := s.raise PA_FLAGS b (1056 + b)

/-- `CX.FLAGS` bit `b` (R309). -/
def cxFlag (b : Nat) (s : State) : State := s.raise CX_FLAGS b (1088 + b)

/-- `BM.FLAGS` bit `b` (R330). -/
def bmFlag (b : Nat) (s : State) : State := s.raise BM_FLAGS b (1120 + b)

/-- `QS.FLAGS` bit `b` (R364). -/
def qsFlag (b : Nat) (s : State) : State := s.raise QS_FLAGS b (1152 + b)

/-- `CE.FLAGS` bit `b` (R392). -/
def ceFlag (b : Nat) (s : State) : State := s.raise CE_FLAGS b (1184 + b)

/-- `CF.FLAGS` bit `b` of framer `f`: any bit of the word is the framer's one source (R415). -/
def cfFlag (f b : Nat) (s : State) : State := s.raise (CF_FLAGS f) b (1216 + f)

/-- `LE.DSP.FLAGS` bit `b` (R450). -/
def dspFlag (e : Engine) (b : Nat) (s : State) : State := s.raise (DSP_FLAGS e.n) b (1248 + 32 * e.n + b)

/-- `KP.START_FLAGS` bit `b` (R477). -/
def startFlag (b : Nat) (s : State) : State := s.raise KP_START_FLAGS b (1312 + b)

/-- `MG.FLAGS` bit `b` of mailbox block `m` (R477). -/
def mgFlag (m b : Nat) (s : State) : State := s.raise (MG_FLAGS m) b (1344 + 32 * m + b)

/-- `KP.PWR_FLAGS` bit `b` (Table 18-2, group 1). -/
def pwrFlag (b : Nat) (s : State) : State := s.raise KP_PWR_FLAGS b (32 + b)

/-- `EV.FLAGS` bit `b` (Table 18-2, group 3). -/
def evFlag (b : Nat) (s : State) : State := s.raise EV_FLAGS b (96 + b)

end Sys2Proof.Machine
end

