-- ==== Sys2Proof/Machine/Clock.lean ====
section
/-! DEFINITION. House time and the two domain counters as values (R192, R204), and their four words (R11). -/
namespace Sys2Proof.Machine

/-- The counter of a domain, in pips. -/
def State.domTime (s : State) (d : Dom) : Nat := if d = 0 then s.te.dom0 else s.te.dom1

/-- The counter of a domain takes a value. -/
def setDom (d : Dom) (t : Nat) (s : State) : State :=
  { s with te := if d = 0 then { s.te with dom0 := t } else { s.te with dom1 := t } }

/-- House time in pips: the selected domain's counter plus the house offset (R204). -/
def State.house (s : State) : Nat := ((s.domTime s.te.sel : Int) + s.te.off).toNat

/-- One second in pips. -/
def second : Nat := 1000000000 * 2 ^ 32

/-- The four words of a time: seconds low, seconds high, nanoseconds, pips (R11). -/
def timeWords (t : Nat) : List Word :=
  [BitVec.ofNat 32 (t / second), BitVec.ofNat 32 (t / second / 2 ^ 32), BitVec.ofNat 32 (t / 2 ^ 32 % 1000000000),
   BitVec.ofNat 32 t]

/-- The time that four words spell. -/
def wordsTime (ws : List Word) : Nat :=
  let w (i : Nat) : Nat := (ws.getD i 0).toNat
  (w 0 + w 1 * 2 ^ 32) * second + w 2 % 2 ^ 30 * 2 ^ 32 + w 3

/-- Store the four words of a time at an address. -/
def putTime (a t : Nat) (s : State) : State :=
  s.each ((timeWords t).zipIdx) (fun x s => s.setReg (a + 4 * x.2) x.1)

/-- The time that stands at an address. -/
def State.timeAt (s : State) (a : Nat) : Nat := wordsTime ((List.range 4).map (fun i => s.reg (a + 4 * i)))

/-! ### Time passing (R192, R205, R208, R226) -/

/-- A MODULE or FULL reset stands: bits 0 to 3, 6, 8 to 10 and 18 of Table 19-5, stretched by the RESET_N drive (R509,
R511). -/
def State.moduleHeld (s : State) : Bool := s.kp.asserted &&& 0x4074F ≠ 0 || s.kp.driving

/-- A FULL reset stands: bits 0, 3, 9 and 18. -/
def State.fullHeld (s : State) : Bool := s.kp.asserted &&& 0x40209 ≠ 0

/-- The carrier DOMAIN is held in reset: bits 4, 11 and 16, or wider (R512). -/
def State.carrierHeld (s : State) : Bool := s.kp.asserted &&& 0x10810 ≠ 0 || s.moduleHeld

/-- The tenant DOMAIN is held in reset: bits 5, 7, 12 and 17, or wider (R512). -/
def State.tenantHeld (s : State) : Bool := s.kp.asserted &&& 0x210A0 ≠ 0 || s.moduleHeld

/-- An engine is held in reset: bit 13 or 14, or wider (R512). -/
def State.engineHeld (s : State) (e : Engine) : Bool := s.kp.asserted.testBit (13 + e.n) || s.carrierHeld

/-- The pips that a domain counter gains in a TIME cycle (R192). -/
def State.rate (s : State) (d : Dom) : Nat := ((2 ^ 32 : Int) + signed 32 (s.reg (TE_DOM_ADJ d.val)).toNat).toNat

/-- The source of a domain is a line engine. -/
def State.lineSourced (s : State) (d : Dom) : Bool := s.get (TE_DOM_CFG_SOURCE d.val) = 1 || s.get (TE_DOM_CFG_SOURCE d.val) = 2

/-- The source of a domain has delivered a sample, or what it delivered is gone (R195). -/
def setFresh (d : Dom) (v : Bool) (s : State) : State :=
  { s with te := { s.te with fresh := sset (fun _ => false) s.te.fresh d.val v } }

/-- A PSync of an engine's channel 0 is a sample for each domain that the engine sources (R195). -/
def lineFresh (e : Engine) (s : State) : State :=
  s.each [0, 1] (fun d s => s.when (s.get (TE_DOM_CFG_SOURCE d.val) = 1 + e.n) (setFresh d true))

/-- The house offset does not move in the gap of a switch-over while the selected domain follows a line engine (R208). -/
def State.offFrozen (s : State) : Bool := !s.pair.ready && s.lineSourced s.te.sel

/-- The house offset takes a value; at 0 the slew is done (R205). -/
def setOff (o : Int) (s : State) : State :=
  let done := decide (o = 0) && decide (s.te.off ≠ 0)
  let s := { s with te := { s.te with off := o } }
  if done then teFlag 2 s else s

/-- The INIT that a reset of the bags carries out is done, once the reset has ended: allocations are served (R329). -/
def bagsReady (s : State) : State :=
  if s.isSet BM_STATUS_READY || s.tenantHeld then s else s.putB BM_STATUS_READY true

/-- `n` TIME cycles pass: both counters count and the offset slews, unless a MODULE reset holds them (R192, R205, R226); an
INIT left by a reset is done (R329). -/
def State.elapse (s : State) (n : Nat) : State :=
  let s := bagsReady { s with now := s.now + n }
  if s.moduleHeld then s
  else
    let te := { s.te with dom0 := s.te.dom0 + n * s.rate 0, dom1 := s.te.dom1 + n * s.rate 1 }
    let step : Int := n * (s.get TE_HOUSE_CFG_SLEW * 4295 : Nat)
    let o := s.te.off
    let t := { s with te := te }
    if s.offFrozen then t
    else setOff (if step < o then o - step else if o < -step then o + step else 0) t

/-- Time passes until the model's clock shows `t`, if it lies ahead. -/
def State.until (s : State) (t : Nat) : State := if s.now < t then s.elapse (t - s.now) else s

/-- Time passes until house time has reached `t` pips: each round stops short of it until the last cycle. -/
def reachRounds : Nat → Nat → State → State
  | 0, _, s => s
  | n + 1, t, s =>
    if t ≤ s.house then s
    else
      let fastest := s.rate s.te.sel + s.get TE_HOUSE_CFG_SLEW * 4295
      reachRounds n t (s.elapse ((t - s.house + fastest - 1) / fastest))

/-- House time reaches `t`, if it lies ahead: the row that names this instant is that instant. -/
def State.reachHouse (s : State) (t : Nat) : State := if s.moduleHeld then s else reachRounds 12 t s

end Sys2Proof.Machine
end

