-- ==== Sys2Proof/Machine/KeeperOps.lean ====
section
/-! DEFINITION. What other blocks do to the keeper island: settings records with their journal queue, the boot stages and the
queues of the message gate (17_startup_domains.md). -/
namespace Sys2Proof.Machine

/-- Change the keeper island. -/
def State.modKp (s : State) (f : Keeper → Keeper) : State := { s with kp := f s.kp }

/-! ### The message gate's queues (R470, R471) -/

/-- The messages toward the carrier (0), the tenant (1) and the host (2), and from the host (3), oldest first. -/
def State.gateQ (s : State) (d : Nat) : List GateMsg := sget (fun _ => []) s.kp.gate d

/-- A queue takes its messages. -/
def setGateQ (d : Nat) (q : List GateMsg) (s : State) : State :=
  s.modKp (fun k => { k with gate := sset (fun _ => []) k.gate d q })

/-- The gate's own message, CARRIER_DOWN or TENANT_DOWN, which has a place of its own (R470). -/
def isDown (m : GateMsg) : Bool := m.kind = 0x01 || m.kind = 0x21

/-- The messages of a queue that count toward its 16. -/
def State.gateCount (s : State) (d : Nat) : Nat := ((s.gateQ d).filter (fun m => d ≥ 2 || !isDown m)).length

/-- The mailbox block that receives from a queue. -/
def rxBlock (d : Nat) : Nat := if d = 3 then 2 else d

/-- A message joins a queue; its receiver's block counts it. The host has no receiving block. -/
def deliver (d : Nat) (m : GateMsg) (s : State) : State :=
  let s := setGateQ d (s.gateQ d ++ [m]) s
  if d = 2 then s else mgFlag (rxBlock d) 0 (s.bump (MG_CNT (rxBlock d) 1))

/-! ### Settings records (R459, R462) -/

/-- The size of a record in the store and in the journal: header, and value padded to 16 bytes (R460). -/
def recSize (n : Nat) : Nat := 16 + (n + 15) / 16 * 16

/-- The record of a key. -/
def State.record (s : State) (dom key : Nat) : Option SetRec :=
  s.kp.recs.find? (fun r => r.dom = dom && r.key = key)

/-- The records with one key replaced, or removed. -/
def State.recsWith (s : State) (dom key : Nat) (v : Option (List Byte)) : List SetRec :=
  s.kp.recs.filter (fun r => !(r.dom = dom && r.key = key)) ++ (match v with
    | some bs => [⟨dom, key, bs⟩]
    | none => [])

/-- The key of an engine's serial-number disable record (R464). -/
def disableKey (e : Engine) : Nat := 1 + e.n

/-- A record that waits is a disable record, or its end (R71, R464). -/
def JournalItem.disables (j : JournalItem) : Bool := j.dom = 2 && (j.key = 1 || j.key = 2)

/-- A record changes in the retained store and waits for flash. `first`: ahead of every record that waits but the one whose
program has begun and the disable records before it (R71, R462, R463). -/
def changeRecord (dom key : Nat) (v : Option (List Byte)) (first : Bool) (s : State) : State :=
  let item : JournalItem := ⟨dom, key, v, !s.isSet KP_VIN_WI_ACTIVE⟩
  let begun := s.kp.journal.takeWhile (fun j => j.begun) |>.take 1
  let started := begun ++ (s.kp.journal.drop begun.length).takeWhile JournalItem.disables
  s.modKp (fun k => { k with
    recs := s.recsWith dom key v
    storeValid := true
    journal := if first then started ++ item :: k.journal.drop started.length else k.journal ++ [item] })

/-- The engine records a disable, or its end (R71). -/
def recordDisable (e : Engine) (on : Bool) (s : State) : State :=
  changeRecord 2 (disableKey e) (if on then some [] else none) true (s.putB (TC_ACT_STATUS_DISABLED e.n) on)

/-! ### Boot stages (R458) -/

/-- STAGE shows the lower of C_STAGE and T_STAGE; from 0x5 on ALARM_N is no longer held (Table 19-8). -/
def showBootStage (s : State) : State :=
  let n := min (s.get KP_BOOT_C_STAGE) (s.get KP_BOOT_T_STAGE)
  let s := s.put KP_BOOT_STAGE n
  if n = 5 then s.modKp (fun k => { k with alarmBoot := false }) else s

/-- A domain's step; 6 and 7 of STAGE stay (R453). -/
def setBootStage (tenant : Bool) (n : Nat) (s : State) : State :=
  let s := s.put (if tenant then KP_BOOT_T_STAGE else KP_BOOT_C_STAGE) n
  if 6 ≤ s.get KP_BOOT_STAGE then s else showBootStage s

/-- Tenant firmware has committed round 0, or failed to: its step, CFG_OK, and the one-time store, which takes RAISE_SVN and
REVOKE0 of the running image (R455, R457). -/
def roundZero (ok : Bool) (s : State) : State :=
  if s.get KP_BOOT_T_STAGE ≠ 3 then s
  else if !ok then startFlag 3 s
  else
    let s := setBootStage true 4 (s.putB KP_BOOT_CFG_OK true)
    let fl := s.kp.imgFlags
    let s := if fl.testBit 0 && s.reg KP_SVN_MIN ≠ s.reg KP_SVN then startFlag 9 (s.setReg KP_SVN_MIN (s.reg KP_SVN)) else s
    if fl.testBit 1 && fl.testBit 2 && !s.kp.revoked0 then startFlag 10 (s.modKp (fun k => { k with revoked0 := true }))
    else s

/-- Carrier firmware has set ACT_EN: its last step (R458). -/
def carrierRuns (s : State) : State := if s.get KP_BOOT_C_STAGE = 4 then setBootStage false 5 s else s


/-! ### Agents held in reset or stopped (R1, R453, R465, R498, R512) -/

/-- Agents that issue no access: held by a reset, waiting for the boot, shed after a power-fail event, or stopped in
REST. -/
def State.heldAgents (s : State) : List Agent :=
  (if s.carrierHeld || s.kp.unreleased || s.kp.stopSteps.contains 19 then [Agent.carrier] else []) ++
  (if s.tenantHeld || s.kp.unreleased || s.kp.shed || s.kp.stopSteps.contains 18 then [Agent.tenant] else []) ++
  (if s.tenantHeld || s.kp.unreleased || s.kp.shed || s.kp.asserted.testBit 19 then [Agent.host] else []) ++
  (if s.fullHeld then [Agent.keeper] else [])

/-- The agents held follow their causes. -/
def restop (s : State) : State := { s with stopped := s.heldAgents }

/-- A watchdog's period starts: at a KICK, and at its processor's release; 0 the housekeeper's, 1 the carrier's, 2 the
tenant's (R514). -/
def startWatchdog (x : Nat) (s : State) : State :=
  s.modKp (fun k => { k with kicked := sset (fun _ => 0) k.kicked x s.now })

/-! ### Wake events (R502 to R506) -/

/-- SOURCE and INDEX of a wake event (Table 19-16). -/
def wakeCoding : WakeEvent → Nat × Nat
  | .line e _ => (1 + e.n, e.n)
  | .lane l => (3, l.val)
  | .gpio n => (4, n.val)
  | .hostPut => (5, 0)
  | .action => (6, 0)
  | .powerFail => (7, 0)
  | .therm => (8, 0)
  | .exit => (9, 0)
  | .access d => (10, d.val)
  | .tally _ => (11, 0)

/-- Whether a wake event may wake: those of `KP.WAKE_EN` by their bit, the others always (R506). -/
def State.wakes (s : State) : WakeEvent → Bool
  | .line e _ => s.isSet (KP_WAKE_EN_LE.bit e.n)
  | .lane _ => s.isSet KP_WAKE_EN_LANES
  | .gpio n => s.isSet (KP_WAKE_EN_GPIO.bit n.val)
  | .hostPut => s.isSet KP_WAKE_EN_HOSTLINK
  | .action => s.isSet KP_WAKE_EN_ACT
  | .tally src => s.kp.stopSteps.contains 20 && decide (32768 ≤ s.tallyOf src.val)
  | _ => true

/-- A refusal of REST: its record, REFUSED, and REQ cleared (R497, R500). -/
def restRefused (dom reason step : Nat) (s : State) : State :=
  let s := ((s.put KP_PWR_REFUSE_STEP step).put KP_PWR_REFUSE_REASON reason).put KP_PWR_REFUSE_DOMAIN dom
  pwrFlag 2 s

/-- `KP.WAKE_LAST` records a wake event. -/
def recordWake (w : WakeEvent) (after : Bool) (s : State) : State :=
  let s := (s.put KP_WAKE_LAST_SOURCE (wakeCoding w).1).put KP_WAKE_LAST_INDEX (wakeCoding w).2
  (s.putB KP_WAKE_LAST_AFTER_PNR after).putB KP_WAKE_LAST_REPLAYED false

/-- The power controller sees an enabled wake event: recorded, and latched while REST is entered or held. Entry then ends
as a refusal with reason WOKE; REST ends in an exit (R502 to R504). -/
def restLatch (w : WakeEvent) (s : State) : State :=
  if !s.wakes w then s
  else
    let latch (s : State) : State := s.modKp (fun k => { k with wake := some (k.wake.getD w) })
    match s.get KP_PWR_STATUS_PHASE with
    | 1 => (latch (restRefused 0x3F 4 s.kp.restStep (recordWake w false s))).putB KP_PWR_CTRL_REQ false |>.put KP_PWR_STATUS_PHASE 3
    | 2 => (latch (recordWake w true s)).put KP_PWR_STATUS_PHASE 3
    | 3 => latch (recordWake w (s.kp.stopSteps.contains 20) s)
    | _ => recordWake w false s

end Sys2Proof.Machine
end

