-- ==== Sys2Proof/Machine/Crc.lean ====
section
/-! DEFINITION. The checks the spec names by polynomial: CRC-32 of IEEE 802.3, CRC-32C, the CRC-16 of the bond tag and
CRC-64 of ECMA-182. -/
namespace Sys2Proof

/-- One bit of a CRC that shifts right, `poly` in reflected form. -/
def crcBitR (poly : Nat) (c : Nat) : Nat := if c % 2 = 1 then (c / 2) ^^^ poly else c / 2

/-- Eight bits of a reflected CRC. -/
def crcByteR (poly : Nat) (c : Nat) (b : Byte) : Nat :=
  let c := c ^^^ b.toNat
  crcBitR poly (crcBitR poly (crcBitR poly (crcBitR poly
    (crcBitR poly (crcBitR poly (crcBitR poly (crcBitR poly c)))))))

/-- One bit of a CRC of width `n` that shifts left. -/
def crcBitL (n poly : Nat) (c : Nat) : Nat :=
  if c / 2 ^ (n - 1) % 2 = 1 then (c * 2 % 2 ^ n) ^^^ poly else c * 2 % 2 ^ n

/-- Eight bits of a CRC that is not reflected. -/
def crcByteL (n poly : Nat) (c : Nat) (b : Byte) : Nat :=
  let c := c ^^^ (b.toNat * 2 ^ (n - 8))
  crcBitL n poly (crcBitL n poly (crcBitL n poly (crcBitL n poly
    (crcBitL n poly (crcBitL n poly (crcBitL n poly (crcBitL n poly c)))))))

/-- CRC-32, the IEEE 802.3 polynomial (Table 01-3, R16). -/
def crc32 (bs : List Byte) : Nat := (bs.foldl (crcByteR 0xEDB88320) 0xFFFFFFFF) ^^^ 0xFFFFFFFF

/-- CRC-32C, the Castagnoli polynomial. -/
def crc32c (bs : List Byte) : Nat := (bs.foldl (crcByteR 0x82F63B78) 0xFFFFFFFF) ^^^ 0xFFFFFFFF

/-- CRC-16 with polynomial 0x1021, initial value 0xFFFF, no reflection, no inversion (Table 05-2). -/
def crc16 (bs : List Byte) : Nat := bs.foldl (crcByteL 16 0x1021) 0xFFFF

/-- CRC-64 of ECMA-182: polynomial 0x42F0E1EBA9EA3693, initial value 0, no reflection (R176). -/
def crc64 (bs : List Byte) : Nat := bs.foldl (crcByteL 64 0x42F0E1EBA9EA3693) 0

/-- An Ethernet frame's FCS: its last four bytes, first byte sent first, are the CRC-32 of the bytes before them, least
significant byte first (R16, R100). -/
def fcsGood (bs : List Byte) : Bool :=
  let n := bs.length - 4
  decide (4 ≤ bs.length) && decide (numBE ((bs.drop n).reverse) = crc32 (bs.take n))

/-- The FCS of a frame's bytes, in the order sent. -/
def fcsBytes (bs : List Byte) : List Byte := (bytesBE 4 (crc32 bs)).reverse

end Sys2Proof
end

