-- ==== Sys2Proof/Machine/LineOps.lean ====
section
/-! DEFINITION. Operations of a line engine that several commands share: activation states, bond states and strikes,
slots and queues, the cutting of a burst, and what the pair's permits and triggers read (02 to 07 of spec/). -/
namespace Sys2Proof.Machine

/-! ### Activation states (Table 03-1) -/

/-- `LE.TC.ACT_STATUS.STATEc`. -/
def actStateF (e : Engine) (c : Ch) : Fld := ⟨TC_ACT_STATUS e.n, 4 * c.val + 3, 4 * c.val⟩

/-- The activation state of a channel, coded as Table 03-1. -/
def State.act (s : State) (e : Engine) (c : Ch) : Nat := s.get (actStateF e c)

/-- Bit `c` of `LE.TC.DS_STATUS.LOCK`. -/
def State.locked (s : State) (e : Engine) (c : Ch) : Bool := s.isSet ((TC_DS_STATUS_LOCK e.n).bit c.val)

/-- `LE.BURST.PM_STATUS.STATE`. -/
def State.pm (s : State) (e : Engine) : Nat := s.get (BURST_PM_STATUS_STATE e.n)

/-- Channels 1 to 3 of an engine in a watchful interval or Waking declare no defect (R164). -/
def State.defectsMuted (s : State) (e : Engine) (c : Ch) : Bool :=
  c ≠ 0 && (s.pm e = 2 || s.pm e = 4)

/-- LOF of a channel: not locked in any state other than Dark (Table 04-4). -/
def State.lof (s : State) (e : Engine) (c : Ch) : Bool :=
  s.act e c ≠ 0 && !s.locked e c && !s.defectsMuted e c

/-- LOS of a channel, raw (Table 04-4). -/
def State.los (s : State) (e : Engine) (c : Ch) : Bool :=
  s.isSet ((PFE_STATUS_RX_LOS e.n).bit c.val) && !s.defectsMuted e c

/-- SD of a channel (`LE.TC.DS_STATUS.SD`). -/
def State.sd (s : State) (e : Engine) (c : Ch) : Bool :=
  s.isSet ((TC_DS_STATUS_SD e.n).bit c.val) && !s.defectsMuted e c

/-- SF of a channel (`LE.TC.DS_STATUS.SF`). -/
def State.sf (s : State) (e : Engine) (c : Ch) : Bool :=
  s.isSet ((TC_DS_STATUS_SF e.n).bit c.val) && !s.defectsMuted e c

/-- The engine's serial number (R74). -/
def State.serial (s : State) (e : Engine) : Serial :=
  ⟨(s.reg (TC_SERIAL_VID e.n)).toNat, (s.reg (TC_SERIAL_NUM e.n)).toNat⟩

/-- The engine's ONU-ID; 1,023 while none is assigned (Table 03-7). -/
def State.onuId (s : State) (e : Engine) : Nat := s.get (TC_ONU_ID_ONU_ID e.n)

/-- The equalisation delay a channel holds, 0 before ranging (R62). -/
def State.eqd (s : State) (e : Engine) (c : Ch) : Nat :=
  if s.isSet (TC_EQD_VALID e.n c.val) then s.get (TC_EQD_EQD e.n c.val) else 0

/-! ### Light (Table 02-2) -/

/-- Every condition of Table 02-2 for channel c other than the laser permit and the burst gate. -/
def State.lightReady (s : State) (e : Engine) (c : Ch) : Bool :=
  s.isSet ((PFE_STATUS_LATCH e.n).bit c.val) && s.isSet ((PFE_CTRL_TX_EN e.n).bit c.val) &&
  !s.isSet (PFE_STATUS_TEMP_GATE e.n) && !s.isSet ((PFE_STATUS_ROGUE_OFF e.n).bit c.val)

/-- The claim the referee last received from an engine (`PX.CLAIMS`). -/
def claimF (e : Engine) : Fld := if e = .la then PX_CLAIMS_CLAIM_A else PX_CLAIMS_CLAIM_B

/-- The engine the referee admits (`PX.STATUS.ACTIVE`). -/
def State.active (s : State) : Engine := if s.isSet PX_STATUS_ACTIVE then .lb else .la

/-- An engine holds the laser permit by its claim: the referee admits it, and its claim is above 0x0000 (R168, R171). -/
def State.byClaim (s : State) (e : Engine) : Bool := s.active = e && decide (0 < s.get (claimF e))

/-- An engine sends its traffic: it holds the permit by claim, and after a switch-over it has reached its ready point
(R56, R182). -/
def State.live (s : State) (e : Engine) : Bool := s.byClaim e && !s.pair.arming

/-- The burst on a channel's fibre goes under a permit that the referee lends for it (R56). -/
def State.lentOn (s : State) (e : Engine) (c : Ch) : Bool :=
  (s.ch e c).gate && (match (s.ch e c).flying with
    | some b => b.kind ≠ .traffic
    | none => false)

/-- `LE.PFE.STATUS.PERMIT` follows the permit: by claim, and during a lent burst (R56). -/
def showPermit (e : Engine) (s : State) : State :=
  s.putB (PFE_STATUS_PERMIT e.n) (s.byClaim e || channels.any (s.lentOn e))

/-- TX_INHIBIT_N counts as accepted (`LE.PFE.STATUS.INHIBIT`, R35). -/
def State.inhibited (s : State) (e : Engine) : Bool := s.isSet (PFE_STATUS_INHIBIT e.n)

/-- Every condition of Table 02-2 holds: the channel may emit light (R30). -/
def State.mayEmit (s : State) (e : Engine) (c : Ch) : Bool :=
  s.lightReady e c && !s.inhibited e && (s.byClaim e || s.lentOn e c) && (s.ch e c).gate

/-! ### Bursts in progress -/

/-- A placed frame carries RS in its bond tag (Table 05-2). -/
def Placed.rs (p : Placed) : Bool := sliceNum p.tag 0 1 / 8 % 2 = 1

/-- Release the frames of a burst that does not leave: they stay at the head of their queues (R153), and RS is due again on
a slot whose first frame was among them (R130). -/
def unplace (e : Engine) (ps : List Placed) (s : State) : State :=
  let ids := ps.map (fun p => p.frame.id)
  let free : List UpFrame → List UpFrame :=
    fun fs => fs.map (fun f => if ids.contains f.id then { f with placed := false } else f)
  s.modLine e (fun l => { l with
    lq := l.lq.map (fun x => (x.1, free x.2))
    ctrl := free l.ctrl
    rsDone := ps.foldl (fun st p => match p.lq with
      | some q => if p.rs then sset (fun _ => false) st (q / 8) false else st
      | none => st) l.rsDone })

/-- The PLOAM message of a burst that does not leave waits for the next grant that asks for one, ahead of those that waited
behind it (R153). -/
def returnPloam (e : Engine) (c : Ch) (m : Option UpPloam) (s : State) : State :=
  match m with
  | some (.registration _) => s.modCh e c (fun x => { x with regPending := true })
  | some (.acknowledge q ok) => s.modCh e c (fun x => { x with ackQ := .acknowledge q ok :: x.ackQ })
  | some (.firmware bs) => s.modCh e c (fun x => { x with fwPloam := bs :: x.fwPloam })
  | _ => s

/-- A burst does not leave: what it would have carried waits (R153). A shadow burst and an answer of the activation state
machine have taken nothing. -/
def releaseBurst (e : Engine) (c : Ch) (b : Burst) (s : State) : State :=
  if b.shadow || b.kind ≠ .traffic then s else returnPloam e c b.ploam (unplace e b.frames s)

/-- The burst gate closes before the burst has ended: the channel is dark and the burst's frames and message stay queued. -/
def darken (e : Engine) (c : Ch) (s : State) : State :=
  match (s.ch e c).flying, (s.ch e c).gate with
  | some b, true =>
    let s := (releaseBurst e c b s).modCh e c (fun x => { x with gate := false, flying := none, lastLight := some s.now })
    showPermit e (s.putB ((PFE_STATUS_LIGHT e.n).bit c.val) false)
  | _, _ => s

/-- A burst in progress is cut and counted as withheld (R36, R73, R181, Table 06-3). -/
def cutBurst (e : Engine) (c : Ch) (s : State) : State :=
  if (s.ch e c).gate then
    burstFlag e 3 ((darken e c s).bump (BURST_CNT e.n c.val 8))
  else s

/-- Runs of windows of a channel start again from zero (R102). -/
def breakRuns (e : Engine) (c : Ch) (s : State) : State :=
  s.modCh e c (fun x => { x with sdTrue := 0, sdFalse := 0, sfTrue := 0, sfFalse := 0 })

/-! ### Bond states and strikes (Table 05-4, R118 to R125) -/

/-- `LE.BOND.CH_STATE.STATEc`. -/
def bondStateF (e : Engine) (c : Ch) : Fld := ⟨BOND_CH_STATE e.n, 4 * c.val + 3, 4 * c.val⟩

/-- `LE.BOND.CH_STATE.STRIKESc`. -/
def bondStrikesF (e : Engine) (c : Ch) : Fld := ⟨BOND_CH_STATE e.n, 2 * c.val + 17, 2 * c.val + 16⟩

/-- The bond state of a channel, coded as Table 05-4. -/
def State.bond (s : State) (e : Engine) (c : Ch) : Nat := s.get (bondStateF e c)

/-- The sit-out causes present on a channel, as the eight bits of `LE.BOND.SIT_CAUSE` (Table 05-5). The LATE bit is
held in the register; the others follow their sources. -/
def State.sitCause (s : State) (e : Engine) (c : Ch) : Nat :=
  (s.los e c).toNat + 2 * ((s.lof e c) || (s.ch e c).wakeReturn).toNat + 4 * (s.sf e c).toNat +
  8 * (s.sd e c && s.isSet (BOND_CTRL_SD_SITOUT e.n)).toNat +
  16 * s.get ⟨BOND_SIT_CAUSE e.n, 8 * c.val + 4, 8 * c.val + 4⟩ +
  32 * s.get ((PFE_STATUS_ROGUE_OFF e.n).bit c.val)

/-- A channel takes a bond state; a change sets `STATE_CHG` bit c. -/
def setBond (e : Engine) (c : Ch) (st : Nat) (s : State) : State :=
  if s.bond e c = st then s else bondFlag e c.val (s.put (bondStateF e c) st)

/-- A strike is added to a channel; a third standing strike retires it at once (R123). -/
def bondStrike (e : Engine) (c : Ch) (s : State) : State :=
  let n := s.get (bondStrikesF e c)
  let s := bondFlag e (8 + c.val) (s.bump (BOND_CHCNT e.n c.val 3))
  if 2 ≤ n then bondFlag e (4 + c.val) (setBond e c 3 s)
  else s.put (bondStrikesF e c) (n + 1)

/-- A channel in In enters Sitting out and adds one strike, or is retired by that strike (R121, R123, R125). On its
return from watchful sleep it adds none (R164). -/
def sitOut (e : Engine) (c : Ch) (s : State) : State :=
  if s.bond e c = 1 then
    let s := if (s.ch e c).wakeReturn then s else bondStrike e c s
    if s.bond e c = 3 then s else setBond e c 2 (s.bump (BOND_CHCNT e.n c.val 2))
  else s

/-- A channel in In or Sitting out goes to Out (R120). -/
def bondLeave (e : Engine) (c : Ch) (s : State) : State :=
  if s.bond e c = 1 ∨ s.bond e c = 2 then setBond e c 0 s else s

/-- The conditions of R119: in O5, a member, not retired, no cause present. -/
def State.canBeIn (s : State) (e : Engine) (c : Ch) : Bool :=
  s.act e c = 5 && s.isSet ((BOND_CTRL_MEMBER e.n).bit c.val) && s.bond e c ≠ 3 && s.sitCause e c = 0

/-! ### Slots and their queues -/

/-- Whether a slot is bonded (Table 05-13). -/
def State.slotBonded (s : State) (e : Engine) (sl : Nat) : Bool :=
  s.isSet ((BOND_US_BONDED_SLOTS e.n (sl / 32)).bit (sl % 32))

/-- The frames held in a line queue of an engine. -/
def State.queue (s : State) (e : Engine) (q : Nat) : List UpFrame := sget (fun _ => []) (s.line e).lq q

/-- Replace the frames held in a line queue. -/
def setQueue (e : Engine) (q : Nat) (fs : List UpFrame) (s : State) : State :=
  s.modLine e (fun l => { l with lq := sset (fun _ => []) l.lq q fs })

/-- The cells a frame takes in the upstream queue memory (R139). -/
def frameCells (f : UpFrame) : Nat := (f.bytes.length + 16 + 255) / 256

/-- The cells a list of frames takes. -/
def cellsOf (fs : List UpFrame) : Nat := (fs.map frameCells).foldl (· + ·) 0

/-- The cells free in the whole upstream queue memory (R139). -/
def State.cellsFree (s : State) (e : Engine) : Nat := 4096 - ((s.line e).lq.map (fun x => cellsOf x.2)).foldl (· + ·) 0

/-- The cells a slot uses. -/
def State.slotCells (s : State) (e : Engine) (sl : Nat) : Nat :=
  ((List.range 8).map (fun k => cellsOf (s.queue e (8 * sl + k)))).foldl (· + ·) 0

/-- A slot's room: the lesser of its CELLS limit less its use, and the free cells (R139). -/
def State.slotRoom (s : State) (e : Engine) (sl : Nat) : Nat :=
  min (s.get (BURST_SLOT_CELLS e.n sl) - s.slotCells e sl) (s.cellsFree e)

/-- `LE.BURST.ROOM` follows the free cells: FREE shows them, LOW the fewest since the last read. -/
def showRoom (e : Engine) (s : State) : State :=
  let s := s.put (BURST_ROOM_FREE e.n) (s.cellsFree e)
  if s.cellsFree e < s.get (BURST_ROOM_LOW e.n) then s.put (BURST_ROOM_LOW e.n) (s.cellsFree e) else s

/-- Frames of queue `q` leave the active engine's queue for good: its removal count advances. Frames ahead of a step mark
in progress are not counted behind it (R173, R177). -/
def countRemoved (e : Engine) (q n : Nat) (s : State) : State :=
  s.modLine e (fun l =>
    let ahead := match l.markAt with | some m => sget (fun _ => 0) m q | none => 0
    { l with
      markAt := l.markAt.map (fun m => sset (fun _ => 0) m q (ahead - n))
      removed := sset (fun _ => 0) l.removed q ((sget (fun _ => 0) l.removed q + (n - ahead)) % 2 ^ 32) })

/-- Discard every frame of a line queue, counted in `FLUSHED` (R141, Table 06-12); a discard counts as a removal. -/
def flushQueue (e : Engine) (q : Nat) (s : State) : State :=
  match s.queue e q with
  | [] => s
  | fs =>
    let s := countRemoved e q fs.length (setQueue e q [] s)
    burstFlag e 4 (s.bump (BURST_FLUSHED e.n) fs.length)

/-- Discard every frame of a slot and clear its VALID (R141). -/
def freeSlot (e : Engine) (sl : Nat) (s : State) : State :=
  let s := s.putB (BURST_SLOT_VALID e.n sl) false
  showRoom e (s.each (List.range 8) (fun k s => flushQueue e (8 * sl + k) s))

/-- Every slot of the engine is unbound (R55). -/
def unbindSlots (e : Engine) (s : State) : State :=
  s.each (List.range 64) (fun sl s => if s.isSet (BURST_SLOT_VALID e.n sl) then freeSlot e sl s else s)

/-! ### Tie headers (R19, R548) -/

/-- The 32 bytes of a tie header (Table 01-3): claim, engine, direction, channel, kind, key index, bond mark, Port-ID, length,
line queue and SEQ. KEYIDX is one bit wide and tells key 2 from key 1: DESIGN CHOICE, log 52. -/
def tieHeader (e : Engine) (toLine : Bool) (claim kind chan keyIdx : Nat) (bonded : Bool) (port len lq seq : Nat) :
    List Byte :=
  let h := bytesBE 2 claim ++ bytesBE 1 (e.n * 128 + toLine.toNat * 64 + chan % 4 * 16 + kind) ++
    bytesBE 1 (keyIdx / 2 % 2 * 128 + bonded.toNat * 64) ++ bytesBE 2 port ++ bytesBE 2 len ++ bytesBE 2 lq ++
    bytesBE 2 seq ++ List.replicate 16 0
  h ++ bytesBE 4 (crc32 h)

/-- The header that a line die places in front of an item. -/
def upHeader (e : Engine) (l : Line) (x : ToHub) : List Byte :=
  match x with
  | .data d => tieHeader e false l.claim 0 d.chan d.keyIdx d.bonded d.portId d.bytes.length 0 l.txHub
  | .omcc bs => tieHeader e false l.claim 1 0 0 false 0 bs.length 0 l.txHub
  | .ploam c _ => tieHeader e false l.claim 2 c 0 false 0 48 0 l.txHub
  | .opctl c _ => tieHeader e false l.claim 4 c 0 false 0 8 0 l.txHub
  | .digest _ => tieHeader e false l.claim 3 0 0 false 0 8 0 l.txHub

/-- A line die sends an item toward the hub behind its header; SEQ advances (R19, R548). -/
def sendUp (e : Engine) (x : ToHub) (s : State) : State :=
  s.modLine e (fun l => { l with txHub := (l.txHub + 1) % 65536, toHub := l.toHub ++ [(upHeader e l x, x)] })

/-! ### PON-layer keys -/

/-- The key of a slot, if it holds one. -/
def State.ponKey (s : State) (e : Engine) (slot : Nat) : Option Nat :=
  ((s.line e).keys.find? (fun x => x.1 = slot)).map (·.2)

/-- Every key slot of the engine becomes empty (R99). LAST_UK reads 0b00 again: DESIGN CHOICE, log 51, for R99 names the slots
alone. -/
def emptyKeys (e : Engine) (s : State) : State :=
  let s := s.modLine e (fun l => { l with keys := [] })
  s.put ⟨TC_KEY_STATUS e.n, 5, 0⟩ 0

/-! ### Changing an activation state -/

/-- LOF entered or left since `before`: `LOF_CHG` bit c (Table 04-9). A LOF breaks every run of windows (R102). -/
def noteLof (e : Engine) (c : Ch) (before : Bool) (s : State) : State :=
  if s.lof e c = before then s else dsFlag e c.val (if before then s else breakRuns e c s)

/-! ### What the switch-over triggers read (Table 07-3) -/

/-- Whether a tie link carries headers with a good HCRC (R169). -/
def State.linkGood (s : State) (e : Engine) : Bool := sget (fun _ => false) s.pair.good e.n

/-- The condition of causes 2, 3 and 5 to 7 on an engine: channel 0 in O5 and locked, its tie link good. -/
def State.eligible (s : State) (e : Engine) : Bool := s.act e 0 = 5 && s.locked e 0 && s.linkGood e

/-- The channels of an engine in O5 that are in SD or SF (cause 4). -/
def State.degraded (s : State) (e : Engine) : Nat :=
  (channels.filter (fun c => s.act e c = 5 && (s.sd e c || s.sf e c))).length

/-- Whether an engine meets the condition of a cause. -/
def State.meets (s : State) (e : Engine) (cause : Nat) : Bool :=
  if cause = 1 then s.linkGood e
  else if cause = 4 then s.eligible e &&
    decide ((channels.filter (fun c => s.sd e c || s.sf e c)).length < s.get PX_CFG_SD_COUNT)
  else s.eligible e

/-- Whether an automatic trigger holds. -/
def State.holds (s : State) (cause : Nat) : Bool :=
  let e := s.active
  if cause = 2 then !s.linkGood e || s.engineHeld e
  else if cause = 3 then channels.all (fun c => !((s.act e c = 5 || s.act e c = 6) && s.locked e c))
  else if cause = 4 then decide (s.get PX_CFG_SD_COUNT ≤ s.degraded e)
  else false

/-- An automatic trigger that no longer holds is judged afresh when it next begins to (R178): called wherever one may have
ceased to hold. -/
def purgeJudged (s : State) : State :=
  if s.pair.judged = [] then s else s.modPair (fun p => { p with judged := p.judged.filter s.holds })

/-- A channel's latch: open exactly in O2-3, O4 and O5 (Table 03-1, R52). -/
def latchOpen (st : Nat) : Bool := st = 3 || st = 4 || st = 5

/-- The hunter returns to hunting: lock and counter are lost, with any held fragment (R79, R82, R91). -/
def unlock (e : Engine) (c : Ch) (s : State) : State :=
  let s := s.putB ((TC_DS_STATUS_LOCK e.n).bit c.val) false
  let s := s.putB ((TC_DS_STATUS_SFC_VALID e.n).bit c.val) false
  purgeJudged (s.modCh e c (fun x => { x with misses := 0, huntN := none, sfcCand := none, frag := none, trained := false }))

/-- The time-of-day sample stream of an engine stops (R202). -/
def stopTod (e : Engine) (s : State) : State :=
  (s.putB (TC_TOD_CTRL_VALID e.n) false).modLine e (fun l => { l with todOut := none, todK := 0 })

/-- A try in progress is abandoned: a serial-number grant is not answered, and an answer that has not been launched is not
launched (R61). -/
def abandonTry (e : Engine) (s : State) : State :=
  s.modCh e 0 (fun x => { x with grants := [], bursts := x.bursts.filter (fun b => b.kind ≠ .serialNumber) })

/-- One channel takes an activation state: the status, the latch, the flags, the timers, the delay and what hangs on
channel 0's state (Table 03-1, R52, R61, R62, R65, R66, R75, R99). An engine held in reset stays Dark (R33, R51). The burst
profiles are kept in every state: DESIGN CHOICE, log 51. -/
def enterState (e : Engine) (c : Ch) (st : Nat) (s : State) : State :=
  let old := s.act e c
  if old = st || (st ≠ 0 && s.engineHeld e) then s else
  let lofWas := s.lof e c
  let s := s.put (actStateF e c) st
  let s := actFlag e c.val s
  let s := s.putB ((PFE_STATUS_LATCH e.n).bit c.val) (latchOpen st)
  let s := s.when (st = 5 && old = 4) (actFlag e (4 + c.val))
  let s := s.modCh e c (fun x => { x with to1 := st = 4, to2 := st = 6 })
  let s := s.when (st ≤ 1) (fun s =>
    unlock e c ((s.put (TC_EQD_EQD e.n c.val) 0).putB (TC_EQD_VALID e.n c.val) false))
  let s := s.when (!latchOpen st) (darken e c)
  let s := s.when (st ≠ 5 && st ≠ 6) (bondLeave e c)
  let s := purgeJudged (noteLof e c lofWas s)
  if c = 0 then
    let s := s.modLine e (fun l => { l with discWait := false, skip := 0, omccOpen := st = 5 })
    let s := s.when (st = 3) (fun s => s.put (TC_DISC_STAT_TRIES e.n) 0)
    let s := s.when (st = 4) (abandonTry e)
    let s := s.when (old = 5) (fun s => stopTod e (s.putB (TC_ACT_STATUS_OMCC_UP e.n) false))
    let s := s.when (st ≤ 1) (fun s => (emptyKeys e s).modLine e (fun l => { l with ctrl := [] }))
    s.when (st = 1) (fun s => s.put (TC_ACT_CTRL_DEACT e.n) 0)
  else s

/-- What the engine discards when channel 0 gives up O5 or O6: its ONU-ID, every delay and every Alloc-ID (R55). The sequence
number and acknowledgement that R68 keeps, and the grants that were kept, belong to that ONU-ID and go with it: DESIGN
CHOICE, log 51. -/
def discardIdentity (e : Engine) (s : State) : State :=
  let s := s.put (TC_ONU_ID_ONU_ID e.n) 1023
  let s := s.each channels (fun c s =>
    ((s.put (TC_EQD_EQD e.n c.val) 0).putB (TC_EQD_VALID e.n c.val) false).modCh e c
      (fun x => { x with lastSeq := none, ack := none, ackQ := [], grants := [] }))
  unbindSlots e s

/-- Channel 0 takes a state. When it gives up O5 for any state but O6, or O6 for O1.1, R55 acts on the whole engine;
entering O7 moves the other channels under R71 instead. A channel that has the ONU-ID in O4 loses it with R55 too. -/
def enterState0 (e : Engine) (st : Nat) (s : State) : State :=
  let old := s.act e 0
  let s := enterState e 0 st s
  if (old = 4 || old = 5 || old = 6) && (st ≠ 4 && st ≠ 5 && st ≠ 6) then
    let s := discardIdentity e s
    s.each sideChannels (fun c s => if st = 7 then (if s.act e c = 0 then s else enterState e c 7 s)
      else enterState e c 0 s)
  else s

/-- A channel takes a state, whichever channel it is. -/
def moveState (e : Engine) (c : Ch) (st : Nat) (s : State) : State :=
  if c = 0 then enterState0 e st s else enterState e c st s

/-- Channel c leaves the Dark state when channel 0 is in O5, its CH_JOIN bit is 1 and no deactivation holds it (R54). -/
def joinIfDue (e : Engine) (c : Ch) (s : State) : State :=
  if c ≠ 0 && s.act e 0 = 5 && s.act e c = 0 && !(s.ch e c).hold &&
      s.isSet ((TC_ACT_CTRL_CH_JOIN e.n).bit (c.val - 1)) then
    enterState e c 1 s
  else s

/-- Deactivation: channel 0 goes to O1.1 with the whole engine; another channel alone goes to Dark and waits for its
CH_JOIN bit to be cleared and set (R70). -/
def deactivate (e : Engine) (c : Ch) (s : State) : State :=
  if s.act e 0 = 7 then s
  else if c = 0 then (if s.act e 0 = 0 then s else enterState0 e 1 s)
  else if s.act e c = 0 then s
  else (enterState e c 0 s).modCh e c (fun x => { x with hold := true })

end Sys2Proof.Machine
end

