-- ==== Sys2Proof/Machine/Activation.lean ====
section
/-! DEFINITION. Joining the fibre: ACT_EN, CH_JOIN, the downstream PLOAM messages, ranging and its timers
(03_joining_the_fibre.md). -/
namespace Sys2Proof.Machine

/-- The code by which PM_STATUS shows a wake event (Table 06-9). -/
def wakeCode : WakeCause → Nat
  | .fwi => 1
  | .ploam => 2
  | .localFrame => 3
  | .lossOfLock => 4

/-- The wake event of R163 that a cause code names. -/
def wakeCauseOf (code : Nat) : Option WakeCause :=
  if code = 1 then some .fwi else if code = 2 then some .ploam else if code = 3 then some .localFrame
  else if code = 4 then some .lossOfLock else none

/-- A wake event: an engine in low power or Aware goes to Waking and shows the cause (R163), and the keeper sees it (R506).
A watchful engine's channels 1 to 3 have to relock and sit out with LOF until they have (R164). -/
def wakeEvent (e : Engine) (code : Nat) (s : State) : State :=
  let st := s.pm e
  if st = 1 ∨ st = 2 ∨ st = 3 then
    let s := match wakeCauseOf code with
      | some c => restLatch (.line e c) s
      | none => s
    let s := (burstFlag e 6 (s.put (BURST_PM_STATUS_STATE e.n) 4)).put (BURST_PM_STATUS_WAKE_CAUSE e.n) code
    if st = 2 then
      s.each sideChannels (fun c s => if s.act e c = 5 then
        (unlock e c s).modCh e c (fun x => { x with wakeReturn := true }) else s)
    else s
  else s

/-! ### Carrier firmware's writes (R51, R53, R54, R70) -/

/-- `ACT_EN` set: channel 0 leaves Dark. Cleared: every channel returns to Dark (Table 03-5), from O7 too: DESIGN CHOICE, log
51, since R71 lets no register write release O7. The disable stays on record, so the engine goes back to O7 from its next
O1.2. An engine held in reset takes no write (R8, R33). -/
def setActEn (e : Engine) (v : Bool) (s : State) : State :=
  if s.engineHeld e then s else
  let s := s.putB (TC_ACT_CTRL_ACT_EN e.n) v
  if v then
    let s := carrierRuns s
    if s.act e 0 = 0 then enterState0 e 1 s else s
  else
    let s := enterState0 e 0 s
    s.each sideChannels (fun c s => enterState e c 0 s)

/-- A write of ACT_EN (R53). -/
def execActEn (a : Agent) (e : Engine) (v : Bool) (s : State) : Out :=
  .next (s.byAgent [.carrier] a (setActEn e v))

/-- `CH_JOIN` bit c: set lets channel c leave Dark from channel 0's O5; cleared sends it to Dark (R54, R70). -/
def setChJoin (e : Engine) (c : Ch) (v : Bool) (s : State) : State :=
  if c = 0 || s.engineHeld e then s
  else
    let s := s.putB ((TC_ACT_CTRL_CH_JOIN e.n).bit (c.val - 1)) v
    if v then joinIfDue e c s
    else (enterState e c 0 s).modCh e c (fun x => { x with hold := false })

/-- A write of a CH_JOIN bit (R54). Channel 0 has none: nothing happens. -/
def execChJoin (a : Agent) (e : Engine) (c : Ch) (v : Bool) (s : State) : Out :=
  .next (s.byAgent [.carrier] a (setChJoin e c v))

/-- A write of 1 to DEACT acts as Deactivate_ONU-ID on channel 0; hardware clears the bit (R70). -/
def writeDeact (e : Engine) (s : State) : State :=
  (deactivate e 0 s).put (TC_ACT_CTRL_DEACT e.n) 0

/-- A write of DEACT (R70). -/
def execDeact (a : Agent) (e : Engine) (s : State) : Out :=
  .next (s.byAgent [.carrier] a (writeDeact e))

/-! ### PLOAM messages: address, MIC, sequence number (R67 to R69) -/

/-- A dropped or refused message (Table 03-13). -/
def ploamBad (e : Engine) (s : State) : State := actFlag e 14 s

/-- The messages that concern the whole engine and are answered on channel 0 only (R53). -/
def engineWide : PloamBody → Bool
  | .assignOnuId .. => true
  | .disableSerialNumber .. => true
  | .assignAllocId .. => true
  | .keyControl _ => true
  | .sleepAllow _ => true
  | _ => false

/-- Burst_Profile: store one of four profiles and move on from O1.2, or refuse it (R546, R69). -/
def actBurstProfile (e : Engine) (c : Ch) (p : ProfileMsg) (s : State) : State :=
  if p.index ≤ 3 ∧ (p.profile.rate = 124416 ∨ p.profile.rate = 248832 ∨ p.profile.rate = 497664) then
    let s := s.modCh e c (fun x => { x with profiles := (p.index, p.profile) :: x.profiles.filter (fun q => q.1 ≠ p.index) })
    if s.act e c = 2 then moveState e c (if c = 0 then 3 else 4) s else s
  else ploamBad e s

/-- Assign_ONU-ID: in O2-3 with the engine's serial number and an ONU-ID up to 1,020 (R61). In any other state an accepted one
changes nothing and sets no PLOAM_BAD: DESIGN CHOICE, log 51, for R61 speaks of O2-3 alone. -/
def actAssignOnuId (e : Engine) (sn : Serial) (id : Nat) (s : State) : State :=
  if s.act e 0 = 3 then
    if sn = s.serial e ∧ id ≤ 1020 then
      let s := s.put (TC_ONU_ID_ONU_ID e.n) id
      let s := s.put (TC_DISC_STAT_TRIES e.n) 0
      enterState0 e 4 s
    else ploamBad e s
  else s

/-- Ranging_Time: set or adjust the channel's delay; the first in O4 takes the channel to O5 (R63, R64). In a state other than
O4 and O5 an accepted one changes nothing and sets no flag: DESIGN CHOICE, log 51, for R63 names no state. -/
def actRangingTime (e : Engine) (c : Ch) (relative : Bool) (v : Int) (s : State) : State :=
  if s.act e c = 4 ∨ s.act e c = 5 then
    let new : Int := if relative then (s.eqd e c : Int) + v else v
    if 0 ≤ new ∧ new < 2 ^ 26 then
      let jump := c = 0 && decide (1048576 < (new - (s.eqd e c : Int)).natAbs)
      let s := s.when jump (stopTod e)
      let s := (s.put (TC_EQD_EQD e.n c.val) new.toNat).putB (TC_EQD_VALID e.n c.val) true
      if s.act e c = 4 then
        let s := moveState e c 5 s
        if c = 0 then s.each sideChannels (fun d s => joinIfDue e d s) else s
      else s
    else ploamBad e s
  else s

/-- Disable_Serial_Number: a disable of the engine's serial number moves its channels to O7 and is recorded; an enable
moves channel 0 to O1.1 and the others to Dark (R71). -/
def actDisableSerialNumber (e : Engine) (sn : Serial) (enable : Bool) (s : State) : State :=
  if sn ≠ s.serial e then s
  else if enable then
    if s.act e 0 = 7 then
      let s := recordDisable e false s
      let s := s.each sideChannels (fun c s => if s.act e c = 7 then enterState e c 0 s else s)
      enterState0 e 1 s
    else s
  else
    let s := recordDisable e true s
    if s.act e 0 = 7 ∨ s.act e 0 = 0 then s
    else
      let s := actFlag e 12 (enterState0 e 7 s)
      let s := discardIdentity e s
      s.each sideChannels (fun c s => if s.act e c = 0 then s else enterState e c 7 s)

/-- What an accepted message of Table 03-4 does, beside its copy to carrier firmware. -/
def actPloam (e : Engine) (c : Ch) (b : PloamBody) (s : State) : State :=
  match b with
  | .burstProfile p => actBurstProfile e c p s
  | .assignOnuId sn id => actAssignOnuId e sn id s
  | .rangingTime rel v => actRangingTime e c rel v s
  | .deactivateOnuId => deactivate e c s
  | .disableSerialNumber sn en => actDisableSerialNumber e sn en s
  | .requestRegistration => s.modCh e c (fun x => { x with regPending := true })
  | .assignAllocId .. => s
  | .keyControl _ => s
  | .sleepAllow al => s.modLine e (fun l => { l with sleepAllow := al })
  | .tuningControl => ploamBad e s
  | .other _ => ploamBad e s

/-- Whether a message type is one of Table 03-4's (R69: any other is acknowledged as not supported). -/
def ploamSupported : PloamBody → Bool
  | .other _ => false
  | _ => true

/-- A message addressed to the engine by its ONU-ID (R67). -/
def State.unicast (s : State) (e : Engine) (h : PloamHdr) : Bool := decide (s.onuId e ≠ 1023 ∧ h.onuId = s.onuId e)

/-- A downstream PLOAM message is judged by its address, its MIC and its sequence number, then acted on (R67 to R69,
R53, R87). A unicast message with a good MIC is a wake event (R163). A type that Table 03-4 does not list is acknowledged
as not supported whatever its address (R69). -/
def receivePloam (e : Engine) (c : Ch) (h : PloamHdr) (b : PloamBody) (s : State) : State :=
  let uni := s.unicast e h
  if s.act e c ≤ 1 then s
  else if !uni && h.onuId ≠ 1023 then s
  else if !h.micOk then actFlag e 13 s
  else
    let s := s.when uni (wakeEvent e 2)
    if uni && (s.ch e c).lastSeq = some h.seq then
      s.modCh e c (fun x => { x with ackQ := x.ackQ ++ x.ack.toList })
    else if c ≠ 0 && engineWide b then ploamBad e s
    else
      let ack : UpPloam := .acknowledge h.seq (ploamSupported b)
      let s := s.when uni (fun s => s.modCh e c (fun x => { x with lastSeq := some h.seq, ack := some ack }))
      let s := s.when (uni || !ploamSupported b) (fun s => s.modCh e c (fun x => { x with ackQ := x.ackQ ++ [ack] }))
      actPloam e c b (sendUp e (.ploam c.val ⟨h, b⟩) s)

/-- Burst_Profile (R546). -/
def execBurstProfile (e : Engine) (c : Ch) (h : PloamHdr) (p : ProfileMsg) (s : State) : Out :=
  .next (receivePloam e c h (.burstProfile p) s)

/-- Assign_ONU-ID (R61). -/
def execAssignOnuId (e : Engine) (c : Ch) (h : PloamHdr) (sn : Serial) (id : Nat) (s : State) : Out :=
  .next (receivePloam e c h (.assignOnuId sn id) s)

/-- Ranging_Time (R63, R64). -/
def execRangingTime (e : Engine) (c : Ch) (h : PloamHdr) (relative : Bool) (v : Int) (s : State) : Out :=
  .next (receivePloam e c h (.rangingTime relative v) s)

/-- Deactivate_ONU-ID (R70). -/
def execDeactivateOnuId (e : Engine) (c : Ch) (h : PloamHdr) (s : State) : Out :=
  .next (receivePloam e c h .deactivateOnuId s)

/-- Disable_Serial_Number that disables (R71). -/
def execDisableSerialNumber (e : Engine) (c : Ch) (h : PloamHdr) (sn : Serial) (s : State) : Out :=
  .next (receivePloam e c h (.disableSerialNumber sn false) s)

/-- Disable_Serial_Number that enables (R71). -/
def execEnableSerialNumber (e : Engine) (c : Ch) (h : PloamHdr) (sn : Serial) (s : State) : Out :=
  .next (receivePloam e c h (.disableSerialNumber sn true) s)

/-- Request_Registration (Table 03-4). -/
def execRequestRegistration (e : Engine) (c : Ch) (h : PloamHdr) (s : State) : Out :=
  .next (receivePloam e c h .requestRegistration s)

/-- Sleep_Allow (Table 03-4, R158, R163). -/
def execSleepAllow (e : Engine) (c : Ch) (h : PloamHdr) (allow : Bool) (s : State) : Out :=
  .next (receivePloam e c h (.sleepAllow allow) s)

/-- Tuning_Control is refused (R69). -/
def execTuningControl (e : Engine) (c : Ch) (h : PloamHdr) (s : State) : Out :=
  .next (receivePloam e c h .tuningControl s)

/-- A message type that Table 03-4 does not list (R69). -/
def execUnsupportedPloam (e : Engine) (c : Ch) (h : PloamHdr) (type : Nat) (s : State) : Out :=
  .next (receivePloam e c h (.other type) s)

/-! ### Timers and the burst gate -/

/-- The wait for Assign_ONU-ID ends unanswered: TRIES rises and the grants to skip are drawn (R59, R60). -/
def execDiscoveryTimeout (e : Engine) (s : State) : Out :=
  if s.act e 0 = 3 ∧ (s.line e).discWait then
    let s := s.satInc (TC_DISC_STAT_TRIES e.n) 255
    let n := min (s.get (TC_DISC_STAT_TRIES e.n)) 4
    let k := if s.isSet (TC_ACT_CTRL_BACKOFF_EN e.n) then s.drawn (2 ^ n) else 0
    .next (s.used.modLine e (fun l => { l with discWait := false, skip := k }))
  else .next s

/-- TO1 expires: the channel enters O1.1 (R62). -/
def execTo1Expiry (e : Engine) (c : Ch) (s : State) : Out :=
  if (s.ch e c).to1 then .next (moveState e c 1 s) else .next s

/-- TO2 expires: the channel enters O1.1 (R66). -/
def execTo2Expiry (e : Engine) (c : Ch) (s : State) : Out :=
  if (s.ch e c).to2 then .next (moveState e c 1 s) else .next s

/-- A burst gate open for 125 µs is closed by hardware: GATE_OVR, the burst counted as withheld, the channel to O1.1,
and a strike for a channel in the bond (R72, R120). -/
def execBurstGateOverrun (e : Engine) (c : Ch) (s : State) : Out :=
  if (s.ch e c).gate then
    let s := actFlag e (8 + c.val) (cutBurst e c s)
    let s := if (s.bond e c = 1 ∨ s.bond e c = 2) ∧ s.act e c = 5 then bondStrike e c s else s
    .next (moveState e c 1 s)
  else .next s

end Sys2Proof.Machine
end

