-- ==== Sys2Proof/Machine/Burst.lean ====
section
/-! DEFINITION. Upstream: slots, grants, burst assembly, launch and end, and power management (06_upstream_bursts.md). -/
namespace Sys2Proof.Machine

/-! ### Slots -/

/-- A line queue's entry: VALID, ENC and PORTID; a Port-ID of 0xFFFF leaves the field unchanged (Table 06-12). -/
def bindPort (e : Engine) (q : Nat) (enc : Bool) (port : Nat) (s : State) : State :=
  let s := s.putB (BURST_QPORT_ENC e.n q) enc
  let s := if port < 0xFFFF then s.put (BURST_QPORT_PORTID e.n q) port else s
  s.putB (BURST_QPORT_VALID e.n q) true

/-- Carrier firmware binds an Alloc-ID to a slot and its line queues; RS is due on the slot's next bonded frame
(R137, R130). -/
def bindSlot (e : Engine) (sl : Nat) (b : SlotBinding) (s : State) : State :=
  let s := s.put (BURST_SLOT_CH e.n sl) b.ch.val
  let s := if 0 < b.cells ∧ b.cells < 4096 then s.put (BURST_SLOT_CELLS e.n sl) b.cells else s
  let s := s.put (BURST_SLOT_ALLOC_ID e.n sl) b.allocId
  let s := s.putB (BURST_SLOT_VALID e.n sl) true
  let s := s.modLine e (fun l => { l with rsDone := sset (fun _ => false) l.rsDone sl false })
  s.each b.ports (fun p s => bindPort e (8 * sl + p.1.val) p.2.1 p.2.2 s)

/-- What carrier firmware does on Assign_Alloc-ID: it binds or frees the slot (R137, R141). -/
def execAssignAllocId (e : Engine) (sl : Slot) (b : SlotBinding) (s : State) : Out :=
  .next (if b.valid then bindSlot e sl.val b s else freeSlot e sl.val s)

/-- A write that clears a slot's VALID (R141). -/
def execSlotFree (a : Agent) (e : Engine) (sl : Slot) (s : State) : Out :=
  .next (s.byAgent [.carrier] a (freeSlot e sl.val))

/-- Clearing VALID of a line queue discards the frames it holds (Table 06-12). -/
def disableQport (e : Engine) (q : Nat) (s : State) : State :=
  showRoom e (flushQueue e q (s.putB (BURST_QPORT_VALID e.n q) false))

/-- A write that clears a line queue's VALID (Table 06-12). -/
def execQportDisable (a : Agent) (e : Engine) (q : LineQ) (s : State) : Out :=
  .next (s.byAgent [.carrier] a (disableQport e q.val))

/-! ### Taking a grant (R143, R154) -/

/-- Whether an Alloc-ID is bound in the burst engine, and its slot. -/
def State.slotOf (s : State) (e : Engine) (id : Nat) : Option Nat :=
  (List.range 64).find? (fun sl => s.isSet (BURST_SLOT_VALID e.n sl) && s.get (BURST_SLOT_ALLOC_ID e.n sl) = id)

/-- What an allocation of this map is bound to: the slot and its CH (R137). -/
def State.bindOf (s : State) (e : Engine) (g : Alloc) : Option (Nat × Nat) :=
  (s.slotOf e g.allocId).map (fun sl => (sl, s.get (BURST_SLOT_CH e.n sl)))

/-- A kept structure as a burst of its own, with the counter, PSync instant and delay of the frame that carried it. -/
def soleGrant (s : State) (e : Engine) (c : Ch) (g : Alloc) : Grant :=
  { allocs := [g], orphan := g.start = 0xFFFF,
    sfc := s.get (TC_SFC_SFC_LO e.n c.val) + s.get (TC_SFC_SFC_HI e.n c.val) * 2 ^ 32,
    psync := (s.ch e c).psync, eqd := s.eqd e c, arrived := s.now, binds := [s.bindOf e g] }

/-- The burst engine takes a kept structure: a chained one joins the burst before it when that structure was kept. -/
def keepGrant (e : Engine) (c : Ch) (g : Alloc) (s : State) : State :=
  s.modCh e c (fun x =>
    let own := soleGrant s e c g
    let gs := match decide (g.start = 0xFFFF) && x.prevKept, x.grants.reverse with
      | true, last :: before =>
        before.reverse ++ [{ last with allocs := last.allocs ++ [g], binds := last.binds ++ own.binds }]
      | _, _ => x.grants ++ [own]
    { x with grants := gs, prevKept := true })

/-- Whether the channel keeps a structure with a good HEC (R86). -/
def State.keeps (s : State) (e : Engine) (c : Ch) (id : Nat) : Bool :=
  let st := s.act e c
  (st = 5 && (s.slotOf e id).isSome) ||
  ((st = 4 || st = 5) && s.onuId e ≠ 1023 && id = s.onuId e) ||
  (st = 3 && id = 1023)

/-! ### Judging a grant (Table 06-3, R144, R145, R149, R155, R156) -/

/-- Bytes of a grant word at an upstream rate (Table 06-1). -/
def wordBytes (rate : Nat) : Nat := if rate = 124416 then 4 else if rate = 248832 then 8 else 16

/-- Unit intervals of 49.7664 Gb/s in one bit at an upstream rate. -/
def uiPerBit (rate : Nat) : Nat := if rate = 124416 then 4 else if rate = 248832 then 2 else 1

/-- The profile a burst's first allocation names, if the channel holds it. -/
def State.profileOf (s : State) (e : Engine) (c : Ch) (g : Grant) : Option Profile :=
  match g.allocs with
  | [] => none
  | a :: _ => ((s.ch e c).profiles.find? (fun q => q.1 = a.profile)).map (·.2)

/-- Words of content of a burst: the sum of its GRANT values (R144). -/
def contentWords (g : Grant) : Nat := (g.allocs.map (·.grant)).foldl (· + ·) 0

/-- START of a burst. -/
def Grant.start (g : Grant) : Nat := (g.allocs.map (·.start)).headD 0

/-- Words of preamble and delimiter, rounded up. -/
def preWords (p : Profile) : Nat := (p.preamble + p.delimiter + 8 * wordBytes p.rate - 1) / (8 * wordBytes p.rate)

/-- Words of FEC parity: 336 bytes for every codeword begun (R149). -/
def parityWords (p : Profile) (words : Nat) : Nat :=
  if p.fec then (words * wordBytes p.rate + 1823) / 1824 * 336 / wordBytes p.rate else 0

/-- The burst's last word on the fibre, counted from START's frame (R155, Table 06-4). -/
def lastWord (p : Profile) (g : Grant) : Nat := g.start + contentWords g + parityWords p (contentWords g) - 1

/-- The launch instant of the first preamble bit, in steps of 10^-4 unit interval (R145). -/
def launchOf (p : Profile) (g : Grant) : Nat :=
  g.psync + (1741824 + g.eqd + 128 * g.start - (p.preamble + p.delimiter) * uiPerBit p.rate) * 10000

/-- The start of the first preamble word and of the last word, in the same steps (R156). -/
def spanOf (p : Profile) (g : Grant) : Nat × Nat :=
  (g.psync + (1741824 + g.eqd + 128 * g.start - 128 * preWords p) * 10000,
   g.psync + (1741824 + g.eqd + 128 * lastWord p g) * 10000)

/-- Bytes an allocation must carry (R155). -/
def needBytes (first : Bool) (a : Alloc) : Nat :=
  (if first then 8 else 0) + (if a.ploamu then 48 else 0) + (if a.dbru then 4 else 0)

/-- Whether the allocations of a burst, the first marked, keep R155's rules on their own fields. -/
def fieldsPossible (p : Profile) : Bool → List Alloc → Bool
  | _, [] => true
  | first, a :: as =>
    (if first then true else !a.ploamu) &&
    (decide (needBytes first a ≤ a.grant * wordBytes p.rate)) && fieldsPossible p false as

/-- Whether a burst is impossible (R155). `needsPloam` says that the activation state machine answers it. -/
def impossible (s : State) (e : Engine) (c : Ch) (g : Grant) (needsPloam : Bool) : Bool :=
  match s.profileOf e c g with
  | none => true
  | some p =>
    g.orphan || (decide (48600 ≤ g.start)) || !fieldsPossible p true g.allocs ||
    (needsPloam && !((g.allocs.map (·.ploamu)).headD false)) || decide (48599 < lastWord p g)

/-- Whether a burst's first allocation arrived less than 6 µs before its launch (Table 06-3). -/
def lateGrant (p : Profile) (g : Grant) : Bool := decide (launchOf p g < g.arrived * 497664 + 2985984000)

/-- Two bursts conflict: fewer than 10 whole words lie between them (R156). -/
def spansClash (a b : Nat × Nat) : Bool := decide (b.1 ≤ a.2 + 12800000) && decide (a.1 ≤ b.2 + 12800000)

/-- Whether a burst of this span conflicts with one that stands: assembled and waiting, or the latest (R156). -/
def State.clashes (s : State) (e : Engine) (c : Ch) (span : Nat × Nat) : Bool :=
  (match (s.ch e c).lastSpan with
    | some x => spansClash x span
    | none => false) ||
  (s.ch e c).bursts.any (fun b => spansClash (b.first, b.last) span)

/-- Whether a grant's burst conflicts with one that stands. -/
def overlaps (s : State) (e : Engine) (c : Ch) (p : Profile) (g : Grant) : Bool := s.clashes e c (spanOf p g)

/-- A burst is stopped: its counter, against its channel, and its flag, if it has one (Table 06-3). -/
def stopBurst (e : Engine) (c : Ch) (cnt : Nat) (flag : Option Nat) (s : State) : State :=
  let s := s.bump (BURST_CNT e.n c.val cnt)
  match flag with
  | some b => burstFlag e b s
  | none => s

/-- The cause among the first three of Table 06-3 that stops a burst: counter and flag. -/
def stopCause (s : State) (e : Engine) (c : Ch) (g : Grant) (needsPloam : Bool) : Option (Nat × Nat) :=
  if impossible s e c g needsPloam then some (4, 0)
  else match s.profileOf e c g with
    | none => some (4, 0)
    | some p =>
      if lateGrant p g then some (5, 1)
      else if overlaps s e c p g then some (6, 2)
      else none

/-! ### Filling a burst (R126 to R129, R138, R140, R142, R144, R148 to R151, R157) -/

/-- `LAST_UK`, when it names a slot that holds a key (R150, R151). -/
def State.upKey (s : State) (e : Engine) : Nat :=
  let k := s.get (TC_KEY_STATUS_LAST_UK e.n)
  if k ≠ 0 ∧ (s.ponKey e k).isSome then k else 0

/-- AES-128 in counter mode over a payload, from the counter block that G.9804.2 builds (R95, R150): encryption and decryption
are one. -/
def ponCipher (up : Bool) (key sfc pos : Nat) (bs : List Byte) : List Byte :=
  toBytes (aesCtr (toNats (bytesBE 16 key)) (Config.ponCounter up sfc pos) (toNats bs))

/-- The payload of an upstream XGEM frame as the fibre carries it: clear under key index 0, else under that unicast key
(R150). -/
def State.upPayload (s : State) (e : Engine) (keyIdx sfc pos : Nat) (bs : List Byte) : List Byte :=
  if keyIdx = 0 then bs
  else match s.ponKey e keyIdx with
    | some k => ponCipher true k sfc pos bs
    | none => bs

/-- The bytes a frame takes on the fibre: XGEM header, bond tag, padding to 8 (R142). -/
def sentBytes (bonded : Bool) (f : UpFrame) : Nat :=
  8 + ((if bonded then 8 else 0) + f.bytes.length + 7) / 8 * 8

/-- The bond tag of an upstream frame (Table 05-2, R130). -/
def upTag (rs : Bool) (chmap sl seq : Nat) : List Byte :=
  let t := [BitVec.ofNat 8 (0x10 + 8 * rs.toNat), BitVec.ofNat 8 (chmap * 16), BitVec.ofNat 8 sl] ++ bytesBE 3 seq
  t ++ bytesBE 2 (crc16 t)

/-- Take frames from the head of a queue while they fit, passing over those already in a burst. Answers the frames
taken and the room left. -/
def takeFit (bonded : Bool) : Nat → List UpFrame → List UpFrame × Nat
  | room, [] => ([], room)
  | room, f :: fs =>
    if f.placed then takeFit bonded room fs
    else if sentBytes bonded f ≤ room then
      let (t, r) := takeFit bonded (room - sentBytes bonded f) fs
      (f :: t, r)
    else ([], room)

/-- What the filling of a burst has gathered: the state, the frames placed in this allocation, the position of the next byte in
the burst's content, and whether a frame waits for a key. -/
structure Fill where
  s : State
  placed : List Placed
  pos : Nat
  keyWait : Bool

/-- Place a frame at the next position, its payload encrypted under `keyIdx` (R150). -/
def Fill.add (x : Fill) (e : Engine) (sfc : Nat) (lq : Option Nat) (portId keyIdx : Nat) (bonded : Bool) (tag : List Byte)
    (f : UpFrame) : Fill :=
  let p : Placed := ⟨lq, portId, keyIdx, tag, f, x.pos, x.s.upPayload e keyIdx sfc x.pos (tag ++ f.bytes)⟩
  { x with placed := x.placed ++ [p], pos := x.pos + sentBytes bonded f }

/-- The channels in In, as CHMAP (R130). -/
def State.chmap (s : State) (e : Engine) : Nat :=
  (channels.map (fun d => if s.bond e d = 1 then 2 ^ d.val else 0)).foldl (· + ·) 0

/-- A bonded frame of a live burst takes its slot's next SEQ on channel `c` (R126, R130). -/
def takeSeq (e : Engine) (c : Ch) (sl : Nat) (s : State) : State :=
  (s.modLine e (fun l => { l with
    slotSeq := sset (fun _ => 0) l.slotSeq sl ((sget (fun _ => 0) l.slotSeq sl + 1) % 2 ^ 24)
    rsDone := sset (fun _ => false) l.rsDone sl true })).bump (BOND_CHCNT e.n c.val 4)

/-- Place one frame of a queue; in a live burst it is marked, and a bonded one takes its slot's next SEQ (R126, R130,
R174). -/
def placeFrame (e : Engine) (c : Ch) (sfc sl q : Nat) (bonded shadow : Bool) (keyIdx : Nat) (f : UpFrame) (x : Fill) : Fill :=
  let s := x.s
  let l := s.line e
  let tag := if bonded && !shadow then
      upTag (!sget (fun _ => false) l.rsDone sl) (s.chmap e) sl (sget (fun _ => 0) l.slotSeq sl)
    else []
  let x := x.add e sfc (some q) (s.get (BURST_QPORT_PORTID e.n q)) keyIdx bonded tag f
  if shadow then x
  else
    let s := setQueue e q ((s.queue e q).map (fun g => if g.id = f.id then { g with placed := true } else g)) s
    { x with s := s.when bonded (takeSeq e c sl) }

/-- Serve the queues of a slot in strict priority, highest first, into `room` bytes (R140, R127, R151). -/
def fillSlot (e : Engine) (c : Ch) (sfc sl : Nat) (bonded shadow : Bool) : List Nat → Nat → Fill → Fill
  | [], _, x => x
  | k :: ks, room, x =>
    let q := 8 * sl + k
    let enc := x.s.isSet (BURST_QPORT_ENC e.n q)
    let key := if enc then x.s.upKey e else 0
    if enc && key = 0 then
      let waits := (x.s.queue e q).any (fun f => !f.placed)
      fillSlot e c sfc sl bonded shadow ks room { x with keyWait := x.keyWait || waits }
    else
      let (t, r) := takeFit bonded room (x.s.queue e q)
      fillSlot e c sfc sl bonded shadow ks r (t.foldl (fun x f => placeFrame e c sfc sl q bonded shadow key f x) x)

/-- Serve the control queue into `room` bytes: OMCC frames on the ONU-ID's Port-ID, clear while LAST_UK is 0 (R138,
R150). -/
def fillControl (e : Engine) (sfc : Nat) (shadow : Bool) (room : Nat) (x : Fill) : Fill :=
  let (t, _) := takeFit false room (x.s.line e).ctrl
  let ids := t.map (·.id)
  let x := t.foldl (fun x f => x.add e sfc none (x.s.onuId e) (x.s.upKey e) false [] f) x
  if shadow then x
  else { x with s := x.s.modLine e (fun l => { l with
    ctrl := l.ctrl.map (fun g => if ids.contains g.id then { g with placed := true } else g) }) }

/-- The occupancy report of a slot, in units of 4 bytes, saturating (R142). -/
def slotReport (s : State) (e : Engine) (sl : Nat) : Nat :=
  let held := ((List.range 8).map (fun k =>
    ((s.queue e (8 * sl + k)).map (sentBytes (s.slotBonded e sl))).foldl (· + ·) 0)).foldl (· + ·) 0
  let hub := sget (fun _ => 0) (s.line e).hubBacklog sl +
    sget (fun _ => 0) (s.line e).hubFrames sl * (if s.slotBonded e sl then 16 else 8)
  min ((held + hub + 3) / 4) 0xFFFFFE

/-- The occupancy report of the default Alloc-ID counts the control queue (R142). -/
def ctrlReport (s : State) (e : Engine) : Nat :=
  min (((((s.line e).ctrl.map (sentBytes false)).foldl (· + ·) 0) + 3) / 4) 0xFFFFFE

/-- The occupancy report that an allocation asks for: of the control queue, of the slot it is bound to, or of none (R142). -/
def reportOf (s : State) (e : Engine) (a : Alloc) (bind : Option (Nat × Nat)) : Nat :=
  if a.allocId = s.onuId e then ctrlReport s e
  else match bind with
    | some (sl, _) => slotReport s e sl
    | none => 0

/-- A slot still bound to the Alloc-ID that the map's allocation named (R137, R141). -/
def State.stillBound (s : State) (e : Engine) (a : Alloc) (bind : Option (Nat × Nat)) : Option (Nat × Nat) :=
  bind.filter (fun x => s.isSet (BURST_SLOT_VALID e.n x.1) && s.get (BURST_SLOT_ALLOC_ID e.n x.1) = a.allocId)

/-- The frames of one allocation. A channel that sits out or is retired sends idle fill (R128). The control queue goes on
channel 0 while the OMCC is open (R75); a bonded slot is served while the channel is In; an unbonded one on the channel that
its CH named at the map (R129, R137, R157). -/
def fillFrames (e : Engine) (c : Ch) (sfc : Nat) (shadow : Bool) (a : Alloc) (bind : Option (Nat × Nat)) (room : Nat)
    (x : Fill) : Fill :=
  let s := x.s
  let out := s.bond e c = 2 || s.bond e c = 3
  let order := [7, 6, 5, 4, 3, 2, 1, 0]
  if a.allocId = s.onuId e then
    if c = 0 && (s.line e).omccOpen && !out then fillControl e sfc shadow room x else x
  else match bind with
    | none => x
    | some (sl, ch) =>
      if s.slotBonded e sl then (if s.bond e c = 1 then fillSlot e c sfc sl true shadow order room x else x)
      else if ch = c.val then (if out then x else fillSlot e c sfc sl false shadow order room x)
      else { x with s := s.bump (BURST_CNT e.n c.val 10) }

/-- Fill one allocation: its report if asked for, its frames, then idle fill up to exactly its GRANT (R144, R148). -/
def fillAlloc (e : Engine) (c : Ch) (p : Profile) (sfc : Nat) (shadow first : Bool) (a : Alloc) (bind : Option (Nat × Nat))
    (x : Fill) : Fill × BurstPart :=
  let room := a.grant * wordBytes p.rate - needBytes first a
  let bind := x.s.stillBound e a bind
  let rep := if a.dbru then some (reportOf x.s e a bind) else none
  let start := x.pos + (if a.dbru then 4 else 0)
  let y := fillFrames e c sfc shadow a bind room { x with placed := [], pos := start }
  ({ y with placed := [], pos := start + room }, ⟨rep, y.placed, start + room - y.pos⟩)

/-- Fill every allocation of a burst in map order. -/
def fillAll (e : Engine) (c : Ch) (p : Profile) (sfc : Nat) (shadow : Bool) :
    Bool → List (Alloc × Option (Nat × Nat)) → Fill → Fill × List BurstPart
  | _, [], x => (x, [])
  | first, a :: as, x =>
    let (x, b) := fillAlloc e c p sfc shadow first a.1 a.2 x
    let (x, bs) := fillAll e c p sfc shadow false as x
    (x, b :: bs)

/-- The first allocation of a burst asks for a PLOAM message. -/
def Grant.ploamu (g : Grant) : Bool := (g.allocs.map (·.ploamu)).headD false

/-- The PLOAM message a burst carries when its first PLOAMU is 1 (R148, R68, R69, Table 03-4). A Registration message goes
first, then an acknowledgement, then carrier firmware's oldest message: DESIGN CHOICE, log 51, for the spec gives no order.
While channel 0 is in O6 every message is held (R66). -/
def upPloam (s : State) (e : Engine) (c : Ch) (g : Grant) : Option UpPloam :=
  if g.ploamu then
    let x := s.ch e c
    if s.act e 0 = 6 then some .noMessage
    else if x.regPending ∧ (g.allocs.map (·.allocId)).headD 1023 = s.onuId e then
      some (.registration ((List.range 9).map (fun w => s.reg (TC_REG_ID e.n w))))
    else match x.ackQ, x.fwPloam with
      | m :: _, _ => some m
      | [], m :: _ => some (.firmware m)
      | [], [] => some .noMessage
  else none

/-- A burst takes its PLOAM message out of what waits on its channel. -/
def takePloam (e : Engine) (c : Ch) (m : Option UpPloam) (s : State) : State :=
  match m with
  | some (.registration _) => s.modCh e c (fun x => { x with regPending := false })
  | some (.acknowledge _ _) => s.modCh e c (fun x => { x with ackQ := x.ackQ.drop 1 })
  | some (.firmware _) => s.modCh e c (fun x => { x with fwPloam := x.fwPloam.drop 1 })
  | _ => s

/-- The burst header's ONU-ID and dying-gasp indication: channel 0 of the engine with the permit by claim, from the power-fail
event on (R148, R466). -/
def burstHeader (s : State) (e : Engine) (c : Ch) : Nat × Bool :=
  (s.onuId e, c = 0 && s.isSet KP_VIN_DG_ACTIVE && s.byClaim e)

/-- The launch word by which a grant's burst is ordered on its channel, as an instant; a grant without one comes first. -/
def wordOf (s : State) (e : Engine) (c : Ch) (g : Grant) : Nat :=
  match s.profileOf e c g with
  | some p => if g.orphan then 0 else (spanOf p g).1
  | none => 0

/-- The grant that launches first, the earlier in the map at the same launch word (R156), and the others. -/
def firstGrant (s : State) (e : Engine) (c : Ch) : Option (Grant × List Grant) :=
  match (s.ch e c).grants with
  | [] => none
  | g0 :: gs =>
    let best := gs.foldl (fun b g => if wordOf s e c g < wordOf s e c b then g else b) g0
    some (best, (g0 :: gs).erase best)

/-- The instant at which a grant's burst launches; 0 when it has none. -/
def instantOf (s : State) (e : Engine) (c : Ch) (g : Grant) : Nat :=
  match s.profileOf e c g with
  | some p => if g.orphan then 0 else launchOf p g
  | none => 0

/-- The bonded slots that a grant's allocations are bound to. -/
def bondedSlots (s : State) (e : Engine) (g : Grant) : List Nat :=
  (g.binds.filterMap (fun b => b.map (·.1))).filter (s.slotBonded e)

/-- A grant on one channel launches ahead of a grant on another: earlier, or at the same time on the lower channel
(R126). -/
def ahead (s : State) (e : Engine) (x y : Ch × Grant) : Bool :=
  let i := instantOf s e x.1 x.2
  let j := instantOf s e y.1 y.2
  decide (i < j) || (decide (i = j) && decide (x.1 < y.1))

/-- A grant has to wait for the filling of another channel's: one that launches ahead of it and shares a bonded slot, both
channels In (R126, R152). -/
def mustWait (s : State) (e : Engine) (c : Ch) (g : Grant) : Bool :=
  s.bond e c = 1 && channels.any (fun d => d ≠ c && s.bond e d = 1 && (match firstGrant s e d with
    | some (h, _) => ahead s e (d, h) (c, g) && (s.ch e d).grants.any (fun k =>
        ahead s e (d, k) (c, g) && (bondedSlots s e k).any (bondedSlots s e g).contains)
    | none => false))

/-- Assembly of a burst, 6 µs before its launch: the first three causes of Table 06-3 are judged, then the burst is
filled; an engine that is not live builds a shadow burst, which takes nothing (R148, R153, R174, R182). -/
def assemble (e : Engine) (c : Ch) (g : Grant) (s : State) : State :=
  match stopCause s e c g false, s.profileOf e c g with
  | some (cnt, b), _ => stopBurst e c cnt (some b) s
  | none, none => s
  | none, some p =>
    let shadow := !s.live e
    let ploam := upPloam s e c g
    let hdr := burstHeader s e c
    let s := if shadow then s else takePloam e c ploam s
    let (x, parts) := fillAll e c p g.sfc shadow true (g.allocs.zip g.binds) ⟨s, [], if g.ploamu then 52 else 4, false⟩
    let s := if x.keyWait then burstFlag e 7 (x.s.bump (BURST_CNT e.n c.val 11)) else x.s
    let (f, l) := spanOf p g
    let b : Burst :=
      { kind := .traffic, launch := launchOf p g, first := f, last := l, header := hdr, ploam := ploam,
        parts := parts, contentWords := contentWords g, profile := p, shadow := shadow }
    s.modCh e c (fun y => { y with bursts := y.bursts ++ [b], lastSpan := some (f, l) })

/-! ### Grants that the activation state machine answers (R57 to R62, R547) -/

/-- A burst of the activation state machine, delayed by `roll`: its message, and the reports that its grant asks for. -/
def answerBurst (s : State) (e : Engine) (c : Ch) (p : Profile) (g : Grant) (kind : BurstKind) (m : UpPloam)
    (roll : Nat) : Burst :=
  let (f, l) := spanOf p g
  let part (first : Bool) (a : Alloc) (b : Option (Nat × Nat)) : BurstPart :=
    ⟨if a.dbru then some (reportOf s e a (s.stillBound e a b)) else none, [], a.grant * wordBytes p.rate - needBytes first a⟩
  { kind := kind, launch := launchOf p g + roll, first := f + roll, last := l + roll,
    header := burstHeader s e c, ploam := some m,
    parts := (g.allocs.zip g.binds).zipIdx.map (fun x => part (x.2 = 0) x.1.1 x.1.2), contentWords := contentWords g,
    profile := p, shadow := false }

/-- The activation state machine takes one grant: in O2-3 it is ignored during a wait, skipped while grants are to be
skipped, and otherwise answered after a fresh roll; in O4 it is answered with a Registration message. An impossible or late
one is stopped before (R57 to R60, R62, R547). -/
def answerOne (e : Engine) (c : Ch) (g : Grant) (s : State) : State × Option Burst :=
  match impossible s e c g true, s.profileOf e c g with
  | true, _ => (stopBurst e c 4 (some 0) s, none)
  | false, none => (stopBurst e c 4 (some 0) s, none)
  | false, some p =>
    if lateGrant p g then (stopBurst e c 5 (some 1) s, none)
    else if s.act e c = 3 then
      if (s.line e).discWait then (s, none)
      else if 0 < (s.line e).skip ∧ s.isSet (TC_ACT_CTRL_BACKOFF_EN e.n) then
        (s.modLine e (fun l => { l with skip := l.skip - 1 }), none)
      else
        let roll := s.drawn (s.get (TC_DISC_CFG_ROLL_SPAN e.n))
        let s := s.used.put (TC_DISC_STAT_LAST_ROLL e.n) roll
        (s, some (answerBurst s e c p g .serialNumber (.serialNumberOnu (s.serial e) roll) (roll * 15925248)))
    else
      let m := UpPloam.registration ((List.range 9).map (fun w => s.reg (TC_REG_ID e.n w)))
      (s, some (answerBurst s e c p g .registration m 0))

/-- An answer stands unless it conflicts with a burst that stands (R156). -/
def standBurst (e : Engine) (c : Ch) (b : Burst) (s : State) : State :=
  if s.clashes e c (b.first, b.last) then stopBurst e c 6 (some 2) s
  else s.modCh e c (fun x => { x with bursts := x.bursts ++ [b], lastSpan := some (b.first, b.last) })

/-- Put a burst into its place by launch word, behind those of the same word. -/
def byLaunch (b : Burst) : List Burst → List Burst
  | [] => [b]
  | x :: xs => if b.first < x.first then b :: x :: xs else x :: byLaunch b xs

/-- The kept grants of a channel in O2-3 or O4 are answered: each in map order, then the answers are held to R156 in the order
of their launch words. -/
def answerAll (e : Engine) (c : Ch) (s : State) : State :=
  let gs := (s.ch e c).grants
  let (s, bs) := gs.foldl (fun (x : State × List Burst) g =>
    let (s, b) := answerOne e c g x.1
    (s, b.elim x.2 (fun b => byLaunch b x.2))) (s.modCh e c (fun x => { x with grants := [] }), [])
  s.each bs (standBurst e c)

/-- BURST_ASSEMBLY: the channel's grant that launches first is assembled, once no other channel's is due before it on a bonded
slot that they share (R126, R148). In O2-3 and O4 the activation state machine answers what is kept (R547). -/
def execBurstAssembly (e : Engine) (c : Ch) (s : State) : Out :=
  if s.act e c = 3 ∨ s.act e c = 4 then .next (answerAll e c s)
  else match firstGrant s e c with
    | none => .next s
    | some (g, rest) =>
      if mustWait s e c g then .next s
      else .next (assemble e c g (s.modCh e c (fun x => { x with grants := rest })))

/-- A serial-number grant on a channel other than 0 is dropped (R53). -/
def strayGrant (c : Ch) (g : Alloc) : Bool := g.hecOk && c ≠ 0 && g.allocId = 1023

/-- A kept structure of a map in the order of the map; one not kept leaves its successor unchained (R143, R154). -/
def skipGrant (e : Engine) (c : Ch) (s : State) : State := s.modCh e c (fun x => { x with prevKept := false })

/-- GRANT_RECEIVE: a structure the channel keeps under R86 is taken; any other leaves its successor unchained
(R143, R154, R53). A forced wake-up indication wakes a sleeping engine (R163). -/
def execGrantReceive (e : Engine) (c : Ch) (g : Alloc) (s : State) : Out :=
  if strayGrant c g then .next (skipGrant e c (ploamBad e s))
  else if g.hecOk && s.keeps e c g.allocId then
    .next (keepGrant e c g (s.when (g.fwi && g.allocId ≠ 1023) (wakeEvent e 1)))
  else .next (skipGrant e c s)

/-- SERIAL_NUMBER_GRANT: channel 0 in O2-3 takes and answers it (R57 to R60, R547). -/
def execSerialNumberGrant (e : Engine) (g : Alloc) (s : State) : Out :=
  .next (if s.act e 0 = 3 then answerAll e 0 (keepGrant e 0 g s) else s)

/-- RANGING_GRANT: a channel in O4 takes and answers one to the default Alloc-ID (R62, R547). -/
def execRangingGrant (e : Engine) (c : Ch) (g : Alloc) (s : State) : Out :=
  .next (if s.act e c = 4 ∧ g.allocId = s.onuId e then answerAll e c (keepGrant e c g s) else s)

/-! ### The bytes of a burst (R144, R148 to R150) -/

/-- Bytes cut or padded with zeros to a length. -/
def fitBytes (n : Nat) (bs : List Byte) : List Byte := (bs ++ List.replicate n 0).take n

/-- The XGEM header of an unfragmented frame (Table 04-3). -/
def xgemHeader (pli keyIdx port : Nat) : List Byte :=
  let h := pli % 2 ^ 14 * 2 ^ 37 + keyIdx % 4 * 2 ^ 35 + port % 2 ^ 16 * 2 ^ 19 + 1
  bytesBE 8 (h * 2 ^ 13 + Config.xgemHec h % 2 ^ 13)

/-- The bytes of a placed frame: header, payload, padding to 8. -/
def Placed.wire (p : Placed) : List Byte :=
  fitBytes (8 + (p.payload.length + 7) / 8 * 8) (xgemHeader p.payload.length p.keyIdx p.portId ++ p.payload)

/-- Idle XGEM frames of `n` bytes, each a header alone, the last cut short where `n` asks for it: DESIGN CHOICE, log 51, for
R144 gives their Port-ID and their sum. -/
def idleBytes (n : Nat) : List Byte := ((List.replicate (n / 8 + 1) (xgemHeader 0 0 0xFFFF)).flatten).take n

/-- The bytes of one allocation, without the header, message and trailer that count in the first. -/
def BurstPart.wire (b : BurstPart) : List Byte :=
  (match b.report with | some r => fitBytes 4 (Config.occupancyReport r) | none => []) ++
  (b.frames.map Placed.wire).flatten ++ idleBytes b.idle

/-- The 48 bytes of an upstream PLOAM message. -/
def UpPloam.wire : UpPloam → List Byte
  | .noMessage => fitBytes 48 (Config.upPloam 0 [])
  | .serialNumberOnu sn roll => fitBytes 48 (Config.upPloam 1 [sn.vid, sn.ssn, roll])
  | .registration ws => fitBytes 48 (Config.upPloam 2 (ws.map (·.toNat)))
  | .acknowledge q ok => fitBytes 48 (Config.upPloam 3 [q, ok.toNat])
  | .firmware bs => fitBytes 48 bs

/-- The content of a burst: header, message, allocations, trailer (R144, R148). -/
def Burst.content (b : Burst) : List Byte :=
  let body := fitBytes 4 (Config.burstHeader b.header.1 b.header.2) ++
    (match b.ploam with | some m => m.wire | none => []) ++ (b.parts.map BurstPart.wire).flatten
  body ++ fitBytes 4 (Config.burstTrailer body)

/-- Content encoded with FEC: every 1,824 bytes, and the shorter last ones, are followed by 336 bytes of parity (R149). -/
def encodeFec : Nat → List Byte → List Byte
  | 0, _ => []
  | n + 1, bs =>
    if bs = [] then []
    else bs.take 1824 ++ fitBytes 336 (Config.ldpcParity (bs.take 1824)) ++ encodeFec n (bs.drop 1824)

/-- A burst as the fibre carries it: preamble and delimiter, content, parity (R148, R149). -/
def Burst.wire (b : Burst) : List Byte :=
  b.profile.pattern ++ (if b.profile.fec then encodeFec (b.content.length / 1824 + 1) b.content else b.content)

/-! ### Launch and end -/

/-- Remove sent frames from the queue they came from, and count them as removed (R173). -/
def removeSent (e : Engine) (ps : List Placed) (s : State) : State :=
  s.each ps (fun p s => match p.lq with
    | some q => countRemoved e q 1 (setQueue e q ((s.queue e q).filter (fun f => f.id ≠ p.frame.id)) s)
    | none => s.modLine e (fun l => { l with ctrl := l.ctrl.filter (fun f => f.id ≠ p.frame.id) }))

/-- The last bit of a burst leaves: the gate closes, the light ends, its frames leave their queues (R30, R173). A lent
permit ends with its burst (R56). -/
def endBurst (e : Engine) (c : Ch) (s : State) : State :=
  match (s.ch e c).flying, (s.ch e c).gate with
  | some b, true =>
    let s := s.modCh e c (fun x => { x with gate := false, flying := none, sent := some b, lastLight := some s.now })
    let s := showPermit e (s.putB ((PFE_STATUS_LIGHT e.n).bit c.val) false)
    showRoom e (removeSent e b.frames s)
  | _, _ => s

/-- BURST_END (R173). -/
def execBurstEnd (e : Engine) (c : Ch) (s : State) : Out := .next (endBurst e c s)

/-- The assembled burst that launches first, and the others. -/
def firstBurst (bs : List Burst) : Option (Burst × List Burst) :=
  match bs with
  | [] => none
  | b0 :: rest =>
    let best := rest.foldl (fun b x => if x.launch < b.launch then x else b) b0
    some (best, (b0 :: rest).erase best)

/-- Why a burst at its launch is not sent, in the order of Table 06-3: dozing 7, withheld 8, shadow 9. The permit is
lent for the answers of the activation state machine (R36, R56, R73, R153, R161). -/
def launchStop (s : State) (e : Engine) (c : Ch) (b : Burst) : Option (Nat × Option Nat) :=
  if s.pm e = 1 ∨ s.pm e = 2 ∨ s.pm e = 4 then some (7, none)
  else if s.inhibited e ∨ b.launch < (s.line e).inhFrom * 497664 ∨ !s.lightReady e c ∨ !s.locked e c then
    some (8, some 3)
  else if b.kind = .traffic ∧ (b.shadow ∨ !s.live e) then some (9, none)
  else none

/-- A burst's preamble leaves the pigtail: the gate opens, the time engine stamps the launch and the counters advance (R30,
R145, R146, Table 06-5). The permit is lent for an answer of the activation state machine (R56). -/
def sendBurst (e : Engine) (c : Ch) (b : Burst) (s : State) : State :=
  let s := s.modCh e c (fun x => { x with
    gate := true, flying := some b, lit := true, lastLight := some s.now, launchStamp := some s.house })
  let s := showPermit e (s.putB ((PFE_STATUS_LIGHT e.n).bit c.val) true)
  let s := s.bump (BURST_CNT e.n c.val 0)
  let s := s.bump (BURST_CNT e.n c.val 1) b.contentWords
  let s := s.bump (BURST_CNT e.n c.val 2) b.frames.length
  s.bump (BURST_CNT e.n c.val 3) b.reports.length

/-- BURST_LAUNCH: the channel's next assembled burst launches or is stopped (R145, R153, R161, R174). A serial-number answer
starts the wait for Assign_ONU-ID (R58). -/
def execBurstLaunch (e : Engine) (c : Ch) (s : State) : Out :=
  match firstBurst (s.ch e c).bursts with
  | none => .next s
  | some (b, rest) =>
    let s := endBurst e c (s.modCh e c (fun x => { x with bursts := rest }))
    match launchStop s e c b with
    | some (cnt, fl) => .next (stopBurst e c cnt fl (releaseBurst e c b s))
    | none =>
      .next ((sendBurst e c b s).when (b.kind = .serialNumber) (fun s => s.modLine e (fun l => { l with discWait := true })))

/-! ### Power management (R158 to R164) -/

/-- The cases in which ENTER is refused (R159). -/
def enterRefused (s : State) (e : Engine) : Bool :=
  let mode := s.get (BURST_PM_CFG_MODE e.n)
  mode = 0 ||
  (s.pm e = 0 && s.now < (s.line e).pmActiveAt + s.get (BURST_PM_CFG_THOLD e.n) * 1000000) ||
  s.act e 0 ≠ 5 ||
  sideChannels.any (fun c => s.isSet ((TC_ACT_CTRL_CH_JOIN e.n).bit (c.val - 1)) && s.act e c ≠ 5) ||
  (mode = 2 && s.pair.mode ≠ 0)

/-- The low-power state of the configured mode. -/
def lowPowerState (s : State) (e : Engine) : Nat := if s.get (BURST_PM_CFG_MODE e.n) = 2 then 2 else 1

/-- A write of 1 to ENTER (R158, R159). -/
def pmEnter (e : Engine) (s : State) : State :=
  if s.pm e = 0 ∨ s.pm e = 3 then
    if enterRefused s e then burstFlag e 5 s
    else s.put (BURST_PM_STATUS_STATE e.n) (lowPowerState s e)
  else s

/-- A wake event counts: a local frame wakes only while LOCAL_WAKE is 1 (R163). -/
def State.wakeCounts (s : State) (e : Engine) (cause : WakeCause) : Bool :=
  cause ≠ .localFrame || s.isSet (BURST_PM_CFG_LOCAL_WAKE e.n)

/-- PM_ENTER (R159). A wake event in the same TC cycle refuses it, and is handled as in Active (R160). -/
def execPmEnter (a : Agent) (p : PmEntry) (s : State) : Out :=
  .next (s.byAgent [.carrier] a (fun s =>
    if p.wake.any (s.wakeCounts p.engine) then burstFlag p.engine 5 s else pmEnter p.engine s))

/-- A write of 1 to EXIT sends the engine to Waking, shown as cause EXIT; the bit stays until Active (R158). -/
def pmExit (e : Engine) (s : State) : State :=
  let st := s.pm e
  if st = 1 ∨ st = 2 ∨ st = 3 then (wakeEvent e 5 s).putB (BURST_PM_CTRL_EXIT e.n) true else s

/-- PM_EXIT (R158). -/
def execPmExit (a : Agent) (e : Engine) (s : State) : Out := .next (s.byAgent [.carrier] a (pmExit e))

/-- After TLOW the engine moves from low power to Aware (R158). -/
def execTlowExpiry (e : Engine) (s : State) : Out :=
  .next (if s.pm e = 1 ∨ s.pm e = 2 then s.put (BURST_PM_STATUS_STATE e.n) 3 else s)

/-- After TAWARE the engine moves back to low power (R158). -/
def execTawareExpiry (e : Engine) (s : State) : Out :=
  .next (if s.pm e = 3 then s.put (BURST_PM_STATUS_STATE e.n) (lowPowerState s e) else s)

/-- A wake event of R163; a local frame wakes only while LOCAL_WAKE is 1. -/
def execPmWake (e : Engine) (cause : WakeCause) (s : State) : Out :=
  .next (if s.wakeCounts e cause then wakeEvent e (wakeCode cause) s else s)

/-- The waking engine returns to Active and answers grants again (R163, R164). -/
def wakeComplete (e : Engine) (s : State) : State :=
  if s.pm e = 4 then
    let s := (s.put (BURST_PM_STATUS_STATE e.n) 0).putB (BURST_PM_CTRL_EXIT e.n) false
    let s := s.modLine e (fun l => { l with pmActiveAt := s.now })
    s.each sideChannels (fun c s => if (s.ch e c).wakeReturn then sitOut e c s else s)
  else s

/-- WAKE_COMPLETE. -/
def execWakeComplete (e : Engine) (s : State) : Out := .next (wakeComplete e s)

end Sys2Proof.Machine
end

