-- ==== Sys2Proof/Machine/DspOps.lean ====
section
/-! DEFINITION. The DSP cores: their records, pending vectors, halts, and what the front end and the hunter do for them
(16_line_dsp.md). -/
namespace Sys2Proof.Machine

/-- The record of a core. -/
def State.core (s : State) (k : Core) : DspCore := sget (fun _ => {}) s.dsp k.n

/-- Change the record of a core. -/
def State.modCore (s : State) (k : Core) (f : DspCore → DspCore) : State :=
  { s with dsp := sset (fun _ => {}) s.dsp k.n (f (s.core k)) }

/-- The two cores of an engine. -/
def coresOf (e : Engine) : List Core := [⟨e, 0⟩, ⟨e, 1⟩]

/-- The other core of the same engine. -/
def otherCore (k : Core) : Core := ⟨k.engine, k.idx + 1⟩

/-- `LE.DSP.COREk_STATUS.STATE`. -/
def dspStateF (k : Core) : Fld := DSP_STATUS_STATE k.engine.n k.idx.val

/-- The cores of an engine are in retention during a watchful low-power interval (R449). -/
def State.retained (s : State) (k : Core) : Bool := s.get (BURST_PM_STATUS_STATE k.engine.n) = 2

/-- A core's STATE is running, or running Odavo for core 0. -/
def State.started (s : State) (k : Core) : Bool := s.get (dspStateF k) = 1 || s.get (dspStateF k) = 3

/-- A core issues instructions. -/
def State.issues (s : State) (k : Core) : Bool := s.started k && !s.retained k

/-- A maskable vector becomes pending (Table 16-8). -/
def pendVector (k : Core) (v : Nat) (s : State) : State := s.modCore k (fun x => { x with ipend := x.ipend ||| 2 ^ v })

/-- A write that the loop hardware did not see yet lands: LEN has the key 0x80. -/
def DspCore.landOne (x : DspCore) (p : Nat × Nat × Nat) : DspCore :=
  let sw := sget dspRegReset x.r 0x35
  if p.1 = 0x80 then { x with r := sset dspRegReset x.r 0x35 (sw % 128 + 128 * p.2.1) }
  else { x with r := sset dspRegReset x.r p.1 p.2.1 }

/-- The pipeline drains: loads and loop writes land, and no delay, branch or judgement stands. -/
def DspCore.drain (x : DspCore) : DspCore :=
  let r := x.loads.foldl (fun r l => sset dspRegReset r l.1 l.2) x.r
  let x := { x with r := r }
  { x.late.foldl DspCore.landOne x with
    loads := [], old := [], late := [], slots := 0, target := none, rti := false, judge := none }

/-- A core halts: RUN is cleared, and its flag is set for every cause but 0x5 (Table 16-12). -/
def haltCore (k : Core) (cause : Nat) (s : State) : State :=
  let e := k.engine.n
  let s := s.modCore k (fun x => { x.drain with cache := none })
  let s := s.put (DSP_STATUS_STATE e k.idx.val) (if (s.core k).retired then 2 else 0)
  let s := (s.putB (DSP_CTRL_RUN e k.idx.val) false).put (DSP_STATUS_CAUSE e k.idx.val) cause
  if cause = 5 then s else dspFlag k.engine k.idx.val s

/-- The telemetry page has been refreshed: SEQ moves by two, and vector 7 becomes pending (R444, R449). -/
def refreshPage (e : Engine) (s : State) : State :=
  let s := s.modLine e (fun l => { l with telSeq := (l.telSeq + 2) % 2 ^ 32 })
  s.each (coresOf e) (fun k s => if s.retained k then s else pendVector k 7 s)

/-- The buffer of a channel. -/
def State.capBuf (s : State) (e : Engine) (c : Ch) : CapBuf := sget (fun _ => {}) s.capBufs (4 * e.n + c.val)

/-- Change the buffer of a channel. -/
def State.modCap (s : State) (e : Engine) (c : Ch) (f : CapBuf → CapBuf) : State :=
  { s with capBufs := sset (fun _ => {}) s.capBufs (4 * e.n + c.val) (f (s.capBuf e c)) }

/-- A PSync from recovered frame timing: vector 12 for channel 0, and an armed capture of the channel begins (R443). -/
def psyncSeen (e : Engine) (c : Ch) (sfc : Nat) (s : State) : State :=
  let s := if c = 0 then s.each (coresOf e) (fun k s => if s.retained k then s else pendVector k 12 s) else s
  if (s.capBuf e c).st = 1 then s.modCap e c (fun b => { b with st := 2, sfc := sfc % 2 ^ 32, ui := 0 }) else s

/-- A reset whose reach is ENGINE or wider: everything of R448 but the registers at their addresses. -/
def resetDsp (e : Engine) (s : State) : State :=
  let s := s.each (coresOf e) (fun k s =>
    let s := s.modCore k (fun x => { retired := x.retired, prog := x.prog, x := x.x, y := x.y })
    if (s.core k).retired then s.put (dspStateF k) 2 else s)
  s.each channels (fun c s => s.modCap e c (fun b => { samples := b.samples, bad := b.bad }))

end Sys2Proof.Machine
end

