-- ==== Sys2Proof/Machine/Operands.lean ====
section
/-! DEFINITION. The operand of a register write: what each field of the word accepts and does by its access code (R2, R6,
R7), and the bytes of words. -/
namespace Sys2Proof.Machine

/-- Whether a field accepts a value (R7). -/
def FieldDesc.takes (f : FieldDesc) (v : Nat) : Bool := f.ok.isEmpty || f.ok.any (fun r => r.1 ≤ v && v ≤ r.2)

/-- One field of a written word: the word afterwards (Table 00-6). -/
def FieldDesc.write (f : FieldDesc) (old w : Word) : Word :=
  let v := w.field f.hi f.lo
  match f.acc with
  | .rw | .wo => if f.takes v then old.withField f.hi f.lo v else old
  | .w1c => old.withField f.hi f.lo (old.field f.hi f.lo &&& (2 ^ (f.hi + 1 - f.lo) - 1 - v))
  | .w1s => old.withField f.hi f.lo (old.field f.hi f.lo ||| v)
  | .ro => old
  | .rc => old

/-- Whether a field takes the write of an agent. -/
def FieldDesc.takesFrom (f : FieldDesc) (a : Agent) : Bool :=
  match f.only with
  | some b => decide (b = a)
  | none => true

/-- A word of a register after an agent's write (R2, R7). -/
def RegDesc.write (r : RegDesc) (word : Nat) (a : Agent) (old w : Word) : Word :=
  r.fields.foldl (fun o f => if f.word = word && f.takesFrom a then f.write o w else o) old

/-- What an agent reads of a word: write-only fields and reserved bits read 0 (R2, R6). -/
def RegDesc.read (r : RegDesc) (word : Nat) (w : Word) : Word :=
  r.fields.foldl (fun o f => if f.word = word && f.acc ≠ .wo then o.withField f.hi f.lo (w.field f.hi f.lo) else o) 0

/-- A write to a register word by the access codes of its fields. -/
def writeFields (a : Agent) (addr : Nat) (w : Word) (s : State) : State :=
  match regAt addr with
  | some (r, word) => s.setReg addr (r.write word a (s.reg addr) w)
  | none => s

/-- The four bytes of a word, most significant first. -/
def wordOctets (w : Word) : List Byte := bytesBE 4 w.toNat

/-- The bytes of a list of words. -/
def wordsOctets (ws : List Word) : List Byte := (ws.map wordOctets).flatten

/-- The words that bytes spell, most significant byte first; a short last word is padded with zeros. `n` words. -/
def bytesWords : Nat → List Byte → List Word
  | 0, _ => []
  | n + 1, bs => BitVec.ofNat 32 (numBE ((bs.take 4) ++ List.replicate (4 - (bs.take 4).length) 0)) :: bytesWords n (bs.drop 4)

/-- `n` consecutive register words. -/
def State.words (s : State) (a n : Nat) : List Word := (List.range n).map (fun i => s.reg (a + 4 * i))

/-- Store consecutive register words. -/
def putWords (a : Nat) (ws : List Word) (s : State) : State := s.each ws.zipIdx (fun x s => s.setReg (a + 4 * x.2) x.1)

/-! ### Answers to reads, snapshots and held words (R1, R9, R10) -/

/-- A read of the lowest word of a wide value takes a snapshot for its agent and answers that word (R9). -/
def snapshot (a : Agent) (addr : Nat) (ws : List Word) (s : State) : State :=
  { s.answer a (ws.getD 0 0) with
    snaps := s.snaps.filter (fun x => !(x.agent = a && x.addr = addr)) ++ [⟨a, addr, ws⟩] }

/-- A word an agent holds aside (R10). -/
def State.heldWord (s : State) (a : Agent) (addr : Nat) : Option Word :=
  (s.aside.find? (fun h => h.agent = a && h.addr = addr)).map (·.word)

/-- An agent's words held aside in a range of addresses are cleared. -/
def clearHeld (a : Agent) (lo hi : Nat) (s : State) : State :=
  { s with aside := s.aside.filter (fun h => !(h.agent = a && decide (lo ≤ h.addr) && decide (h.addr < hi))) }

/-- A word is held aside for an agent (R10). -/
def holdWord (a : Agent) (addr : Nat) (w : Word) (s : State) : State :=
  { s with aside := s.aside.filter (fun h => !(h.agent = a && h.addr = addr)) ++ [⟨a, addr, w⟩] }

end Sys2Proof.Machine
end

