-- ==== Sys2Proof/Machine/Downstream.lean ====
section
/-! DEFINITION. Downstream: frame lock, the receive stages of a frame, PON-layer keys and the defect windows
(04_downstream.md). -/
namespace Sys2Proof.Machine

/-! ### Lock and loss of lock (R78 to R80, R66, R73, R102) -/

/-- A channel's superframe counter takes a value (Table 04-10). -/
def setSfc (e : Engine) (c : Ch) (v : Nat) (s : State) : State :=
  (s.put (TC_SFC_SFC_LO e.n c.val) v).put (TC_SFC_SFC_HI e.n c.val) (v / 2 ^ 32)

/-- A channel's superframe counter. -/
def State.sfcOf (s : State) (e : Engine) (c : Ch) : Nat :=
  s.get (TC_SFC_SFC_LO e.n c.val) + s.get (TC_SFC_SFC_HI e.n c.val) * 2 ^ 32

/-- A counter with a good HEC is adopted (R82). -/
def adoptSfc (e : Engine) (c : Ch) (v : Nat) (s : State) : State :=
  (setSfc e c (v % 2 ^ 51) s).putB ((TC_DS_STATUS_SFC_VALID e.n).bit c.val) true

/-- The hunter runs: the channel is not Dark, its receiver is on, and the line die is not in retention (R78, R162). -/
def State.hunts (s : State) (e : Engine) (c : Ch) : Bool :=
  s.act e c ≠ 0 && s.isSet ((PFE_CTRL_RX_EN e.n).bit c.val) && !(s.pm e = 2 && c ≠ 0)

/-- A disable on record takes channel 0 from O1.2 straight to O7 (R71). -/
def enterDisabled (e : Engine) (s : State) : State :=
  if s.act e 0 = 2 && s.isSet (TC_ACT_STATUS_DISABLED e.n) then actFlag e 12 (enterState0 e 7 s) else s

/-- What lock does to the activation state: O1.1 to O1.2, O6 to O5 (Table 03-1, R66, R71). Channels that wait for channel
0's O5 leave Dark (R54). -/
def actLock (e : Engine) (c : Ch) (s : State) : State :=
  if s.act e c = 1 then
    let s := moveState e c 2 s
    if c = 0 then enterDisabled e s else s
  else if s.act e c = 6 then
    let s := moveState e c 5 s
    if c = 0 then s.each sideChannels (fun d s => joinIfDue e d s) else s
  else s

/-- The matches that the hunt in progress needs: a change of LOCK_N takes effect at the next hunt (R80). -/
def State.lockNeed (s : State) (e : Engine) (c : Ch) : Nat := ((s.ch e c).huntN).getD (s.get (TC_SYNC_CFG_LOCK_N e.n))

/-- A hunt in progress keeps the LOCK_N with which it began (R80). -/
def keepLockN (e : Engine) (old : Nat) (s : State) : State :=
  if s.get (TC_SYNC_CFG_LOCK_N e.n) = old then s
  else s.each channels (fun c s =>
    if s.hunts e c && !s.locked e c && (s.ch e c).huntN.isNone then s.modCh e c (fun x => { x with huntN := some old }) else s)

/-- A hunter that RX_EN starts begins a hunt of its own (R78, R80). -/
def newHunt (e : Engine) (c : Ch) (s : State) : State :=
  if (s.ch e c).huntN.isSome && !s.isSet ((PFE_CTRL_RX_EN e.n).bit c.val) then s.modCh e c (fun x => { x with huntN := none })
  else s

/-- The matches with which a run of words at frame spacing begins: each differs from the PSync in at most PSYNC_TOL bits
(R78, R79). -/
def State.psyncMatches (s : State) (e : Engine) (diffs : List Nat) : Nat :=
  (diffs.takeWhile (fun d => decide (d ≤ s.get (TC_SYNC_CFG_PSYNC_TOL e.n)))).length

/-- FRAME_LOCK: the words at a candidate's position and at each frame after it differ from the PSync in `diffs` bits. `LOCK_N`
matches in a row lock the hunter; the last match's counter is adopted if its HEC is good (R78, R79, R82). The rest of that
last matched frame is not processed, the frames after it are: DESIGN CHOICE, log 51. -/
def execFrameLock (e : Engine) (c : Ch) (diffs : List Nat) (sfc : Option Nat) (s : State) : Out :=
  if s.hunts e c && !s.locked e c && decide (s.lockNeed e c ≤ s.psyncMatches e diffs) then
    let was := s.lof e c
    let s := s.putB ((TC_DS_STATUS_LOCK e.n).bit c.val) true
    let s := s.modCh e c (fun x => { x with misses := 0, huntN := none, sfcCand := none, frag := none, psync := s.uiNow })
    let s := match sfc with
      | some v => adoptSfc e c v s
      | none => s
    .next (purgeJudged (actLock e c (noteLof e c was s)))
  else .next s

/-- A missing PSync while locked is counted (R80). -/
def countMiss (e : Engine) (c : Ch) (s : State) : State :=
  (s.bump (TC_CNT e.n c.val 1)).modCh e c (fun x => { x with misses := x.misses + 1 })

/-- A burst in progress at a loss of lock finishes if its planned end lies within 125 µs, and is cut if not (R73). -/
def finishOrCut (e : Engine) (c : Ch) (s : State) : State :=
  match (s.ch e c).flying with
  | some b => if b.last + 1280000 ≤ s.uiNow + 62208000000 then endBurst e c s else cutBurst e c s
  | none => s

/-- The hunter declares loss of lock: LOF, one strike for a channel in the bond, and the activation state of R66. Of a
watchful or waking engine's channels 1 to 3 only the lock goes (R164). A channel in O1.2 returns to O1.1: DESIGN CHOICE, log 51,
for R66 names O2-3, O4 and O5 alone. -/
def loseLock (e : Engine) (c : Ch) (s : State) : State :=
  if s.defectsMuted e c then unlock e c s
  else
    let was := s.lof e c
    let s := noteLof e c was (unlock e c s)
    let s := s.when (c = 0) (stopTod e)
    let s := finishOrCut e c s
    let s := sitOut e c s
    let s := if c = 0 then wakeEvent e 4 s else s
    match s.act e c with
    | 2 => moveState e c 1 s
    | 3 => moveState e c 1 s
    | 4 => moveState e c 1 s
    | 5 => moveState e c 6 s
    | _ => s

/-- LOSS_OF_LOCK: a missing PSync that is the `LOSS_M`-th of its run loses the lock; one before it changes nothing here (R80). -/
def execLossOfLock (e : Engine) (c : Ch) (s : State) : Out :=
  if s.locked e c && decide (s.get (TC_SYNC_CFG_LOSS_M e.n) ≤ (s.ch e c).misses + 1) then .next (loseLock e c (countMiss e c s))
  else .next s

/-! ### PON-layer keys (R95 to R99) -/

/-- The bit of `LE.TC.KEY_STATUS` of a key slot: 1 and 2 unicast, 3 and 4 broadcast. -/
def keyBit (e : Engine) (slot : Nat) : Fld := ⟨TC_KEY_STATUS e.n, slot - 1, slot - 1⟩

/-- The key slot that a key index and BCAST_KEY name (R95). -/
def keySlotOf (bcast : Bool) (idx : Nat) : Nat := if bcast then idx + 2 else idx

/-- A key is installed; a slot that decrypted a unit in the 10 ms before, under whatever key, sets `KEY_BUSY` (R97). -/
def installKey (e : Engine) (slot key : Nat) (s : State) : State :=
  let busy := match sget (fun _ => none) (s.line e).keyUse slot with
    | some t => decide (s.now < t + 10000000)
    | none => false
  let s := s.modLine e (fun l => { l with keys := (slot, key) :: l.keys.filter (fun x => x.1 ≠ slot) })
  (s.putB (keyBit e slot) true).when busy (dsFlag e 16)

/-- The key-encryption key of a line die: the one derived from a master session key, or the default one. -/
def State.kek (s : State) (e : Engine) : List Byte := ((s.line e).kek).getD Config.defaultKek

/-- Write six words into `LE.TC.KEY_OUT0` on (Table 04-13). -/
def putKeyOut (e : Engine) (ws : List Word) (s : State) : State :=
  s.each (List.range 6) (fun w s => s.setReg (TC_KEY_OUT e.n w) (ws.getD w 0))

/-- The line die draws 128 bits, installs them in the unicast slot, and wraps them into KEY_OUT; GEN clears (R96). -/
def genKey (e : Engine) (slot : Nat) (s : State) : State :=
  let key := s.drawn (2 ^ 128)
  let s := installKey e slot key s.used
  let s := putKeyOut e (bytesWords 6 (aesWrap (s.kek e) (bytesBE 16 key))) s
  (s.put (TC_KEY_CMD_SLOT e.n) slot).putB (TC_KEY_CMD_GEN e.n) false

/-- PON_KEY_GEN: a write of GEN with the slot (R96). -/
def execPonKeyGen (a : Agent) (e : Engine) (slot : Fin 2) (s : State) : Out :=
  .next (s.byAgent [.carrier] a (genKey e (slot.val + 1)))

/-- The line die unwraps KEY_IN and installs the broadcast key, or sets LOAD_ERR and keeps the old one (R98). -/
def loadKey (e : Engine) (slot : Nat) (s : State) : State :=
  let ws := (List.range 6).map (fun w => s.reg (TC_KEY_IN e.n w))
  let s := (s.put (TC_KEY_CMD_SLOT e.n) slot).putB (TC_KEY_CMD_LOAD e.n) false
  match aesUnwrap (s.kek e) (wordsOctets ws) with
  | some key => installKey e (slot + 2) (numBE key) s
  | none => s.putB (TC_KEY_CMD_LOAD_ERR e.n) true

/-- PON_KEY_LOAD: a write of LOAD with the slot (R98). -/
def execPonKeyLoad (a : Agent) (e : Engine) (slot : Fin 2) (s : State) : Out :=
  .next (s.byAgent [.carrier] a (loadKey e (slot.val + 1)))

/-- KEY_CONTROL: an accepted Key_Control message makes carrier firmware write GEN with the slot (R96, Table 03-4). -/
def execKeyControl (e : Engine) (c : Ch) (h : PloamHdr) (slot : Fin 2) (s : State) : Out :=
  let s' := receivePloam e c h (.keyControl slot) s
  if (s'.line e).toCarrier.length = (s.line e).toCarrier.length then .next s'
  else .next (genKey e (slot.val + 1) s')

/-! ### The stages of a frame (Table 04-1) -/

/-- The superframe counter check of a frame on a channel (R82). -/
def checkSfc (e : Engine) (c : Ch) (f : DsFrame) (s : State) : State :=
  if s.isSet ((TC_DS_STATUS_SFC_VALID e.n).bit c.val) then
    let pred := (s.sfcOf e c + 1) % 2 ^ 51
    if f.sfcHecOk && f.sfc = pred then
      setSfc e c pred (s.modCh e c (fun x => { x with sfcCand := none }))
    else if f.sfcHecOk && (s.ch e c).sfcCand = some ((f.sfc + 2 ^ 51 - 1) % 2 ^ 51) then
      let s := s.when (c = 0) (stopTod e)
      dsFlag e 12 (setSfc e c f.sfc (s.modCh e c (fun x => { x with sfcCand := none })))
    else
      let s := setSfc e c pred (s.bump (TC_CNT e.n c.val 2))
      s.modCh e c (fun x => { x with sfcCand := if f.sfcHecOk then some f.sfc else none })
  else if f.sfcHecOk then adoptSfc e c f.sfc s
  else s

/-- The operation control structure: every change of a good one goes to carrier firmware (R83). -/
def checkOpctl (e : Engine) (c : Ch) (f : DsFrame) (s : State) : State :=
  if f.opctlHecOk && (s.ch e c).opctl ≠ some f.opctl then
    sendUp e (.opctl c.val f.opctl) (s.modCh e c (fun x => { x with opctl := some f.opctl }))
  else s

/-- The decoder's counts of a frame: 360 codewords, 6,220,608 bits in all (R545, R84, R101, R103). -/
def countCodewords (e : Engine) (c : Ch) (f : DsFrame) (s : State) : State :=
  let s := s.bump (TC_CNT e.n c.val 4) 360
  let s := s.bump (TC_CNT e.n c.val 5) f.cwCorr
  let s := s.bump (TC_CNT e.n c.val 6) f.bitsCorr
  let s := s.bump (TC_CNT e.n c.val 7) f.cwUncorr
  let s := s.modCh e c (fun x => { x with
    winBits := x.winBits + 6220608, winErr := x.winErr + f.bitsCorr, winUncorr := x.winUncorr + f.cwUncorr })
  s.modLine e (fun l => { l with
    fecRing := sset (fun _ => 0) l.fecRing (256 * c.val + s.sfcOf e c % 256)
      (min f.cwUncorr 255 * 2 ^ 24 + min f.bitsCorr (2 ^ 24 - 1)) })

/-- A structure of the map that is dropped and counted, unless the detector reads it in retention (R86, R162). -/
def dropGrant (e : Engine) (c : Ch) (detector past : Bool) (s : State) : State :=
  skipGrant e c (if detector then s else (s.bump (TC_CNT e.n c.val 9)).when past (dsFlag e 17))

/-- One allocation structure of the map: kept, dropped, or another terminal's (R86, R53). `kept` counts those kept so far in
this frame. A forced wake-up indication wakes the engine whether or not the structure finds room (R163). -/
def mapEntry (e : Engine) (c : Ch) (detector : Bool) (g : Alloc) (x : State × Nat) : State × Nat :=
  let (s, kept) := x
  if !g.hecOk then (dropGrant e c detector false s, kept)
  else if strayGrant c g then (skipGrant e c (ploamBad e s), kept)
  else if !s.keeps e c g.allocId then (skipGrant e c s, kept)
  else
    let s := s.when (g.fwi && g.allocId ≠ 1023) (wakeEvent e 1)
    if kept < 128 then (keepGrant e c g (s.when (!detector) (fun s => s.bump (TC_CNT e.n c.val 8))), kept + 1)
    else (dropGrant e c detector true s, kept)

/-- The detector counts each burst of a map once, in launch order: under the first cause of Table 06-3 that stops it, which is
at the latest that the engine dozes (R153, R162). -/
def countDozing (e : Engine) (c : Ch) : Nat → State → State
  | 0, s => s
  | n + 1, s =>
    match firstGrant s e c with
    | none => s
    | some (g, rest) =>
      let s := s.modCh e c (fun x => { x with grants := rest })
      countDozing e c n (match stopCause s e c g false, s.profileOf e c g with
        | some (cnt, b), _ => stopBurst e c cnt (some b) s
        | none, some p => stopBurst e c 7 none (s.modCh e c (fun x => { x with lastSpan := some (spanOf p g) }))
        | none, none => s)

/-- What becomes of a map's kept structures at its end: the activation state machine answers those of O2-3 and O4, the
detector counts those of a watchful engine, and the others wait for assembly (R62, R143, R162, R547). -/
def endMap (e : Engine) (c : Ch) (detector : Bool) (s : State) : State :=
  if detector then countDozing e c (s.ch e c).grants.length s
  else if s.act e c = 3 ∨ s.act e c = 4 then answerAll e c s
  else s

/-- The bandwidth map of a frame (R86). The structure before the first is none (R154). -/
def readMap (e : Engine) (c : Ch) (f : DsFrame) (detector : Bool) (s : State) : State :=
  endMap e c detector (f.bwmap.foldl (fun x g => mapEntry e c detector g x) (skipGrant e c s, 0)).1

/-- The PLOAM partitions of a frame (R87). -/
def readPloam (e : Engine) (c : Ch) (f : DsFrame) (s : State) : State :=
  s.each f.ploam (fun m s => receivePloam e c m.hdr m.body s)

/-- The PLOAM partitions as the detector reads them: a unicast message with a good MIC wakes the engine, and nothing is acted
on in retention (R162, R163). -/
def detectPloam (e : Engine) (f : DsFrame) (s : State) : State :=
  s.each f.ploam (fun m s => s.when (s.unicast e m.hdr && m.hdr.micOk) (wakeEvent e 2))

/-! ### XGEM units (R88 to R95, R100) -/

/-- Drop whatever the channel holds in fragments (R91). -/
def dropFrag (e : Engine) (c : Ch) (s : State) : State := s.modCh e c (fun x => { x with frag := none })

/-- Delineation is lost for the rest of the frame (R88). -/
def delineationLost (e : Engine) (c : Ch) (s : State) : State := dropFrag e c (s.bump (TC_CNT e.n c.val 11))

/-- The filter entry that governs a Port-ID: the valid one of lowest index (R93). An entry never written is not valid. -/
def State.portEntry (s : State) (e : Engine) (port : Nat) : Option Word :=
  (s.regs.find? (fun x => decide (TC_PORT_FILTER e.n 0 ≤ x.1) && decide (x.1 < TC_PORT_FILTER e.n 1024) &&
    x.2.field 31 31 = 1 && x.2.field 15 0 = port)).map (·.2)

/-- Where a unit goes (R93). -/
inductive Route where
  | omcc
  | data (entry : Word)
  | notMine
  deriving DecidableEq, Repr

/-- The first rule of R93 that fits. -/
def State.route (s : State) (e : Engine) (c : Ch) (port : Nat) : Route :=
  if c = 0 && (s.line e).omccOpen && port = s.onuId e then .omcc
  else match s.portEntry e port with
    | some w => if w.field (24 + c.val) (24 + c.val) = 1 then .data w else .notMine
    | none => .notMine

/-- Whether SDUs of a Port-ID carry a bond tag: BONDED of the entry that governs it, on whatever channels (R90, R106). -/
def State.portBonded (s : State) (e : Engine) (r : Route) (port : Nat) : Bool :=
  r ≠ .omcc && (s.portEntry e port).any (fun w => w.field 30 30 = 1)

/-- A dropped unit (R84, R92, R95, R100). -/
def dropUnit (e : Engine) (c : Ch) (s : State) : State := s.bump (TC_CNT e.n c.val 14)

/-- The plain bytes of a unit's payload and the state after the key's use, or none when R95 drops the unit. -/
def decryptUnit (e : Engine) (c : Ch) (r : Route) (pos : Nat) (u : XgemUnit) (s : State) : Option (List Byte × State) :=
  let bcast : Bool := match r with | .data w => decide (w.field 28 28 = 1) | _ => false
  let encReq : Bool := match r with | .data w => decide (w.field 29 29 = 1) | _ => false
  let body := u.data.take u.pli
  match u.keyIdx with
  | 0 => if encReq then none else some (body, s)
  | 1 | 2 =>
    let slot := keySlotOf bcast u.keyIdx
    match s.ponKey e slot with
    | none => none
    | some k =>
      let s := s.modLine e (fun l => { l with keyUse := sset (fun _ => none) l.keyUse slot (some s.now) })
      let s := if bcast then s else s.put (TC_KEY_STATUS_LAST_UK e.n) u.keyIdx
      some (ponCipher false k (s.sfcOf e c) pos body, s)
  | _ => none

/-- A whole SDU is handed on: to carrier firmware, to the bonding layer, or toward the hub (R77, R100, R106). -/
def handOn (e : Engine) (c : Ch) (r : Route) (bonded : Bool) (port keyIdx : Nat) (parity : Bool) (bs : List Byte)
    (s : State) : State :=
  let ok (s : State) : State := (s.bump (TC_CNT e.n c.val 10)).bump (TC_CNT e.n c.val 15) bs.length
  if parity then dsFlag e 19 (dropUnit e c s)
  else match r with
    | .omcc => sendUp e (.omcc bs) (ok s)
    | _ =>
      let frame := if bonded then bs.drop 8 else bs
      if frame.length < 64 || !fcsGood frame then dsFlag e 18 (dropUnit e c s)
      else if bonded then
        (ok s).modLine e (fun l => { l with
          bondIn := l.bondIn ++ [(c.val, ⟨bs.take 8, frame, port, keyIdx, false⟩)] })
      else sendUp e (.data ⟨c.val, false, port, keyIdx, frame⟩) (ok s)

/-- The position of the next header: the first 8-byte boundary after the payload (Table 04-3). -/
def nextPos (pos pli : Nat) : Nat := (pos + 8 + pli + 7) / 8 * 8

/-- The limit of an SDU (R90). -/
def sduLimit (bonded : Bool) : Nat := if bonded then 12328 else 12320

/-- The SDU that a unit continues, or begins: its limit is that of its first fragment (R90, R94). -/
def State.sduOf (s : State) (e : Engine) (c : Ch) (r : Route) (u : XgemUnit) : HeldFrag :=
  match (s.ch e c).frag with
  | some h => h
  | none =>
    let b := s.portBonded e r u.portId
    { port := u.portId, limit := sduLimit b, bonded := b, len := 0, bytes := [], keyIdx := u.keyIdx, lost := false, skip := false }

/-- The channel holds an SDU in fragments until the unit with LF set (R91). -/
def holdSdu (e : Engine) (c : Ch) (lf : Bool) (h : HeldFrag) (s : State) : State :=
  s.modCh e c (fun x => { x with frag := if lf then none else some h })

/-- A unit whose header is sound, at byte `pos` of the payload (R84, R90 to R95, R100). It continues the SDU held in
fragments, if any. Past the limit every fragment is skipped. A unit in a marked codeword is counted in DROPPED alone, whichever
terminal it is for: DESIGN CHOICE, log 28. Each other unit is counted as R93 and R95 say; an SDU that has lost a fragment is
not handed on. -/
def takeUnit (e : Engine) (c : Ch) (pos : Nat) (u : XgemUnit) (s : State) : State :=
  if u.portId = 0xFFFF then s
  else if u.pli = 0 then dropUnit e c s
  else
    let r := s.route e c u.portId
    let h := s.sduOf e c r u
    let h := { h with len := h.len + u.pli }
    let lose (s : State) : State := holdSdu e c u.lf { h with lost := true, bytes := [] } s
    if h.skip then holdSdu e c u.lf h s
    else if h.limit < h.len then
      holdSdu e c u.lf { h with skip := true, bytes := [] } (dsFlag e 14 (s.bump (TC_CNT e.n c.val 12)))
    else if u.marked then lose (dropUnit e c s)
    else if r = .notMine then lose (s.bump (TC_CNT e.n c.val 13))
    else match decryptUnit e c r pos u s with
      | none => lose (dsFlag e 15 (dropUnit e c s))
      | some (bs, s) =>
        let all := h.bytes ++ bs
        let s := holdSdu e c u.lf { h with bytes := all, keyIdx := u.keyIdx } s
        if u.lf && !h.lost then handOn e c r h.bonded u.portId u.keyIdx u.parity all s else s

/-- The first header of a frame must continue the SDU held in fragments (R91): under another Port-ID the held SDU is dropped
and counted in OVERSIZE, unless the whole of it had been dropped already (R89, R90). A header of PLI 0 continues nothing, and drops
it too: DEDUCED, log 51. -/
def firstHeader (e : Engine) (c : Ch) (u : XgemUnit) (s : State) : State :=
  match (s.ch e c).frag with
  | none => s
  | some h =>
    if h.port = u.portId then (if u.pli = 0 then dropFrag e c s else s)
    else dropFrag e c (if h.skip || h.lost then s else s.bump (TC_CNT e.n c.val 12))

/-- The units of a frame from byte `pos` of its payload on; `first` marks the first header (R88, R89). -/
def readUnits (e : Engine) (c : Ch) : Nat → Bool → List XgemUnit → State → State
  | _, _, [], s => s
  | pos, first, u :: us, s =>
    let nxt := nextPos pos u.pli
    if !u.hecOk || (u.lf && decide (656616 < nxt)) || (!u.lf && nxt ≠ 656616) then delineationLost e c s
    else readUnits e c nxt false us (takeUnit e c pos u (if first then firstHeader e c u s else s))

/-- The payload of a frame: header, map, PLOAM partitions, units (R85 to R100). -/
def readPayload (e : Engine) (c : Ch) (f : DsFrame) (s : State) : State :=
  if !f.hlendHecOk then dsFlag e 13 (dropFrag e c (s.bump (TC_CNT e.n c.val 3)))
  else
    let s := readPloam e c f (readMap e c f false s)
    readUnits e c (4 + 8 * f.bwmap.length + 48 * f.ploam.length) true f.xgem s

/-- The source's time at the PSync of the k-th frame after the announced one, in pips: Tsend + k × 125,000 ns + dds_ns
(R201). The factor 0.020094 of the rule is 20,094 / 10^6. -/
def todTime (s : State) (e : Engine) (k : Nat) : Int :=
  let w (i : Nat) : Nat := (s.reg (TC_TOD_TIME e.n + 4 * i)).toNat
  let tsend : Int := ((w 0 + w 1 * 2 ^ 32) * 10 ^ 9 + w 2 % 2 ^ 30) * 2 ^ 32 + w 3
  let num : Int := ((s.get (TC_TOD_TEQD_TOD_TEQD e.n) : Int) - (s.eqd e 0 : Int) - 1741824) * (s.reg (TC_TOD_ASYM e.n)).toNat
  let dds : Int := num * 20094 / 1000000
  let trim : Int := signed 16 (s.get (TC_TOD_CTRL_TRIM e.n)) * 2 ^ 32 / 1000
  tsend + (k : Int) * 125000 * 2 ^ 32 + dds + trim

/-- While VALID is 1, each frame of channel 0, found or flywheeled, yields a sample (R201, R202). -/
def todFrame (e : Engine) (c : Ch) (s : State) : State :=
  if c = 0 && s.isSet (TC_TOD_CTRL_VALID e.n) then
    let at' (d : Dom) : Nat := s.domTime d + s.drawn 8 * 2 ^ 29
    (lineFresh e (s.modLine e (fun l => { l with
      todK := l.todK + 1, todOut := some (todTime s e (l.todK + 1)), todAt := (at' 0, at' 1) }))).used
  else s

/-- A frame the hunter processes, found or flywheeled (R77, R80). Before a counter is adopted nothing in it is kept
(R82). -/
def processFrame (e : Engine) (c : Ch) (f : DsFrame) (s : State) : State :=
  let s := s.modCh e c (fun x => { x with psync := s.uiNow })
  let s := s.bump (TC_CNT e.n c.val 0)
  let s := checkSfc e c f s
  let s := todFrame e c (countCodewords e c f (psyncSeen e c (s.sfcOf e c) s))
  if s.isSet ((TC_DS_STATUS_SFC_VALID e.n).bit c.val) then readPayload e c f (checkOpctl e c f s) else s

/-- A frame as the wake-pattern detector of a watchful engine's channel 0 reads it: HLend, map and PLOAM partitions, each
by its own HEC. No register changes in retention but what counts the grants (R162). -/
def detectFrame (e : Engine) (f : DsFrame) (s : State) : State :=
  let s := s.modCh e 0 (fun x => { x with psync := s.uiNow })
  if f.hlendHecOk then detectPloam e f (readMap e 0 f true s) else s

/-- DOWNSTREAM_FRAME: a frame at the expected position of a locked channel, 125 µs after the one before. A PSync outside the
tolerance is missing; the `LOSS_M`-th in a row loses lock and the frame is not processed (R77, R80). The detector counts its
missing PSyncs in no register (R162). -/
def execDownstreamFrame (e : Engine) (c : Ch) (f : DsFrame) (s : State) : Out :=
  if s.hunts e c && s.locked e c then
    let s := s.until ((s.ch e c).psync / 497664 + 125000)
    let go := if s.pm e = 2 then detectFrame e f else processFrame e c f
    if f.psyncDiff ≤ s.get (TC_SYNC_CFG_PSYNC_TOL e.n) then
      .next (go (s.modCh e c (fun x => { x with misses := 0 })))
    else
      let s := if s.pm e = 2 then s.modCh e c (fun x => { x with misses := x.misses + 1 }) else countMiss e c s
      if s.get (TC_SYNC_CFG_LOSS_M e.n) ≤ (s.ch e c).misses then .next (loseLock e c s)
      else .next (go s)
  else .next s

/-! ### Defect windows (R101, R102) -/

/-- One defect judged: the runs of true and of false windows, and the defect after them. -/
def judge (truth was : Bool) (t f set clear : Nat) : Nat × Nat × Bool :=
  let t' := if truth then t + 1 else 0
  let f' := if truth then 0 else f + 1
  (t', f', if !was && decide (set ≤ t') then true else if was && decide (clear ≤ f') then false else was)

/-- A window that is open keeps the SET and CLEAR with which it opened; a change applies from the next one (R102). -/
def keepDefCfg (e : Engine) (set clear : Nat) (s : State) : State :=
  if s.get (TC_DEF_CFG_SET e.n) = set ∧ s.get (TC_DEF_CFG_CLEAR e.n) = clear then s
  else s.each channels (fun c s => s.modCh e c (fun x => { x with winCfg := some (x.winCfg.getD (set, clear)) }))

/-- DEFECT_WINDOW_CLOSE: SD and SF are judged, unless LOS or LOF is present, which breaks every run (R101, R102). -/
def execDefectWindowClose (e : Engine) (c : Ch) (s : State) : Out :=
  let x := s.ch e c
  let empty (y : Chan) : Chan := { y with winBits := 0, winErr := 0, winUncorr := 0, winCfg := none }
  if s.defectsMuted e c then .next (s.modCh e c empty)
  else if s.los e c || s.lof e c then .next ((breakRuns e c s).modCh e c empty)
  else
    let (set, clear) := x.winCfg.getD (s.get (TC_DEF_CFG_SET e.n), s.get (TC_DEF_CFG_CLEAR e.n))
    let sdF := (TC_DS_STATUS_SD e.n).bit c.val
    let sfF := (TC_DS_STATUS_SF e.n).bit c.val
    let (a, b, sd) := judge (decide (s.get (TC_DEF_CFG_SD_THR e.n) * x.winBits < x.winErr * 10000)) (s.isSet sdF)
      x.sdTrue x.sdFalse set clear
    let (p, q, sf) := judge (decide (s.get (TC_DEF_CFG_SF_CW e.n) ≤ x.winUncorr)) (s.isSet sfF)
      x.sfTrue x.sfFalse set clear
    let t := s.modCh e c (fun y => { empty y with sdTrue := a, sdFalse := b, sfTrue := p, sfFalse := q })
    let t := (t.putB sdF sd).when (sd ≠ s.isSet sdF) (dsFlag e (4 + c.val))
    .next (purgeJudged ((t.putB sfF sf).when (sf ≠ s.isSet sfF) (dsFlag e (8 + c.val))))

end Sys2Proof.Machine
end

