-- ==== Sys2Proof/Machine/Bond.lean ====
section
/-! DEFINITION. The bonding layer: downstream reorder, membership, sit-out and strikes (05_bonded_channels.md). -/
namespace Sys2Proof.Machine

/-! ### The bond tag (Table 05-2, R108) -/

/-- RS of a tag. -/
def tagRs (t : List Byte) : Bool := sliceNum t 0 1 / 8 % 2 = 1

/-- CHMAP of a tag. -/
def tagChmap (t : List Byte) : Nat := sliceNum t 1 1 / 16

/-- STREAM of a tag. -/
def tagStream (t : List Byte) : Nat := sliceNum t 2 1 % 64

/-- SEQ of a tag. -/
def tagSeq (t : List Byte) : Nat := sliceNum t 3 3

/-- A tag that R108 accepts: version 1, reserved bits 0, good TCRC. -/
def tagGood (t : List Byte) : Bool :=
  t.length = 8 && sliceNum t 0 1 / 16 = 1 && sliceNum t 0 1 % 8 = 0 && sliceNum t 1 1 % 16 = 0 &&
  sliceNum t 2 1 / 64 = 0 && crc16 (t.take 6) = sliceNum t 6 2

/-! ### Streams (R110 to R115) -/

/-- A stream's record. -/
def State.stream (s : State) (e : Engine) (st : Nat) : Stream := sget (fun _ => {}) (s.line e).streams st

/-- Replace a stream's record. -/
def setStream (e : Engine) (st : Nat) (x : Stream) (s : State) : State :=
  s.modLine e (fun l => { l with streams := sset (fun _ => {}) l.streams st x })

/-- The cells a held SDU takes (R113). -/
def heldCells (h : HeldSdu) : Nat := (8 + h.sdu.data.length + 63) / 64

/-- The cells in use in the reorder buffer. -/
def State.bondCells (s : State) (e : Engine) : Nat :=
  ((s.line e).streams.map (fun x => (x.2.held.map heldCells).foldl (· + ·) 0)).foldl (· + ·) 0

/-- `LE.BOND.BUF` follows the cells in use (Table 05-11). -/
def showBuf (e : Engine) (s : State) : State :=
  let n := s.bondCells e
  (s.put (BOND_BUF_USED e.n) n).put (BOND_BUF_HWM e.n) (max n (s.get (BOND_BUF_HWM e.n)))

/-- An SDU is passed toward the hub (R110). -/
def releaseSdu (e : Engine) (chan : Nat) (x : BondSdu) (s : State) : State :=
  sendUp e (.data ⟨chan, true, x.portId, x.keyIdx, x.data⟩) (s.bump (BOND_CNT e.n 0))

/-- A held SDU is released, or dropped for a parity error (R114). -/
def releaseHeld (e : Engine) (h : HeldSdu) (s : State) : State :=
  if h.sdu.parity then bondFlag e 18 (s.bump (BOND_CNT e.n 5)) else releaseSdu e h.chan h.sdu s

/-- Insert a held SDU in the order of its distance from `next`. -/
def insertHeld (next : Nat) (h : HeldSdu) : List HeldSdu → List HeldSdu
  | [] => [h]
  | g :: gs =>
    if (h.seq + 2 ^ 24 - next) % 2 ^ 24 < (g.seq + 2 ^ 24 - next) % 2 ^ 24 then h :: g :: gs
    else g :: insertHeld next h gs

/-- Release the held SDUs that continue from `next`: answers the number after them, those left, and the state. -/
def releaseRun (e : Engine) : Nat → List HeldSdu → State → Nat × List HeldSdu × State
  | next, [], s => (next, [], s)
  | next, h :: hs, s =>
    if h.seq = next then releaseRun e ((next + 1) % 2 ^ 24) hs (releaseHeld e h s)
    else (next, h :: hs, s)

/-- The expiry step of a stream: the numbers before its lowest held SDU are lost, and the run from there is released
(R110). -/
def expiryStep (e : Engine) (st : Nat) (s : State) : State :=
  let x := s.stream e st
  match x.next, x.held with
  | some next, h :: hs =>
    let lost := (h.seq + 2 ^ 24 - next) % 2 ^ 24
    let s := (s.bump (BOND_CNT e.n 1) lost).when (lost ≠ 0) (bondFlag e 14)
    let (n, left, s) := releaseRun e h.seq (h :: hs) s
    showBuf e (setStream e st ⟨some n, left⟩ s)
  | _, _ => s

/-- Repeat the expiry step until the SDU `seq` is no longer held; `fuel` bounds the repetitions. -/
def expireUntil (e : Engine) (st seq : Nat) : Nat → State → State
  | 0, s => s
  | n + 1, s =>
    if (s.stream e st).held.any (fun h => h.seq = seq) then expireUntil e st seq n (expiryStep e st s) else s

/-- The held SDU with the least key. -/
def leastHeld (key : HeldSdu → Nat) : List HeldSdu → Option HeldSdu
  | [] => none
  | h :: hs => some (hs.foldl (fun b x => if key x < key b then x else b) h)

/-- The stream that holds the earliest-arrived SDU (R113). -/
def earliestStream (s : State) (e : Engine) : Option Nat :=
  let firsts := (s.line e).streams.filterMap (fun x => (leastHeld (·.arrived) x.2.held).map (fun h => (x.1, h.arrived)))
  match firsts with
  | [] => none
  | f :: fs => some (fs.foldl (fun b x => if x.2 < b.2 then x else b) f).1

/-- How long the gap that an SDU fills, `d` numbers above `next`, has kept SDUs waiting: since the arrival of the earliest held
one above it, in 0.1 µs; 0 where it fills none (R117). -/
def gapLag (s : State) (v : Stream) (next d : Nat) : Nat :=
  match leastHeld (·.arrived) (v.held.filter (fun h => decide (d < (h.seq + 2 ^ 24 - next) % 2 ^ 24))) with
  | some h => min ((s.now - h.arrived) / 100) 65534
  | none => 0

/-- The longest gap fill of a channel's open window (R117). -/
def noteLag (e : Engine) (c : Ch) (lag : Nat) (s : State) : State :=
  s.modCh e c (fun y => { y with lagMax := max lag y.lagMax })

/-- Where an arriving SDU goes, its stream holding a state: released, held, or dropped. While the buffer lacks cells for
an SDU that must be held, expiry steps are forced (R110, R113). `fuel` bounds them. -/
def placeSdu (e : Engine) (c : Ch) (st : Nat) (x : BondSdu) : Nat → State → State
  | 0, s => s
  | fuel + 1, s =>
    let v := s.stream e st
    let next := v.next.getD 0
    let seq := tagSeq x.tag
    let d := (seq + 2 ^ 24 - next) % 2 ^ 24
    if d = 0 then
      let s := noteLag e c (gapLag s v next d) s
      let (n, left, s) := releaseRun e ((next + 1) % 2 ^ 24) v.held (releaseSdu e c.val x s)
      showBuf e (setStream e st ⟨some n, left⟩ s)
    else if d < 2 ^ 23 then
      if v.held.any (fun h => h.seq = seq) then s.bump (BOND_CNT e.n 2)
      else
        let h : HeldSdu := ⟨seq, x, s.now, s.get (BOND_CFG_SKEW_WIN e.n) * 1000, c.val⟩
        if s.bondCells e + heldCells h ≤ 32768 then
          showBuf e (setStream e st ⟨some next, insertHeld next h v.held⟩ (noteLag e c (gapLag s v next d) s))
        else match earliestStream s e with
          | none => s
          | some o => placeSdu e c st x fuel (bondFlag e 17 ((expiryStep e o s).bump (BOND_CNT e.n 4)))
    else bondFlag e 13 ((s.bump (BOND_CHCNT e.n c.val 1)).modCh e c (fun y => { y with lateN := y.lateN + 1 }))

/-- `LE.BOND.DS_CHMAP` follows a good tag; the first after a reset is not compared (R109). -/
def noteChmap (e : Engine) (m : Nat) (s : State) : State :=
  let change := s.isSet (BOND_DS_CHMAP_VALID e.n) && s.get (BOND_DS_CHMAP_CHMAP e.n) ≠ m
  ((s.putB (BOND_DS_CHMAP_VALID e.n) true).put (BOND_DS_CHMAP_CHMAP e.n) m).when change (bondFlag e 16)

/-- A stream adopts an SDU's number when it holds no state or RS is 1; what it holds is released first (R110, R112). -/
def adoptSeq (e : Engine) (st : Nat) (rs : Bool) (seq : Nat) (s : State) : State :=
  let v := s.stream e st
  if v.next = none ∨ rs then
    showBuf e (setStream e st ⟨some seq, []⟩ (s.each v.held (releaseHeld e)))
  else s

/-- A bonded SDU reaches the reorder logic (R108 to R113). -/
def bondedArrival (e : Engine) (c : Ch) (x : BondSdu) (s : State) : State :=
  let s := s.modLine e (fun l => { l with bondIn := l.bondIn.eraseP (fun y => y.1 = c.val && y.2.tag = x.tag && y.2.data = x.data) })
  let s := s.bump (BOND_CHCNT e.n c.val 0)
  if tagGood x.tag then
    let st := tagStream x.tag
    let s := noteChmap e (tagChmap x.tag) s
    let s := s.when (tagRs x.tag) (fun s => s.bump (BOND_CNT e.n 6))
    placeSdu e c st x 65536 (adoptSeq e st (tagRs x.tag) (tagSeq x.tag) s)
  else bondFlag e 15 (s.bump (BOND_CNT e.n 3))

/-- BONDED_SDU_ARRIVAL (R110). -/
def execBondedSduArrival (e : Engine) (c : Ch) (x : BondSdu) (s : State) : Out := .next (bondedArrival e c x s)

/-- SKEW_WINDOW_EXPIRY: the held SDU of the stream whose window ends first reaches its end (R110, R115). -/
def execSkewWindowExpiry (e : Engine) (st : Slot) (s : State) : Out :=
  let held := (s.stream e st.val).held
  match leastHeld (fun h => h.arrived + h.window) held with
  | none => .next s
  | some h => .next (expireUntil e st.val h.seq held.length s)

/-! ### Windows, sit-out and strikes (R117 to R125) -/

/-- `LE.BOND.SIT_CAUSE`'s LATE bit of a channel. -/
def lateBit (e : Engine) (c : Ch) : Fld := ⟨BOND_SIT_CAUSE e.n, 8 * c.val + 4, 8 * c.val + 4⟩

/-- BOND_WINDOW_CLOSE: LAG takes the window's longest gap fill, or 0xFFFF, and cause LATE is judged (R117, Table
05-5). -/
def execBondWindowClose (e : Engine) (c : Ch) (s : State) : Out :=
  let x := s.ch e c
  let s := s.put (BOND_LAG_LAG e.n c.val) (if x.lateN = 0 then x.lagMax else 0xFFFF)
  let s := s.putB (lateBit e c) (decide (s.get (BOND_CFG_LATE_THR e.n) ≤ x.lateN))
  .next (s.modCh e c (fun y => { y with lateN := 0, lagMax := 0 }))

/-- SIT_OUT_ENTRY: a channel in In with a cause present sits out (R121, R123, R125). -/
def execSitOutEntry (e : Engine) (c : Ch) (s : State) : Out :=
  .next (if s.sitCause e c ≠ 0 then sitOut e c s else s)

/-- SIT_HOLD_EXPIRY: no cause for SIT_HOLD, and R119 otherwise holds: the channel returns to In (R122). -/
def execSitHoldExpiry (e : Engine) (c : Ch) (s : State) : Out :=
  .next (if s.bond e c = 2 ∧ s.canBeIn e c then setBond e c 1 s else s)

/-- BOND_IN: a channel in Out that meets R119 passes to In. -/
def execBondIn (e : Engine) (c : Ch) (s : State) : Out :=
  .next (if s.bond e c = 0 ∧ s.canBeIn e c then setBond e c 1 s else s)

/-- BOND_OUT: a channel whose MEMBER bit is 0, or that has left O5 for any state but O6, returns to Out (R120). -/
def execBondOut (e : Engine) (c : Ch) (s : State) : Out :=
  .next (if !s.isSet ((BOND_CTRL_MEMBER e.n).bit c.val) || (s.act e c ≠ 5 && s.act e c ≠ 6) then bondLeave e c s else s)

/-- BOND_STRIKE_EXPIRY: the oldest strike of a channel falls away (R123). -/
def execBondStrikeExpiry (e : Engine) (c : Ch) (s : State) : Out :=
  .next (s.put (bondStrikesF e c) (s.get (bondStrikesF e c) - 1))

/-- A restore of one channel: its strikes are cleared, and a retired channel goes to Out (R124). -/
def restoreChannel (e : Engine) (c : Ch) (s : State) : State :=
  let s := s.put (bondStrikesF e c) 0
  if s.bond e c = 3 then setBond e c 0 s else s

/-- A write of 1 to RESTORE bits (R124). -/
def bondRestore (e : Engine) (mask : BitVec 4) (s : State) : State :=
  s.each channels (fun c s => if mask.getLsbD c.val then restoreChannel e c s else s)

/-- BOND_RESTORE (R124). -/
def execBondRestore (a : Agent) (e : Engine) (mask : BitVec 4) (s : State) : Out :=
  .next (s.byAgent [.carrier] a (bondRestore e mask))

/-- RS is due on the next bonded frame of every slot (R130). -/
def usResync (e : Engine) (s : State) : State := s.modLine e (fun l => { l with rsDone := [] })

/-- US_RESYNC: a write of 1; hardware clears the bit (R130). -/
def execUsResync (a : Agent) (e : Engine) (s : State) : Out := .next (s.byAgent [.carrier] a (usResync e))

/-- A write of MEMBER: a channel whose bit is cleared leaves the bond with no strike (R120). -/
def setMember (e : Engine) (mask : Nat) (s : State) : State :=
  let s := s.put (BOND_CTRL_MEMBER e.n) mask
  s.each channels (fun c s => if s.isSet ((BOND_CTRL_MEMBER e.n).bit c.val) then s else bondLeave e c s)

/-- MEMBER_MASK_SET: carrier firmware writes MEMBER and the matching bits of CH_JOIN (R131). -/
def execMemberMaskSet (e : Engine) (mask : BitVec 4) (s : State) : Out :=
  .next (sideChannels.foldl (fun s c => setChJoin e c (mask.getLsbD c.val) s) (setMember e mask.toNat s))

end Sys2Proof.Machine
end

