-- ==== Sys2Proof/Machine/Optical.lean ====
section
/-! DEFINITION. The photonic front ends: inhibit, rogue light, temperature, receivers and telemetry (02_optical_line.md). -/
namespace Sys2Proof.Machine

/-- A low on TX_INHIBIT_N is accepted by one front end (R35, R36). -/
def acceptInhibit (e : Engine) (s : State) : State :=
  let s := pfeFlag e 14 (s.putB (PFE_STATUS_INHIBIT e.n) true)
  s.each channels (fun c s => cutBurst e c s)

/-- A low pulse on TX_INHIBIT_N, its length in ns: below 20 ns ignored, from 100 ns accepted, between them one of the
two (R35, R13). A low that comes while the inhibit counts as accepted already is accepted afresh, with its flag and source 81:
DESIGN CHOICE, log 51. -/
def execTxInhibitAccept (lowNs : Nat) (s : State) : Out :=
  if lowNs < 20 then .next s
  else
    let accept (s : State) := acceptInhibit .lb (acceptInhibit .la (s.occur 81))
    if 100 ≤ lowNs then .next (accept s)
    else .next (if s.bandBit then accept s.used else s.used)

/-- A return to high is recognised by one front end (R35, R36). At the end of a reset the inhibit counts as accepted, so none
is recognised while the engine is held in it. -/
def releaseInhibit (e : Engine) (s : State) : State :=
  if s.inhibited e && !s.engineHeld e then
    (s.putB (PFE_STATUS_INHIBIT e.n) false).modLine e (fun l => { l with inhFrom := s.now + 2000 })
  else s

/-- TX_INHIBIT_N has stood high for `highNs` (R35, R36). -/
def execTxInhibitRelease (highNs : Nat) (s : State) : Out :=
  if 100 ≤ highNs then .next (releaseInhibit .lb (releaseInhibit .la s)) else .next s

/-- Light above −30 dBm for `ns` after the dark-within time of every failing condition (R37). -/
def execRogueDetect (e : Engine) (c : Ch) (ns : Nat) (s : State) : Out :=
  if s.mayEmit e c ∨ ns < 200 then .next s
  else
    let s := s.putB ((PFE_STATUS_ROGUE_OFF e.n).bit c.val) true
    let s := pfeFlag e c.val s
    let s := s.putB ((PFE_STATUS_LATCH e.n).bit c.val) false
    let s := darken e c s
    .next (s.putB ((PFE_STATUS_LIGHT e.n).bit c.val) false)

/-- Carrier firmware reopens the supply switches of the channels in `mask`; the latches stay closed (R38). -/
def rogueRestore (e : Engine) (mask : Nat) (s : State) : State :=
  s.each channels (fun c s =>
    if mask.testBit c.val then s.putB ((PFE_STATUS_ROGUE_OFF e.n).bit c.val) false else s)

/-- A write of `LE.PFE.CTRL.ROGUE_RESTORE`, by C only (R38, Table 02-6). -/
def execRogueRestore (a : Agent) (e : Engine) (mask : BitVec 4) (s : State) : Out :=
  .next (s.byAgent [.carrier] a (rogueRestore e mask.toNat))

/-- A plate deviation, in 0.01 °C, decides TEMP_OK (R40). -/
def tempOk (e : Engine) (dev : Int) (s : State) : State := s.putB (PFE_STATUS_TEMP_OK e.n) (-50 ≤ dev ∧ dev ≤ 50)

/-- A deviation has stood for 1 s (R40). -/
def execTempWarn (e : Engine) (dev : Int) (s : State) : Out :=
  let s := tempOk e dev s
  if dev < -100 ∨ 100 < dev then .next (pfeFlag e 12 s) else .next s

/-- The temperature gate sets above 3.0 °C and darkens the engine; it clears below 1.0 °C (R40, Table 02-2). -/
def execTempGateChange (e : Engine) (dev : Int) (s : State) : Out :=
  let s := tempOk e dev s
  if s.isSet (PFE_STATUS_TEMP_GATE e.n) then
    if -100 < dev ∧ dev < 100 then .next (s.putB (PFE_STATUS_TEMP_GATE e.n) false) else .next s
  else if dev < -300 ∨ 300 < dev then
    let s := pfeFlag e 13 (s.putB (PFE_STATUS_TEMP_GATE e.n) true)
    .next (s.each channels (fun c s => darken e c s))
  else .next s

/-- The received power, in 0.01 dBm, has stood for 50 µs; an unpowered receiver sees none (R42). Channels 1 to 3 of a watchful
or waking engine declare no loss of signal (R164). -/
def execLosChange (e : Engine) (c : Ch) (power : Int) (s : State) : Out :=
  let los := (PFE_STATUS_RX_LOS e.n).bit c.val
  let on := s.isSet ((PFE_CTRL_RX_EN e.n).bit c.val)
  if s.defectsMuted e c then .next s
  else if !s.isSet los && (!on || power < -2800) then
    .next (breakRuns e c (pfeFlag e (4 + c.val) (s.putB los true)))
  else if s.isSet los && on && -2700 < power then
    .next (pfeFlag e (4 + c.val) (s.putB los false))
  else .next s

/-- LD-x0 firmware has trained the taps of a locked channel and holds them (R43). A channel returning from watchful
sleep re-enters In as soon as it is locked and trained (R164). -/
def execEqualiserTrain (e : Engine) (c : Ch) (s : State) : Out :=
  if s.locked e c then
    let back := (s.ch e c).wakeReturn
    let s := s.modCh e c (fun x => { x with trained := true, wakeReturn := false })
    if back && s.bond e c = 2 && s.canBeIn e c then .next (setBond e c 1 s) else .next s
  else .next s

/-- A channel has shown no light for 1 s (R46). -/
def State.unlit (s : State) (e : Engine) (c : Ch) : Bool :=
  !(s.ch e c).gate && (match (s.ch e c).lastLight with
    | some t => decide (t + 1000000000 ≤ s.now)
    | none => true)

/-- The key of the keeper's record of a laser's beginning-of-life bias: DESIGN CHOICE, log 6. -/
def lifeKey (e : Engine) (c : Ch) : Nat := 16 + 4 * e.n + c.val

/-- The beginning-of-life bias of a channel's laser, once it is on record (R544's text). -/
def State.lifeBias (s : State) (e : Engine) (c : Ch) : Option Nat := (s.record 2 (lifeKey e c)).map (fun r => numBE r.value)

/-- The module is configured: it has booted, and not on safe defaults (R453). -/
def State.configured (s : State) : Bool := s.kp.booted && (match s.kp.opt with
  | some o => o.jrnl.isSome
  | none => false)

/-- Once the module is configured, the first bias needed at 45 °C goes on record and into the settings journal (R544's
text). -/
def recordLife (e : Engine) (c : Ch) (need : Nat) (plate : Int) (s : State) : State :=
  if s.configured && (s.lifeBias e c).isNone && need ≠ 0 && plate = 4500 then
    changeRecord 2 (lifeKey e c) (some (bytesBE 2 need)) false s
  else s

/-- The telemetry of one channel: TXMON, RXMON, the laser's wear (R45 to R47, R544). EOL is set when the wear begins, and a flag
cleared while the laser stays worn is not set again: DESIGN CHOICE, log 51. -/
def channelTelemetry (e : Engine) (c : Ch) (t : Telemetry) (s : State) : State :=
  let i := c.val
  let s := if s.unlit e c then s.put (PFE_TXMON_TXPWR e.n i) 0x8000
    else if (s.ch e c).lit then s.put (PFE_TXMON_TXPWR e.n i) (toField 16 (t.txPwr.getD i 0))
    else s
  let need := t.needBias.getD i 0
  let s := s.put (PFE_TXMON_BIAS e.n i) need
  let rx := t.rxPwr.getD i 0
  let dark := rx < -4000 || !s.isSet ((PFE_CTRL_RX_EN e.n).bit i)
  let s := s.put (PFE_RXMON_RXPWR e.n i) (if dark then 0x8000 else toField 16 rx)
  let s := s.put (PFE_RXMON_APD_V e.n i) (t.apdV.getD i 0)
  let s := recordLife e c need t.plate s
  let was := (s.ch e c).worn
  let worn := (s.lifeBias e c).any (fun b => decide (3 * b < 2 * need))
  let s := s.modCh e c (fun x => { x with lit := x.gate, worn := worn })
  if worn && !was then pfeFlag e (8 + i) s else s

/-- A telemetry update of 1 ms: every field of a word comes from the same update (R45). An engine held in reset has none
(R8). -/
def execTelemetryUpdate (e : Engine) (t : Telemetry) (s : State) : Out :=
  if s.engineHeld e then .next s else
  let s := s.each channels (fun c s => channelTelemetry e c t s)
  let s := s.put (PFE_TEMP_ARRAY_T e.n) (toField 16 t.plate)
  let s := s.put (PFE_TEMP_TEC_I e.n) (toField 16 t.tecI)
  let s := tempOk e (t.plate - 4500) s
  .next (refreshPage e s)

end Sys2Proof.Machine
end

