-- ==== Sys2Proof/Machine/DspData.lean ====
section
/-! DEFINITION. What a DSP core reads and writes: its registers by code, the X and Y spaces, the telemetry page and its
peripheral page with the captures (R418, R420, R421, R438 to R444). -/
namespace Sys2Proof.Machine

/-! ### Registers (Table 16-3, R422) -/

/-- A register as the loop hardware and the datapath hold it. -/
def DspCore.hw (x : DspCore) (code : Nat) : Nat := sget dspRegReset x.r code

/-- A register takes a value. -/
def DspCore.set (x : DspCore) (code v : Nat) : DspCore := { x with r := sset dspRegReset x.r code v }

/-- Register Dn, 32 bits. -/
def DspCore.d (x : DspCore) (n : Nat) : Nat := x.hw n

/-- Accumulator n as a signed number of 40 bits. -/
def DspCore.ac (x : DspCore) (n : Nat) : Int := signed 40 (x.hw (0x10 + n))

/-- An accumulator takes a number modulo 2^40 (R429). -/
def DspCore.setAc (x : DspCore) (n : Nat) (v : Int) : DspCore := x.set (0x10 + n) (toField 40 v)

/-- An address or modifier register as address generation sees it (R422). -/
def DspCore.seen (x : DspCore) (code : Nat) : Nat :=
  match x.old.find? (fun p => p.1 = code) with
  | some p => p.2
  | none => x.hw code

/-- A loop register as a MOV reads it: the last value written. -/
def DspCore.written (x : DspCore) (code : Nat) : Nat :=
  match x.late.reverse.find? (fun p => p.1 = code) with
  | some p => p.2.1
  | none => x.hw code

/-- What a MOV reads (Table 16-3): 32 bits. -/
def DspCore.movRead (x : DspCore) (code : Nat) : Nat :=
  if code < 0x10 then x.hw code
  else if code < 0x14 then x.hw code % 2 ^ 32
  else if code < 0x18 then toField 32 (signed 8 (x.hw (code - 4) / 2 ^ 32))
  else if code < 0x20 then x.hw code
  else if code < 0x28 then toField 32 (signed 20 (x.hw code))
  else x.written code

/-- Whether a code names a register that the loop hardware reads. -/
def isLoopReg (code : Nat) : Bool := decide (0x28 ≤ code ∧ code ≤ 0x34)

/-- The repeat cache is emptied when LS or LE of its level is written (R428). -/
def DspCore.dropCache (x : DspCore) (code : Nat) : DspCore :=
  match x.cache with
  | some k => if code = 0x2C + k ∨ code = 0x30 + k then { x with cache := none } else x
  | none => x

/-- SW takes the bits of `mask` from `v`; LEN is seen by the loop hardware two issues later (R422). -/
def DspCore.setSw (x : DspCore) (mask v : Nat) : DspCore :=
  let now := x.hw 0x35
  let put := (now &&& (0x7F - mask % 128)) ||| (v % 128 &&& mask % 128) ||| (now &&& 0x80)
  let x := x.set 0x35 put
  if 128 ≤ mask then { x with late := x.late ++ [(0x80, v / 128 % 2, 2)] } else x

/-- SW as a MOV reads it: LEN is the last one written. -/
def DspCore.sw (x : DspCore) : Nat :=
  match x.late.reverse.find? (fun p => p.1 = 0x80) with
  | some p => x.hw 0x35 % 128 + 128 * p.2.1
  | none => x.hw 0x35

/-- What a MOV or LDI writes (Table 16-3, R422). -/
def DspCore.movWrite (x : DspCore) (code v : Nat) : DspCore :=
  if code < 0x10 then x.set code v
  else if code < 0x14 then x.setAc (code - 0x10) (signed 32 v)
  else if code < 0x18 then x.set (code - 4) (x.hw (code - 4) % 2 ^ 32 + v % 256 * 2 ^ 32)
  else if code < 0x28 then { (x.set code (v % 2 ^ 20)) with old := (code, x.hw code) :: x.old }
  else if code < 0x2C then { x with late := x.late ++ [(code, v % 2 ^ 16, 2)] }
  else if code < 0x34 then { (x.dropCache code) with late := x.late ++ [(code, v % 2 ^ 15, 2)] }
  else if code = 0x34 then (if v % 8 ≤ 4 then { x with late := x.late ++ [(code, v % 8, 2)] } else x)
  else if code = 0x35 then x.setSw 0xFF v
  else if code = 0x36 then x.set code (v % 2 ^ 15)
  else x.set code (v % 2 ^ 8)

/-- An issue: late writes whose time has come land, the others come one issue nearer (R422). -/
def DspCore.land (x : DspCore) : DspCore :=
  let due := x.late.filter (fun p => p.2.2 = 0)
  let rest := (x.late.filter (fun p => p.2.2 ≠ 0)).map (fun p => (p.1, p.2.1, p.2.2 - 1))
  due.foldl DspCore.landOne { x with late := rest }

/-! ### The peripheral page (Table 16-10) -/

/-- The capture settings of a core for a channel. -/
def DspCore.cap (x : DspCore) (c : Nat) : CapSet := sget (fun _ => {}) x.caps c

/-- They change. -/
def modCapSet (k : Core) (c : Ch) (f : CapSet → CapSet) (s : State) : State :=
  s.modCore k (fun x => { x with caps := sset (fun _ => {}) x.caps c.val (f (x.cap c.val)) })

/-- GO: a capture starts, restarts, takes the other core's buffer, or is refused (R442). -/
def capGoOp (k : Core) (c : Ch) (s : State) : State :=
  let me := k.idx.val + 1
  let b := s.capBuf k.engine c
  if (me = 2 && b.owner = 1) || !s.isSet ((PFE_CTRL_RX_EN k.engine.n).bit c.val) then
    modCapSet k c (fun y => { y with fin := 3 }) s
  else
    let s := if b.owner ≠ 0 && b.owner ≠ me then
        dspFlag k.engine 9 (pendVector (otherCore k) (8 + c.val) (modCapSet (otherCore k) c (fun y => { y with fin := 2 }) s))
      else s
    let armed := ((s.core k).cap c.val).trig = 1
    let s := modCapSet k c (fun y => { y with fin := 0 }) s
    s.modCap k.engine c (fun b => { b with owner := me, st := if armed then 1 else 2, atPsync := armed, count := 0 })

/-- RELEASE by the owner frees the buffer; the samples stay (R442). -/
def capReleaseOp (k : Core) (c : Ch) (s : State) : State :=
  if (s.capBuf k.engine c).owner = k.idx.val + 1 then
    s.modCap k.engine c (fun b => { b with owner := 0, st := 0 })
  else s

/-- A core's write of 1 to KICK restarts its watchdog period (R441). -/
def kickOp (k : Core) (s : State) : State := s.modCore k (fun x => { x with half := false })

/-- A core's write of 1 to BELL (R418). -/
def bellOp (k : Core) (s : State) : State := pendVector (otherCore k) 13 s

/-- A core acknowledges its inbound mailbox (R439). -/
def mboxAckOp (k : Core) (s : State) : State := s.putB (DSP_MBOX_IN_FULL k.engine.n k.idx.val) false

/-- A core fills its outbound mailbox (R439). -/
def mboxOutOp (k : Core) (s : State) : State :=
  if s.isSet (DSP_MBOX_OUT_FULL k.engine.n k.idx.val) then s
  else dspFlag k.engine (6 + k.idx.val) (s.putB (DSP_MBOX_OUT_FULL k.engine.n k.idx.val) true)

/-- The word at an aligned offset of the peripheral page. -/
def State.page (s : State) (k : Core) (o : Nat) : Word :=
  let x := s.core k
  let e := k.engine.n
  let i := k.idx.val
  let w (v : Nat) : Word := BitVec.ofNat 32 v
  if o = 0x00 then w (x.causeAddr % 2 ^ 20 + x.causeKind * 2 ^ 24)
  else if o = 0x04 then w x.code
  else if o = 0x08 ∨ o = 0x0C then w (sget (fun _ => 0) x.reload ((o - 8) / 4))
  else if o = 0x10 then w x.ien
  else if o = 0x14 then w x.ipend
  else if 0x20 ≤ o ∧ o < 0x40 then s.reg (DSP_MBOX_IN e i ((o - 0x20) / 4))
  else if 0x40 ≤ o ∧ o < 0x60 then s.reg (DSP_MBOX_OUT e i ((o - 0x40) / 4))
  else if o = 0x60 then w (s.get (DSP_MBOX_OUT_FULL e i) * 2 + s.get (DSP_MBOX_IN_FULL e i))
  else if 0x80 ≤ o ∧ o < 0xC0 then
    let c := (o - 0x80) / 16
    let b := s.capBuf k.engine (Fin.ofNat 4 c)
    let y := x.cap c
    if o % 16 = 0 then w (y.trig * 2 ^ 29 + y.mode * 2 ^ 24 + y.period)
    else if o % 16 = 4 then w (b.owner * 2 ^ 30 + b.st * 2 ^ 28 + y.fin * 2 ^ 26 + b.count)
    else if o % 16 = 8 then w b.sfc
    else w b.ui
  else 0

/-- A core's write of an aligned word of its peripheral page (R438): `m` marks the bits a narrow store writes. -/
def pageWrite (k : Core) (o w m : Nat) (s : State) : State :=
  let e := k.engine.n
  let i := k.idx.val
  let ones := w &&& m
  let mix (old : Nat) : Nat := (old &&& (2 ^ 32 - 1 - m)) ||| ones
  if o = 0x08 ∨ o = 0x0C then
    let t := (o - 8) / 4
    s.modCore k (fun x => { x with reload := sset (fun _ => 0) x.reload t (mix (sget (fun _ => 0) x.reload t)) })
  else if o = 0x10 then s.modCore k (fun x => { x with ien := mix x.ien &&& 0x7FF0 })
  else if o = 0x14 then s.modCore k (fun x => { x with ipend := x.ipend &&& (0x7FF0 - (ones &&& 0x7FF0)) })
  else if o = 0x18 then s.when (ones.testBit 0) (kickOp k)
  else if o = 0x1C then s.when (ones.testBit 0) (bellOp k)
  else if 0x40 ≤ o ∧ o < 0x60 then
    let a := DSP_MBOX_OUT e i ((o - 0x40) / 4)
    if s.isSet (DSP_MBOX_OUT_FULL e i) then s else s.setReg a (BitVec.ofNat 32 (mix (s.reg a).toNat))
  else if o = 0x60 then (s.when (ones.testBit 0) (mboxAckOp k)).when (ones.testBit 1) (mboxOutOp k)
  else if 0x80 ≤ o ∧ o < 0xC0 ∧ o % 16 = 0 then
    let c : Ch := Fin.ofNat 4 ((o - 0x80) / 16)
    let v := mix (s.page k o).toNat
    let trig := v / 2 ^ 29 % 4
    let mode := v / 2 ^ 24 % 4
    let per := v % 256
    let s := modCapSet k c (fun y => { y with
      trig := if trig ≤ 1 then trig else y.trig
      mode := if mode ≤ 2 then mode else y.mode
      period := if per = 0 then y.period else per }) s
    (s.when (ones.testBit 31) (capGoOp k c)).when (ones.testBit 28) (capReleaseOp k c)
  else s

/-! ### The X and Y spaces (R420, Tables 16-2 and 16-9) -/

/-- The word at an aligned offset of the telemetry page. -/
def State.telPage (s : State) (e : Engine) (o : Nat) : Word :=
  if o < 0x40 then
    if o % 16 = 0 then s.reg (PFE_TXMON e.n (o / 16))
    else if o % 16 = 4 then s.reg (PFE_RXMON e.n (o / 16))
    else 0
  else if o = 0x40 then s.reg (PFE_TEMP e.n)
  else if o = 0x44 then BitVec.ofNat 32 (s.line e).telSeq
  else if 0x1000 ≤ o then BitVec.ofNat 32 (sget (fun _ => 0) (s.line e).fecRing ((o - 0x1000) / 4))
  else 0

/-- The number of `n` bytes at an address of a byte store, the lowest address least significant. -/
def storeRead (st : Store Byte) (a : Nat) : Nat → Nat
  | 0 => 0
  | n + 1 => (sget (fun _ => 0) st a).toNat + 256 * storeRead st (a + 1) n

/-- `n` bytes stored, the lowest address least significant. -/
def storeWrite (st : Store Byte) (a v : Nat) : Nat → Store Byte
  | 0 => st
  | n + 1 => storeWrite (sset (fun _ => 0) st a (BitVec.ofNat 8 v)) (a + 1) (v / 256) n

/-- A data access: what it reads, or the KIND with which it does not take place (R420, R446). `y`: the Y space. -/
def State.dspRead (s : State) (k : Core) (y : Bool) (a n : Nat) : Except Nat Nat :=
  let part (w : Word) : Nat := w.toNat / 256 ^ (a % 4) % 256 ^ n
  if y then
    if 0x10000 ≤ a then .error 1 else if a % n ≠ 0 then .error 2 else .ok (storeRead (s.core k).y a n)
  else if 0x52100 ≤ a then .error 1
  else if a % n ≠ 0 then .error 2
  else if a < 0x10000 then .ok (storeRead (s.core k).x a n)
  else if a < 0x50000 then
    let b := s.capBuf k.engine (Fin.ofNat 4 (a / 0x10000 - 1))
    let i := a % 0x10000
    if (List.range n).any (fun j => b.bad.contains (i + j)) then .error 3 else .ok (storeRead b.samples i n)
  else if a < 0x52000 then .ok (part (s.telPage k.engine (a % 0x2000 / 4 * 4)))
  else .ok (part (s.page k (a % 0x100 / 4 * 4)))

/-- A data store: the state after it, or the KIND with which it does not take place (R420). -/
def State.dspWrite (s : State) (k : Core) (y : Bool) (a n v : Nat) : Except Nat State :=
  if y then
    if 0x10000 ≤ a then .error 1 else if a % n ≠ 0 then .error 2
    else .ok (s.modCore k (fun x => { x with y := storeWrite x.y a v n }))
  else if 0x52100 ≤ a ∨ (0x10000 ≤ a ∧ a < 0x52000) then .error 1
  else if a % n ≠ 0 then .error 2
  else if a < 0x10000 then .ok (s.modCore k (fun x => { x with x := storeWrite x.x a v n }))
  else
    let sh := 256 ^ (a % 4)
    .ok (pageWrite k (a % 0x100 / 4 * 4) (v % 256 ^ n * sh) ((256 ^ n - 1) * sh) s)

end Sys2Proof.Machine
end

