-- ==== Sys2Proof/Machine/Dsp.lean ====
section
/-! DEFINITION. The line DSP cores: start and stop, interrupts, hardware loops, the instruction set, mailboxes, captures,
upsets and retirement (16_line_dsp.md). -/
namespace Sys2Proof.Machine

/-! ### Loops and vectors -/

/-- One judgement of level k at its end (R426): `n` levels may share the end. -/
def judgeLevel : Nat → Nat → DspCore → DspCore
  | 0, _, x => x
  | n + 1, k, x =>
    let lc := x.hw (0x28 + k)
    if 1 < lc then
      let x := (x.set (0x28 + k) (lc - 1))
      let small := decide (x.hw (0x30 + k) + 1 - x.hw (0x2C + k) ≤ 16)
      { x with next := x.hw (0x2C + k), cache := if small && decide (x.hw 0x34 = k + 1) then some k else none }
    else
      let x := { (x.set 0x34 k) with cache := none }
      match k with
      | 0 => x
      | j + 1 => if x.hw (0x30 + j) = x.hw (0x30 + k) then judgeLevel n j x else x

/-- The judgement due at the instruction last issued (R426). -/
def DspCore.settle (x : DspCore) : DspCore :=
  match x.judge with
  | some k => judgeLevel 4 k { x with judge := none }
  | none => x

/-- A core advances one of its counters (Table 16-12). -/
def dspCount (k : Core) (j : Nat) (n : Nat) (s : State) : State := s.bump (DSP_CNT k.engine.n k.idx.val j) n

/-- Entry through a vector (R436): the pending writes have landed by the handler's first instruction, 5 cycles on. -/
def enterVector (k : Core) (v : Nat) (s : State) : State :=
  let s := dspCount k 0 4 (dspCount k 2 1 s)
  s.modCore k (fun x =>
    let at' := x.next
    let x := x.drain
    let sw := x.hw 0x35
    let x := ((x.set 0x36 at').set 0x37 sw).set 0x35 (sw &&& 0x3F)
    { x with next := 4 * v, entered := true })

/-- A synchronous vector: taken even when IE is 0, or the double fault (R436). -/
def syncVector (k : Core) (v : Nat) (s : State) : State :=
  let s := s.modCore k DspCore.settle
  let x := s.core k
  if !(x.hw 0x35).testBit 6 && x.entered then haltCore k 2 s else enterVector k v s

/-- INTERRUPT_ENTRY may take place: not before a delay slot, the instruction after a load, or the two after a write that
R422 delays for the loop hardware (R435). -/
def DspCore.takeable (x : DspCore) : Bool :=
  x.slots = 0 && x.loads.isEmpty && x.late.all (fun p => p.2.2 = 0)

/-- The lowest pending vector that may be taken (R435). -/
def DspCore.vector (x : DspCore) : Option Nat :=
  if (x.hw 0x35).testBit 6 then (List.range 15).find? (fun v => decide (4 ≤ v) && (x.ien &&& x.ipend).testBit v)
  else none

/-! ### Issue -/

/-- Why an instruction ends in a synchronous vector. -/
inductive DspTrap where
  | none | illegal | loop | trap
  /-- The address and the KIND. -/
  | access (a kind : Nat)
  deriving DecidableEq, Repr

/-- The vector of a trap, with CAUSE and CODE as it leaves them. `p` is the address of the instruction. -/
def raiseTrap (k : Core) (p : Nat) (t : DspTrap) (s : State) : State :=
  let cause (a kind : Nat) (s : State) : State := s.modCore k (fun x => { x with causeAddr := a, causeKind := kind })
  match t with
  | .none => s
  | .illegal => syncVector k 1 (cause p 4 s)
  | .loop => syncVector k 1 (cause p 5 s)
  | .trap => syncVector k 3 s
  | .access a kind => syncVector k 2 (cause a kind s)

/-- The opcode of an instruction word (Table 16-6). -/
def dspOpOf (w : Word) : Nat := w.field 31 26

/-- The instruction that the core issues next. -/
def DspCore.fetch (x : DspCore) : Word := sget (fun _ => 0) x.prog x.settle.next

/-- A delay slot has been used: after the last one control continues at the target (R424), RTI with its SW (R433). -/
def DspCore.useSlot (x : DspCore) : DspCore :=
  if x.slots = 1 then
    if x.rti then
      { (x.set 0x35 (x.hw 0x37)) with slots := 0, rti := false, next := x.hw 0x36, entered := false }
    else { x with slots := 0, next := x.target.getD x.next, target := none }
  else { x with slots := x.slots - 1 }

/-- The instruction at `p` ends the innermost level and is judged (R426). -/
def DspCore.atEnd (x : DspCore) (p : Nat) : Option Nat :=
  if 128 ≤ x.hw 0x35 && decide (0 < x.hw 0x34) && decide (x.hw (0x30 + (x.hw 0x34 - 1)) = p) then some (x.hw 0x34 - 1)
  else none

/-- One issue of an instruction whose opcode satisfies `mine` and whose effect is `body`, given its word, its address and
the state with the old loads in flight; the effect says how the instruction ends (R422, R423). -/
def issue (k : Core) (mine : Nat → Bool) (body : Word → Nat → State → State × DspTrap) (s : State) : State :=
  let w := (s.core k).fetch
  if s.issues k && mine (dspOpOf w) then
    let s := s.modCore k (fun x => (x.settle).land)
    let x := s.core k
    let p := x.next
    let flying := x.loads
    let inSlot := decide (0 < x.slots)
    let s := dspCount k 1 1 (dspCount k 0 1 (s.put (DSP_STATUS_PC k.engine.n k.idx.val) p))
    let s := s.modCore k (fun y => { y with loads := [], next := (p + 1) % 2 ^ 15 })
    let (s, t) := body w p s
    let s := s.modCore k (fun y =>
      let y := { y with
        r := flying.foldl (fun r l => sset dspRegReset r l.1 l.2) y.r
        old := y.old.take (y.old.length - x.old.length)
        judge := x.atEnd p }
      if inSlot then y.useSlot else y)
    raiseTrap k p t s
  else s

/-- An instruction's body that changes the core's record alone. -/
def onCore (k : Core) (f : DspCore → DspCore × DspTrap) (s : State) : State × DspTrap :=
  let (x, t) := f (s.core k)
  (s.modCore k (fun _ => x), t)

/-- A body that runs only when a word is well formed: a reserved bit or value raises vector 1 (R432). -/
def legal (ok : Bool) (s : State) (run : State × DspTrap) : State × DspTrap := if ok then run else (s, .illegal)

/-! ### Conditions and flags -/

/-- The conditions of COND (R432's text). -/
def DspCore.cond (x : DspCore) (c : Nat) : Bool :=
  let sw := x.hw 0x35
  let z := sw.testBit 0
  let n := sw.testBit 1
  let cy := sw.testBit 2
  let v := sw.testBit 3
  match c with
  | 0 => true | 1 => z | 2 => !z | 3 => n | 4 => !n | 5 => cy | 6 => !cy | 7 => v | 8 => !v
  | 9 => !z && n == v | 10 => n == v | 11 => n != v | _ => z || n != v

/-- One flag of SW takes a value. -/
def DspCore.flag (x : DspCore) (b : Nat) (v : Bool) : DspCore :=
  let sw := x.hw 0x35
  x.set 0x35 (sw - (sw / 2 ^ b % 2) * 2 ^ b + v.toNat * 2 ^ b)

/-- Z and N. -/
def DspCore.zn (x : DspCore) (z n : Bool) : DspCore := (x.flag 0 z).flag 1 n

/-- V, and SV with every V (Table 16-4). -/
def DspCore.ovf (x : DspCore) (v : Bool) : DspCore := if v then (x.flag 3 true).flag 4 true else x.flag 3 false

/-! ### Branches (R424, R427, R433) -/

/-- A branch at the last three addresses of the innermost level, judged while LEN is 1 (R427). -/
def DspCore.nearEnd (x : DspCore) (p : Nat) : Bool :=
  let le := x.hw (0x30 + (x.hw 0x34 - 1))
  decide (128 ≤ x.hw 0x35) && decide (0 < x.hw 0x34) && decide (p ≤ le) && decide (le ≤ p + 2)

/-- What every branch does first: illegal in a delay slot, a loop fault near a loop end; then two delay slots come. -/
def branch (k : Core) (ok : Bool) (p : Nat) (go : DspCore → DspCore) (s : State) : State × DspTrap :=
  let x := s.core k
  if !ok || decide (0 < x.slots) then (s, .illegal)
  else if x.nearEnd p then (s, .loop)
  else (s.modCore k (fun x => go { x with slots := 2, target := none, rti := false }), .none)

/-- BR (0x01). -/
def bodyBr (k : Core) (w : Word) (p : Nat) (s : State) : State × DspTrap :=
  branch k (w.field 25 22 ≤ 12 && w.field 21 15 = 0) p
    (fun x => if x.cond (w.field 25 22) then { x with target := some (w.field 14 0) } else x) s

/-- CALL (0x02). -/
def bodyCall (k : Core) (w : Word) (p : Nat) (s : State) : State × DspTrap :=
  branch k (w.field 25 22 ≤ 12 && w.field 21 15 = 0) p
    (fun x => if x.cond (w.field 25 22) then
        { (x.set 15 ((p + 3) % 2 ^ 15)) with target := some (w.field 14 0) } else x) s

/-- JR (0x03). -/
def bodyJr (k : Core) (w : Word) (p : Nat) (s : State) : State × DspTrap :=
  branch k (w.field 25 22 ≤ 12 && w.field 17 0 = 0) p
    (fun x => if x.cond (w.field 25 22) then { x with target := some (x.d (w.field 21 18) % 2 ^ 15) } else x) s

/-- RTI (0x05). -/
def bodyRti (k : Core) (w : Word) (p : Nat) (s : State) : State × DspTrap :=
  branch k (w.field 25 0 = 0) p (fun x => { x with rti := true }) s

/-- LOOP (0x04, R425). -/
def bodyLoop (k : Core) (w : Word) (p : Nat) (s : State) : State × DspTrap :=
  let x := s.core k
  let rc := w.field 25 25 = 1
  let n := if rc then x.d (w.field 12 9) % 2 ^ 16 else w.field 24 9
  let len := w.field 8 0
  let lv := x.hw 0x34
  if rc && w.field 24 13 ≠ 0 then (s, .illegal)
  else if x.hw 0x35 < 128 ∨ 4 ≤ lv then (s, .loop)
  else if n = 0 then (s.modCore k (fun x => { x with next := (p + len + 2) % 2 ^ 15 }), .none)
  else (s.modCore k (fun x =>
    let x := ((x.set (0x28 + lv) n).set (0x2C + lv) ((p + 1) % 2 ^ 15)).set (0x30 + lv) ((p + len + 1) % 2 ^ 15)
    { (x.set 0x34 (lv + 1)) with cache := none }), .none)

/-! ### Moves (R433) -/

/-- SWOP (0x08). -/
def bodySwop (k : Core) (w : Word) (s : State) : State × DspTrap :=
  legal (w.field 24 8 = 0) s (onCore k (fun x =>
    (x.setSw (w.field 7 0) (if w.field 25 25 = 1 then 0xFF else 0), .none)) s)

/-- MOV (0x0A). -/
def bodyMov (k : Core) (w : Word) (s : State) : State × DspTrap :=
  let rs := w.field 19 14
  legal (w.field 25 20 < 0x38 && rs < 0x38 && w.field 13 0 = 0) s (onCore k (fun x =>
    (x.movWrite (w.field 25 20) (if rs = 0x35 then x.sw else x.movRead rs), .none)) s)

/-- LDI (0x0B). -/
def bodyLdi (k : Core) (w : Word) (s : State) : State × DspTrap :=
  let rd := w.field 25 20
  let hi := w.field 19 19 = 1
  let imm := w.field 15 0
  legal (rd < 0x38 && w.field 18 16 = 0 && !(hi && decide (16 ≤ rd))) s (onCore k (fun x =>
    if hi then (x.set rd (imm * 2 ^ 16 + x.d rd % 2 ^ 16), .none)
    else (x.movWrite rd (toField 32 (signed 16 imm)), .none)) s)

/-! ### Memory (Table 16-6, formats M and X) -/

/-- The bytes of a size code. -/
def sizeBytes (sz : Nat) : Nat := if sz = 0 then 4 else if sz ≤ 2 then 2 else 1

/-- A value of a size as it stands in a D register. -/
def extend (sz v : Nat) : Nat :=
  if sz = 1 then toField 32 (signed 16 v) else if sz = 3 then toField 32 (signed 8 v) else v

/-- The address of an M-format access, and the address register afterwards (MOD). -/
def addrM (x : DspCore) (w : Word) : Nat × DspCore :=
  let an := 0x18 + w.field 20 18
  let a := x.seen an
  let off := signed 13 (w.field 12 0)
  let post (v : Int) : DspCore := x.set an (toField 20 v)
  match w.field 14 13 with
  | 0 => (toField 20 ((a : Int) + off), x)
  | 1 => (a, post ((a : Int) + off))
  | _ => (a, post ((a : Int) + signed 20 (x.seen (0x20 + w.field 20 18))))

/-- A load's value is in flight until the instruction after next (R422). -/
def DspCore.load (x : DspCore) (d v : Nat) : DspCore := { x with loads := x.loads ++ [(d, v)] }

/-- LD (0x10). -/
def bodyLd (k : Core) (w : Word) (s : State) : State × DspTrap :=
  let sz := w.field 17 15
  legal (sz ≤ 4 && w.field 14 13 ≠ 3) s
    (let (a, x) := addrM (s.core k) w
     match s.dspRead k (w.field 21 21 = 1) a (sizeBytes sz) with
     | .ok v => (s.modCore k (fun _ => x.load (w.field 25 22) (extend sz v)), .none)
     | .error kind => (s.modCore k (fun _ => x), .access a kind))

/-- ST (0x11). -/
def bodySt (k : Core) (w : Word) (s : State) : State × DspTrap :=
  let sz := w.field 17 15
  legal ((sz = 0 || sz = 1 || sz = 3) && w.field 14 13 ≠ 3) s
    (let (a, x) := addrM (s.core k) w
     let v := (s.core k).d (w.field 25 22)
     let s := s.modCore k (fun _ => x)
     match s.dspWrite k (w.field 21 21 = 1) a (sizeBytes sz) v with
     | .ok t => (t, .none)
     | .error kind => (s, .access a kind))

/-- The instruction at `p` is served from the repeat cache (R428). -/
def DspCore.cached (x : DspCore) (p : Nat) : Bool :=
  match x.cache with
  | some k => decide (x.hw 0x34 = k + 1) && decide (x.hw (0x2C + k) ≤ p) && decide (p ≤ x.hw (0x30 + k))
  | none => false

/-- LDP (0x12): from program memory it stalls the core for a cycle (R424). -/
def bodyLdp (k : Core) (w : Word) (p : Nat) (s : State) : State × DspTrap :=
  legal (w.field 21 21 = 0 && w.field 17 13 = 0) s
    (let (a, x) := addrM (s.core k) w
     let s := if x.cached p then s else dspCount k 4 1 (dspCount k 0 1 s)
     if 0x20000 ≤ a then (s, .access a 1)
     else if a % 4 ≠ 0 then (s, .access a 2)
     else (s.modCore k (fun _ => x.load (w.field 25 22) (sget (fun _ => 0) x.prog (a / 4)).toNat), .none))

/-- One parallel load (XM or YM): a word, and then the address register moves. -/
def parallel (k : Core) (y : Bool) (f : Nat) (r : State × DspTrap) : State × DspTrap :=
  let (s, t) := r
  if f / 64 % 2 = 0 then r
  else
    let x := s.core k
    let i := f / 4 % 4 + (if y then 4 else 0)
    let a := x.seen (0x18 + i)
    let step : Int := match f % 4 with
      | 0 => 0 | 1 => 4 | 2 => -4 | _ => signed 20 (x.seen (0x20 + i))
    let x := if f % 4 = 0 then x else x.set (0x18 + i) (toField 20 ((a : Int) + step))
    match s.dspRead k y a 4 with
    | .ok v => (s.modCore k (fun _ => x.load ((if y then 8 else 4) + f / 16 % 4) v), t)
    | .error kind => (s.modCore k (fun _ => x), if t = .none then .access a kind else t)

/-- Both parallel loads of an X-format instruction. -/
def parallels (k : Core) (w : Word) (r : State × DspTrap) : State × DspTrap :=
  parallel k true (w.field 6 0) (parallel k false (w.field 13 7) r)

/-! ### Arithmetic (R429 to R431, R433) -/

/-- A number fits in `n` signed bits. -/
def fits (n : Nat) (v : Int) : Bool := decide (-(2 ^ (n - 1) : Int) ≤ v ∧ v < (2 ^ (n - 1) : Int))

/-- The part of a word that W or DEST selects, as an unsigned number of its width. -/
def partOf (sel v : Nat) : Nat := if sel = 0 then v else if sel = 1 then v % 2 ^ 16 else v / 2 ^ 16

/-- The word with the part that W or DEST selects replaced. -/
def withPart (sel old v : Nat) : Nat :=
  if sel = 0 then v else if sel = 1 then old / 2 ^ 16 * 2 ^ 16 + v else v * 2 ^ 16 + old % 2 ^ 16

/-- The width of a part. -/
def partBits (sel : Nat) : Nat := if sel = 0 then 32 else 16

/-- What an ALU function gives: the result, and C and V where it sets them. `free` stands for the result the spec does not
state: the absolute value and the negation of the most negative number. -/
def aluFn (fn n a b free : Nat) : Nat × Option Bool × Option Bool :=
  let m := 2 ^ n
  let sa := signed n a
  let sb := signed n b
  let sh := b % 32
  let least := decide (a = 2 ^ (n - 1))
  match fn with
  | 0x0 => ((a + b) % m, some (decide (m ≤ a + b)), some (!fits n (sa + sb)))
  | 0x2 => (a &&& b, none, none)
  | 0x3 => (a ||| b, none, none)
  | 0x4 => (a ^^^ b, none, none)
  | 0x5 => (a * 2 ^ sh % m, none, none)
  | 0x6 => (a / 2 ^ sh, none, none)
  | 0x7 => (toField n (sa / (2 ^ sh : Int)), none, none)
  | 0x8 => (if sa ≤ sb then a else b, none, none)
  | 0x9 => (if sa ≤ sb then b else a, none, none)
  | 0xA => (if least then free % m else toField n (if sa < 0 then -sa else sa), none, none)
  | 0xB => (if least then free % m else toField n (-sa), none, none)
  | _ => ((a + m - b) % m, some (decide (b ≤ a)), some (!fits n (sa - sb)))

/-- ALU and ALUI: the flags, and the result into its part of DD unless the function is CMP. -/
def aluOp (k : Core) (fn sel dd a b : Nat) (s : State) : State × DspTrap :=
  let n := partBits sel
  let (r, c, v) := aluFn fn n a b (Config.freeWord s.freeCtr)
  let s := s.when ((fn = 0xA || fn = 0xB) && a = 2 ^ (n - 1)) State.used
  onCore k (fun x =>
    let x := x.zn (r = 0) (decide (2 ^ (n - 1) ≤ r))
    let x := match c with
      | some c => x.flag 2 c
      | none => x
    let x := match v with
      | some v => x.ovf v
      | none => x
    (if fn = 0xC then x else x.set dd (withPart sel (x.d dd) r), .none)) s

/-- ALU (0x18). -/
def bodyAlu (k : Core) (w : Word) (s : State) : State × DspTrap :=
  let sel := w.field 13 12
  let x := s.core k
  legal (w.field 7 0 = 0 && sel ≤ 2 && w.field 11 8 ≤ 0xC) s
    (aluOp k (w.field 11 8) sel (w.field 25 22) (partOf sel (x.d (w.field 21 18))) (partOf sel (x.d (w.field 17 14))) s)

/-- ALUI (0x19). -/
def bodyAlui (k : Core) (w : Word) (s : State) : State × DspTrap :=
  legal (w.field 17 14 ≤ 0xC) s
    (aluOp k (w.field 17 14) 0 (w.field 25 22) ((s.core k).d (w.field 21 18)) (toField 32 (signed 14 (w.field 13 0))) s)

/-- A 40-bit result: it wraps, Z and N come from what is written, V and SV when it does not fit (R429). -/
def DspCore.result (x : DspCore) (n : Nat) (v : Int) : DspCore :=
  let r := toField 40 v
  ((x.set (0x10 + n) r).zn (r = 0) (decide (2 ^ 39 ≤ r))).ovf (!fits 40 v)

/-- The signed half of a D register: 0 low, 1 high. -/
def DspCore.half' (x : DspCore) (d h : Nat) : Int := signed 16 (x.d d / 2 ^ (16 * h))

/-- MAC, MSU and MPY: `f` gives the new value from the accumulator and the product. -/
def bodyMul (k : Core) (f : Int → Int → Int) (w : Word) (s : State) : State × DspTrap :=
  let x := s.core k
  let i := w.field 25 24
  let p := x.half' (w.field 23 20) (w.field 15 15) * x.half' (w.field 19 16) (w.field 14 14)
  parallels k w (s.modCore k (fun x => x.result i (f (x.ac i) p)), .none)

/-- DMAC (0x23). The spec does not say which of the two results gives Z and N: a free choice. -/
def bodyDmac (k : Core) (w : Word) (s : State) : State × DspTrap :=
  let x := s.core k
  let i := w.field 25 24
  let a := w.field 23 20
  let b := w.field 19 16
  let hi := x.ac i + x.half' a 1 * x.half' b 1
  let lo := x.ac (i + 1) + x.half' a 0 * x.half' b 0
  let y := (x.setAc i hi).setAc (i + 1) lo
  let r := toField 40 (if Config.freeWord s.freeCtr % 2 = 0 then hi else lo)
  let y := (y.zn (r = 0) (decide (2 ^ 39 ≤ r))).ovf (!fits 40 hi || !fits 40 lo)
  legal (i = 0 || i = 2) s (parallels k w (s.used.modCore k (fun _ => y), .none))

/-- ACOP (0x24). -/
def bodyAcop (k : Core) (w : Word) (s : State) : State × DspTrap :=
  legal (w.field 13 0 = 0) s (onCore k (fun x =>
    let i := w.field 25 24
    let sh := signed 6 (w.field 19 14)
    let b := x.ac (w.field 23 22)
    let b := if 0 ≤ sh then b * (2 ^ sh.toNat : Int) else b / (2 ^ (-sh).toNat : Int)
    let v := match w.field 21 20 with
      | 0 => x.ac i + b
      | 1 => x.ac i - b
      | 2 => b
      | _ => 0
    (x.result i v, .none)) s)

/-- ACLD (0x25). -/
def bodyAcld (k : Core) (w : Word) (s : State) : State × DspTrap :=
  let sel := w.field 19 18
  legal (sel ≤ 2 && w.field 17 0 = 0) s (onCore k (fun x =>
    let d := x.d (w.field 23 20)
    let v := if sel = 0 then signed 32 d else signed 16 (partOf sel d) * 65536
    (x.setAc (w.field 25 24) v, .none)) s)

/-- A number shifted right and rounded half to even (R430). -/
def roundEven (v : Int) (sh : Nat) : Int :=
  let q := v / (2 ^ sh : Int)
  let r := 2 * (v % (2 ^ sh : Int))
  if (2 ^ sh : Int) < r || (r = (2 ^ sh : Int) && q % 2 = 1) then q + 1 else q

/-- EXT (0x26, R430). -/
def bodyExt (k : Core) (w : Word) (s : State) : State × DspTrap :=
  let sel := w.field 19 18
  let dd := w.field 25 22
  let n := partBits sel
  legal (sel ≤ 2 && w.field 17 12 ≤ 39 && w.field 11 0 = 0) s (onCore k (fun x =>
    let v := roundEven (x.ac (w.field 21 20)) (w.field 17 12)
    let sat := (x.hw 0x35).testBit 5
    let top : Int := (2 ^ (n - 1) : Int)
    let out := toField n (if sat && decide (top ≤ v) then top - 1 else if sat && decide (v < -top) then -top else v)
    let x := x.set dd (withPart sel (x.d dd) out)
    ((x.zn (out = 0) (decide (2 ^ (n - 1) ≤ out))).ovf (!fits n v), .none)) s)

/-- MAXX and MINX (0x28, 0x29, R431): `better v a` says when the operand replaces. -/
def bodyBest (k : Core) (better : Int → Int → Bool) (w : Word) (s : State) : State × DspTrap :=
  let sel := w.field 19 18
  legal (sel ≤ 2 && w.field 11 0 = 0) s (onCore k (fun x =>
    let i := w.field 25 24
    let lvl := w.field 17 16
    let v := signed (partBits sel) (partOf sel (x.d (w.field 23 20)))
    if better v (x.ac i) then
      let lc := if lvl < x.hw 0x34 then x.hw (0x28 + lvl) else 0
      (((x.setAc i v).set (w.field 15 12) lc).flag 2 true, .none)
    else (x.flag 2 false, .none)) s)

/-- The opcodes of Table 16-7. -/
def dspOps : List Nat :=
  [0x00, 0x01, 0x02, 0x03, 0x04, 0x05, 0x06, 0x07, 0x08, 0x0A, 0x0B, 0x10, 0x11, 0x12, 0x18, 0x19, 0x20, 0x21, 0x22, 0x23,
   0x24, 0x25, 0x26, 0x28, 0x29]

/-! ### The instructions -/

/-- NOP. -/
def execDspNop (k : Core) (s : State) : Out :=
  .next (issue k (· == 0x00) (fun w _ s => legal (w.field 25 0 = 0) s (s, .none)) s)

/-- BR. -/
def execDspBr (k : Core) (s : State) : Out := .next (issue k (· == 0x01) (bodyBr k) s)

/-- CALL. -/
def execDspCall (k : Core) (s : State) : Out := .next (issue k (· == 0x02) (bodyCall k) s)

/-- JR. -/
def execDspJr (k : Core) (s : State) : Out := .next (issue k (· == 0x03) (bodyJr k) s)

/-- LOOP. -/
def execDspLoop (k : Core) (s : State) : Out := .next (issue k (· == 0x04) (bodyLoop k) s)

/-- RTI. -/
def execDspRti (k : Core) (s : State) : Out := .next (issue k (· == 0x05) (bodyRti k) s)

/-- TRAP. -/
def execDspTrap (k : Core) (s : State) : Out :=
  .next (issue k (· == 0x06) (fun w _ s => legal (w.field 25 8 = 0) s
    (s.modCore k (fun x => { x with code := w.field 7 0 }), .trap)) s)

/-- HALT. -/
def execDspHalt (k : Core) (s : State) : Out :=
  let w := (s.core k).fetch
  let runs := s.issues k && dspOpOf w = 0x07 && w.field 25 0 = 0
  let s := issue k (· == 0x07) (fun w _ s => legal (w.field 25 0 = 0) s (s, .none)) s
  .next (s.when runs (haltCore k 1))

/-- SWOP. -/
def execDspSwop (k : Core) (s : State) : Out := .next (issue k (· == 0x08) (fun w _ s => bodySwop k w s) s)

/-- MOV. -/
def execDspMov (k : Core) (s : State) : Out := .next (issue k (· == 0x0A) (fun w _ s => bodyMov k w s) s)

/-- LDI. -/
def execDspLdi (k : Core) (s : State) : Out := .next (issue k (· == 0x0B) (fun w _ s => bodyLdi k w s) s)

/-- LD. -/
def execDspLd (k : Core) (s : State) : Out := .next (issue k (· == 0x10) (fun w _ s => bodyLd k w s) s)

/-- ST. -/
def execDspSt (k : Core) (s : State) : Out := .next (issue k (· == 0x11) (fun w _ s => bodySt k w s) s)

/-- LDP. -/
def execDspLdp (k : Core) (s : State) : Out := .next (issue k (· == 0x12) (bodyLdp k) s)

/-- ALU. -/
def execDspAlu (k : Core) (s : State) : Out := .next (issue k (· == 0x18) (fun w _ s => bodyAlu k w s) s)

/-- ALUI. -/
def execDspAlui (k : Core) (s : State) : Out := .next (issue k (· == 0x19) (fun w _ s => bodyAlui k w s) s)

/-- MAC. -/
def execDspMac (k : Core) (s : State) : Out :=
  .next (issue k (· == 0x20) (fun w _ s => bodyMul k (fun a p => a + p) w s) s)

/-- MSU. -/
def execDspMsu (k : Core) (s : State) : Out :=
  .next (issue k (· == 0x21) (fun w _ s => bodyMul k (fun a p => a - p) w s) s)

/-- MPY. -/
def execDspMpy (k : Core) (s : State) : Out :=
  .next (issue k (· == 0x22) (fun w _ s => bodyMul k (fun _ p => p) w s) s)

/-- DMAC. -/
def execDspDmac (k : Core) (s : State) : Out := .next (issue k (· == 0x23) (fun w _ s => bodyDmac k w s) s)

/-- ACOP. -/
def execDspAcop (k : Core) (s : State) : Out := .next (issue k (· == 0x24) (fun w _ s => bodyAcop k w s) s)

/-- ACLD. -/
def execDspAcld (k : Core) (s : State) : Out := .next (issue k (· == 0x25) (fun w _ s => bodyAcld k w s) s)

/-- EXT. -/
def execDspExt (k : Core) (s : State) : Out := .next (issue k (· == 0x26) (fun w _ s => bodyExt k w s) s)

/-- MAXX. -/
def execDspMaxx (k : Core) (s : State) : Out :=
  .next (issue k (· == 0x28) (fun w _ s => bodyBest k (fun v a => decide (a < v)) w s) s)

/-- MINX. -/
def execDspMinx (k : Core) (s : State) : Out :=
  .next (issue k (· == 0x29) (fun w _ s => bodyBest k (fun v a => decide (v < a)) w s) s)

/-- LOOP_END: the instruction last issued stood at a loop end and is judged (R426). -/
def execLoopEnd (k : Core) (s : State) : Out := .next (s.when (s.issues k) (fun s => s.modCore k DspCore.settle))

/-- INTERRUPT_ENTRY: the lowest pending vector that may be taken (R435, R436). With none, an instruction whose OP the table
does not list is issued and raises vector 1 (R433). -/
def execInterruptEntry (k : Core) (s : State) : Out :=
  let x := (s.core k).settle
  if !s.issues k then .next s
  else match (if x.takeable then x.vector else none) with
    | some v => .next (enterVector k v (s.modCore k DspCore.settle))
    | none => .next (issue k (fun op => !dspOps.contains op) (fun _ _ s => (s, .illegal)) s)

/-! ### Start, stop, timers and watchdog -/

/-- RUN from 0 to 1 starts the core at vector 0 (Table 16-12); after a parity halt it is a restart (R445). -/
def startCore (k : Core) (s : State) : State :=
  let e := k.engine.n
  let i := k.idx.val
  if s.isSet (DSP_CTRL_RUN e i) || (s.core k).retired then s
  else
    let s := s.when (s.get (DSP_STATUS_CAUSE e i) = 3) (dspCount k 3 1)
    let st := if i = 1 && (s.core ⟨k.engine, 0⟩).retired then 3 else 1
    let s := ((s.putB (DSP_CTRL_RUN e i) true).put (DSP_STATUS_CAUSE e i) 0).put (dspStateF k) st
    s.modCore k (fun x => { x.drain with next := 0, cache := none, entered := false, half := false })

/-- RUN written 0 halts the core with CAUSE 0x5. -/
def stopCore (k : Core) (s : State) : State :=
  s.when (s.isSet (DSP_CTRL_RUN k.engine.n k.idx.val)) (haltCore k 5)

/-- DSP_RUN. -/
def execDspRun (a : Agent) (k : Core) (s : State) : Out := .next (s.byAgent [.carrier] a (startCore k))

/-- DSP_STOP. -/
def execDspStop (a : Agent) (k : Core) (s : State) : Out := .next (s.byAgent [.carrier] a (stopCore k))

/-- A timer reaches 0 and reloads; a RELOAD of 0 stops it (R440). -/
def execDspTimerExpiry (k : Core) (t : Fin 2) (s : State) : Out :=
  .next (s.when (!s.retained k && sget (fun _ => 0) (s.core k).reload t.val ≠ 0) (pendVector k (5 + t.val)))

/-- KICK. -/
def execKick (k : Core) (s : State) : Out := .next (s.when (s.issues k) (kickOp k))

/-- The watchdog of a core is on (R441). -/
def State.watched (s : State) (k : Core) : Bool := s.issues k && s.get (DSP_CTRL_WDOG k.engine.n k.idx.val) ≠ 0

/-- WATCHDOG_HALF (R441). -/
def execWatchdogHalf (k : Core) (s : State) : Out :=
  .next (s.when (s.watched k && !(s.core k).half) (fun s =>
    pendVector k 14 (s.modCore k (fun x => { x with half := true }))))

/-- WATCHDOG_HALT: the second half of the period has passed too; it adds no strike (R441). -/
def execWatchdogHalt (k : Core) (s : State) : Out :=
  .next (s.when (s.watched k && (s.core k).half) (fun s => dspFlag k.engine 10 (haltCore k 4 s)))

/-- BELL. -/
def execBell (k : Core) (s : State) : Out := .next (s.when (s.issues k) (bellOp k))

/-! ### Mailboxes (R439) -/

/-- IN_FULL set by carrier firmware. -/
def fillMbox (k : Core) (s : State) : State :=
  let f := DSP_MBOX_IN_FULL k.engine.n k.idx.val
  if s.isSet f then s else pendVector k 4 (s.putB f true)

/-- DSP_MBOX_IN. -/
def execDspMboxIn (a : Agent) (k : Core) (s : State) : Out := .next (s.byAgent [.carrier] a (fillMbox k))

/-- DSP_MBOX_ACK. -/
def execDspMboxAck (k : Core) (s : State) : Out := .next (s.when (s.issues k) (mboxAckOp k))

/-- DSP_MBOX_OUT. -/
def execDspMboxOut (k : Core) (s : State) : Out := .next (s.when (s.issues k) (mboxOutOp k))

/-- DSP_MBOX_OUT_CLEAR. -/
def execDspMboxOutClear (a : Agent) (k : Core) (s : State) : Out :=
  .next (s.byAgent [.carrier] a (fun s => s.putB (DSP_MBOX_OUT_FULL k.engine.n k.idx.val) false))

/-! ### Capture (R442, R443) -/

/-- CAP_GO: the core writes GO with MODE and TRIG. -/
def execCapGo (k : Core) (c : Ch) (mode trig : Nat) (s : State) : Out :=
  let per := ((s.core k).cap c.val).period
  .next (s.when (s.issues k) (pageWrite k (0x80 + 16 * c.val)
    (2 ^ 31 + trig % 4 * 2 ^ 29 + mode % 4 * 2 ^ 24 + per % 256) (2 ^ 32 - 1)))

/-- CAP_RELEASE. -/
def execCapRelease (k : Core) (c : Ch) (s : State) : Out := .next (s.when (s.issues k) (capReleaseOp k c))

/-- CAPTURE_COMPLETE: the last of 65,536 samples is written (R442); `bad` are the samples that a later upset spoils (R446).
A capture started at once takes its start words from its first sample (R443). -/
def execCaptureComplete (e : Engine) (c : Ch) (samples : List Byte) (bad : List Nat) (sfc ui : Nat) (s : State) : Out :=
  let b := s.capBuf e c
  let k : Core := ⟨e, if b.owner = 2 then 1 else 0⟩
  if b.st = 2 then
    let st := (samples.take 65536).zipIdx.foldl (fun st x => sset (fun _ => 0) st x.2 x.1) b.samples
    let s := s.modCap e c (fun b => { b with
      st := 3, count := 65536, samples := st, bad := bad
      sfc := if b.atPsync then b.sfc else sfc % 2 ^ 32
      ui := if b.atPsync then b.ui else ui % 2 ^ 32 })
    .next (pendVector k (8 + c.val) (modCapSet k c (fun y => { y with fin := 1 }) s))
  else .next s

/-! ### Upsets and retirement (R445, R447) -/

/-- A core retires: it halts with STATE retired. When core 0 retires, core 1 is taken for Odavo (R447). -/
def retireCore (k : Core) (s : State) : State :=
  let s := s.modCore k (fun x => { x with retired := true })
  let s := dspFlag k.engine 3 (haltCore k 7 s)
  let one : Core := ⟨k.engine, 1⟩
  if k.idx = 0 && !(s.core one).retired then dspFlag k.engine 4 (haltCore one 8 s) else s

/-- DSP_PARITY: a strike, and a halt with CAUSE 0x3; the third retires the core, except core 1 in place of core 0. -/
def execDspParity (k : Core) (s : State) : Out :=
  let f := DSP_STATUS_STRIKES k.engine.n k.idx.val
  let n := s.get f
  if (s.core k).retired then .next s
  else
    let s := dspFlag k.engine 2 s
    if n < 2 then .next (haltCore k 3 (s.put f (n + 1)))
    else if k.idx = 1 && (s.core ⟨k.engine, 0⟩).retired then .next (dspFlag k.engine 5 (haltCore k 3 s))
    else .next (retireCore k (s.put f 0))

/-- DSP_STRIKE_EXPIRY: a strike falls away after WIN (R447). -/
def execDspStrikeExpiry (k : Core) (s : State) : Out :=
  let f := DSP_STATUS_STRIKES k.engine.n k.idx.val
  .next (s.put f (s.get f - 1))

/-- RESTORE returns a core with no strikes (R447). -/
def restoreCore (k : Core) (s : State) : State :=
  let s := s.put (DSP_STATUS_STRIKES k.engine.n k.idx.val) 0
  if (s.core k).retired then (s.modCore k (fun x => { x with retired := false })).put (dspStateF k) 0 else s

/-- CORE_RESTORE. -/
def execCoreRestore (a : Agent) (k : Core) (s : State) : Out := .next (s.byAgent [.carrier] a (restoreCore k))

end Sys2Proof.Machine
end

