-- ==== Sys2Proof/Machine/Lanes.lean ====
section
/-! DEFINITION. The client lanes and the tie links: bring-up, strikes, patterns, flits, and the pause, sleep and
verification of the client MACs (09_client_lanes.md). -/
namespace Sys2Proof.Machine

/-! ### Records -/

/-- The record of a lane. -/
def State.lane (s : State) (l : Nat) : LaneX := sget (fun _ => {}) s.lanes l

/-- Change the record of a lane. -/
def State.modLane (s : State) (l : Nat) (f : LaneX → LaneX) : State :=
  { s with lanes := sset (fun _ => {}) s.lanes l (f (s.lane l)) }

/-- The record of a port. -/
def State.port (s : State) (p : Nat) : PortX := sget (fun _ => {}) s.ports p

/-- Change the record of a port. -/
def State.modPort (s : State) (p : Nat) (f : PortX → PortX) : State :=
  { s with ports := sset (fun _ => {}) s.ports p (f (s.port p)) }

/-- The record of a tie link. -/
def State.tie (s : State) (e : Engine) : TieLink := sget (fun _ => {}) s.ties e.n

/-- One direction of a tie link. -/
def State.tieDir (s : State) (e : Engine) (toLine : Bool) : TieDir :=
  if toLine then (s.tie e).toLine else (s.tie e).toHub

/-- Change one direction of a tie link. -/
def State.modTie (s : State) (e : Engine) (toLine : Bool) (f : TieDir → TieDir) : State :=
  let t := s.tie e
  let t' := if toLine then { t with toLine := f t.toLine } else { t with toHub := f t.toHub }
  { s with ties := sset (fun _ => {}) s.ties e.n t' }

/-! ### Modes and ports (R228 to R231) -/

/-- The stage of a lane (Table 09-2). -/
def State.stage (s : State) (l : Nat) : Nat := s.get (CL_STATUS_STAGE l)

/-- The quad of a lane is one 100 Gb/s port. -/
def State.quad100 (s : State) (l : Nat) : Bool := s.isSet (CL_QUAD_CFG_PORT100 (l / 4))

/-- A lane's MODE field. -/
def State.laneMode (s : State) (l : Nat) : Nat := s.get (CL_CFG_MODE l)

/-- The CBR modes. -/
def cbrMode (m : Nat) : Bool := 8 ≤ m && m ≤ 13

/-- The modes of Table 09-1. -/
def knownMode (m : Nat) : Bool := m ≤ 5 || cbrMode m

/-- The lanes that move together with a lane: the four of a 100 Gb/s port, or it alone. -/
def State.laneGroup (s : State) (l : Nat) : List Nat :=
  if s.quad100 l then [l / 4 * 4, l / 4 * 4 + 1, l / 4 * 4 + 2, l / 4 * 4 + 3] else [l]

/-- Whether a port exists: every lane's, but only the lowest of a 100 Gb/s quad (R229). -/
def State.portExists (s : State) (p : Nat) : Bool := !(s.quad100 p && p % 4 ≠ 0)

/-- A port's link is up: every lane of it is in Up. -/
def State.portUp (s : State) (p : Nat) : Bool :=
  s.portExists p && (s.laneGroup p).all (fun l => s.stage l = 6)

/-- The MAC rate of a port in Gb/s. -/
def State.portRate (s : State) (p : Nat) : Nat :=
  if s.quad100 p then 100
  else match s.laneMode p with
    | 2 => 10
    | 3 => 10
    | 4 => 25
    | 5 => 25
    | _ => 1

/-- A lane's mode has energy-efficient Ethernet (R245). -/
def State.eeeMode (s : State) (l : Nat) : Bool :=
  if s.quad100 l then s.get (CL_QUAD_CFG_MODE100 (l / 4)) = 0
  else s.laneMode l = 1 || s.laneMode l = 3 || s.laneMode l = 5

/-- The port whose link a lane carries. -/
def State.portOfLane (s : State) (l : Nat) : Nat := if s.quad100 l then l / 4 * 4 else l

/-- Bits a second on a lane (Table 09-1). -/
def State.lineRate (s : State) (l : Nat) : Nat :=
  if s.quad100 l then 25781250000
  else match s.laneMode l with
    | 2 => 10312500000
    | 3 => 10312500000
    | 4 => 25781250000
    | 5 => 25781250000
    | 10 => 2488320000
    | 11 => 9953280000
    | 12 => 2666057143
    | 13 => 10709225316
    | _ => 1250000000

/-- Bits on a lane since a TIME cycle. -/
def State.bitsSince (s : State) (l t : Nat) : Nat := (s.now - t) * s.lineRate l / 10 ^ 9

/-- The transmitter of a lane holds electrical idle: TX_EN is 0, or the lane has not reached Negotiation and training, or is
retired (R236, R237). -/
def State.txIdle (s : State) (l : Nat) : Bool := !s.isSet (CL_CFG_TX_EN l) || decide (s.stage l ≤ 2) || s.stage l = 7

/-- Bits are sent and may be inverted: in Test and in Up (R244). -/
def State.injects (s : State) (l : Nat) : Bool := (s.stage l = 6 || s.stage l = 8) && !s.txIdle l

/-- The bits inverted on a lane up to now: one in 2^k while INJ_RATE is k (R244). -/
def State.inverted (s : State) (l : Nat) : Nat :=
  let k := s.get (CL_PRBS_INJ_RATE l)
  let x := s.lane l
  if s.injects l && decide (10 ≤ k) then x.injected + s.bitsSince l x.injAt / 2 ^ k else x.injected

/-- The inverted bits are counted up to now. -/
def countInverted (l : Nat) (s : State) : State :=
  s.modLane l (fun x => { x with injected := s.inverted l, injAt := s.now })

/-- A waiting INJ_ONE is performed on a lane that sends (R244). -/
def injectWaiting (l : Nat) (s : State) : State :=
  if s.injects l && s.isSet (CL_PRBS_INJ_ONE l) then
    (s.putB (CL_PRBS_INJ_ONE l) false).modLane l (fun x => { x with injected := x.injected + 1 })
  else s

/-- The bits of the pattern checker up to now (R243). -/
def State.checkedBits (s : State) (l : Nat) : Nat := match (s.lane l).bitsAt with | some t => s.bitsSince l t | none => 0

/-- The checker's bit counter counts up to now, and goes on or stops. -/
def countBits (l : Nat) (on : Bool) (s : State) : State :=
  (s.bump (CL_PRBS_CNT l 0) (s.checkedBits l)).modLane l (fun x => { x with bitsAt := if on then some s.now else none })

/-- The checker loses its lock. -/
def unlockChecker (l : Nat) (s : State) : State :=
  if s.isSet (CL_STATUS_CHK_LOCK l) then countBits l false (s.putB (CL_STATUS_CHK_LOCK l) false) else s

/-- Neither direction of a lane sleeps any longer (R253). -/
def wakeLane (l : Nat) (s : State) : State :=
  if s.isSet (CL_STATUS_LPI_TX l) || s.isSet (CL_STATUS_LPI_RX l) then
    clFlag l 4 ((s.putB (CL_STATUS_LPI_TX l) false).putB (CL_STATUS_LPI_RX l) false)
  else s

/-- A write of PREEMPT_EN or VERIFY_DIS, or a link that goes down, sets where verification stands (R251, R252). -/
def startVerify (p : Nat) (s : State) : State :=
  let st := if !s.isSet (CM_MM_PREEMPT_EN p) then 0 else if s.isSet (CM_MM_VERIFY_DIS p) then 4 else 1
  (s.put (CM_MM_MM_STATE p) st).modPort p (fun x => { x with verifyTries := 0 })

/-- One lane in a stage; entering or leaving Up sets UP_CHG. Outside Up it does not sleep, outside Test its checker is not
locked. -/
def setStageOf (l st : Nat) (s : State) : State :=
  let old := s.stage l
  let s := (countInverted l s).put (CL_STATUS_STAGE l) st
  let s := s.when ((old = 6) != (st = 6)) (clFlag l 0)
  let s := s.when (old = 6 ∧ st ≠ 6) (startVerify (s.portOfLane l))
  let s := if st = 8 then s else unlockChecker l s
  let s := if st = 6 then s.modLane l (fun x => { x with upAt := s.now }) else wakeLane l s
  let s := injectWaiting l s
  if st ≤ 1 ∨ st = 7 then
    (s.putB (CL_STATUS_CDR l) false).modLane l (fun x => { x with attempts := 0, tryInv := false })
  else s

/-- A lane in a stage. A lane of a 100 Gb/s port that leaves Up takes the port down: the lanes still in Up align again with it
(R232, R235, R236). -/
def setStage (l st : Nat) (s : State) : State :=
  if s.quad100 l ∧ s.stage l = 6 ∧ st ≠ 6 then
    let others := (s.laneGroup l).filter (fun k => k ≠ l && s.stage k = 6)
    ((setStageOf l st s).putB (CL_QUAD_STATUS_ALIGNED (l / 4)) false).each others (setStageOf · 5)
  else setStageOf l st s

/-- The stage of a lane that takes part: Test, CBR or Wait signal (Table 09-2, R243). -/
def State.firstStage (s : State) (l : Nat) : Nat :=
  if s.isSet (CL_PRBS_GEN_EN l) || s.isSet (CL_PRBS_CHK_EN l) then 8
  else if !s.quad100 l && cbrMode (s.laneMode l) then 9 else 1

/-- Where a lane starts: a retired one stays retired until its restore (R236). -/
def State.startStage (s : State) (l : Nat) : Nat :=
  if (s.lane l).retired then 7
  else if s.firstStage l = 8 then 8
  else if !s.isSet (CL_CFG_EN l) then 0
  else s.firstStage l

/-- A lane's configuration changed: it returns to Wait signal at once, with no strike (R237). -/
def restartLane (l : Nat) (s : State) : State :=
  if s.stage l = 0 ∨ s.stage l = 7 ∨ s.stage l = 8 then s else setStage l (s.startStage l) s

/-- The four lanes of a quad restart, and its alignment is gone. -/
def restartQuad (q : Nat) (s : State) : State :=
  (s.putB (CL_QUAD_STATUS_ALIGNED q) false).each [4 * q, 4 * q + 1, 4 * q + 2, 4 * q + 3] restartLane

/-- Whether R230 refuses a mode for a lane. -/
def modeRefused (s : State) (l m : Nat) : Bool :=
  cbrMode m &&
  (s.quad100 l ||
   decide (32 < ((List.range 128).filter (fun k => if k = l then true else cbrMode (s.laneMode k))).length) ||
   (decide (10 ≤ m) && [0, 1, 2, 3].any (fun i =>
     let k := l / 4 * 4 + i
     k ≠ l && decide (10 ≤ s.laneMode k) && cbrMode (s.laneMode k) && s.laneMode k ≠ m)))

/-- A framer's current bins are marked suspect (R405). -/
def suspect (f : Nat) (s : State) : State :=
  s.each [0, 17] (fun k s => if s.isSet (CF_BIN_FLAGS_VALID f k) then s.putB (CF_BIN_FLAGS_SUSPECT f k) true else s)

/-- A write of MODE (R230, R237); the bins of the lane's framers are suspect when it changes (R405). -/
def writeLaneMode (l m : Nat) (s : State) : State :=
  if !knownMode m then s
  else if modeRefused s l m then clFlag l 3 s
  else
    let s := if m = s.laneMode l then s else
      (s.put (CL_CFG_MODE l) m).each ((List.range 32).filter (fun f => s.get (CF_CFG_LANE f) = l)) suspect
    if s.quad100 l then s else restartLane l s

/-- LANE_MODE_WRITE (R230, R237). -/
def execLaneModeWrite (a : Agent) (l : Lane) (mode : Nat) (s : State) : Out :=
  .next (s.byAgent [.tenant, .host] a (writeLaneMode l.val mode))

/-- A write of PORT100 (R229, R230, R237). -/
def writePort100 (q : Nat) (v : Bool) (s : State) : State :=
  if v && [0, 1, 2, 3].any (fun i => cbrMode (s.laneMode (4 * q + i))) then clFlag (4 * q) 3 s
  else if s.isSet (CL_QUAD_CFG_PORT100 q) = v then s
  else restartQuad q (s.putB (CL_QUAD_CFG_PORT100 q) v)

/-- PORT100_WRITE (R229, R230, R237). -/
def execPort100Write (a : Agent) (q : Quad) (v : Bool) (s : State) : Out :=
  .next (s.byAgent [.tenant, .host] a (writePort100 q.val v))

/-! ### Bring-up (R232 to R235) -/

/-- A write of EN: 1 brings the lane up from Off, 0 sends it to Off (R232, R237). -/
def writeLaneEn (l : Nat) (v : Bool) (s : State) : State :=
  let s := s.putB (CL_CFG_EN l) v
  if v then (if s.stage l = 0 then setStage l (s.startStage l) s else s)
  else if s.stage l = 0 then s
  else setStage l 0 s

/-- LANE_ENABLE (R232, R237). -/
def execLaneEnable (a : Agent) (l : Lane) (v : Bool) (s : State) : Out :=
  .next (s.byAgent [.tenant, .host] a (writeLaneEn l.val v))

/-- Signal detect holds: a lane in Wait signal moves to Clock recovery (Table 09-2). -/
def signalSeen (l : Nat) (s : State) : State :=
  let s := s.putB (CL_STATUS_SIG l) true
  if s.stage l = 1 then setStage l 2 s else s

/-- SIGNAL_DETECT: signal has held for 100 µs (Table 09-2). -/
def execSignalDetect (l : Lane) (s : State) : Out := .next (signalSeen l.val s)

/-- Whether the negotiation and training stage applies to a lane (Table 09-2, Table 09-5). -/
def State.trains (s : State) (l : Nat) : Bool :=
  let m := s.laneMode l
  if s.quad100 l then
    s.get (CL_QUAD_CFG_MODE100 (l / 4)) = 0 && (s.isSet (CL_CFG_ANEG_EN l) || s.isSet (CL_CFG_TRAIN_EN l))
  else (s.isSet (CL_CFG_ANEG_EN l) && (m = 0 || m = 1 || m = 3 || m = 5)) ||
    (s.isSet (CL_CFG_TRAIN_EN l) && (m = 3 || m = 5))

/-- CDR_LOCK: Clock recovery ends; training follows where it applies (Table 09-2). The CDR of a lane in Up locks again after a
loss in receive LPI (R246). -/
def execCdrLock (l : Lane) (s : State) : Out :=
  .next (if s.stage l.val = 2 then
      setStage l.val (if s.trains l.val then 3 else 4) (s.putB (CL_STATUS_CDR l.val) true)
    else if s.stage l.val = 6 then s.putB (CL_STATUS_CDR l.val) true
    else s)

/-- TRAINING_COMPLETE: Word lock follows (Table 09-2). -/
def execTrainingComplete (l : Lane) (s : State) : Out :=
  .next (if s.stage l.val = 3 then setStage l.val 4 s else s)

/-- POLARITY_TRY: 100 µs without lock: the receiver tries the other polarity (R233). -/
def execPolarityTry (l : Lane) (s : State) : Out :=
  .next (if s.stage l.val = 4 ∧ s.isSet (CL_CFG_POL_AUTO l.val) then
      s.modLane l.val (fun x => { x with tryInv := !x.tryInv })
    else s)

/-- Whether a lane passes the Alignment stage: RS-FEC, or a quad port (Table 09-2). -/
def State.aligns (s : State) (l : Nat) : Bool :=
  s.quad100 l || ((s.laneMode l = 4 || s.laneMode l = 5) && s.get (CL_CFG_FEC l) = 2)

/-- WORD_LOCK: the polarity that locked is kept; Alignment or Up follows (R232, R233). -/
def execWordLock (l : Lane) (s : State) : Out :=
  if s.stage l.val = 4 then
    let inv := if s.isSet (CL_CFG_POL_AUTO l.val) then (s.lane l.val).tryInv else s.isSet (CL_CFG_RX_POL l.val)
    .next (setStage l.val (if s.aligns l.val then 5 else 6) (s.putB (CL_STATUS_RX_INV l.val) inv))
  else .next s

/-- The lane returns to Wait signal and shows the cause (R232, R235). -/
def laneBack (l cause : Nat) (s : State) : State := setStage l 1 (s.put (CL_STATUS_CAUSE l) cause)

/-- A lane map names each logical lane once (R234). -/
def mapGood (m : Nat) : Bool :=
  [0, 1, 2, 3].all (fun k => m % 4 = k || m / 4 % 4 = k || m / 16 % 4 = k || m / 64 % 4 = k)

/-- ALIGNMENT_LOCK: a single lane goes Up; the four lanes of a quad port go Up together, unless their skew is above
180 ns (R234). -/
def execAlignmentLock (l : Lane) (map : BitVec 8) (skew : Nat) (s : State) : Out :=
  let q := l.val / 4
  if s.quad100 l.val then
    if (s.laneGroup l.val).all (fun k => s.stage k = 5) && mapGood map.toNat then
      let s := s.put (CL_QUAD_STATUS_SKEW q) (min skew 65535)
      if 180 < skew then .next (s.each (s.laneGroup l.val) (fun k s => laneBack k 4 s))
      else
        let s := s.put (CL_QUAD_STATUS_RX_MAP q) map.toNat
        let s := (s.putB (CL_QUAD_STATUS_REVERSED q) (map = 0x1B)).putB (CL_QUAD_STATUS_ALIGNED q) true
        .next (s.each (s.laneGroup l.val) (setStage · 6))
    else .next s
  else .next (if s.stage l.val = 5 then setStage l.val 6 s else s)

/-- STAGE_TIMEOUT: a stage past its limit returns the lane to Wait signal; training has three attempts (Table 09-2). -/
def execStageTimeout (l : Lane) (s : State) : Out :=
  match s.stage l.val with
  | 2 => .next (laneBack l.val 8 s)
  | 3 =>
    if (s.lane l.val).attempts < 2 then .next (s.modLane l.val (fun x => { x with attempts := x.attempts + 1 }))
    else .next (laneBack l.val 5 s)
  | 4 => .next (laneBack l.val 8 s)
  | 5 => .next (laneBack l.val 8 s)
  | _ => .next s

/-- A strike is added to a lane; a third standing strike retires it (R236). -/
def laneStrike (l : Nat) (s : State) : State :=
  let n := s.get (CL_STATUS_STRIKES l)
  let s := clFlag l 1 s
  if 2 ≤ n then clFlag l 2 ((setStage l 7 (s.put (CL_STATUS_CAUSE l) 7)).modLane l (fun x => { x with retired := true }))
  else s.put (CL_STATUS_STRIKES l) (n + 1)

/-- CAUSE of a loss (Table 09-6). -/
def lossCause : LaneLoss → Nat
  | .cdr => 2
  | .wordLock => 3
  | .alignment => 4
  | .highErrors => 6

/-- A loss of lock that the LPI state machine of a lane in receive LPI expects: any but a high error ratio (R246). -/
def lossExpected (s : State) (l : Nat) (why : LaneLoss) : Bool := s.isSet (CL_STATUS_LPI_RX l) && why ≠ .highErrors

/-- LANE_DOWN: signal detect shows; a lane in Up returns to Wait signal, its 100 Gb/s port with it, and the loss adds a strike while
signal detect holds. A loss that the LPI state machine expects leaves the lane in Up without a strike (R235, R236, R246). -/
def execLaneDown (l : Lane) (why : LaneLoss) (sig : Bool) (s : State) : Out :=
  let s := s.putB (CL_STATUS_SIG l.val) sig
  if s.stage l.val ≠ 6 then .next s
  else if !sig then .next (laneBack l.val 1 s)
  else if lossExpected s l.val why then .next (s.when (why = .cdr) (fun s => s.putB (CL_STATUS_CDR l.val) false))
  else .next (laneStrike l.val (laneBack l.val (lossCause why) s))

/-- LANE_STRIKE_EXPIRY: a strike falls away (R236). -/
def execLaneStrikeExpiry (l : Lane) (s : State) : Out :=
  .next (s.put (CL_STATUS_STRIKES l.val) (s.get (CL_STATUS_STRIKES l.val) - 1))

/-- A restore clears the strikes and returns a retired lane to service: to Wait signal, or to CBR or Test where it runs so
(R236). -/
def restoreLane (l : Nat) (s : State) : State :=
  let s := (s.put (CL_STATUS_STRIKES l) 0).modLane l (fun x => { x with retired := false })
  if s.stage l = 7 then setStage l (s.firstStage l) s else s

/-- LANE_RESTORE (R236). -/
def execLaneRestore (a : Agent) (l : Lane) (s : State) : Out :=
  .next (s.byAgent [.tenant, .host] a (restoreLane l.val))

/-! ### Patterns (R243, R244) -/

/-- A write of GEN_EN and CHK_EN: the lane enters or leaves Test; 1 to CHK_EN clears both counters (R243, Table 09-8). -/
def writePrbs (l : Nat) (gen chk : Bool) (s : State) : State :=
  let s := (s.putB (CL_PRBS_GEN_EN l) gen).putB (CL_PRBS_CHK_EN l) chk
  let s := if chk then
      ((s.when (s.isSet (CL_STATUS_CHK_LOCK l)) (countBits l true)).setCount (CL_PRBS_CNT l 0) 0).setCount (CL_PRBS_CNT l 1) 0
    else unlockChecker l s
  if (s.lane l).retired then s
  else if gen || chk then setStage l 8 s
  else if s.stage l = 8 then setStage l (s.startStage l) s
  else s

/-- PRBS_ENABLE (R243). -/
def execPrbsEnable (a : Agent) (l : Lane) (gen chk : Bool) (s : State) : Out :=
  .next (s.byAgent [.tenant, .host] a (writePrbs l.val gen chk))

/-- The locked checker has found so many errors since it was last heard of (R243, Table 09-7). -/
def countErrors (l errs : Nat) (s : State) : State :=
  if errs = 0 then s else clFlag l 5 (s.bump (CL_PRBS_CNT l 1) errs)

/-- CHECKER_LOCK: the checker locks; or, locked, it has counted errors, and more than 32 of them within 1,024 bits lose its
lock (R243). -/
def execCheckerLock (l : Lane) (r : CheckerReport) (s : State) : Out :=
  if s.stage l.val = 8 ∧ s.isSet (CL_PRBS_CHK_EN l.val) then
    if s.isSet (CL_STATUS_CHK_LOCK l.val) then
      let s := countErrors l.val r.errs s
      .next (if !r.lock && decide (32 < r.errs) then unlockChecker l.val s else s)
    else .next (if r.lock then countBits l.val true (s.putB (CL_STATUS_CHK_LOCK l.val) true) else s)
  else .next s

/-- A write of INJ_ONE inverts one bit sent in Test or in Up; elsewhere the bit waits. One written in the cycle of the
hardware clear inverts a second (R244, R4). -/
def injectOne (l : Nat) (again : Bool) (s : State) : State :=
  if s.injects l then
    (s.putB (CL_PRBS_INJ_ONE l) false).modLane l (fun x => { x with injected := x.injected + 1 + again.toNat })
  else s.putB (CL_PRBS_INJ_ONE l) true

/-- INJ_ONE (R244). -/
def execInjOne (l : Lane) (again : Bool) (s : State) : Out := .next (injectOne l.val again s)

/-! ### Sleep (R245, R246) -/

/-- LPI_TX_WAKE: the transmit direction leaves LPI and holds the frame for TW_TX (R245). -/
def execLpiTxWake (p : Port) (s : State) : Out :=
  if s.isSet (CL_STATUS_LPI_TX p.val) then
    let s := s.each (s.laneGroup p.val) (fun l s => clFlag l 4 (s.putB (CL_STATUS_LPI_TX l) false))
    .next (s.modPort p.val (fun x => { x with wakeHold := true }))
  else .next s

/-- WAKE_HOLD_EXPIRY: TW_TX has passed; the held frame goes (R245). -/
def execWakeHoldExpiry (p : Port) (s : State) : Out := .next (s.modPort p.val (fun x => { x with wakeHold := false }))

/-- LPI_RX_CHANGE: the receive direction follows the partner's LPI (R246). -/
def execLpiRxChange (l : Lane) (low : Bool) (s : State) : Out :=
  if s.stage l.val = 6 && s.eeeMode l.val && s.isSet (CL_STATUS_LPI_RX l.val) ≠ low then
    let first := (s.laneGroup l.val).all (fun k => !s.isSet (CL_STATUS_LPI_RX k))
    let s := clFlag l.val 4 (s.putB (CL_STATUS_LPI_RX l.val) low)
    .next (if low && first then s.bump (CM_CNT (s.portOfLane l.val) 13) else s)
  else .next s

/-! ### Pause (R249) -/

/-- A pause of so many quanta, in TIME cycles: 512 bit times at the port's rate each. -/
def State.quantaNs (s : State) (p quanta : Nat) : Nat := quanta * 512 / s.portRate p

/-- PAUSE_EXPIRY: the port's pause ends, or else the class pause that ends first (R249). -/
def execPauseExpiry (p : Port) (s : State) : Out :=
  let x := s.port p.val
  match x.pauseUntil, x.classPause with
  | some _, _ => .next (s.modPort p.val (fun x => { x with pauseUntil := none }))
  | none, c :: cs =>
    let first := cs.foldl (fun b y => if y.2 < b.2 then y else b) c
    .next (s.modPort p.val (fun x => { x with classPause := x.classPause.erase first }))
  | none, [] => .next s

/-! ### MAC merge verification (R252) -/

/-- MM_VERIFY: an attempt ends: answered it succeeds, the third unanswered one fails (R252). -/
def execMmVerify (p : Port) (answered : Bool) (s : State) : Out :=
  if s.get (CM_MM_MM_STATE p.val) = 1 ∧ s.portUp p.val then
    if answered then .next (s.put (CM_MM_MM_STATE p.val) 2)
    else if (s.port p.val).verifyTries < 2 then .next (s.modPort p.val (fun x => { x with verifyTries := x.verifyTries + 1 }))
    else .next (cmFlag p.val 5 (s.put (CM_MM_MM_STATE p.val) 3))
  else .next s

/-! ### Tie links (R238 to R242) -/

/-- The link goes down: flagged, its check words stop. -/
def tieDown (e : Engine) (s : State) : State :=
  if s.isSet (PX_TIE_STATUS_UP e.n) then
    tieFlag e 4 (((s.putB (PX_TIE_STATUS_UP e.n) false).putB (PX_TIE_STATUS_CHK_HUB e.n) false).putB
      (PX_TIE_STATUS_CHK_LINE e.n) false)
  else s

/-- Neither direction carries a check word: S0 stands in somewhere (R241). -/
def State.noCheck (s : State) (e : Engine) : Bool :=
  s.isSet (PX_TIE_HUB_S0_USED e.n 0) || s.isSet (PX_TIE_HUB_S0_USED e.n 1)

/-- A data lane is retired: the receiver names it in REPAIR, and its data moves to S1, or to S0 once S1 is in use; with neither
left the link goes down (R240, R241). -/
def retireTieLane (e : Engine) (toLine : Bool) (i : Nat) (s : State) : State :=
  let d := toLine.toNat
  let s := (s.putB ((PX_TIE_HUB_RETIRED e.n d).bit i) true).modTie e toLine (fun x => { x with repair := some i })
  if !s.isSet (PX_TIE_HUB_S1_USED e.n d) then
    tieFlag e 2 ((s.putB (PX_TIE_HUB_S1_USED e.n d) true).modTie e toLine (fun x => { x with onS1 := some i }))
  else if !s.isSet (PX_TIE_HUB_S0_USED e.n d) then
    let s := s.modTie e toLine (fun x => { x with onS0 := some i })
    let s := tieFlag e 3 (tieFlag e 2 (s.putB (PX_TIE_HUB_S0_USED e.n d) true))
    (s.putB (PX_TIE_STATUS_CHK_HUB e.n) false).putB (PX_TIE_STATUS_CHK_LINE e.n) false
  else tieDown e s

/-- A strike is added to a data lane, or to the spare that stands in for it; a third standing strike retires it (R240). -/
def tieStrike (e : Engine) (toLine : Bool) (i : Nat) (s : State) : State :=
  let n := sget (fun _ => 0) (s.tieDir e toLine).strikes i
  let set (v : Nat) (s : State) : State :=
    s.modTie e toLine (fun x => { x with strikes := sset (fun _ => 0) x.strikes i v })
  let s := tieFlag e 1 s
  if 2 ≤ n then retireTieLane e toLine i (set 0 s) else set (n + 1) s

/-- The flits that a transmitter keeps once a flit is on its way: one that it sends again is kept already (R239). -/
def TieDir.keeps (x : TieDir) (f : Flit) : List (Nat × List Byte) :=
  if x.nak && x.kept.any (fun k => k.1 = f.seq) then x.kept
  else
    let ks := x.kept.filter (fun k => k.1 ≠ f.seq) ++ [(f.seq, f.data)]
    ks.drop (ks.length - 256)

/-- The flits that a transmitter sends again: from the one after ACK on (R239). -/
def TieDir.again (x : TieDir) (want : Nat) : List (Nat × List Byte) := x.kept.dropWhile (fun k => k.1 ≠ want)

/-- A flit is delivered, in order; a new lane map is in use from it on (R239, R240). -/
def takeFlit (e : Engine) (toLine : Bool) (want : Nat) (f : Flit) (s : State) : State :=
  s.modTie e toLine (fun x => { x with
    next := some ((want + 1) % 256), nak := false, fails := 0, got := f.data, repair := none })

/-- The receiver asks for a replay from a flit on. -/
def nakFlit (e : Engine) (toLine : Bool) (want : Nat) (s : State) : State :=
  s.modTie e toLine (fun x => { x with next := some want, nak := true })

/-- A bad flit: counted, with a strike for each data lane whose LPAR bit fails (R240). -/
def badFlit (e : Engine) (toLine : Bool) (f : Flit) (s : State) : State :=
  let s := tieFlag e 0 (s.bump (PX_FLIT e.n 0))
  s.each (List.range 20) (fun i s => if f.badLanes.getLsbD i then tieStrike e toLine i s else s)

/-- FLIT_RECEIVE: a flit is delivered in order, or discarded with a NAK until its replay arrives; a third failure of one
flit takes the link down. Without check words every flit is delivered (R239 to R241). -/
def execFlitReceive (e : Engine) (toLine : Bool) (f : Flit) (s : State) : Out :=
  if !s.isSet (PX_TIE_STATUS_UP e.n) then .next s
  else
    let x := s.tieDir e toLine
    let want := x.next.getD f.seq
    let s := s.modTie e toLine (fun x => { x with kept := x.keeps f })
    let fresh := decide ((f.seq + 256 - want) % 256 < 128)
    if s.noCheck e then .next (takeFlit e toLine want f s)
    else if f.badLanes = 0 && f.fcrcOk then
      if f.seq = want then
        .next (takeFlit e toLine want f (if x.nak then s.bump (PX_FLIT e.n 1) (x.again want).length else s))
      else .next (if !x.nak && fresh then nakFlit e toLine want s else s)
    else
      let s := badFlit e toLine f s
      if x.nak && f.seq ≠ want then .next s
      else
        let s := (nakFlit e toLine want s).modTie e toLine (fun x => { x with fails := x.fails + 1 })
        .next (if 2 ≤ x.fails then tieDown e s else s)

/-- TIE_LANE_LOCK_LOSS: a data lane's loss of lock adds a strike, and takes down a link without check words; a loss of the
forwarded clock takes the link down (R240, R241). -/
def execTieLaneLockLoss (e : Engine) (toLine : Bool) (lane : Option (Fin 20)) (s : State) : Out :=
  match lane with
  | none => .next (tieDown e s)
  | some i =>
    if !s.isSet (PX_TIE_STATUS_UP e.n) then .next s
    else if s.noCheck e then .next (tieDown e (tieStrike e toLine i.val s))
    else .next (tieStrike e toLine i.val s)

/-- TIE_STRIKE_EXPIRY: a strike falls away (R240). -/
def execTieStrikeExpiry (e : Engine) (toLine : Bool) (i : Fin 20) (s : State) : Out :=
  .next (s.modTie e toLine (fun x => { x with
    strikes := sset (fun _ => 0) x.strikes i.val (sget (fun _ => 0) x.strikes i.val - 1) }))

/-- Lanes of a direction that need a spare. -/
def needSpare (retired : Nat) (fail : BitVec 20) : List Nat :=
  (List.range 20).filter (fun i => retired / 2 ^ i % 2 = 1 || fail.getLsbD i)

/-- A direction of a link after a training: nothing kept, and the first two lanes that need a spare on S1 and S0 (R238). -/
def TieDir.trained (x : TieDir) (spare : List Nat) : TieDir :=
  { strikes := x.strikes, onS1 := spare[0]?, onS0 := spare[1]? }

/-- TIE_LINK_TRAIN: a training ends: spares are assigned, the latencies shown, and the link comes up when at most two lanes
of each direction need a spare (R238). -/
def execTieLinkTrain (e : Engine) (failHub failLine : BitVec 20) (latHub latLine : Nat) (s : State) : Out :=
  let needA := needSpare (s.get (PX_TIE_HUB_RETIRED e.n 0)) failHub
  let needB := needSpare (s.get (PX_TIE_HUB_RETIRED e.n 1)) failLine
  let a := needA.length
  let b := needB.length
  let s := s.satInc (PX_TIE_STATUS_TRAINS e.n) 255
  let s := s.putB ((PX_TIE_CFG_RETRAIN_A).bit e.n) false
  let s := (s.put (PX_TIE_LAT_LAT_HUB e.n) latHub).put (PX_TIE_LAT_LAT_LINE e.n) latLine
  let s := (s.putB (PX_TIE_HUB_S1_USED e.n 0) (1 ≤ a)).putB (PX_TIE_HUB_S0_USED e.n 0) (2 ≤ a)
  let s := (s.putB (PX_TIE_HUB_S1_USED e.n 1) (1 ≤ b)).putB (PX_TIE_HUB_S0_USED e.n 1) (2 ≤ b)
  let s := (s.modTie e false (·.trained needA)).modTie e true (·.trained needB)
  if a ≤ 2 ∧ b ≤ 2 then
    let chk := decide (a ≤ 1) && decide (b ≤ 1)
    let s := ((s.putB (PX_TIE_STATUS_UP e.n) true).putB (PX_TIE_STATUS_CHK_HUB e.n) chk).putB
      (PX_TIE_STATUS_CHK_LINE e.n) chk
    .next (tieFlag e 5 (if chk then s else tieFlag e 3 s))
  else .next (tieDown e s)

/-- TIE_RETRAIN: a write of RETRAIN starts a training (R238). -/
def execTieRetrain (a : Agent) (e : Engine) (s : State) : Out := .next (s.byAgent [.carrier] a (tieDown e))

/-- A restore returns every lane of the link to service and starts a training (R242). -/
def tieRestore (e : Engine) (s : State) : State :=
  let s := (s.put (PX_TIE_HUB_RETIRED e.n 0) 0).put (PX_TIE_HUB_RETIRED e.n 1) 0
  let clear (x : TieDir) : TieDir := { x with strikes := [] }
  tieDown e ((s.modTie e false clear).modTie e true clear)

/-- TIE_RESTORE (R242). -/
def execTieRestore (a : Agent) (e : Engine) (s : State) : Out := .next (s.byAgent [.carrier] a (tieRestore e))

end Sys2Proof.Machine
end

