-- ==== Sys2Proof/Machine/Tiles.lean ====
section
/-! DEFINITION. Tiles, bags and hands: allocation, sharing, freeing, recount and quarantine (12_buffer_bags.md). -/
namespace Sys2Proof.Machine

/-! ### Records -/

/-- The record of a tile: one never allocated since INIT is free at GEN 0 and counts as a head (R313, R315). -/
def State.tile (s : State) (t : Nat) : TileRec :=
  match sget (fun _ => none) s.bm.tiles t with
  | some r => r
  | none => ⟨0, 0, 0, 0, true, none⟩

/-- Replace the record of a tile. -/
def setTile (t : Nat) (r : TileRec) (s : State) : State :=
  let v : Option TileRec := if r = ⟨0, 0, 0, 0, true, none⟩ then none else some r
  { s with bm := { s.bm with tiles := sset (fun _ => none) s.bm.tiles t v } }

/-- The free handles of a bag. -/
def State.bagX (s : State) (b : Nat) : BagX := sget bagReset s.bm.bags b

/-- Replace the free handles of a bag. -/
def setBagX (b : Nat) (x : BagX) (s : State) : State :=
  { s with bm := { s.bm with bags := sset bagReset s.bm.bags b x } }

/-- The first tile of a bag, and the number of its tiles, as the last INIT laid them out (R315). -/
def State.bagRange (s : State) (b : Nat) : Nat × Nat :=
  (((List.range b).map (sget sizeReset s.bm.sizes)).foldl (· + ·) 0, sget sizeReset s.bm.sizes b)

/-- The bag of a tile. -/
def State.bagOf (s : State) (t : Nat) : Nat :=
  ((List.range 64).find? (fun b => decide ((s.bagRange b).1 ≤ t) && decide (t < (s.bagRange b).1 + (s.bagRange b).2))).getD 0

/-- The tiles of a ring. -/
def ringLen (r : List (Nat × Nat)) : Nat := (r.map (·.2)).foldl (· + ·) 0

/-- The free tiles of a bag, in hand and ring (R317). -/
def State.bagFree (s : State) (b : Nat) : Nat := (s.bagX b).hand.length + ringLen (s.bagX b).ring

/-- Take up to `n` tiles from the front of a ring. -/
def ringTake : List (Nat × Nat) → Nat → List Nat × List (Nat × Nat)
  | [], _ => ([], [])
  | (t, k) :: r, n =>
    if n < k then ((List.range n).map (t + ·), (t + n, k - n) :: r)
    else
      let (ts, r') := ringTake r (n - k)
      ((List.range k).map (t + ·) ++ ts, r')

/-- Put one tile at the back of a ring. -/
def ringPut (t : Nat) : List (Nat × Nat) → List (Nat × Nat)
  | [] => [(t, 1)]
  | [(a, k)] => if a + k = t then [(a, k + 1)] else [(a, k), (t, 1)]
  | x :: y :: r => x :: ringPut t (y :: r)

/-- A hand of 16 or fewer takes up to 16 from the ring; one of 48 or more gives 16 back (R317). -/
def handBalance (x : BagX) : BagX :=
  if x.hand.length ≤ 16 then
    let (ts, r) := ringTake x.ring 16
    ⟨x.hand ++ ts, r⟩
  else if 48 ≤ x.hand.length then
    ⟨x.hand.take (x.hand.length - 16), (x.hand.drop (x.hand.length - 16)).foldl (fun r t => ringPut t r) x.ring⟩
  else x

/-- `BM.BAGb` follows the bag's free tiles: FREE, LOW, and XOFF_ST at the thresholds of R325. -/
def showBag (b : Nat) (s : State) : State :=
  let n := s.bagFree b
  let s := (s.put (BM_BAG_FREE_FREE b) n).put (BM_BAG_LOW_LOW b) (min n (s.get (BM_BAG_LOW_LOW b)))
  let was := s.isSet (BM_BAG_FREE_XOFF_ST b)
  let now := if was then decide (n < s.get (BM_BAG_XON_XON b) * 16) else decide (n < s.get (BM_BAG_XON_XOFF b) * 16)
  if was = now then s else bmFlag 12 (s.putB (BM_BAG_FREE_XOFF_ST b) now)

/-- A write of XON and XOFF of a bag: one that would leave XON not above XOFF leaves both unchanged (R325). -/
def writeXon (b xon xoff : Nat) (s : State) : State :=
  if xon ≤ xoff then s else showBag b ((s.put (BM_BAG_XON_XON b) xon).put (BM_BAG_XON_XOFF b) xoff)

/-- HAND_REFILL (R317). -/
def execHandRefill (b : Bag) (s : State) : Out := .next (setBagX b.val (handBalance (s.bagX b.val)) s)

/-! ### Allocation (R313, R318, R320) -/

/-- A handle of a tile at a generation (Table 12-2). -/
def handleOf (t gen : Nat) : Nat := 2 ^ 31 + gen * 2 ^ 19 + t

/-- TILE of a handle. -/
def handleTile (h : Nat) : Nat := h % 2 ^ 19

/-- GEN of a handle. -/
def handleGen (h : Nat) : Nat := h / 2 ^ 19 % 16

/-- Whether bag `b` serves allocations now (R328, R329). -/
def State.bagServes (s : State) (b : Nat) : Bool := s.isSet BM_STATUS_READY && s.bm.recount ≠ some b

/-- Take one free tile of a bag for an owner class; a hand that is short is refilled first. -/
def takeTile (b owner : Nat) (s : State) : Option Nat × State :=
  let x := if (s.bagX b).hand = [] then handBalance (s.bagX b) else s.bagX b
  match x.hand with
  | t :: hs =>
    if s.bagServes b then
      let gen := ((s.tile t).gen + 1) % 16
      let s := setTile t ⟨1, gen, owner, 1, true, none⟩ (setBagX b (handBalance ⟨hs, x.ring⟩) s)
      (some (handleOf t gen), showBag b (s.bump (BM_CNT 0)))
    else (none, bmFlag 1 (s.bump (BM_NO_TILE b)))
  | [] => (none, bmFlag 1 (s.bump (BM_NO_TILE b)))

/-- The tile that the next allocation from a bag takes: the front of its hand, refilled first when it is empty (R317). -/
def State.nextTile (s : State) (b : Nat) : Option Nat :=
  (if (s.bagX b).hand = [] then handBalance (s.bagX b) else s.bagX b).hand.head?

/-- A ring without one tile. -/
def ringDrop (t : Nat) (r : List (Nat × Nat)) : List (Nat × Nat) :=
  (r.map (fun x => if x.1 ≤ t ∧ t < x.1 + x.2 then [(x.1, t - x.1), (t + 1, x.1 + x.2 - t - 1)].filter (fun y => y.2 ≠ 0) else [x])).flatten

/-- A free tile leaves its bag's hand and ring and becomes quarantined: it is tested (R314, R326). -/
def quarantineFree (t : Nat) (s : State) : State :=
  let b := s.bagOf t
  let x := s.bagX b
  let s := setTile t { s.tile t with state := 2, count := 0, next := none } (s.bump (BM_CNT 7))
  showBag b (setBagX b ⟨x.hand.filter (fun u => u ≠ t), ringDrop t x.ring⟩ s)

/-- An allocation by tenant firmware whose tile record reads so: with one bad copy it is repaired and flagged; with both bad
the tile is quarantined and the next one is taken (R314, R318). -/
def allocRead (r : RecordRead) (s : State) : State :=
  let b := s.get BM_ALLOC_BAG_ALLOC_BAG
  let s := match r, s.bagServes b, s.nextTile b with
    | .oneBad, true, some _ => bmFlag 6 s
    | .bothBad, true, some t => quarantineFree t s
    | _, _, _ => s
  let (h, s) := takeTile b 2 s
  s.answer .tenant (BitVec.ofNat 32 (h.getD 0))

/-- BM_ALLOC: a read of `BM.ALLOC` by tenant firmware (R318, Table 12-9). -/
def execBmAlloc (a : Agent) (r : RecordRead) (s : State) : Out := .next (s.byReader [.tenant] a (allocRead r))

/-! ### Sharing and freeing (R321, R322) -/

/-- The tiles of a chain from a tile on; `fuel` bounds its length. -/
def State.chain (s : State) : Nat → Nat → List Nat
  | 0, _ => []
  | n + 1, t => t :: (match (s.tile t).next with | some u => State.chain s n u | none => [])

/-- One tile of a freed chain returns to its bag's hand; during the bag's recount the scan puts it in the ring (R322,
R328). -/
def returnTile (t : Nat) (s : State) : State :=
  let b := s.bagOf t
  let s := setTile t { s.tile t with state := 0, count := 0, next := none } s
  if s.bm.recount = some b then s
  else
    let x := s.bagX b
    showBag b (setBagX b (handBalance ⟨x.hand ++ [t], x.ring⟩) s)

/-- A rejected free: counted, flagged and recorded; kind 1 stale, 2 double, 3 wrong owner (R322, Table 12-10). -/
def rejectFree (h cls requester kind : Nat) (s : State) : State :=
  let s := bmFlag (1 + kind) (s.bump (BM_CNT (1 + kind)))
  (s.setReg BM_LAST_REJECT (BitVec.ofNat 32 h)).setReg (BM_LAST_REJECT + 4)
    (BitVec.ofNat 32 (requester * 2 ^ 8 + cls * 2 ^ 4 + kind))

/-- A FREE judged in the order of Table 12-4. Answers whether the chain went back. -/
def freeHandle (h cls requester : Nat) (s : State) : State :=
  let t := handleTile h
  let r := s.tile t
  if 387071 < t ∨ r.gen ≠ handleGen h ∨ r.head = false then rejectFree h cls requester 1 s
  else if r.count = 0 then rejectFree h cls requester 2 s
  else if r.owner ≠ cls then rejectFree h cls requester 3 s
  else
    let s := s.bump (BM_CNT 1)
    if 1 < r.count then setTile t { r with count := r.count - 1 } s
    else s.each (s.chain 49 t) returnTile

/-- A SHARE adds a holder, unless COUNT is at 255 or no frame is held there (R321). Answers whether it did. -/
def shareHandle (h : Nat) (s : State) : Bool × State :=
  let t := handleTile h
  let r := s.tile t
  if 387071 < t ∨ r.gen ≠ handleGen h ∨ r.head = false ∨ r.count = 0 then (false, s)
  else if r.count = 255 then (false, bmFlag 5 (s.bump (BM_CNT 5)))
  else (true, setTile t { r with count := r.count + 1 } s)

/-- BM_SHARE (R321). -/
def execBmShare (a : Agent) (handle : Word) (s : State) : Out :=
  .next (s.byAgent [.tenant] a (fun s => (shareHandle handle.toNat s).2))

/-- Link the tiles of a frame into a chain whose first tile is the head (R312). -/
def linkChain : List Nat → State → State
  | [], s => s
  | [_], s => s
  | a :: b :: rest, s =>
    let s := setTile (handleTile a) { s.tile (handleTile a) with next := some (handleTile b) } s
    linkChain (b :: rest) (setTile (handleTile b) { s.tile (handleTile b) with head := false } s)

/-- Take `n` tiles of a bag for one frame; when one cannot be had, those taken go back and the frame has none (R318,
R319). -/
def takeTiles (b owner : Nat) : Nat → List Nat → State → Option Nat × State
  | 0, hs, s => (hs.reverse.head?, linkChain hs.reverse s)
  | n + 1, hs, s =>
    match takeTile b owner s with
    | (some h, s) => takeTiles b owner n (h :: hs) s
    | (none, s) => (none, s.each hs.reverse (fun h s => returnTile (handleTile h) s))

/-- The tiles that a frame of `n` bytes takes. -/
def tilesFor (n : Nat) : Nat := (n + 255) / 256

/-- Ownership of a frame's tiles moves to a class (Table 12-3). -/
def giveTiles (h cls : Nat) (s : State) : State :=
  setTile (handleTile h) { s.tile (handleTile h) with owner := cls } s

/-! ### INIT (R315, R329) -/

/-- The runs of free tiles of a range, leaving out the tiles with a record that is not free. -/
def State.freeRuns (s : State) (base len : Nat) : List (Nat × Nat) :=
  let busy := s.bm.tiles.filterMap (fun x => match x.2 with
    | some r => if decide (base ≤ x.1) && decide (x.1 < base + len) && r.state ≠ 0 then some x.1 else none
    | none => none)
  let (runs, from_) := busy.foldl (fun (acc : List (Nat × Nat) × Nat) t =>
    (if acc.2 < t then acc.1 ++ [(acc.2, t - acc.2)] else acc.1, t + 1)) ([], base)
  if from_ < base + len then runs ++ [(from_, base + len - from_)] else runs

/-- Lay out every bag: quarantined tiles stay out, all others are free at GEN 0. -/
def layOut (s : State) : State :=
  let sizes := (List.range 64).foldl (fun st b => sset sizeReset st b (s.get (BM_BAG_TILES_TILES b))) ([] : Store Nat)
  let kept := s.bm.tiles.filter (fun x => match x.2 with | some r => r.state = 2 || r.state = 3 | none => false)
  let s := { s with bm := { s.bm with tiles := kept, sizes := sizes, recount := none, waiting := [] } }
  let s := s.each (List.range 64) (fun b s =>
    let r := s.bagRange b
    setBagX b ⟨[], s.freeRuns r.1 r.2⟩ s)
  let s := s.each (List.range 64) (fun b s =>
    if (s.bagRange b).2 = 0 ∧ s.get (BM_BAG_FREE_FREE b) = 0 then s else showBag b s)
  (s.putB BM_STATUS_BUSY false).putB BM_STATUS_READY true

/-- A write of 1 to INIT: refused while a tile is used or when the sizes add up to too much (R315). -/
def bmInit (s : State) : State :=
  let total := ((List.range 64).map (fun b => s.get (BM_BAG_TILES_TILES b))).foldl (· + ·) 0
  let used := s.bm.tiles.any (fun x => match x.2 with | some r => r.state = 1 | none => false)
  if used || decide (387072 < total) then bmFlag 11 s else layOut s

/-- BM_INIT (R315). -/
def execBmInit (a : Agent) (s : State) : Out := .next (s.byAgent [.tenant, .host] a bmInit)

/-! ### Recount and quarantine (R326 to R328) -/

/-- A recount of a bag starts, or waits for the one that runs (R328). -/
def recountBag (b : Nat) (s : State) : State :=
  match s.bm.recount with
  | none => (setBagX b {} { s with bm := { s.bm with recount := some b } }).putB BM_STATUS_BUSY true
  | some _ => { s with bm := { s.bm with waiting := if s.bm.waiting.contains b then s.bm.waiting else s.bm.waiting ++ [b] } }

/-- BM_RECOUNT: a write of 1 to RECOUNT with its bag (R327). -/
def execBmRecount (a : Agent) (b : Bag) (s : State) : Out :=
  .next (s.byAgent [.tenant, .host] a (fun s => recountBag b.val (s.put BM_CTRL_RECOUNT_BAG b.val)))

/-- RECOUNT_DONE: every free tile of the bag is in its ring; a waiting recount starts (R328). -/
def execRecountDone (b : Bag) (s : State) : Out :=
  if s.bm.recount = some b.val then
    let r := s.bagRange b.val
    let s := setBagX b.val ⟨[], s.freeRuns r.1 r.2⟩ { s with bm := { s.bm with recount := none } }
    let s := bmFlag 10 ((showBag b.val s).bump (BM_CNT 8))
    match s.bm.waiting with
    | w :: ws => .next (recountBag w { s with bm := { s.bm with waiting := ws } })
    | [] => .next (s.putB BM_STATUS_BUSY false)
  else .next s

/-- RING_PARITY: an entry of the bag's hand or ring is discarded and the bag recounted (R327). -/
def execRingParity (b : Bag) (s : State) : Out := .next (recountBag b.val (bmFlag 9 s))

/-- A write of 1 to UNHOLD puts every held tile under test again (R326). -/
def bmUnhold (s : State) : State :=
  let held := s.bm.tiles.filterMap (fun x => match x.2 with | some r => if r.state = 3 then some x.1 else none | none => none)
  (s.each held (fun t s => setTile t { s.tile t with state := 2 } s)).put BM_STATUS_HELD 0

/-- BM_UNHOLD (R326). -/
def execBmUnhold (a : Agent) (s : State) : Out := .next (s.byAgent [.tenant, .host] a bmUnhold)

/-- TILE_TEST_DONE: a tile under test returns to its bag's ring, or is held (R326). -/
def execTileTestDone (tile : Nat) (clean : Bool) (s : State) : Out :=
  if (s.tile tile).state = 2 then
    if clean then
      let b := s.bagOf tile
      let s := setTile tile { s.tile tile with state := 0 } s
      if s.bm.recount = some b then .next s
      else .next (showBag b (setBagX b ⟨(s.bagX b).hand, ringPut tile (s.bagX b).ring⟩ s))
    else .next (bmFlag 8 ((setTile tile { s.tile tile with state := 3 } s).satInc BM_STATUS_HELD 4095))
  else .next s

end Sys2Proof.Machine
end

