-- ==== Sys2Proof/Machine/Parse.lean ====
section
/-! DEFINITION. The parser array: dispatch, the parse units and their instructions, results, strikes (10_parsing.md). -/
namespace Sys2Proof.Machine

/-! ### Records -/

/-- The record of a pipe. -/
def State.pipe (s : State) (p : Nat) : PipeX := sget (fun _ => {}) s.pipes p

/-- Change the record of a pipe. -/
def State.modPipe (s : State) (p : Nat) (f : PipeX → PipeX) : State :=
  { s with pipes := sset (fun _ => {}) s.pipes p (f (s.pipe p)) }

/-- What runs on a parse unit. -/
def State.unitRun (s : State) (p u : Nat) : Option ParseRun := sget (fun _ => none) s.units (16 * p + u)

/-- Put a pass on a parse unit, or leave it idle. -/
def setUnit (p u : Nat) (r : Option ParseRun) (s : State) : State :=
  { s with units := sset (fun _ => none) s.units (16 * p + u) r }

/-- A frame of the hub. -/
def State.frame (s : State) (f : Nat) : Option Frame := sget (fun _ => none) s.frames f

/-- Replace a frame of the hub, or remove it. -/
def setFrame (f : Nat) (x : Option Frame) (s : State) : State :=
  { s with frames := sset (fun _ => none) s.frames f x }

/-- Change a frame of the hub. -/
def modFrame (f : Nat) (g : Frame → Frame) (s : State) : State :=
  match s.frame f with
  | some x => setFrame f (some (g x)) s
  | none => s

/-- `PA.QUEUEp` follows the dispatch queue (Table 10-15). -/
def showQueue (p : Nat) (s : State) : State :=
  let n := (s.pipe p).queue.length
  (s.put (PA_QUEUE_DEPTH p) n).put (PA_QUEUE_HWM p) (max n (s.get (PA_QUEUE_HWM p)))

/-- A word of the parser bank of a round parity, by its staging-window address (R279). -/
def State.parseWord (s : State) (parity : Bool) (addr : Nat) : Word :=
  sget (fun _ => 0) s.cx.parse (parity.toNat * 2 ^ 26 + addr)

/-- The staging window of a pipe. -/
def parseBase (p : Nat) : Nat := 0x02010000 + 0x10000 * p

/-- The parity of the current round. -/
def State.curParity (s : State) : Bool := s.isSet CX_STATE_PARITY

/-! ### Table banks: strikes, and words kept twice (R277, R304) -/

/-- The banks of a bank's kind, which share one spare; none for a parser or control bank (R284). -/
def bankKin (b : Nat) : List Nat :=
  if b < 4 then []
  else if b < 20 then (List.range 16).map (4 + ·)
  else if b < 28 then (List.range 8).map (20 + ·)
  else if b < 36 then (List.range 8).map (28 + ·)
  else (List.range 16).map (36 + ·)

/-- The strikes that stand against a bank. -/
def State.bankStrikes (s : State) (b : Nat) : Nat := sget (fun _ => 0) s.cx.strikes b

/-- Set the strikes that stand against a bank; the register shows them. -/
def setBankStrikes (b n : Nat) (s : State) : State :=
  ({ s with cx := { s.cx with strikes := sset (fun _ => 0) s.cx.strikes b n } }).put (CX_BANK_STRIKES b) n

/-- A strike is added to a bank; a third starts its copy into the spare, if there is one free (R304). -/
def bankStrike (b : Nat) (s : State) : State :=
  let n := s.bankStrikes b
  let s := cxFlag 8 s
  if 2 ≤ n then
    if s.cx.retiring.contains b then s
    else if (bankKin b).isEmpty || (bankKin b).any (fun k => s.isSet (CX_BANK_RETIRED k) || s.cx.retiring.contains k) then
      cxFlag 10 s
    else { s with cx := { s.cx with retiring := s.cx.retiring ++ [b] } }
  else setBankStrikes b (n + 1) s

/-- How many copies of a word of the parser or control bank of a round parity are bad (R277). -/
def State.copiesBad (s : State) (parity : Bool) (addr : Nat) : Nat := sget (fun _ => 0) s.cx.badCopy (parity.toNat * 2 ^ 26 + addr)

/-- Bad copies of a word are noted. -/
def setCopies (key n : Nat) (s : State) : State := { s with cx := { s.cx with badCopy := sset (fun _ => 0) s.cx.badCopy key n } }

/-- Words of a bank of a round parity, by window address, are found bad: in one copy, or in both. -/
def noteUpsets (parity : Bool) (us : List (Nat × Bool)) (s : State) : State :=
  s.each us (fun u s => setCopies (parity.toNat * 2 ^ 26 + u.1) (1 + u.2.toNat) s)

/-- Words kept twice are read: whether one of them is bad in both copies, and a strike on their bank for each that is bad in
one (R277). -/
def readTwice (b : Nat) (parity : Bool) (addrs : List Nat) (s : State) : Bool × State :=
  (addrs.any (fun a => s.copiesBad parity a = 2),
   s.each (addrs.filter (fun a => s.copiesBad parity a = 1)) (fun _ s => bankStrike b (paFlag 8 s)))

/-! ### Readiness and dispatch (R256, R257, R261, R262) -/

/-- The pipe of an ingress source (R14). -/
def pipeOf (src : Nat) : Nat := if src < 64 then 0 else if src < 128 then 1 else 2

/-- A pass enters its pipe's dispatch queue and is numbered; a full queue takes none, and shows that it is full (R257, Table
10-12). -/
def enqueuePass (p : Nat) (mk : Nat → Pass) (s : State) : State :=
  let n := (s.pipe p).nextNum
  let s := showQueue p (s.modPipe p (fun x => { x with nextNum := n + 1, queue := x.queue ++ [mk n] }))
  s.when (256 ≤ (s.pipe p).queue.length) (paFlag 10)

/-- Whether a dispatch queue can take a pass. -/
def State.queueOpen (s : State) (p : Nat) : Bool := decide ((s.pipe p).queue.length < 256)

/-- The scope end of a whole frame, counted from the window start (R256). -/
def scopeEndOf (bytes : List Byte) (wstart : Nat) : Nat := bytes.length - 4 - wstart

/-- A first pass of a frame whose end has come: its frame scope is open no longer (R256). -/
def Pass.close (f e : Nat) (x : Pass) : Pass :=
  if x.frame = f && !x.second && x.scopeEnd.isNone then { x with scopeEnd := some e } else x

/-- The end of a frame is known to its pass, wherever that stands (R256). -/
def closeScope (p f e : Nat) (s : State) : State :=
  let s := s.modPipe p (fun y => { y with queue := y.queue.map (Pass.close f e), reruns := y.reruns.map (Pass.close f e) })
  s.each (List.range 16) (fun u s => match s.unitRun p u with
    | some r => if r.pass.frame = f then setUnit p u (some { r with pass := r.pass.close f e }) s else s
    | none => s)

/-- A first pass of a frame is ready; the frame carries the current round (R256, R278). -/
def firstPass (f src : Nat) (bytes : List Byte) (whole : Bool) (s : State) : State :=
  let s := modFrame f (fun x => { x with parity := s.curParity }) s
  enqueuePass (pipeOf src) (fun n => ⟨n, f, false, src, s.curParity, 0, bytes.take 256,
    if whole then some (scopeEndOf bytes 0) else none, none, false⟩) s

/-- Entering a square: depth, validity, layer slot, next square, entry point (R262). The error is a status and cause. -/
def enterSquare (s : State) (p sq : Nat) (r : ParseRun) : ParseRun × Option (Nat × Nat) :=
  let w0 := s.parseWord r.pass.parity (parseBase p + 0x2000 + 8 * sq)
  let w1 := s.parseWord r.pass.parity (parseBase p + 0x2000 + 8 * sq + 4)
  if 16 ≤ r.depth then (r, some (2, 1))
  else if w0.field 31 31 = 0 then (r, some (1, 5))
  else
    ({ r with
        depth := r.depth + 1, sq := sq, pc := w0.field 20 10
        layers := if w1.field 22 22 = 1 then sset (fun _ => none) r.layers (w1.field 21 19) (some r.cursor) else r.layers
        nsq := if w1.field 23 23 = 1 then none else some (w1.field 31 24) }, none)

/-- The counter of Table 10-10 and the flag bit of a status. -/
def statusCount : Nat → Option (Nat × Nat)
  | 1 => some (6, 3)
  | 2 => some (2, 0)
  | 3 => some (4, 2)
  | 4 => some (3, 1)
  | 5 => some (7, 11)
  | _ => none

/-- A status other than DONE is counted and flagged. -/
def countStatus (p st : Nat) (s : State) : State :=
  match statusCount st with
  | some (k, b) => paFlag b (s.bump (PA_CNT p k))
  | none => s

/-- The result of a pass that has ended; a pass that noted a read or a length while its frame scope was open is judged at the frame's
end (R271, R274). -/
def resultOf (r : ParseRun) (st cause : Nat) : ParseResult :=
  { num := r.pass.num, frame := r.pass.frame, second := r.pass.second, source := r.pass.source, parity := r.pass.parity,
    wstart := r.pass.wstart, status := st, cause := cause, lastSq := r.sq, depth := r.depth, steps := r.steps,
    layers := r.layers, uflags := r.uflags, trunc := r.trunc,
    opened := r.pass.scopeEnd = none || decide (0 < r.high) || r.deferred.isSome,
    high := r.high, deferred := r.deferred.map (fun d => (min d.1 16383, d.2)), fields := r.fields }

/-- A pass ends: counted, and its result waits for release (R259, R273, R283). -/
def endPass (p : Nat) (r : ParseRun) (st cause : Nat) (s : State) : State :=
  let s := s.bump (PA_CNT p 0)
  let s := s.bump (PA_CNT p 1) r.steps
  let s := if r.trunc then s.bump (PA_CNT p 5) else s
  (countStatus p st s).modPipe p (fun x => { x with results := x.results ++ [resultOf r st cause] })

/-- The start square of a pass, if its start entry is valid (R261). -/
def startSquare (s : State) (p : Nat) (x : Pass) : Option Nat :=
  match x.square with
  | some q => some q
  | none =>
    let w := s.parseWord x.parity (parseBase p + 0x6000 + 4 * (if x.second then 129 else x.source))
    if w.field 31 31 = 1 then some (w.field 7 0) else none

/-- The units in service of a pipe. -/
def State.inService (s : State) (p u : Nat) : Bool := s.isSet ((PA_UNITS_IN_SERVICE p).bit u)

/-- The first idle unit in service after the one chosen last, in round-robin order (R257). -/
def State.idleUnit (s : State) (p : Nat) : Option Nat :=
  let last := (s.pipe p).lastUnit
  ((List.range 16).map (fun i => (last + 1 + i) % 16)).find? (fun u => s.inService p u && (s.unitRun p u).isNone)

/-- The two words of a square. -/
def squareWords (p q : Nat) : List Nat := [parseBase p + 0x2000 + 8 * q, parseBase p + 0x2000 + 8 * q + 4]

/-- The words that the start of a pass reads: its start entry and its start square. -/
def startReads (s : State) (p : Nat) (x : Pass) : List Nat :=
  (if x.square.isSome then [] else [parseBase p + 0x6000 + 4 * (if x.second then 129 else x.source)]) ++
  (match startSquare s p x with | some q => squareWords p q | none => [])

/-- A pass starts on a unit, at its start square; a word that both copies hold badly stops it (R257, R261, R265, R277). -/
def startPass (p u : Nat) (x : Pass) (s : State) : State :=
  let s := s.modPipe p (fun y => { y with lastUnit := u })
  let r : ParseRun := { pass := x }
  let (lost, s) := readTwice p x.parity (startReads s p x) s
  if lost then endPass p r 1 6 s
  else match startSquare s p x with
  | none => endPass p r 2 7 s
  | some q =>
    match enterSquare s p q r with
    | (r, none) => setUnit p u (some r) s
    | (r, some (st, c)) => endPass p r st c s

/-! ### Instructions (R265 to R270) -/

/-- What an instruction does to its pass: the pass afterwards, and how it ends, if it does. -/
abbrev PStep := ParseRun × Option (Nat × Nat)

/-- The opcodes of Table 10-6. -/
def parseOps : List Nat :=
  [0, 1, 2, 3, 4, 5, 6, 7, 8, 9, 10, 11, 12, 13, 0x10, 0x11, 0x12, 0x13, 0x14, 0x15, 0x18, 0x19, 0x1B, 0x1C, 0x1D, 0x1E]

/-- The reserved bits of an instruction are 0 (Table 10-5, R268); LCHK's RD is one of them. -/
def parseReserved (op : Nat) (w : Word) : Bool :=
  if op ∈ [4, 5, 6, 7, 8] then w.field 13 0 = 0
  else if op = 0x1D then w.field 13 0 = 0 && w.field 25 22 = 0
  else if op ∈ [2, 3, 9, 10, 11, 12, 13] then w.field 17 16 = 0
  else if op = 1 then w.field 1 0 = 0
  else if op = 0x10 then w.field 14 11 = 0
  else if op = 0x11 then true
  else if op = 0x13 then w.field 1 0 = 0
  else if op = 0x18 then w.field 13 0 = 0
  else if op = 0x19 then w.field 3 0 = 0
  else if op = 0x1C then w.field 3 0 = 0
  else w.field 21 0 = 0

/-- A register of a pass; P0 reads 0 (R265). -/
def ParseRun.rd (r : ParseRun) (i : Nat) : Word := if i = 0 then 0 else sget (fun _ => 0) r.regs i

/-- Write a register of a pass; writes to P0 have no effect. -/
def ParseRun.wr (r : ParseRun) (i : Nat) (v : Word) : ParseRun :=
  if i = 0 then r else { r with regs := sset (fun _ => 0) r.regs i v }

/-- The unit executes the instruction its program address holds, when its opcode is `op`: first the step check, then the
faults of the fetch (R265, R268, R272). `reads` are the table words it reads; one that both copies hold badly stops the pass, as a bad
fetch does (R277). An instruction of another opcode is left for its own command. -/
def parseReading (p u op : Nat) (reads : Word → ParseRun → List Nat) (f : Word → ParseRun → PStep) (s : State) : State :=
  match s.unitRun p u with
  | none => s
  | some r =>
    let stop (st c : Nat) : State := endPass p r st c (setUnit p u none s)
    if 64 ≤ r.steps then stop 2 4
    else if 2047 < r.pc then stop 1 2
    else
      let fetch := parseBase p + 4 * r.pc
      let w := s.parseWord r.pass.parity fetch
      let o := w.field 31 26
      let (lost, s') := readTwice p r.pass.parity [fetch] s
      if lost then endPass p { r with steps := r.steps + 1 } 1 6 (setUnit p u none s')
      else if !(parseOps.contains o) || !parseReserved o w then
        endPass p { r with steps := r.steps + 1 } 1 1 (setUnit p u none s')
      else if o ≠ op then s
      else
        let r := { r with steps := r.steps + 1, pc := r.pc + 1 }
        let (lost, s) := readTwice p r.pass.parity (reads w r) s'
        if lost then endPass p r 1 6 (setUnit p u none s)
        else match f w r with
        | (r, none) => setUnit p u (some r) s
        | (r, some (st, c)) => endPass p r st c (setUnit p u none s)

/-- An instruction that reads no table word but its own. -/
def parseExec (p u op : Nat) (f : Word → ParseRun → PStep) (s : State) : State := parseReading p u op (fun _ _ => []) f s

/-- Format A: RD, RA, RB. -/
def parseAluA (g : Word → Word → Word) (w : Word) (r : ParseRun) : PStep :=
  (r.wr (w.field 25 22) (g (r.rd (w.field 21 18)) (r.rd (w.field 17 14))), none)

/-- Format I with an operand register. -/
def parseAluI (g : Word → Nat → Word) (w : Word) (r : ParseRun) : PStep :=
  (r.wr (w.field 25 22) (g (r.rd (w.field 21 18)) (w.field 15 0)), none)

/-- A read of bytes `start` to `last` of the window: WINDOW, SHORT, or HIGH (R267). -/
def readCheck (start last : Nat) (r : ParseRun) : PStep :=
  if 256 ≤ last ∨ 256 ≤ start then (r, some (2, 2))
  else match r.pass.scopeEnd with
    | some e => if e ≤ last then (r, some (2, 3)) else (r, none)
    | none => ({ r with high := max r.high (max (last + 1) r.cursor) }, none)

/-- The address of a read: cursor + Pa + OFF, modulo 2^32. -/
def readAddr (r : ParseRun) (pa : Word) (off : Nat) : Nat := (r.cursor + pa.toNat + off) % 2 ^ 32

/-- LDF. -/
def parseLdfOp (w : Word) (r : ParseRun) : PStep :=
  let start := readAddr r (r.rd (w.field 5 2)) (w.field 21 14)
  let bit := w.field 13 11
  let n := w.field 10 6 + 1
  let last := start + (bit + n - 1) / 8
  match readCheck start last r with
  | (r, some e) => (r, some e)
  | (r, none) =>
    let len := last - start + 1
    let v := sliceNum (r.pass.window ++ List.replicate 256 0) start len
    (r.wr (w.field 25 22) (BitVec.ofNat 32 (v / 2 ^ (8 * len - bit - n) % 2 ^ n)), none)

/-- The conditions of BR and BRI (R266). -/
def condHolds (c a b : Nat) : Bool :=
  match c with
  | 0 => a = b
  | 1 => a ≠ b
  | 2 => a < b
  | 3 => b ≤ a
  | 4 => a ≤ b
  | 5 => b < a
  | 6 => a &&& b ≠ 0
  | _ => true

/-- BR and BRI. -/
def parseBranch (imm : Bool) (w : Word) (r : ParseRun) : PStep :=
  let b := if imm then w.field 18 11 else (r.rd (w.field 18 15)).toNat
  if condHolds (w.field 25 23) (r.rd (w.field 22 19)).toNat b then ({ r with pc := w.field 10 0 }, none) else (r, none)

/-- GET (Table 10-6). -/
def parseGetOp (w : Word) (r : ParseRun) : PStep :=
  let put (v : Nat) : PStep := (r.wr (w.field 25 22) (BitVec.ofNat 32 v), none)
  match w.field 3 0 with
  | 0 => put r.cursor
  | 1 =>
    match r.scopes, r.pass.scopeEnd with
    | e :: _, _ => put (e - r.cursor)
    | [], some e => put (e - r.cursor)
    | [], none => put 0xFFFFFFFF
  | 2 => put r.pass.source
  | 3 => put (if r.pass.second then 2 else 1)
  | 4 => put r.depth
  | 5 => put (r.steps - 1)
  | _ => (r, some (1, 1))

/-- The move list from entry `m` on: the first match's next square, as NSQ (R263). `n` bounds the entries. -/
def moveList (s : State) (p : Nat) (parity : Bool) (v : Nat) : Nat → Nat → Option (Option Nat)
  | 0, _ => none
  | n + 1, m =>
    if 1023 < m then none
    else
      let a := s.parseWord parity (parseBase p + 0x3000 + 8 * m)
      let b := s.parseWord parity (parseBase p + 0x3000 + 8 * m + 4)
      if (v &&& a.field 15 0) = (a.field 31 16 &&& a.field 15 0) then
        some (if b.field 8 8 = 1 then none else some (b.field 7 0))
      else if b.field 31 31 = 1 then none
      else moveList s p parity v n (m + 1)

/-- The words that the move list reads from entry `m` on (R263). -/
def moveReads (s : State) (p : Nat) (parity : Bool) (v : Nat) : Nat → Nat → List Nat
  | 0, _ => []
  | n + 1, m =>
    if 1023 < m then []
    else
      let at' := parseBase p + 0x3000 + 8 * m
      let a := s.parseWord parity at'
      let b := s.parseWord parity (at' + 4)
      if (v &&& a.field 15 0) = (a.field 31 16 &&& a.field 15 0) || b.field 31 31 = 1 then [at', at' + 4]
      else [at', at' + 4] ++ moveReads s p parity v n (m + 1)

/-- The words that SEL reads: its square's first one and the move list's. -/
def selReads (s : State) (p : Nat) (w : Word) (r : ParseRun) : List Nat :=
  let at' := parseBase p + 0x2000 + 8 * r.sq
  let q := s.parseWord r.pass.parity at'
  if q.field 30 30 = 0 then [at']
  else at' :: moveReads s p r.pass.parity ((r.rd (w.field 25 22)).field 15 0) 16 (q.field 9 0)

/-- SEL (R263). -/
def parseSelOp (s : State) (p : Nat) (w : Word) (r : ParseRun) : PStep :=
  let q := s.parseWord r.pass.parity (parseBase p + 0x2000 + 8 * r.sq)
  if q.field 30 30 = 0 then (r, none)
  else match moveList s p r.pass.parity ((r.rd (w.field 25 22)).field 15 0) 16 (q.field 9 0) with
    | some n => ({ r with nsq := n }, none)
    | none => (r, none)

/-- The cursor that MOVE asks for. -/
def moveCursor (w : Word) (r : ParseRun) : Nat :=
  (r.cursor + w.field 20 12 + (if w.field 25 25 = 1 then (r.rd (w.field 24 21)).toNat else 0)) % 2 ^ 32

/-- What stops MOVE: the window's end, the frame scope's, or the innermost scope's (R264). -/
def moveFault (w : Word) (r : ParseRun) : Option (Nat × Nat) :=
  let cur := moveCursor w r
  if 256 < cur then some (2, 2)
  else if (match r.pass.scopeEnd with | some e => decide (e < cur) | none => false) then some (2, 3)
  else if (match r.scopes with | e :: _ => decide (e < cur) | [] => false) then some (4, 0)
  else none

/-- The square that MOVE enters; none: it ends the pass (R264). -/
def moveTarget (w : Word) (r : ParseRun) : Option Nat :=
  if w.field 2 2 = 0 then (if w.field 11 11 = 1 then some (w.field 10 3) else r.nsq) else none

/-- The words that MOVE reads. -/
def squareReads (p : Nat) (w : Word) (r : ParseRun) : List Nat :=
  match moveFault w r, moveTarget w r with
  | none, some q => squareWords p q
  | _, _ => []

/-- MOVE (R264). -/
def parseMoveOp (s : State) (p : Nat) (w : Word) (r : ParseRun) : PStep :=
  match moveFault w r with
  | some e => (r, some e)
  | none =>
    let cur := moveCursor w r
    let r' := { r with cursor := cur, high := if r.pass.scopeEnd = none then max r.high cur else r.high }
    match moveTarget w r with
    | some q => enterSquare s p q r'
    | none => (r', some (0, 0))

/-- Write bytes into the field vector from byte `k` on. -/
def putFields (k : Nat) (bs : List Byte) (r : ParseRun) : ParseRun :=
  { r with fields := (bs.zipIdx).foldl (fun st x => sset (fun _ => 0) st (k + x.2) x.1) r.fields }

/-- KEY. -/
def parseKeyOp (w : Word) (r : ParseRun) : PStep :=
  let n := w.field 15 14 + 1
  if 64 < w.field 21 16 + n then (r, some (1, 3))
  else (putFields (w.field 21 16) (bytesBE n (r.rd (w.field 25 22)).toNat) r, none)

/-- KCPY. -/
def parseKcpyOp (w : Word) (r : ParseRun) : PStep :=
  let n := w.field 11 8 + 1
  if 64 < w.field 17 12 + n then (r, some (1, 3))
  else
    let start := readAddr r (r.rd (w.field 7 4)) (w.field 25 18)
    match readCheck start (start + n - 1) r with
    | (r, some e) => (r, some e)
    | (r, none) => (putFields (w.field 17 12) (((r.pass.window ++ List.replicate 256 0).drop start).take n) r, none)

/-- Push a scope; a fifth above the frame scope stops the pass (R269). -/
def pushScope (e : Nat) (r : ParseRun) : PStep :=
  if 4 ≤ r.scopes.length then (r, some (2, 5)) else ({ r with scopes := e :: r.scopes }, none)

/-- LEN (R269, R270). A fifth scope is judged before the length is, as R272 orders the kinds. -/
def parseLenOp (w : Word) (r : ParseRun) : PStep :=
  let pa := (r.rd (w.field 25 22)).toNat
  let wm := w.field 20 16 + 1
  let exact := w.field 15 15 = 1
  let truncate := w.field 14 14 = 1
  let declared := (r.cursor + w.field 11 4 + pa * 2 ^ w.field 13 12) % 2 ^ 32
  let largest := w.field 21 21 = 1 && pa % 2 ^ wm = 2 ^ wm - 1
  if 4 ≤ r.scopes.length then (r, some (2, 5))
  else
    let limit : Option Nat := match r.scopes with | e :: _ => some e | [] => r.pass.scopeEnd
    match limit with
    | some e =>
      if largest || decide (e < declared) then
        if truncate then pushScope e { r with trunc := true } else (r, some (3, 0))
      else if exact && decide (declared < e) then (r, some (4, 0))
      else pushScope declared r
    | none =>
      match r.deferred with
      | some _ => (r, some (2, 6))
      | none => pushScope declared { r with deferred := some (declared, exact, truncate) }

/-- PARSE_NOP. -/
def execParseNop (p : Pipe) (u : ParseUnit) (s : State) : Out := .next (parseExec p.val u.val 0 (fun _ r => (r, none)) s)
/-- PARSE_LDF. -/
def execParseLdf (p : Pipe) (u : ParseUnit) (s : State) : Out := .next (parseExec p.val u.val 1 parseLdfOp s)
/-- PARSE_LDI. -/
def execParseLdi (p : Pipe) (u : ParseUnit) (s : State) : Out :=
  .next (parseExec p.val u.val 2 (parseAluI (fun _ i => BitVec.ofNat 32 i)) s)
/-- PARSE_LDIH: bits 15:0 of Pd stay. -/
def execParseLdih (p : Pipe) (u : ParseUnit) (s : State) : Out :=
  .next (parseExec p.val u.val 3 (fun w r => (r.wr (w.field 25 22) ((r.rd (w.field 25 22)).withField 31 16 (w.field 15 0)), none)) s)
/-- PARSE_ADD. -/
def execParseAdd (p : Pipe) (u : ParseUnit) (s : State) : Out := .next (parseExec p.val u.val 4 (parseAluA (· + ·)) s)
/-- PARSE_SUB. -/
def execParseSub (p : Pipe) (u : ParseUnit) (s : State) : Out := .next (parseExec p.val u.val 5 (parseAluA (· - ·)) s)
/-- PARSE_AND. -/
def execParseAnd (p : Pipe) (u : ParseUnit) (s : State) : Out := .next (parseExec p.val u.val 6 (parseAluA (· &&& ·)) s)
/-- PARSE_OR. -/
def execParseOr (p : Pipe) (u : ParseUnit) (s : State) : Out := .next (parseExec p.val u.val 7 (parseAluA (· ||| ·)) s)
/-- PARSE_XOR. -/
def execParseXor (p : Pipe) (u : ParseUnit) (s : State) : Out := .next (parseExec p.val u.val 8 (parseAluA (· ^^^ ·)) s)
/-- PARSE_ADDI: IMM sign-extended. -/
def execParseAddi (p : Pipe) (u : ParseUnit) (s : State) : Out :=
  .next (parseExec p.val u.val 9 (parseAluI (fun a i => a + BitVec.ofInt 32 (signed 16 i))) s)
/-- PARSE_ANDI: IMM zero-extended. -/
def execParseAndi (p : Pipe) (u : ParseUnit) (s : State) : Out :=
  .next (parseExec p.val u.val 10 (parseAluI (fun a i => a &&& BitVec.ofNat 32 i)) s)
/-- PARSE_SHLI: by IMM bits 4:0. -/
def execParseShli (p : Pipe) (u : ParseUnit) (s : State) : Out :=
  .next (parseExec p.val u.val 11 (parseAluI (fun a i => a <<< (i % 32))) s)
/-- PARSE_SHRI: by IMM bits 4:0, logical. -/
def execParseShri (p : Pipe) (u : ParseUnit) (s : State) : Out :=
  .next (parseExec p.val u.val 12 (parseAluI (fun a i => a >>> (i % 32))) s)
/-- PARSE_GET. -/
def execParseGet (p : Pipe) (u : ParseUnit) (s : State) : Out := .next (parseExec p.val u.val 13 parseGetOp s)
/-- PARSE_BR. -/
def execParseBr (p : Pipe) (u : ParseUnit) (s : State) : Out := .next (parseExec p.val u.val 0x10 (parseBranch false) s)
/-- PARSE_BRI. -/
def execParseBri (p : Pipe) (u : ParseUnit) (s : State) : Out := .next (parseExec p.val u.val 0x11 (parseBranch true) s)
/-- PARSE_SEL. -/
def execParseSel (p : Pipe) (u : ParseUnit) (s : State) : Out := .next (parseReading p.val u.val 0x12 (selReads s p.val) (parseSelOp s p.val) s)
/-- PARSE_MOVE. -/
def execParseMove (p : Pipe) (u : ParseUnit) (s : State) : Out := .next (parseReading p.val u.val 0x13 (squareReads p.val) (parseMoveOp s p.val) s)
/-- PARSE_DONE. -/
def execParseDone (p : Pipe) (u : ParseUnit) (s : State) : Out :=
  .next (parseExec p.val u.val 0x14 (fun _ r => (r, some (0, 0))) s)
/-- PARSE_EXC: PARSE_REJECT with CAUSE set to CODE. -/
def execParseExc (p : Pipe) (u : ParseUnit) (s : State) : Out :=
  .next (parseExec p.val u.val 0x15 (fun w r => (r, some (5, w.field 25 22))) s)
/-- PARSE_KEY. -/
def execParseKey (p : Pipe) (u : ParseUnit) (s : State) : Out := .next (parseExec p.val u.val 0x18 parseKeyOp s)
/-- PARSE_KCPY. -/
def execParseKcpy (p : Pipe) (u : ParseUnit) (s : State) : Out := .next (parseExec p.val u.val 0x19 parseKcpyOp s)
/-- PARSE_FLAG: sets user flag FL. -/
def execParseFlag (p : Pipe) (u : ParseUnit) (s : State) : Out :=
  .next (parseExec p.val u.val 0x1B (fun w r => ({ r with uflags := r.uflags ||| 2 ^ w.field 25 22 }, none)) s)
/-- PARSE_LEN. -/
def execParseLen (p : Pipe) (u : ParseUnit) (s : State) : Out := .next (parseExec p.val u.val 0x1C parseLenOp s)
/-- PARSE_LCHK: LENGTH_CONFLICT unless Pa = Pb. -/
def execParseLchk (p : Pipe) (u : ParseUnit) (s : State) : Out :=
  .next (parseExec p.val u.val 0x1D (fun w r =>
    (r, if r.rd (w.field 21 18) = r.rd (w.field 17 14) then none else some (4, 0))) s)
/-- PARSE_POPL: closes the innermost scope. -/
def execParsePopl (p : Pipe) (u : ParseUnit) (s : State) : Out :=
  .next (parseExec p.val u.val 0x1E (fun _ r =>
    match r.scopes with
    | _ :: es => ({ r with scopes := es }, none)
    | [] => (r, some (1, 4))) s)

/-! ### Release, strikes (R259, R275, R276) -/

/-- PARSE_RESULT_RELEASE: the result next in dispatch order goes to the classifier (R259). -/
def execParseResultRelease (p : Pipe) (s : State) : Out :=
  let x := s.pipe p.val
  match x.results.find? (fun r => r.num = x.relNum) with
  | some r => .next (s.modPipe p.val (fun x => { x with
      relNum := x.relNum + 1, results := x.results.filter (fun y => y.num ≠ r.num), released := x.released ++ [r] }))
  | none => .next s

/-- The strikes that stand against a unit. -/
def State.unitStrike (s : State) (p u : Nat) : Nat := sget (fun _ => 0) s.unitStrikes (16 * p + u)

/-- Set the strikes that stand against a unit. -/
def setUnitStrike (p u n : Nat) (s : State) : State :=
  { s with unitStrikes := sset (fun _ => 0) s.unitStrikes (16 * p + u) n }

/-- A strike is added to a unit. A third retires it, unless it is the last in service in its pipe (R276). -/
def unitStrike (p u : Nat) (s : State) : State :=
  let n := s.unitStrike p u
  let s := paFlag 5 s
  if 2 ≤ n then
    if (List.range 16).any (fun v => v ≠ u && s.inService p v) then
      paFlag 6 (setUnitStrike p u 0 (s.putB ((PA_UNITS_IN_SERVICE p).bit u) false))
    else paFlag 7 (setUnitStrike p u (n + 1) s)
  else setUnitStrike p u (n + 1) s

/-- PARSE_UNIT_PARITY: a strike; the pass on the unit is rerun from its start, or stops if it was a rerun (R275). -/
def execParseUnitParity (p : Pipe) (u : ParseUnit) (s : State) : Out :=
  let run := s.unitRun p.val u.val
  let s := unitStrike p.val u.val (setUnit p.val u.val none s)
  match run with
  | none => .next s
  | some r =>
    if r.pass.rerun then .next (endPass p.val r 1 7 s)
    else
      let s := paFlag 4 (s.bump (PA_CNT p.val 8))
      match s.idleUnit p.val with
      | some v => .next (startPass p.val v { r.pass with rerun := true } s)
      | none => .next (s.modPipe p.val (fun x => { x with reruns := x.reruns ++ [{ r.pass with rerun := true }] }))

/-- PARSE_STRIKE_EXPIRY: a strike falls away (R276). -/
def execParseStrikeExpiry (p : Pipe) (u : ParseUnit) (s : State) : Out :=
  .next (setUnitStrike p.val u.val (s.unitStrike p.val u.val - 1) s)

/-- A write of 1 to RESTORE bits returns those units to service with no strikes (R276). -/
def restoreUnits (p : Nat) (mask : BitVec 16) (s : State) : State :=
  s.each (List.range 16) (fun u s =>
    if mask.getLsbD u then setUnitStrike p u 0 (s.putB ((PA_UNITS_IN_SERVICE p).bit u) true) else s)

/-- PARSE_UNIT_RESTORE (R276). -/
def execParseUnitRestore (a : Agent) (p : Pipe) (mask : BitVec 16) (s : State) : Out :=
  .next (s.byAgent [.tenant, .host] a (restoreUnits p.val mask))

end Sys2Proof.Machine
end

