-- ==== Sys2Proof/Machine/Events.lean ====
section
/-! DEFINITION. The event fabric and the scoreboard: tallies, counters, banks, host events, permits and software sources
(18_events_scoreboard.md). -/
namespace Sys2Proof.Machine

/-- The domain of a group (Table 18-2). -/
inductive GroupDomain where
  | keeper | carrier | tenant | reserved
  deriving DecidableEq, Repr

/-- Table 18-2. -/
def groupDomain (g : Nat) : GroupDomain :=
  if g < 4 ∨ g = 41 then .keeper
  else if g < 8 then .carrier
  else if g < 12 then .tenant
  else if g < 23 then .carrier
  else if g < 32 then .tenant
  else if g = 32 then .carrier
  else if g < 39 then .tenant
  else if g < 41 ∨ g = 42 then .carrier
  else if g < 45 then .tenant
  else .reserved

/-- The groups a bank sees (Table 18-3). -/
def bankSees (bank g : Nat) : Bool :=
  match groupDomain g with
  | .keeper => true
  | .carrier => bank = 0 || bank = 2 || bank = 4
  | .tenant => bank ≠ 0
  | .reserved => bank = 2 || bank = 4

/-- The pending word of a group in a bank. -/
def State.pend (s : State) (bank g : Nat) : Word := sget (fun _ => 0) s.kp.pend (64 * bank + g)

/-- The enable word of a group in a bank. -/
def State.enab (s : State) (bank g : Nat) : Word := sget (fun _ => 0) s.kp.enab (64 * bank + g)

/-- A pending word takes a value. -/
def setPend (bank g : Nat) (w : Word) (s : State) : State :=
  s.modKp (fun k => { k with pend := sset (fun _ => 0) k.pend (64 * bank + g) w })

/-- A group has a pending enabled source in a bank. -/
def State.active' (s : State) (bank g : Nat) : Bool := s.pend bank g &&& s.enab bank g ≠ 0

/-- A bank's output is active (Table 18-3). -/
def State.output (s : State) (bank : Nat) : Bool := (List.range 48).any (s.active' bank)

/-- `EV.SUMMARY` of a bank (Table 18-5). -/
def State.summary (s : State) (bank : Nat) : Nat :=
  (List.range 48).foldl (fun n g => if s.active' bank g then n + 2 ^ g else n) 0

/-- ALARM_N is driven low: by bank 4, and while a reset or a start holds it (R488, Table 19-8). -/
def State.alarmLow (s : State) : Bool := s.output 4 || s.kp.alarmBoot || s.kp.alarmC || s.kp.alarmT

/-- A host event message (R475, R487). -/
def hostEvent (s : State) : GateMsg := ⟨3, 3 :: List.replicate 7 0 ++ bytesBE 6 (s.summary 3)⟩

/-- With bank 3's output active and no host event message waiting, the tenant proxy queues one (R487). -/
def queueHostEvent (s : State) : State :=
  if s.output 3 && (s.gateQ 2).all (fun m => m.kind ≠ 3) && decide (s.gateCount 2 < 16) then deliver 2 (hostEvent s) s else s

/-- Bank 3's output becomes active. -/
def hostEventAfter (was : Bool) (s : State) : State := if was then s else queueHostEvent s

/-- A delta arrives: the counter and the pending bits of every bank that sees the group (R482, R484, R486). -/
def arrive (src delta : Nat) (s : State) : State :=
  let g := src / 32
  let was := s.output 3
  let n := sget (fun _ => 0) s.kp.counts src + delta
  let s := s.modKp (fun k => { k with counts := sset (fun _ => 0) k.counts src (n % 2 ^ 48) })
  let s := s.each ([0, 1, 2, 3, 4].filter (fun b => bankSees b g)) (fun b s =>
    setPend b g (s.pend b g ||| BitVec.ofNat 32 (2 ^ (src % 32))) s)
  let s := if 2 ^ 48 ≤ n then
      evFlag 0 (s.modKp (fun k => { k with
        wraps := sset (fun _ => 0) k.wraps g (sget (fun _ => 0) k.wraps g ||| BitVec.ofNat 32 (2 ^ (src % 32))) }))
    else s
  hostEventAfter was s

/-- The MGMT domain is stopped: REST is past its last step (R485). -/
def State.mgmtStopped (s : State) : Bool := s.kp.stopSteps.contains 20

/-- TALLY_DELTA_ARRIVE: what a source has tallied crosses whole (R481, R482). -/
def execTallyDeltaArrive (src : Source) (s : State) : Out :=
  let n := s.tallyOf src.val
  if n = 0 ∨ s.mgmtStopped then .next s
  else .next (arrive src.val n { s with tally := sset (fun _ => 0) s.tally src.val 0 })

/-- A write of SWSET: each bit written 1 makes its source occur once (R491). -/
def writeSwset (g : Nat) (w : Word) (s : State) : State :=
  s.each ((List.range 32).filter (fun i => w.toNat.testBit i)) (fun i s => arrive (32 * g + i) 1 s)

/-- The agents that write SWSET of a group (Table 18-6). -/
def swsetAgents (g : Nat) : List Agent :=
  if 4 ≤ g ∧ g < 8 then [.carrier] else if 8 ≤ g ∧ g < 12 then [.tenant] else []

/-- SWSET (R491). -/
def execSwset (a : Agent) (g : Nat) (w : Word) (s : State) : Out := .next (s.byAgent (swsetAgents g) a (writeSwset g w))

/-- The bits of the carrier groups. -/
def carrierMask : Nat := (List.range 48).foldl (fun n g => if groupDomain g = .carrier then n + 2 ^ g else n) 0

/-- The address of a source's counter (Table 18-7). -/
def countAddr (src : Nat) : Nat := 0x00600000 + 8 * src

/-- The permit takes a value: a change sets PERMIT_CHG, and what closes discards T's and H's snapshots (R490, R492). -/
def setPermit (v : Nat) (s : State) : State :=
  let v := v &&& carrierMask
  let old := s.kp.permit
  let s := s.modKp (fun k => { k with permit := v })
  let closed (addr : Nat) : Bool :=
    let g := (addr - countAddr 0) / 256
    decide (countAddr 0 ≤ addr ∧ addr < countAddr 1536) && old.testBit g && !v.testBit g
  let s := { s with snaps := s.snaps.filter (fun x =>
    !((x.agent = .tenant || x.agent = .host) && closed x.addr)) }
  if v = old then s else evFlag 1 s

/-- A word of `SB.PERMIT`: the low one is held aside, the high one installs both (R10, Table 18-8). -/
def writePermit (a : Agent) (high : Bool) (w : Word) (s : State) : State :=
  let base := 0x00605000
  if !high then holdWord a base w s
  else
    let lo := match s.heldWord a base with
      | some v => v.toNat
      | none => s.kp.permit % 2 ^ 32
    setPermit (lo + w.toNat % 2 ^ 16 * 2 ^ 32) (clearHeld a base (base + 8) s)

/-- PERMIT_WRITE (R490). -/
def execPermitWrite (a : Agent) (high : Bool) (w : Word) (s : State) : Out :=
  .next (s.byAgent [.carrier] a (writePermit a high w))

/-! ### Resets of banks (R492) -/

/-- The words of a bank that `p` selects by group are cleared. -/
def clearBank (bank : Nat) (p : Nat → Bool) (s : State) : State :=
  let keep (i : Nat) : Bool := !(i / 64 = bank && p (i % 64))
  s.modKp (fun k => { k with pend := skeep keep k.pend, enab := skeep keep k.enab })

/-- A carrier DOMAIN reset: bank 0, the carrier words of bank 4, and the permit with every snapshot it opened. -/
def resetEventsCarrier (s : State) : State :=
  let s := clearBank 4 (fun g => groupDomain g = .carrier) (clearBank 0 (fun _ => true) s)
  let s := { s with snaps := s.snaps.filter (fun x =>
    !((x.agent = .tenant || x.agent = .host) && decide (countAddr 0 ≤ x.addr ∧ x.addr < countAddr 1536) &&
      groupDomain ((x.addr - countAddr 0) / 256) = .carrier)) }
  setPermit 0 s

/-- A tenant DOMAIN reset: banks 1 and 3, and the tenant words of bank 4. -/
def resetEventsTenant (s : State) : State :=
  clearBank 4 (fun g => groupDomain g = .tenant) (clearBank 3 (fun _ => true) (clearBank 1 (fun _ => true) s))

/-- A HOSTLINK reset: bank 3, and a waiting host event message. -/
def resetEventsHost (s : State) : State :=
  let s := clearBank 3 (fun _ => true) s
  setGateQ 2 ((s.gateQ 2).filter (fun m => m.kind ≠ 3)) s

end Sys2Proof.Machine
end

