-- ==== Sys2Proof/Machine/Lands.lean ====
section
/-! DEFINITION. The power state and the levels of the status lands: GPIO outputs, ALARM_N, THERM_N, RESET_N, NVM_CS_N and HOST_IRQ_N
(19_power_reset_crossings.md, 20_electrical.md). -/
namespace Sys2Proof.Machine

/-- `KP.PWR_STATUS.STATE` (Table 19-2): REST before WATCH before DOZE before RUN (R495). -/
def State.powerState (s : State) : Nat :=
  let activated := [Engine.la, Engine.lb].filter (fun e => s.isSet (TC_ACT_CTRL_ACT_EN e.n))
  if s.kp.stopSteps.contains 20 then 3
  else if !activated.isEmpty && activated.all (fun e => s.pm e = 2) then 2
  else if [Engine.la, Engine.lb].any (fun e => s.pm e = 1) then 1
  else 0

/-- A field of the register of a GPIO land (Table 20-7). -/
def gpioF (n hi lo : Nat) : Fld := ⟨0x300 + 4 * n, hi, lo⟩

/-- MODE of a GPIO land: 0 input, 1 push-pull, 2 open drain. -/
def State.gpioMode (s : State) (n : Nat) : Nat := s.get (gpioF n 1 0)

/-- The status that SEL names (Table 20-7). -/
def State.gpioStatus (s : State) (n : Nat) : Bool :=
  match s.get (gpioF n 11 8) with
  | 0 => s.isSet (gpioF n 2 2)
  | 1 => !s.output 4
  | 2 => s.isSet PX_STATUS_ACTIVE
  | 3 => s.get (TE_DOM_STATUS_STATE s.te.sel.val) = 2
  | 4 => s.isSet PX_STATUS_STEP
  | _ => s.powerState = 3

/-- What a GPIO output drives: its status; in the gap of a switch-over one whose SEL is not 0x0 keeps its level (R531,
R184). -/
def State.gpioOut (s : State) (n : Nat) : Bool :=
  if !s.pair.ready && s.get (gpioF n 11 8) ≠ 0 then s.pair.gpioHeld.testBit n else s.gpioStatus n

/-- ALARM_N is driven low; in the gap of a switch-over it keeps its level (R488, R184, Table 19-8). -/
def State.alarmN (s : State) : Bool := if s.pair.ready then s.alarmLow else s.pair.gpioHeld.testBit 16

/-- The levels that the gap of a switch-over holds: bit n GPIO n, bit 16 ALARM_N (R184). -/
def State.gapLevels (s : State) : Nat :=
  (List.range 16).foldl (fun m n => if s.gpioOut n then m + 2 ^ n else m) (if s.alarmN then 65536 else 0)

/-- THERM_N is driven low (R515). -/
def State.thermN (s : State) : Bool := s.kp.hot

/-- RESET_N is driven low (R511); below 2.5 V it is not driven. -/
def State.resetN (s : State) : Bool := s.kp.driving && decide (250 ≤ s.get KP_VIN_VIN)

/-- NVM_CS_N is high through every reset, and whenever the flash is neither read nor written: it is low while the program of a
record stands begun, for every other flash access of the model is over with its command (R533, R462). -/
def State.nvmCsN (s : State) : Bool :=
  decide (s.kp.asserted ≠ 0) || s.kp.driving || !s.kp.journal.any (fun j => j.begun)

/-- HOST_IRQ_N is low while a message waits for the host (R473). -/
def State.hostIrqN (s : State) : Bool := !(s.gateQ 2).isEmpty

end Sys2Proof.Machine
end

