-- ==== Sys2Proof/Machine/Px.lean ====
section
/-! DEFINITION. The pair of line engines: tie headers, claims, the referee, keeping in step, and the switch-over
(01_frame_tour.md, 07_two_line_engines.md). -/
namespace Sys2Proof.Machine

/-! ### Claims and the referee (R20, R168 to R171) -/

/-- A tie link carries, or no longer carries, good headers. -/
def setLinkGood (e : Engine) (b : Bool) (s : State) : State :=
  purgeJudged (s.modPair (fun p => { p with good := sset (fun _ => false) p.good e.n b }))

/-- The bursts in progress that go under a permit by claim are cut; one under a lent permit goes on (R56, R181). -/
def cutTraffic (e : Engine) (s : State) : State :=
  s.each channels (fun c s => s.when (((s.ch e c).flying.map (·.kind)) = some .traffic) (cutBurst e c))

/-- Both engines' permits follow the claims: an engine that holds none by claim goes dark but for a lent burst, at a move of the
referee as when its own claim falls to 0x0000 (R30, R56, R168). -/
def movePermits (s : State) : State :=
  s.each [Engine.la, .lb] (fun e s => showPermit e (s.when (!s.byClaim e) (cutTraffic e)))

/-- The frames that an engine holds in its slot queues. -/
def State.framesHeld (s : State) (e : Engine) : Nat := ((s.line e).lq.map (fun x => x.2.length)).foldl (· + ·) 0

/-- The slot queues of an engine become empty. -/
def emptyQueues (e : Engine) (s : State) : State := showRoom e (s.modLine e (fun l => { l with lq := [] }))

/-- An engine discards the frames of its slot queues, counted in LOST_UP (R177, R183). -/
def discardQueues (e : Engine) (s : State) : State := (emptyQueues e s).bump (PX_CNT 5) (s.framesHeld e)

/-- Out of step, the frames ahead of the mark that the old active has not launched are lost at a switch-over: the standby
discarded its copies at the mark (R177). -/
def loseAhead (e : Engine) (s : State) : State :=
  match (s.line e).markAt with
  | none => s
  | some m =>
    let s := s.each m (fun x s => setQueue e x.1 ((s.queue e x.1).drop x.2) s)
    showRoom e ((s.modLine e (fun l => { l with markAt := some [] })).bump (PX_CNT 5) ((m.map (·.2)).foldl (· + ·) 0))

/-- What a move of the referee costs upstream. In protected mode the old active's queues are discarded and counted, and the new
active's start empty, not counted: DESIGN CHOICE, log 51. Out of step the frames ahead of a mark are lost (R177, R183). -/
def moveLosses (old new : Engine) (s : State) : State :=
  if s.pair.mode = 1 then emptyQueues new (discardQueues old s)
  else if s.pair.mode = 2 && !s.isSet PX_STATUS_STEP && s.pair.step = .marked then loseAhead old s
  else s

/-- The referee moves: SWITCHED, the house time of the move, and practice mode (R180, R185, Tables 07-12 and 07-13). Within a
switch-over the new active is not yet live (R182). -/
def noteMove (s : State) : State :=
  let s := s.modPair (fun p => { p with sw := p.sw.map (fun w => { w with moved := true }), arming := p.sw.isSome })
  (pxFlag 0 (putTime PX_LAST_SWITCH s.house s)).putB PX_STATUS_PRACTICE (s.get PX_CFG_RECOVERY ≠ 0)

/-- The referee compares the claims and moves admission and the permit to the higher one; on equal claims it goes on
admitting the engine it admitted last (R20, R168). -/
def referee (s : State) : State :=
  let a := s.get PX_CLAIMS_CLAIM_A
  let b := s.get PX_CLAIMS_CLAIM_B
  let old := s.active
  let new : Engine := if b < a then .la else if a < b then .lb else old
  if new = old then movePermits s
  else purgeJudged (moveLosses old new (movePermits (noteMove (s.put PX_STATUS_ACTIVE new.n))))

/-- Step 5 begins when the referee has received 0x0000 from the old active (R180). -/
def settleDue (s : State) : State :=
  match s.pair.sw with
  | some w => if w.moved && s.get (claimF w.target.peer) = 0 then s.put PX_STATUS_PHASE 2 else s
  | none => s

/-- The referee receives a claim on a link that carries good headers (R168, R169). -/
def receiveClaim (e : Engine) (claim : Nat) (s : State) : State :=
  settleDue (referee ((setLinkGood e true s).put (claimF e) claim))

/-- TIE_LINK_CLAIM_TIMEOUT: no good header for 1 µs: the link claims 0x0000 and LINK_LOSS is set (R169). -/
def execTieLinkClaimTimeout (e : Engine) (s : State) : Out :=
  if s.linkGood e then
    .next (pxFlag (5 + e.n) (settleDue (referee ((setLinkGood e false s).put (claimF e) 0))))
  else .next s

/-! ### In step (R173 to R177) -/

/-- The pair leaves step: STEP_LOST, STEP_LOSS, and the procedure of R177 starts at its digest wait. -/
def loseStep (s : State) : State :=
  if s.pair.mode = 2 && s.isSet PX_STATUS_STEP then
    let s := (pxFlag 2 (s.putB PX_STATUS_STEP false)).bump (PX_CNT 4)
    s.modPair (fun p => { p with step := .digestWait })
  else s

/-- The words of a step digest: for each slot its VALID and CELLS in place and its bonded bit in place, then for each line
queue its VALID and ENC in place (R176). -/
def digestWords (s : State) (e : Engine) : List Word :=
  ((List.range 64).map (fun sl =>
    let w := s.reg (BURST_SLOT e.n sl)
    [((0 : Word).withField 31 31 (w.field 31 31)).withField 27 16 (w.field 27 16),
     (0 : Word).withField (sl % 32) (sl % 32) ((s.slotBonded e sl).toNat)])).flatten ++
  (List.range 512).map (fun q =>
    let w := s.reg (BURST_QPORT e.n q)
    ((0 : Word).withField 31 31 (w.field 31 31)).withField 30 30 (w.field 30 30))

/-- The step digest of an engine: a CRC-64 over those words (R176). -/
def stepDigest (s : State) (e : Engine) : Nat := crc64 (((digestWords s e).map (fun w => bytesBE 4 w.toNat)).flatten)

/-- The digest comparator: a difference is flagged and costs the step; equal digests end the digest wait (R175 to
R177). -/
def compareDigests (s : State) : State :=
  match sget (fun _ => none) s.pair.digest 0, sget (fun _ => none) s.pair.digest 1 with
  | some a, some b =>
    if a = b then
      s.modPair (fun p => { p with digestDiff := false, step := if p.step = .digestWait then .markReady else p.step })
    else
      let s := loseStep (pxFlag 4 s)
      s.modPair (fun p => { p with digestDiff := true, step := if p.step = .markReady then .digestWait else p.step })
  | _, _ => s

/-- The digest of an engine at the comparator. -/
def setDigest (e : Engine) (v : Nat) (s : State) : State :=
  s.modPair (fun p => { p with digest := sset (fun _ => none) p.digest e.n (some v) })

/-- The comparator receives an engine's digest (R21, R176). -/
def receiveDigest (e : Engine) (v : Nat) (s : State) : State := compareDigests (setDigest e v s)

/-- RESTEP: a write of 1 starts the procedure of R177 without a loss of step. -/
def restep (s : State) : State :=
  if s.pair.mode = 2 then (s.putB PX_CTRL_RESTEP true).modPair (fun p => { p with step := .digestWait, digest := [] })
  else s

/-- RESTEP (R177). -/
def execRestep (a : Agent) (s : State) : Out := .next (s.byAgent [.carrier] a restep)

/-! ### Tie headers (R19, R21, R548) -/

/-- A tie header whose length, HCRC and kind R19 accepts. -/
def headerGood (h : List Byte) : Bool :=
  h.length = 32 && decide (crc32 (h.take 28) = sliceNum h 28 4) && decide (sliceNum h 2 1 % 16 ≤ 4)

/-- KIND, CHAN, CLAIM, LQ and SEQ of a header (Table 01-3). -/
def hdrKind (h : List Byte) : Nat := sliceNum h 2 1 % 16
/-- CHAN of a header. -/
def hdrChan (h : List Byte) : Nat := sliceNum h 2 1 / 16 % 4
/-- CLAIM of a header. -/
def hdrClaim (h : List Byte) : Nat := sliceNum h 0 2
/-- LQ of a header. -/
def hdrLq (h : List Byte) : Nat := sliceNum h 8 2 % 512
/-- SEQ of a header. -/
def hdrSeq (h : List Byte) : Nat := sliceNum h 10 2

/-! ### Toward the hub -/

/-- SEQ of a good header toward the hub: one out of sequence shows a gap, but the first after a reset (R548). -/
def hubSeq (e : Engine) (seq : Nat) (s : State) : State :=
  s.modLine e (fun l => { l with rxHub := some ((seq + 1) % 65536), hubGap := l.hubGap || l.rxHub.any (· ≠ seq) })

/-- A message is delivered to the carrier controller (R21). -/
def toController (e : Engine) (kind : Nat) (bytes : List Byte) (s : State) : State :=
  s.modPair (fun p => { p with toController := p.toController ++ [(e, kind, bytes)] })

/-- What stands behind a good header reaches the hub: its claim is taken, and the frame is admitted, dropped by the referee, or
delivered (R20, R21, R168). -/
def hubItem (e : Engine) (hdr bytes : List Byte) (s : State) : State :=
  let s := receiveClaim e (hdrClaim hdr) (hubSeq e (hdrSeq hdr) s)
  match hdrKind hdr with
  | 0 =>
    if s.active = e then s.modPair (fun p => { p with admitted := p.admitted ++ [(e, bytes)] })
    else s.bump (PX_CNT (2 + e.n))
  | 3 => receiveDigest e (numBE bytes) s
  | k => toController e k bytes s

/-- A header or kind that R19 refuses, toward the hub. -/
def hubDrop (e : Engine) (s : State) : State := s.bump (PX_HDR_DROP e.n)

/-- The bytes of an item: the layouts of a PLOAM copy and of a structure stand in G.9804.2 and are left open. -/
def ToHub.bytes (k : Nat) : ToHub → List Byte
  | .data d => d.bytes
  | .omcc bs => bs
  | .ploam .. => fitBytes 48 (Config.itemBytes k)
  | .opctl .. => fitBytes 8 (Config.itemBytes k)
  | .digest v => bytesBE 8 v

/-- A tie link delivers in order: the hub receives the oldest item under way. -/
def recvHub (e : Engine) (s : State) : State :=
  match (s.line e).toHub with
  | [] => s
  | (h, x) :: rest => hubItem e h (x.bytes s.freeCtr) (s.used.modLine e (fun l => { l with toHub := rest }))

/-- The hub receives every item that a line die has sent. -/
def drainHub (e : Engine) (s : State) : State := s.each (s.line e).toHub (fun _ s => recvHub e s)

/-- TIE_FRAME_RECEIVE: the hub checks the header, takes its claim, and admits, drops or delivers what follows (R19 to
R21, R168). An item under way has come when its own header does, or is lost behind a wrong one. -/
def execTieFrameReceive (e : Engine) (hdr : List Byte) (pay : TiePayload) (s : State) : Out :=
  let good := headerGood hdr
  let s := s.modLine e (fun l => { l with
    toHub := if !good || (l.toHub.head?.map (·.1)) = some hdr then l.toHub.tail else l.toHub })
  .next (if good then hubItem e hdr pay.bytes s else hubDrop e s)

/-- A message of the line die itself crosses behind what it has sent: the next SEQ, its claim, and `f` with a good header; a
drop with a bad one (R19, R548). -/
def lineMessage (e : Engine) (ok : Bool) (f : State → State) (s : State) : State :=
  let s := drainHub e s
  let seq := (s.line e).txHub
  let s := s.modLine e (fun l => { l with txHub := (l.txHub + 1) % 65536 })
  if ok then f (receiveClaim e (s.line e).claim (hubSeq e seq s)) else hubDrop e s

/-- What an engine's status message tells the hub: room of each slot, removal counts, a discard by the standby (R139, R173,
R175). It goes on to the carrier controller, like any frame of its kind (R21). -/
def takeStatus (e : Engine) (s : State) : State :=
  let s := s.modLine e (fun l => { l with
    hubRoom := (List.range 64).foldl (fun r sl => sset (fun _ => 0) r sl (s.slotRoom e sl)) l.hubRoom
    hubRemoved := l.removed })
  let s := toController e 4 (Config.itemBytes s.freeCtr) s
  (if (s.line e).discarded && s.active ≠ e then loseStep s else s).used

/-- ENGINE_STATUS_MESSAGE: an engine's status message reaches the hub, its header good or not (R19, R139, R168, R173,
R175). -/
def execEngineStatusMessage (m : LinkMessage) (s : State) : Out :=
  .next (lineMessage m.engine m.good (takeStatus m.engine) s)

/-- An engine sends its digest behind a tie header of kind 3 (R21, R176). -/
def sendDigest (e : Engine) (s : State) : State := sendUp e (.digest (stepDigest s e)) s

/-- STEP_DIGEST: both engines compute and send their digests; the comparator compares the two of one round, as soon as both
have been received, and one behind a wrong header never is (R19, R176). Everything of the last 50 ms has arrived. DESIGN
CHOICE, log 30. -/
def execStepDigest (s : State) : Out :=
  let s := (drainHub .lb (drainHub .la s)).modPair (fun p => { p with digest := [] })
  .next (sendDigest .lb (sendDigest .la s))

/-! ### Toward the line -/

/-- The hub sends a header and its bytes toward the line; SEQ advances (R19, R548). The header echoes the engine's own
claim (Table 01-3). -/
def sendToLine (e : Engine) (kind : Nat) (bytes : List Byte) (lq : Nat) (s : State) : State :=
  let h := tieHeader e true (s.get (claimF e)) kind 0 0 false 0 bytes.length lq (s.line e).txLine
  s.modLine e (fun l => { l with txLine := (l.txLine + 1) % 65536, toLine := l.toLine ++ [(h, bytes)] })

/-- A frame reaches its slot queue, or is discarded: for a line queue that is not valid (Table 06-12), for want of room (R139,
R175), or because the referee has left this engine in protected mode (R183). A frame that enters wakes the engine (R163). -/
def slotArrive (e : Engine) (q : Nat) (bytes : List Byte) (s : State) : State :=
  let f : UpFrame := ⟨s.nextId, bytes, false⟩
  let flushed (s : State) : State := burstFlag e 4 (s.bump (BURST_FLUSHED e.n))
  if s.pair.mode = 1 && s.active ≠ e then s.bump (PX_CNT 5)
  else if !s.isSet (BURST_QPORT_VALID e.n q) then (flushed s).when (s.active = e) (countRemoved e q 1)
  else if frameCells f ≤ s.slotRoom e (q / 8) then
    let s := showRoom e (setQueue e q (s.queue e q ++ [f]) s.newId)
    s.when (s.isSet (BURST_PM_CFG_LOCAL_WAKE e.n)) (wakeEvent e 3)
  else if s.active = e then countRemoved e q 1 (flushed s)
  else (flushed s).modLine e (fun l => { l with discarded := true })

/-- A gap in SEQ toward the line costs the step in in-step mode (R175, R548). -/
def lineSeq (e : Engine) (seq : Nat) (s : State) : State :=
  let gap := (s.line e).rxLine.any (· ≠ seq)
  let s := s.modLine e (fun l => { l with rxLine := some ((seq + 1) % 65536), gap := l.gap || gap })
  if gap then loseStep s else s

/-- A header or kind that R19 refuses, toward the line. -/
def lineDrop (e : Engine) (s : State) : State := s.bump (TC_HDR_DROP e.n)

/-- What stands behind a good header reaches the line die: a data frame, an OMCC frame or a PLOAM message (R138, R139). -/
def lineItem (e : Engine) (hdr bytes : List Byte) (s : State) : State :=
  let s := lineSeq e (hdrSeq hdr) s
  match hdrKind hdr with
  | 0 => slotArrive e (hdrLq hdr) bytes s
  | 1 => s.newId.modLine e (fun l => { l with ctrl := l.ctrl ++ [⟨s.nextId, bytes, false⟩] })
  | 2 => s.modCh e (Fin.ofNat 4 (hdrChan hdr)) (fun x => { x with fwPloam := x.fwPloam ++ [bytes] })
  | _ => s

/-- An engine takes the step mark: the standby discards what it holds ahead of it, counted in LOST_UP; the removal counts start
again behind it, and a gap before it is forgotten (R175, R177). -/
def takeMark (e : Engine) (s : State) : State :=
  if s.pair.step = .marked ∧ s.pair.marksDue.contains e then
    let s := if s.active = e then s else discardQueues e s
    let s := s.modLine e (fun l => { l with
      removed := [], hubRemoved := [], gap := false, discarded := false,
      markAt := some ((l.lq.filter (fun x => x.2 ≠ [])).map (fun x => (x.1, x.2.length))) })
    s.modPair (fun p => { p with marksDue := p.marksDue.filter (fun x => x ≠ e) })
  else s

/-- A tie link delivers in order: the line die receives the oldest header under way, be it the step mark. -/
def recvLine (e : Engine) (s : State) : State :=
  match (s.line e).toLine with
  | [] => s
  | (h, bytes) :: rest =>
    let mark := (s.line e).markIn
    let s := s.modLine e (fun l => { l with toLine := rest, markIn := if mark = some 0 then none else mark.map (· - 1) })
    if mark = some 0 then takeMark e (lineSeq e (hdrSeq h) s) else lineItem e h bytes s

/-- The line die receives every header that the hub has sent. -/
def drainLine (e : Engine) (s : State) : State := s.each (s.line e).toLine (fun _ s => recvLine e s)

/-- LINE_TIE_FRAME_RECEIVE: the line die checks the header and queues a data frame, an OMCC frame or a PLOAM message
(R19, R138, R139). An item under way has come when its own header does, or is lost behind a wrong one. -/
def execLineTieFrameReceive (e : Engine) (hdr : List Byte) (pay : TiePayload) (s : State) : Out :=
  let good := headerGood hdr
  let s := s.modLine e (fun l =>
    if l.markIn ≠ some 0 && (!good || l.toLine.head? = some (hdr, pay.bytes)) then
      { l with toLine := l.toLine.tail, markIn := l.markIn.map (· - 1) }
    else l)
  .next (if good then lineItem e hdr pay.bytes s else lineDrop e s)

/-- A message of the hub itself crosses behind what it has sent: the next SEQ, and `f` with a good header; a drop with a bad one
(R19, R548). -/
def hubMessage (e : Engine) (ok : Bool) (f : State → State) (s : State) : State :=
  let s := drainLine e s
  let seq := (s.line e).txLine
  let s := s.modLine e (fun l => { l with txLine := (l.txLine + 1) % 65536 })
  if ok then f (lineSeq e seq s) else lineDrop e s

/-- The standby removes frames from the head of each queue until its count equals the relayed one (R173). Counts that the active
kept ahead of a mark which this engine has passed are not relayed behind it (R177). -/
def standbyRemoval (e : Engine) (s : State) : State :=
  if s.pair.mode = 2 && s.active ≠ e && !(s.pair.marksDue.contains e.peer && !s.pair.marksDue.contains e) then
    let relayed := (s.line e.peer).hubRemoved
    showRoom e (s.each (List.range 512) (fun q s =>
      let have_ := sget (fun _ => 0) (s.line e).removed q
      let want := sget (fun _ => 0) relayed q
      let n := (want + 2 ^ 32 - have_) % 2 ^ 32
      if n = 0 ∨ 2 ^ 31 ≤ n then s
      else (setQueue e q ((s.queue e q).drop n) s).modLine e (fun l => { l with
        removed := sset (fun _ => 0) l.removed q want })))
  else s

/-- An engine that holds a claim lowers it to 0x0000 when it sees a peer claim higher than its own (R170). -/
def lowerClaim (e : Engine) (s : State) : State :=
  let peer := s.get (claimF e.peer)
  if (s.line e).claim ≠ 0 ∧ (s.line e).claim < peer then s.modLine e (fun l => { l with claim := 0 }) else s

/-! ### The step mark (R177) -/

/-- The step mark goes to an engine behind every frame already sent, in a status message of its own. -/
def sendMark (e : Engine) (s : State) : State :=
  let n := (s.line e).toLine.length
  (sendToLine e 4 [] 0 s).modLine e (fun l => { l with markIn := some n })

/-- STEP_MARK_SEND: once the digests are equal, the hub sends the step mark to both engines (R177). -/
def execStepMarkSend (s : State) : Out :=
  if s.pair.step = .markReady then
    .next (sendMark .lb (sendMark .la
      ((s.putB PX_CTRL_RESTEP false).modPair (fun p => { p with step := .marked, marksDue := [.la, .lb] }))))
  else .next s

/-- STEP_MARK: the mark, and what was sent ahead of it, reaches an engine. Behind a header that is wrong the mark is lost, and
the hub sends it again (R19, R177). -/
def execStepMark (m : LinkMessage) (s : State) : Out :=
  let e := m.engine
  match (s.line e).markIn with
  | none => .next s
  | some n =>
    let s := s.each (List.range n) (fun _ s => recvLine e s)
    if m.good then .next (recvLine e s)
    else .next (sendMark e (lineDrop e (s.modLine e (fun l => { l with toLine := l.toLine.tail }))))

/-- What R175 asks for since the last mark: no gap and no reset on either link, no discard, equal digests. -/
def State.cleanStep (s : State) : Bool :=
  !s.pair.digestDiff && [Engine.la, .lb].all (fun e => !(s.line e).gap && !(s.line e).discarded)

/-- STEP_BACK: the active reports every frame ahead of the mark removed: the pair is in step, unless R175 has failed since the
mark, and the procedure starts again at its digest wait (R175, R177). -/
def execStepBack (s : State) : Out :=
  if s.pair.mode = 2 ∧ s.pair.step = .marked ∧ s.pair.marksDue = [] ∧ (s.line s.active).markAt = some [] then
    if s.cleanStep then
      let s := pxFlag 3 (s.putB PX_STATUS_STEP true)
      let s := s.each [Engine.la, .lb] (fun e s => s.modLine e (fun l => { l with markAt := none }))
      .next (s.modPair (fun p => { p with step := .idle }))
    else .next (s.modPair (fun p => { p with step := .digestWait, digest := [] }))
  else .next s

/-! ### Triggers (R178, R179) -/

/-- Causes 2 to 4 are automatic. -/
def automatic (cause : Nat) : Bool := 2 ≤ cause && cause ≤ 4

/-- A trigger is refused: counted and flagged, and SWITCH reads back 0 (R178). -/
def refuseTrigger (s : State) : State := pxFlag 1 ((s.putB PX_CTRL_SWITCH false).bump (PX_CNT 1))

/-- A switch-over starts: PX sends RAISE to the target (R180). The gap of R184 begins. -/
def startSwitch (e : Engine) (cause : Nat) (s : State) : State :=
  let lv := s.gapLevels
  let s := (s.put PX_STATUS_PHASE 1).put PX_STATUS_LAST_CAUSE cause
  s.modPair (fun p => { p with sw := some ⟨e, cause, false⟩, ready := false, gpioHeld := lv })

/-- Judge a trigger: the standby takes over if it meets the condition, else the trigger is refused (R178). -/
def judgeTrigger (cause : Nat) (s : State) : State :=
  let standby := s.active.peer
  if automatic cause then
    if s.pair.mode = 0 || !s.isSet PX_CTRL_AUTO_EN || !s.holds cause then s
    else if s.meets standby cause then startSwitch standby cause s
    else if s.pair.judged.contains cause then s
    else (refuseTrigger s).modPair (fun p => { p with judged := cause :: p.judged })
  else if s.pair.mode ≠ 0 && s.meets standby cause then startSwitch standby cause s
  else refuseTrigger s

/-- Judge triggers of one cycle, highest first, until one starts a switch-over, which serves them all (R178). -/
def judgeList : List Nat → State → State
  | [], s => s
  | k :: ks, s => if s.pair.sw.isSome then s else judgeList ks (judgeTrigger k s)

/-- The causes of Table 07-3 among some, highest first. -/
def inOrder (ks : List Nat) : List Nat := [1, 2, 3, 4, 5, 6, 7].filter ks.contains

/-- Triggers held until a moment are judged then, each afresh (R178, R179). -/
def judgeHeld (ks : List Nat) (s : State) : State :=
  judgeList (inOrder ks) (s.modPair (fun p => { p with judged := p.judged.filter (fun k => !ks.contains k) }))

/-- The triggers of one cycle arrive: held while a switch-over is in progress; an automatic one held within GUARD; the others
judged (R178, R179). -/
def trigger (causes : List Nat) (s : State) : State :=
  let s := purgeJudged s
  let add (ks old : List Nat) : List Nat := old ++ ks.filter (fun k => !old.contains k)
  if s.pair.sw.isSome then s.modPair (fun p => { p with waiting := add causes p.waiting })
  else
    let late := causes.filter (fun k => automatic k && s.pair.guard)
    judgeList (inOrder (causes.filter (fun k => !late.contains k))) (s.modPair (fun p => { p with guarded := add late p.guarded }))

/-- SWITCHOVER_TRIGGER: the triggers of Table 07-3 that begin to hold, or arrive, in one cycle (R178). -/
def execSwitchoverTrigger (causes : List Nat) (s : State) : Out := .next (trigger (inOrder causes) s)

/-- AUTO_EN becomes 1: the automatic triggers that hold are judged (R178). -/
def autoOn (s : State) : State :=
  trigger ([2, 3, 4].filter s.holds) (s.modPair (fun p => { p with judged := [] }))

/-- A management write of SWITCH, with FORCE (R178, Table 07-8). -/
def pxSwitch (force : Bool) (s : State) : State :=
  trigger [if force then 1 else 6] ((s.putB PX_CTRL_FORCE force).putB PX_CTRL_SWITCH true)

/-- PX_SWITCH (R178). -/
def execPxSwitch (a : Agent) (force : Bool) (s : State) : Out := .next (s.byAgent [.carrier] a (pxSwitch force))

/-- PROTECTION_SWITCH_COMMAND: 1 is cause 5, 2 is cause 1, other values are refused by the managed entity (R188). -/
def execProtectionSwitchCommand (v : Nat) (s : State) : Out :=
  .next (if v = 1 then trigger [5] s else if v = 2 then trigger [1] s else s)

/-- GUARD_EXPIRY: the automatic triggers it held are judged if they still hold; a switch-over in progress holds them on
(R179). -/
def execGuardExpiry (s : State) : Out :=
  let ks := s.pair.guarded
  let s := s.modPair (fun p => { p with guard := false, guarded := [] })
  .next (if s.pair.sw.isSome then s.modPair (fun p => { p with waiting := p.waiting ++ ks }) else judgeHeld ks s)

/-! ### Modes (R167, R171, R172, R177) -/

/-- Neither engine holds a claim above 0x0000 (R171). -/
def State.unclaimed (s : State) : Bool :=
  s.get PX_CLAIMS_CLAIM_A = 0 && s.get PX_CLAIMS_CLAIM_B = 0 && (s.line .la).claim = 0 && (s.line .lb).claim = 0

/-- The engine that PRIMARY names. -/
def State.primary (s : State) : Engine := if s.isSet PX_CTRL_PRIMARY then .lb else .la

/-- A mode takes effect. In-step mode starts out of step, at the digest wait; outside it STEP reads 0 (R175, R177). -/
def takeMode (s : State) : State :=
  let m := s.get PX_CTRL_MODE
  let was := s.pair.mode
  let s := s.modPair (fun p => { p with mode := m, undo := none })
  if m = was then s
  else (s.putB PX_STATUS_STEP false).modPair (fun p => { p with
    step := if m = 2 then .digestWait else .idle, digest := [], marksDue := [] })

/-- Single mode on an engine that is not active needs a switch-over first, or is refused and undone (R172). A change that
finds a switch-over in progress waits for the settled state (R167). `old` is MODE and PRIMARY before the write. -/
def applyMode (old : Nat × Nat) (s : State) : State :=
  if s.unclaimed then takeMode s
  else if s.pair.sw.isSome then
    s.modPair (fun p => { p with undo := some (p.undo.getD old) })
  else if s.get PX_CTRL_MODE = 0 ∧ s.active ≠ s.primary ∧ (s.line s.active).claim ≠ 0 then
    if s.eligible s.primary then startSwitch s.primary 6 (s.modPair (fun p => { p with undo := none }))
    else
      let s := refuseTrigger ((s.put PX_CTRL_MODE old.1).put PX_CTRL_PRIMARY old.2)
      s.modPair (fun p => { p with undo := none })
  else takeMode s

/-- A write of MODE; 3 leaves the field unchanged (R7, R167). -/
def writeMode (m : Nat) (s : State) : State :=
  if m < 3 then applyMode (s.get PX_CTRL_MODE, s.get PX_CTRL_PRIMARY) (s.put PX_CTRL_MODE m) else s

/-- PX_MODE_WRITE (R167, R171, R172). -/
def execPxModeWrite (a : Agent) (mode : Nat) (s : State) : Out := .next (s.byAgent [.carrier] a (writeMode mode))

/-- A write of PRIMARY (R172). -/
def writePrimary (e : Engine) (s : State) : State :=
  applyMode (s.get PX_CTRL_MODE, s.get PX_CTRL_PRIMARY) (s.put PX_CTRL_PRIMARY e.n)

/-- PX_PRIMARY_WRITE (R171, R172). -/
def execPxPrimaryWrite (a : Agent) (e : Engine) (s : State) : Out := .next (s.byAgent [.carrier] a (writePrimary e))

/-! ### RAISE, SETTLE and the end of a switch-over (R180 to R185) -/

/-- RAISE: the standby sets its claim to 0x0002 (R180). -/
def execRaise (e : Engine) (s : State) : Out :=
  match s.pair.sw with
  | some w => .next (if w.target = e then s.modLine e (fun l => { l with claim := 2 }) else s)
  | none => .next s

/-- The pair is settled: the switch-over counts, GUARD starts, a mode that waited is applied, and the triggers that the
switch-over held are judged, automatic ones too (R167, R172, R179, R180). -/
def settled (s : State) : State :=
  let ks := s.pair.waiting
  let s := ((s.put PX_STATUS_PHASE 0).putB PX_CTRL_SWITCH false).bump (PX_CNT 0)
  let s := s.modPair (fun p => { p with sw := none, waiting := [], guard := s.get PX_CFG_GUARD ≠ 0 })
  let s := match s.pair.undo with
    | some old => applyMode old s
    | none => takeMode s
  if s.pair.sw.isSome then s.modPair (fun p => { p with waiting := ks }) else judgeHeld ks s

/-- SETTLE: the engine's claim becomes 0x0001, which the referee receives in a header as any other. In a switch-over it
completes step 5; before any claim it is the primary's first (R168, R171, R180). -/
def execSettle (e : Engine) (s : State) : Out :=
  match s.pair.sw with
  | some w =>
    if w.target = e ∧ s.get PX_STATUS_PHASE = 2 then .next (settled (s.modLine e (fun l => { l with claim := 1 })))
    else .next s
  | none =>
    if s.unclaimed ∧ s.primary = e then .next (s.modLine e (fun l => { l with claim := 1 })) else .next s

/-- READY_POINT: the new active drops its shadow assemblies, counted as SHADOW, and the grants whose assembly has begun, and
sets RS on every bonded slot (R182, R174, R130). -/
def readyEngine (e : Engine) (s : State) : State :=
  let s := usResync e s
  s.each channels (fun c s =>
    let n := ((s.ch e c).bursts.filter (·.shadow)).length
    (s.bump (BURST_CNT e.n c.val 9) n).modCh e c (fun x => { x with
      bursts := x.bursts.filter (fun b => !b.shadow)
      grants := x.grants.filter (fun g => match s.profileOf e c g with
        | some p => decide (s.uiNow + 2985984000 < launchOf p g)
        | none => true) }))

/-- RECOVERY_EXPIRY: practice mode ends (R185). -/
def execRecoveryExpiry (s : State) : Out := .next (s.putB PX_STATUS_PRACTICE false)

end Sys2Proof.Machine
end

