-- ==== Sys2Proof/Machine/Sched.lean ====
section
/-! DEFINITION. Queues, the scheduler's tree, shapers, meters and turn lists (13_scheduling_turns.md). -/
namespace Sys2Proof.Machine

/-! ### Action words (Table 11-3) -/

/-- KIND of an action word: 0 DROP, 1 QUEUE, 2 NEXT, 3 RECIRC. -/
def actKind (w : Nat) : Nat := w / 2 ^ 62 % 4
/-- QUEUE. -/
def actQueue (w : Nat) : Nat := w / 2 ^ 49 % 8192
/-- SC_OP of a QUEUE word. -/
def actScOp (w : Nat) : Nat := w / 2 ^ 30 % 4
/-- SC of a QUEUE word. -/
def actSc (w : Nat) : Nat := w / 2 ^ 18 % 4096
/-- CLASS of a QUEUE word. -/
def actClass (w : Nat) : Nat := w / 2 ^ 15 % 8
/-- COPY_TC. -/
def actCopy (w : Nat) : Bool := w / 2 ^ 14 % 2 = 1
/-- A QUEUE word for a frame that tenant firmware sends or that is copied to it: queue and class. -/
def queueWord (q cls : Nat) : Nat := 2 ^ 62 + q * 2 ^ 49 + cls * 2 ^ 15

/-- The final action of a frame; DROP while it has none. -/
def Frame.act (x : Frame) : Nat := x.action.getD 0

/-- The bytes an encrypted frame gains: its SecTAG and a 16-byte ICV (R368). -/
def State.secBytes (s : State) (sc : Nat) : Nat := if s.isSet (CE_SC_INCL_SCI sc) then 32 else 24

/-! ### Freeing frames -/

/-- Class 1 or an ingress lets go of a frame's tiles (R322). -/
def freeFrameTiles (x : Frame) (s : State) : State :=
  match x.head with
  | some h => freeHandle h (s.tile (handleTile h)).owner 255 s
  | none => s

/-- A frame leaves the hub: its tiles are freed. -/
def dropFrame (f : Nat) (s : State) : State :=
  match s.frame f with
  | some x => freeFrameTiles x (setFrame f none s)
  | none => s

/-! ### The tree (R333, R334) -/

/-- The frames of a queue, oldest first. -/
def State.qlist (s : State) (q : Nat) : List Nat := sget (fun _ => []) s.qs.queues q

/-- A queue takes a list of frames; TILES and FRAMES follow (Table 13-9). -/
def putQueue (q : Nat) (fs : List Nat) (s : State) : State :=
  let s := { s with qs := { s.qs with queues := sset (fun _ => []) s.qs.queues q fs } }
  let tiles := (fs.map (fun f => match s.frame f with | some x => tilesFor x.bytes.length | none => 0)).foldl (· + ·) 0
  (s.put (QS_QTILES_TILES q) tiles).put (QS_QFRAMES_FRAMES q) fs.length

/-- A configuration word whose two copies are bad (R361). -/
def State.cfgBad (s : State) (addr : Nat) : Bool := s.qs.bad.contains addr

/-- A queue in use. -/
def State.queueValid (s : State) (q : Nat) : Bool := s.isSet (QS_Q_VALID q) && !s.cfgBad (QS_Q q)

/-- A node in use: L0 nodes 0 to 134 are, whatever VALID says (Table 13-7). -/
def State.nodeValid (s : State) (n : Nat) : Bool :=
  if n < 192 then n ≤ 134 else s.isSet (QS_NODE_VALID n) && !s.cfgBad (QS_NODE n)

/-- Parent of a child: a node, or queue q as 1,472 + q. -/
def State.parentOf (s : State) (c : Nat) : Nat :=
  if c < 1472 then s.get (QS_NODE_PARENT c) else s.get (QS_Q_PARENT (c - 1472))

/-- Band of a child in its parent. -/
def State.bandOf (s : State) (c : Nat) : Nat :=
  if c < 1472 then s.get (QS_NODE_BAND c) else s.get (QS_Q_BAND (c - 1472))

/-- Weight of a child. -/
def State.weightOf (s : State) (c : Nat) : Nat :=
  if c < 1472 then s.get (QS_NODE_WEIGHT c) else s.get (QS_Q_WEIGHT (c - 1472))

/-- The L2, L1 and L0 nodes of a queue's chain, where each is a valid node of its level. -/
def State.chainOf (s : State) (q : Nat) : Option (Nat × Nat × Nat) :=
  let n2 := s.parentOf (1472 + q)
  let n1 := s.parentOf n2
  let n0 := s.parentOf n1
  if 448 ≤ n2 ∧ n2 < 1472 ∧ 192 ≤ n1 ∧ n1 < 448 ∧ n0 < 192 ∧ s.nodeValid n2 ∧ s.nodeValid n1 ∧ s.nodeValid n0 then
    some (n2, n1, n0)
  else none

/-- A line queue. -/
def State.isLine (s : State) (q : Nat) : Bool := s.isSet (QS_QGATE_LINE q)

/-- The enabled framer that serves a lane (R395). -/
def State.framerOf (s : State) (lane : Nat) : Option Nat :=
  (List.range 32).find? (fun f => s.isSet (CF_CFG_EN f) && s.get (CF_CFG_LANE f) = lane)

/-- A lane runs in a CBR mode (R230). -/
def State.laneCbr (s : State) (l : Nat) : Bool := !s.quad100 l && cbrMode (s.laneMode l)

/-- The L0 node through which a queue's frames leave; none: MISROUTE (R334, R406). -/
def State.egressOf (s : State) (q : Nat) : Option Nat :=
  match s.chainOf q with
  | some (_, _, n0) =>
    if n0 < 128 ∧ (!s.portExists n0 || (s.laneCbr n0 && (s.framerOf n0).isNone)) then none
    else if s.isLine q then (if 128 ≤ n0 ∧ n0 ≤ 132 then some n0 else none)
    else if 128 ≤ n0 ∧ n0 ≤ 133 then none
    else some n0
  | none => none

/-! ### Enqueueing (R334 to R336) -/

/-- A frame dropped at a queue: counted in its DROP, its tiles freed. -/
def dropAtQueue (q f : Nat) (s : State) : State := dropFrame f (s.bump (QS_QCNT q 2))

/-- A frame that enters a hub line queue bound to a slot of an engine wakes that engine while its LOCAL_WAKE is 1 (R163). -/
def wakeLocal (q : Nat) (s : State) : State :=
  if s.isLine q then
    s.each [Engine.la, .lb] (fun e s => s.when (s.isSet (BURST_PM_CFG_LOCAL_WAKE e.n) &&
      s.isSet (BURST_SLOT_VALID e.n (s.get (QS_QGATE_LQ q) / 8))) (wakeEvent e 3))
  else s

/-- A frame is judged for admission to a queue and joins it (R334, R336). -/
def takeIn (q f : Nat) (s : State) : State :=
  match s.frame f with
  | none => s
  | some x =>
    if !s.queueValid q then dropAtQueue q f (qsFlag 1 (s.bump (QS_CNT 2)))
    else if (s.egressOf q).isNone then dropFrame f (qsFlag 2 (s.bump (QS_CNT 3)))
    else
      let n := s.get (QS_QTILES_TILES q) + tilesFor x.bytes.length
      let yellow := x.yellow || x.red
      let limit := if yellow then s.get (QS_QMAX_YMAX q) * 16 else s.get (QS_QMAX_MAX q) * 16
      if limit < n then dropAtQueue q f (qsFlag 0 (s.bump (QS_CNT (if yellow then 1 else 0))))
      else
        let s := match x.head with | some h => giveTiles h 1 s | none => s
        let s := setFrame f (some { x with queue := some q }) s
        wakeLocal q (putQueue q (s.qlist q ++ [f]) (s.bump (QS_QCNT q 0)))

/-- Whether a frame may be enqueued: its FCS has been checked, its action is final and, with SC_OP 0b01, it has been
verified (R16, R336). -/
def Frame.enqueueable (x : Frame) : Bool :=
  x.checked && x.action.isSome && actKind x.act = 1 && x.queue.isNone && (actScOp x.act ≠ 1 || x.verified)

/-- An older frame of the same ingress that its action sends to the same queue has not entered it: frames of one ingress and one
queue keep their order (R17). -/
def State.overtakes (s : State) (frame : Nat) (x : Frame) : Bool :=
  s.frames.any (fun y => decide (y.1 < frame) && y.2.any (fun g =>
    g.origin = x.origin && g.queue.isNone && g.action.isSome && actKind g.act = 1 && actQueue g.act = actQueue x.act))

/-! ### Shapers (R342) -/

/-- The size of a shaper's bucket in 1/8,000 byte. -/
def State.bucketCap (s : State) (i : Nat) : Int := s.get (QS_SHAPER_BURST i) * 256 * 8000

/-- A shaper's bucket now: it gains RATE 1/8,000 byte in each TIME cycle of 1 ns. -/
def State.bucket (s : State) (i : Nat) : Int :=
  match sget (fun _ => none) s.qs.buckets i with
  | some (v, t) => min (s.bucketCap i) (v + s.get (QS_SHAPER_RATE i) * (s.now - t))
  | none => s.bucketCap i

/-- A shaper's bucket takes a value. -/
def setBucket (i : Nat) (v : Option Int) (s : State) : State :=
  { s with qs := { s.qs with buckets := sset (fun _ => none) s.qs.buckets i (v.map (fun x => (x, s.now))) } }

/-- A shaper lets its child pass: RATE 0 never blocks. -/
def State.shaperOk (s : State) (i : Nat) : Bool := s.get (QS_SHAPER_RATE i) = 0 || decide (0 ≤ s.bucket i)

/-- A selection charges a shaper. -/
def chargeShaper (i len : Nat) (s : State) : State := setBucket i (some (s.bucket i - len * 8000)) s

/-- A write to a shaper fills its bucket. -/
def writeShaper (a : Agent) (i : Nat) (w : Word) (s : State) : State := setBucket i none (writeFields a (QS_SHAPER i) w s)

/-- SHAPER_WRITE (R342). -/
def execShaperWrite (a : Agent) (i : Nat) (w : Word) (s : State) : Out :=
  .next (s.byAgent [.tenant, .host] a (fun s => if i < 9664 then writeShaper a i w s else s))

/-! ### Gates (R348, R349, R354) -/

/-- The operational copy of a list. -/
def State.operList (s : State) (l : Nat) : Option OperList := sget (fun _ => none) s.qs.oper l

/-- The turns of a list as they run in one cycle: length in ns and word, cut at CYCLE, the last one held to its end
(R348). -/
def cutTurns (cycle : Nat) : List Word → List (Nat × Word)
  | [] => []
  | [w] => if cycle = 0 then [] else [(cycle, w)]
  | w :: ws =>
    if cycle = 0 then []
    else if cycle ≤ w.field 21 0 then [(cycle, w)]
    else (w.field 21 0, w) :: cutTurns (cycle - w.field 21 0) ws

/-- The turns of a copy whose words stand at an address. -/
def State.turnsAt (s : State) (addr len cycle : Nat) : List (Nat × Word) := cutTurns cycle (s.words addr len)

/-- The position of a list at a house time, in pips from the start of its cycle. -/
def listPos (base cycle t : Nat) : Nat := (((t : Int) - base) % ((cycle * 2 ^ 32 : Nat) : Int)).toNat

/-- The turn that runs at a position in pips, and what is left of it: its index and the rest. -/
def turnAt (pos : Nat) : List (Nat × Word) → Nat → Option (Nat × Word × Nat)
  | [], _ => none
  | (d, w) :: ts, k =>
    if pos < d * 2 ^ 32 then some (k, w, d * 2 ^ 32 - pos) else turnAt (pos - d * 2 ^ 32) ts (k + 1)

/-- How long a gate stays open through a run of turns, and the turn that closes it. -/
def openRun (gate : Nat) : List (Nat × Word) → Nat × Option Word
  | [] => (0, none)
  | (d, w) :: ts =>
    if w.field (22 + gate) (22 + gate) = 1 then ((openRun gate ts).1 + d * 2 ^ 32, (openRun gate ts).2) else (0, some w)

/-- From a house time on, how long a gate stays open under one copy, in pips, and the turn that closes it; no turn: it
never closes. -/
def openFor (turns : List (Nat × Word)) (base cycle gate t : Nat) : Nat × Option Word :=
  match turnAt (listPos base cycle t) turns 0 with
  | none => (0, none)
  | some (k, w, rest) =>
    if w.field (22 + gate) (22 + gate) = 1 then
      let x := openRun gate (turns.drop (k + 1) ++ turns.take (k + 1))
      (rest + x.1, x.2)
    else (0, some w)

/-- C of a list's pending change, if one is pending. -/
def State.pendingAt (s : State) (l : Nat) : Option Nat :=
  if s.isSet (QS_TL_CTRL_PENDING l) then some (sget (fun _ => 0) s.qs.change l) else none

/-- From now on, how long gate `g` of list `l` stays open in pips, and the turn that closes it, a pending change included
(R349, R354). -/
def State.gateOpen (s : State) (l g : Nat) : Nat × Option Word :=
  let t := s.house
  let later (c : Nat) : Nat × Option Word :=
    openFor (s.turnsAt (QS_TL_TURN l 0) (s.get (QS_TL_CTRL_LEN l)) (s.reg (QS_TL_CYCLE l)).toNat) c (s.reg (QS_TL_CYCLE l)).toNat g c
  match s.operList l with
  | some o =>
    let x := openFor (s.turnsAt (QS_TL_OPER l 0) o.len o.cycle) o.base o.cycle g t
    match s.pendingAt l with
    | some c => if c ≤ t ∨ (x.2.isSome ∧ x.1 ≤ c - t) then x else ((later c).1 + (c - t), (later c).2)
    | none => x
  | none =>
    match s.pendingAt l with
    | some c => if c ≤ t then (0, none) else ((later c).1 + (c - t), (later c).2)
    | none => (0, none)

/-- The class of a queue's head frame. -/
def State.headFrame (s : State) (q : Nat) : Option Frame :=
  match s.qlist q with
  | f :: _ => s.frame f
  | [] => none

/-- MAC merge runs on a port (R353). -/
def State.merged (s : State) (p : Nat) : Bool := s.get (CM_MM_MM_STATE p) = 2 || s.get (CM_MM_MM_STATE p) = 4

/-- A class is express on a port: every class where no MAC merge runs (R251, R252). -/
def State.express (s : State) (p cls : Nat) : Bool := !s.merged p || s.isSet ((CM_MM_EXPRESS p).bit cls)

/-- The smallest fragment of a port's partner (R251). -/
def State.minFragment (s : State) (p : Nat) : Nat := 64 * (1 + s.get (CM_MM_ADD_FRAG p))

/-- The charged length of a frame at an L0 node (R338). -/
def State.charged (s : State) (n0 : Nat) (x : Frame) : Nat :=
  ((x.bytes.length : Int) + signed 8 (s.get (QS_NODE_OH_OVERHEAD n0)) + (if actScOp x.act = 2 then 32 else 0)).toNat

/-- Pips that `n` bytes take at the data rate of a port. -/
def State.wirePips (s : State) (p n : Nat) : Nat := (n * 8 * 2 ^ 32 + s.portRate p - 1) / s.portRate p

/-- A queue's head frame passes its gate (R349, R354). -/
def State.gateOk (s : State) (q n0 : Nat) (x : Frame) : Bool :=
  let l := s.get (QS_QGATE_GATE_LIST q)
  if !s.isSet (QS_QGATE_GATE_EN q) || (s.operList l).isNone && (s.pendingAt l).isNone then true
  else
    let g := s.gateOpen l (s.get (QS_QGATE_GATE_BIT q))
    match g.2 with
    | none => true
    | some w =>
      if 128 ≤ n0 then decide (0 < g.1)
      else if s.wirePips n0 (s.charged n0 x) ≤ g.1 then true
      else
        s.merged n0 && !s.express n0 (actClass x.act) && w.field 31 30 = 1 &&
        decide (2 * s.minFragment n0 ≤ x.bytes.length) && decide (0 < g.1) &&
        decide (s.wirePips n0 (s.minFragment n0) ≤ g.1)

/-! ### Eligibility (R337, R355, R358) -/

/-- A port holds a class back (R355). -/
def State.portHolds (s : State) (p cls : Nat) : Bool :=
  let x := s.port p
  x.pauseUntil.isSome || x.wakeHold || x.classPause.any (fun c => c.1 = cls)

/-- The engines whose room counts, and whose links carry the frame: both in in-step mode, otherwise the active one (R18,
R167, R358). -/
def State.roomEngines (s : State) : List Engine := if s.pair.mode = 2 then [.la, .lb] else [s.active]

/-- The length of a frame after encryption. -/
def State.sentLen (s : State) (x : Frame) : Nat :=
  x.bytes.length + (if actScOp x.act = 2 && !x.secured then s.secBytes (actSc x.act) else 0)

/-- Cells that a frame takes in a slot (R139). -/
def cellsFor (n : Nat) : Nat := (n + 16 + 255) / 256

/-- The frames selected for an L0 node that have not left it. -/
def State.stageOf (s : State) (n : Nat) : List Nat := sget (fun _ => []) s.qs.egress n

/-- The cells of the frames selected for a slot that wait for their encryption: they have yet to be subtracted from its room. -/
def State.stagedCells (s : State) (slot : Nat) : Nat :=
  ((([128, 129, 130, 131, 132].flatMap s.stageOf).filterMap s.frame).map (fun x => match x.queue with
    | some q => if s.get (QS_QGATE_LQ q) / 8 = slot then cellsFor (s.sentLen x) else 0
    | none => 0)).foldl (· + ·) 0

/-- The slot of a line queue has room for its head frame beside those selected before it (R139, R358). -/
def State.roomOk (s : State) (q : Nat) (x : Frame) : Bool :=
  let slot := s.get (QS_QGATE_LQ q) / 8
  s.roomEngines.all (fun e =>
    decide (cellsFor (s.sentLen x) + s.stagedCells slot ≤ sget (fun _ => 0) (s.line e).hubRoom slot))

/-- Why a queue is not eligible (BLOCK of Table 13-9): gate, shaper, pause, room. -/
def State.blocks (s : State) (q : Nat) : List Bool :=
  match s.headFrame q, s.chainOf q with
  | some x, some (_, _, n0) =>
    [!s.gateOk q n0 x, !s.shaperOk (1472 + q), decide (n0 < 128) && s.portHolds n0 (actClass x.act),
     s.isLine q && !s.roomOk q x]
  | _, _ => [false, !s.shaperOk (1472 + q), false, false]

/-- A queue is eligible (R337). -/
def State.queueEligible (s : State) (q : Nat) : Bool :=
  (s.headFrame q).isSome && (s.chainOf q).isSome && (s.blocks q).all (· = false)

/-- The queues that hold a frame. -/
def State.busyQueues (s : State) : List Nat := s.qs.queues.map (·.1)

/-- The distinct parents of children, those whose shaper lets them pass. -/
def State.parentsOf (s : State) (cs : List Nat) : List Nat := ((cs.map s.parentOf).eraseDups).filter s.shaperOk

/-- The eligible children at every level, given the queues that are: queues, L2 and L1 nodes. -/
def State.eligibleOver (s : State) (qs : List Nat) : List Nat :=
  let l3 := qs.map (1472 + ·)
  let l2 := s.parentsOf l3
  l3 ++ l2 ++ s.parentsOf l2

/-! ### Virtual time (R339 to R341) -/

/-- A child's tag. -/
def State.tagOf (s : State) (c : Nat) : Nat := sget (fun _ => 0) s.qs.tags c

/-- V of a band of a node. -/
def State.vOf (s : State) (n b : Nat) : Nat := sget (fun _ => 0) s.qs.vt (8 * n + b)

/-- A tag lies ahead of V. -/
def tagAhead (tag v : Nat) : Bool :=
  let d := (tag + (2 ^ 32 - v % 2 ^ 32)) % 2 ^ 32
  1 ≤ d && d ≤ 2 ^ 31 - 1

/-- The waking rule for a child that becomes eligible (R339, R341). -/
def wake (c : Nat) (s : State) : State :=
  let n := s.parentOf c
  let b := s.bandOf c
  let v := s.vOf n b
  let recent := match sget (fun _ => none) s.qs.lastOn c with | some t => decide (s.now - t < 10000) | none => false
  let same := sget (fun _ => none) s.qs.place c = some (8 * n + b)
  let tag := if recent && same && tagAhead (s.tagOf c) v then s.tagOf c else v
  { s with qs := { s.qs with tags := sset (fun _ => 0) s.qs.tags c tag
                             place := sset (fun _ => none) s.qs.place c (some (8 * n + b)) } }

/-- What has become eligible, or ceased to be, since the scheduler last looked. -/
def observe (s : State) : State :=
  let now := s.eligibleOver (s.busyQueues.filter s.queueEligible)
  let gone := s.qs.live.filter (fun c => !now.contains c)
  let s := s.each gone (fun c s => { s with qs := { s.qs with lastOn := sset (fun _ => none) s.qs.lastOn c (some s.now) } })
  let fresh := now.filter (fun c =>
    !s.qs.live.contains c || sget (fun _ => none) s.qs.place c ≠ some (8 * s.parentOf c + s.bandOf c))
  let s := s.each fresh wake
  { s with qs := { s.qs with live := now } }

/-- The child that a node serves: highest band, smallest tag, lower number (R339). -/
def State.pick (s : State) (n : Nat) (eligible : List Nat) : Option Nat :=
  let cs := eligible.filter (fun c => s.parentOf c = n)
  let b := (cs.map s.bandOf).foldl max 0
  let ahead (c : Nat) : Nat := (s.tagOf c + 2 ^ 31 + (2 ^ 32 - s.vOf n b % 2 ^ 32)) % 2 ^ 32
  (cs.filter (fun c => s.bandOf c = b)).foldl (fun best c =>
    match best with
    | none => some c
    | some d => if ahead c < ahead d || (ahead c = ahead d && decide (c < d)) then some c else some d) none

/-- A node serves a child with a frame of a charged length (R339, R342). -/
def serve (n c len : Nat) (s : State) : State :=
  let b := s.bandOf c
  let tag := s.tagOf c
  let w := max 1 (s.weightOf c)
  let s := { s with qs := { s.qs with
    vt := sset (fun _ => 0) s.qs.vt (8 * n + b) tag
    tags := sset (fun _ => 0) s.qs.tags c ((tag + (len * 1024 + w - 1) / w) % 2 ^ 32) } }
  chargeShaper c len s

/-! ### Egress -/

/-- The frames of an egress stage. -/
def setEgress (n : Nat) (fs : List Nat) (s : State) : State :=
  { s with qs := { s.qs with egress := sset (fun _ => []) s.qs.egress n fs } }

/-- Whether a frame is express at an L0 node. -/
def State.frameExpress (s : State) (n : Nat) (f : Nat) : Bool :=
  match s.frame f with
  | some x => decide (128 ≤ n) || s.express n (actClass x.act)
  | none => false

/-- The egress of an L0 node can take a frame of a kind (R337, R353): a client port that is up, awake and has no frame of
that kind waiting, the framer of a CBR lane, and a line node, the recirculation port or the controller port with none waiting,
so that no frame passes one that waits for its encryption (R17). -/
def State.egressOpen (s : State) (n : Nat) (expr : Bool) : Bool :=
  if n < 128 then
    if s.laneCbr n then (s.framerOf n).isSome
    else s.portUp n && !s.isSet (CL_STATUS_LPI_TX n) && !(s.stageOf n).any (fun f => s.frameExpress n f = expr) &&
      (expr || !(s.port n).held)
  else (s.stageOf n).isEmpty

/-- A frame of a line queue goes to the engines whose room counts, which it uses up, and leaves the hub (R18, R139). -/
def sendFrame (f : Nat) (x : Frame) (s : State) : State :=
  let lq := match x.queue with | some q => s.get (QS_QGATE_LQ q) | none => 0
  let n := cellsFor x.bytes.length
  let s := s.each s.roomEngines (fun e s =>
    sendToLine e 0 x.bytes lq (s.modLine e (fun l =>
      { l with hubRoom := sset (fun _ => 0) l.hubRoom (lq / 8) (sget (fun _ => 0) l.hubRoom (lq / 8) - n) })))
  dropFrame f s

/-- The trailer that the controller port adds: the ingress stamp (R212). -/
def stampTrailer (t : Nat) : List Byte :=
  bytesBE 8 (t / second) ++ bytesBE 4 (t / 2 ^ 32 % 1000000000) ++ bytesBE 4 (t % 2 ^ 32 / 2 ^ 29 * 2 ^ 29)

/-- A frame is at its egress, encrypted where its action asks for it: the line and the controller port take it at once; a
client port and a framer take it from the stage. -/
def release (n f : Nat) (s : State) : State :=
  match s.frame f with
  | none => s
  | some x =>
    let rest := (s.stageOf n).filter (· ≠ f)
    if 128 ≤ n ∧ n ≤ 132 then sendFrame f x (setEgress n rest s)
    else if n = 134 then dropFrame f { setEgress n rest s with ctlRecv := s.ctlRecv ++ [x.bytes ++ stampTrailer x.stamp] }
    else s

/-- The head frame of a queue goes to the egress of an L0 node. -/
def dequeue (n q : Nat) (s : State) : State :=
  match s.qlist q with
  | [] => s
  | f :: fs =>
    let s := setEgress n (s.stageOf n ++ [f]) (putQueue q fs (s.bump (QS_QCNT q 1)))
    match s.frame f with
    | some x => if actScOp x.act = 2 then s else release n f s
    | none => s

/-- One selection for an L0 node among given queues (R339). -/
def selectFrom (n : Nat) (qs : List Nat) (s : State) : Option State :=
  let el := s.eligibleOver qs
  match s.pick n el with
  | none => none
  | some c1 =>
    match s.pick c1 el with
    | none => none
    | some c2 =>
      match s.pick c2 el with
      | none => none
      | some c3 =>
        let q := c3 - 1472
        match s.headFrame q with
        | none => none
        | some x =>
          let len := s.charged n x
          some (observe (dequeue n q (chargeShaper n len (serve n c1 len (serve c1 c2 len (serve c2 c3 len s))))))

/-- The head of the recirculation queue goes to the recirculation port, when its node may serve it (R335). -/
def selectRecirc (s : State) : State :=
  match s.recirc with
  | (f, _, _) :: _ =>
    if s.egressOpen 133 true && s.shaperOk 133 then
      let len := match s.frame f with | some x => s.charged 133 x | none => 0
      chargeShaper 133 len (setEgress 133 [f] s)
    else s
  | [] => s

/-- FRAME_SELECT: an express frame first where the port keeps two selections (R337 to R342, R353). -/
def frameSelect (n : Nat) (s : State) : State :=
  if n = 133 then selectRecirc s
  else if !s.shaperOk n then observe s
  else
    let s := observe s
    let qs := s.busyQueues.filter s.queueEligible
    let kind (expr : Bool) : List Nat := qs.filter (fun q => match s.qlist q with | f :: _ => s.frameExpress n f = expr | [] => false)
    let try_ (expr : Bool) : Option State := if s.egressOpen n expr then selectFrom n (kind expr) s else none
    match try_ true with
    | some s' => s'
    | none =>
      match try_ false with
      | some s' => s'
      | none => s

/-- FRAME_SELECT. -/
def execFrameSelect (n : L0Node) (s : State) : Out := .next (frameSelect n.val s)

/-- FRAME_ENQUEUE (R17, R334, R336). -/
def execFrameEnqueue (frame : Nat) (s : State) : Out :=
  match s.frame frame with
  | some x => if x.enqueueable && !s.overtakes frame x then .next (observe (takeIn (actQueue x.act) frame s)) else .next s
  | none => .next s

/-- Every frame of a queue is discarded and counted (R360). -/
def flushHub (q : Nat) (s : State) : State :=
  let fs := s.qlist q
  observe (s.each fs (fun f s => dropAtQueue q f s) |> putQueue q [])

/-- QUEUE_FLUSH (R360). -/
def execQueueFlush (a : Agent) (q : Nat) (s : State) : Out :=
  .next (s.byAgent [.tenant, .host] a (fun s => if q < 8192 then flushHub q s else s))

/-! ### Meters (R343 to R347) -/

/-- The buckets of a meter now: C, and P or E, in 1/125,000 byte (R344). -/
def State.meterNow (s : State) (m : Nat) : Nat × Nat :=
  let x := sget (fun _ => (0, 0, 0)) s.qs.meters m
  let dt := s.now - x.2.2
  let cir := s.get (QS_METER_CIR m)
  let mode := s.get (QS_METER_MODE m)
  let eir := if mode = 0 then max (s.get (QS_METER_EIR m)) cir else s.get (QS_METER_EIR m)
  let capC := s.get (QS_METER_CBS m) * 64 * 125000
  let capE := s.get (QS_METER_EBS m) * 64 * 125000
  let c := x.1 + cir * dt
  let spill := if mode = 2 then c - capC else 0
  (min capC c, min capE (x.2.1 + eir * dt + spill))

/-- The buckets of a meter take values. -/
def setMeter (m c e : Nat) (s : State) : State :=
  { s with qs := { s.qs with meters := sset (fun _ => (0, 0, 0)) s.qs.meters m (c, e, s.now) } }

/-- Both buckets are filled. -/
def fillMeter (m : Nat) (s : State) : State :=
  setMeter m (s.get (QS_METER_CBS m) * 64 * 125000) (s.get (QS_METER_EBS m) * 64 * 125000) s

/-- The colours: 0 green, 1 yellow, 2 red (R344). Answers the colour and the buckets afterwards; `len` in 1/125,000
byte. -/
def judgeColour (mode inC c e len : Nat) : Nat × Nat × Nat :=
  if mode = 0 then
    if inC = 2 ∨ e < len then (2, c, e)
    else if inC = 1 ∨ c < len then (1, c, e - len)
    else (0, c - len, e - len)
  else
    if inC = 0 ∧ len ≤ c then (0, c - len, e)
    else if inC ≠ 2 ∧ len ≤ e then (1, c, e - len)
    else (2, c, e)

/-- Meters run in practice mode for a cause other than their own bit (R346). -/
def State.practiceAll (s : State) : Bool := s.isSet QS_CFG_PRACTICE_ALL || s.isSet PX_STATUS_PRACTICE

/-- A meter judges a frame of `len` bytes (R343, R344): its colour, the frame's drop, and the counters. -/
def meterFrame (m inC len : Nat) (s : State) : Nat × Bool × State :=
  let b := s.meterNow m
  let j := if s.cfgBad (QS_METER m) then (2, b.1, b.2) else judgeColour (s.get (QS_METER_MODE m)) inC b.1 b.2 (len * 125000)
  let s := ((setMeter m j.2.1 j.2.2 s).put (QS_METER_LAST_LAST m) j.1).bump (QS_MCNT m j.1)
  if j.1 ≠ 2 then (j.1, false, s)
  else if s.practiceAll || s.isSet (QS_METER_PRACTICE m) then (2, false, qsFlag 4 (s.bump (QS_CNT 5)))
  else (2, true, qsFlag 3 (s.bump (QS_CNT 4)))

/-- A write of the word at +0x8 installs the meter and fills it (R347). -/
def installMeter (a : Agent) (m : Nat) (w : Word) (s : State) : State :=
  let base := QS_METER m
  let put1 (k : Nat) (s : State) : State :=
    match s.heldWord a (base + 4 * k) with
    | some v => writeFields a (base + 4 * k) v s
    | none => s
  let s := writeFields a (base + 8) w (put1 1 (put1 0 s))
  let s := { s with qs := { s.qs with bad := s.qs.bad.filter (· ≠ base) } }
  fillMeter m (clearHeld a base (base + 12) s)

/-- METER_INSTALL (R347). -/
def execMeterInstall (a : Agent) (m : Nat) (w : Word) (s : State) : Out :=
  .next (s.byAgent [.tenant, .host] a (fun s => if m < 65536 then installMeter a m w s else s))

/-! ### Turn lists (R348 to R352) -/

/-- The turn that begins tells the MAC of its port to hold or release, where MAC merge is verified (R352). -/
def startTurn (l : Nat) (s : State) : State :=
  match s.operList l with
  | none => s
  | some o =>
    match turnAt (listPos o.base o.cycle s.house) (s.turnsAt (QS_TL_OPER l 0) o.len o.cycle) 0 with
    | none => s
    | some (k, w, _) =>
      let s := s.put (QS_TL_CUR_CUR_TURN l) k
      if !s.merged o.port then s
      else if w.field 31 30 = 1 then s.modPort o.port (fun x => { x with held := true })
      else if w.field 31 30 = 2 then s.modPort o.port (fun x => { x with held := false })
      else s

/-- TURN_START: the running turn of a list begins (R348, R352). -/
def execTurnStart (l : TList) (s : State) : Out := .next (observe (startTurn l.val s))

/-- A time as the three words of BASE and CHANGE. -/
def putTime3 (addr t : Nat) (s : State) : State := putWords addr ((timeWords t).take 3) s

/-- The pending copy becomes operational with base C (R350, R352). -/
def changeList (l : Nat) (s : State) : State :=
  match s.pendingAt l with
  | none => s
  | some c =>
    let old := s.operList l
    let len := s.get (QS_TL_CTRL_LEN l)
    let cycle := (s.reg (QS_TL_CYCLE l)).toNat
    let turns := s.words (QS_TL_TURN l 0) len
    let o : OperList := ⟨c, cycle, len, s.get (QS_TL_CTRL_PORT l)⟩
    let s := putWords (QS_TL_OPER l 0) (s.words (QS_TL_TURN l 0) 256) s
    let s := (s.setReg (QS_TL_OCYCLE l) (BitVec.ofNat 32 cycle)).putB (QS_TL_CTRL_PENDING l) false
    let s := { s with qs := { s.qs with oper := sset (fun _ => none) s.qs.oper l (some o) } }
    let s := qsFlag 5 ((s.putB (QS_TL_CTRL_OPER l) true).bump (QS_CNT 9))
    let s := match old with
      | some p => if turns.all (fun w => w.field 31 30 ≠ 1) then s.modPort p.port (fun x => { x with held := false }) else s
      | none => s
    startTurn l s

/-- TL_CHANGE: house time reaches C (R350). -/
def execTlChange (l : TList) (s : State) : Out :=
  match s.pendingAt l.val with
  | some c => .next (observe (changeList l.val (s.reachHouse c)))
  | none => .next s

/-- The time C of a change applied at `now`, and whether BASE was late (R350). -/
def State.changeTime (s : State) (l now : Nat) : Nat × Bool :=
  let base := wordsTime (s.words (QS_TL_BASE l) 3)
  let cycle := (s.reg (QS_TL_CYCLE l)).toNat * 2 ^ 32
  let target := now + s.get QS_CFG_LEAD * 100 * 2 ^ 32
  if target ≤ base then (base, false) else (base + (target - base + cycle - 1) / cycle * cycle, true)

/-- A list is applied at a house time (R350, R351). -/
def applyList (l now : Nat) (s : State) : State :=
  if s.isSet (QS_TL_CTRL_PENDING l) ∨ s.get (QS_TL_CTRL_LEN l) = 0 then qsFlag 7 s
  else
    let c := s.changeTime l now
    let s := if c.2 then qsFlag 6 s else s
    let s := putTime3 (QS_TL_CHANGE l) c.1 (s.putB (QS_TL_CTRL_PENDING l) true)
    { s with qs := { s.qs with change := sset (fun _ => 0) s.qs.change l c.1 } }

/-- TL_APPLY by a write of APPLY (R350). -/
def execTlApply (a : Agent) (l : TList) (s : State) : Out :=
  .next (s.byAgent [.tenant, .host] a (fun s => applyList l.val s.house s))

/-- A CANCEL: in the cycle of the change the change takes place all the same (R351). -/
def cancelList (l : Nat) (s : State) : State :=
  match s.pendingAt l with
  | some c => if c ≤ s.house then changeList l s else s.putB (QS_TL_CTRL_PENDING l) false
  | none => s

/-- TL_CANCEL (R351). -/
def execTlCancel (a : Agent) (l : TList) (s : State) : Out := .next (s.byAgent [.tenant, .host] a (cancelList l.val))

/-- A house step: a forward one makes the changes it passes, and any one sets TL_STEP while a list runs (R351). -/
def stepLists (s : State) : State :=
  let s := s.each (s.qs.change.map (·.1)) (fun l s =>
    match s.pendingAt l with
    | some c => if c ≤ s.house then changeList l s else s
    | none => s)
  let s := s.each (s.qs.oper.map (·.1)) startTurn
  observe (if s.qs.oper.isEmpty then s else qsFlag 8 s)

/-! ### Upsets (R361, R362) -/

/-- The list whose words an address lies among. -/
def listOfAddr (addr : Nat) : Nat := (addr - QS_TL_TURN 0 0) / 0x1000

/-- What becomes of a configuration word both of whose copies are bad (R361). -/
def loseCfg (addr : Nat) (s : State) : State :=
  if QS_NODE 0 ≤ addr ∧ addr < QS_NODE 1472 then { s with qs := { s.qs with bad := addr / 8 * 8 :: s.qs.bad } }
  else if QS_SHAPER 0 ≤ addr ∧ addr < QS_SHAPER 9664 then
    (s.setReg addr (BitVec.ofNat 32 (Config.freeWord s.freeCtr))).used
  else if QS_Q 0 ≤ addr ∧ addr < QS_Q 8192 then { s with qs := { s.qs with bad := addr / 32 * 32 :: s.qs.bad } }
  else if QS_METER 0 ≤ addr ∧ addr < QS_METER 65536 then { s with qs := { s.qs with bad := addr / 16 * 16 :: s.qs.bad } }
  else
    let l := listOfAddr addr
    { (s.putB (QS_TL_CTRL_OPER l) false) with qs := { s.qs with oper := sset (fun _ => none) s.qs.oper l none } }

/-- An address of a node, queue, shaper, meter or turn-list configuration word. -/
def cfgAddr (addr : Nat) : Bool :=
  (QS_NODE 0 ≤ addr && addr < QS_NODE 1472) || (QS_SHAPER 0 ≤ addr && addr < QS_SHAPER 9664) ||
  (QS_Q 0 ≤ addr && addr < QS_Q 8192 && decide (addr % 32 < 12)) ||
  (QS_METER 0 ≤ addr && addr < QS_METER 65536 && decide (addr % 16 < 12)) ||
  (QS_TL_TURN 0 0 ≤ addr && addr < QS_TL_TURN 128 0)

/-- CFG_PARITY: a configuration word with one copy bad, or both (R361). -/
def execCfgParity (addr : Nat) (both : Bool) (s : State) : Out :=
  if cfgAddr addr then .next (observe (if both then loseCfg addr (qsFlag 9 s) else qsFlag 9 s)) else .next s

/-- A frame is lost with its tiles: those that no other copy of it holds are out of use until INIT (R315, R362). -/
def loseFrame (f : Nat) (s : State) : State :=
  match (s.frame f).bind (·.head) with
  | none => setFrame f none s
  | some h =>
    let s := setFrame f none s
    if s.frames.any (fun e => e.2.bind (·.head) = some h) then s
    else s.each (s.chain 49 (handleTile h)) (fun u s => setTile u { s.tile u with state := 4, count := 0, next := none } s)

/-- The frames of a queue from a position on are lost; their tiles stay out until INIT (R362). -/
def loseFrames (q at_ : Nat) (s : State) : State :=
  let lost := (s.qlist q).drop at_
  if lost.isEmpty then s
  else
    let tiles := (lost.map (fun f => match s.frame f with | some x => tilesFor x.bytes.length | none => 0)).foldl (· + ·) 0
    let s := qsFlag 11 ((s.bump (QS_CNT 7) lost.length).bump (QS_CNT 8) tiles)
    (putQueue q ((s.qlist q).take at_) s).each lost loseFrame

/-- STATE_PARITY: an error in a bucket, a tag, a depth or a link (R362). -/
def execStateParity (w : SchedState) (s : State) : Out :=
  let s := qsFlag 10 s
  .next (observe (match w with
    | .meterBucket m => if m < 65536 then fillMeter m s else s
    | .shaperBucket i => setBucket i none s
    | .tag c => { s with qs := { s.qs with tags := sset (fun _ => 0) s.qs.tags c (s.vOf (s.parentOf c) (s.bandOf c)) } }
    | .depth q => putQueue q (s.qlist q) s
    | .link q at_ => loseFrames q at_ s))

end Sys2Proof.Machine
end

