-- ==== Sys2Proof/Machine/Classify.lean ====
section
/-! DEFINITION. Keys, lookups, action words and default actions: PASS_CLASSIFY (11_classification_rounds.md). -/
namespace Sys2Proof.Machine

/-! ### Tables -/

/-- A word of the control bank of a round parity (R292). -/
def State.ctlWord (s : State) (parity : Bool) (addr : Nat) : Word :=
  sget (fun _ => 0) s.cx.ctl (parity.toNat * 2 ^ 26 + addr)

/-- A content word of a table window. -/
def State.tableWord (s : State) (addr : Nat) : Word := sget (fun _ => 0) s.cx.mem addr

/-- The marks of the slot whose control word is at an address. -/
def State.marks (s : State) (addr : Nat) : Nat := sget (fun _ => 0) s.cx.marks addr

/-- A slot is valid in the round of a parity (R292). -/
def State.slotIn (s : State) (parity : Bool) (addr : Nat) : Bool := s.marks addr / 2 ^ parity.toNat % 2 = 1

/-- One of `n` words from an address is marked BAD (R302, R303). -/
def State.badIn (s : State) (addr n : Nat) : Bool := s.cx.badWords.any (fun a => decide (addr ≤ a) && decide (a < addr + 4 * n))

/-- Base address and bytes of a slot of a table kind: 1 EM, 2 TCAM, 3 LPM (Table 11-17). -/
def kindBase (k : Nat) : Nat × Nat := if k = 1 then (0x02800000, 32) else if k = 2 then (0x03000000, 128) else (0x03400000, 16)

/-- Slots of a table kind (Table 11-1). -/
def kindCap (k : Nat) : Nat := if k = 1 then 262144 else if k = 2 then 32768 else 131072

/-- First word of a slot. -/
def slotAddr (k i : Nat) : Nat := (kindBase k).1 + (kindBase k).2 * i

/-- Control word of a slot. -/
def ctlAddr (k i : Nat) : Nat := slotAddr k i + (kindBase k).2 - 4

/-- An LPM group of four slots is an IPv6 prefix when V6 is set in its first word. -/
def State.groupV6 (s : State) (i : Nat) : Bool := (s.tableWord (slotAddr 3 (i / 4 * 4))).field 27 27 = 1

/-- The table kind of a window address, 1 to 4 (4: action content, 5: action control), or 0. -/
def tableKind (addr : Nat) : Nat :=
  if 0x02800000 ≤ addr ∧ addr < 0x03000000 then 1
  else if 0x03000000 ≤ addr ∧ addr < 0x03400000 then 2
  else if 0x03400000 ≤ addr ∧ addr < 0x03600000 then 3
  else if 0x03800000 ≤ addr ∧ addr < 0x03C00000 then 4
  else if 0x03C00000 ≤ addr ∧ addr < 0x03E00000 then 5
  else 0

/-- The control word of the slot that a window address lies in. -/
def State.ctlOf (s : State) (addr : Nat) : Nat :=
  match tableKind addr with
  | 3 =>
    let i := (addr - 0x03400000) / 16
    if s.groupV6 i then ctlAddr 3 (i / 4 * 4 + 3) else ctlAddr 3 i
  | 4 => 0x03C00000 + (addr - 0x03800000) / 8 * 4
  | 5 => addr
  | k => ctlAddr k ((addr - (kindBase k).1) / (kindBase k).2)

/-- A slot holds a word marked BAD. -/
def State.slotBad (s : State) (c : Nat) : Bool := s.cx.badWords.any (fun a => s.ctlOf a = c)

/-- The valid slots of a kind from `base`, `size` of them, in slot order; an IPv6 group counts by its last slot. -/
def State.slots (s : State) (parity : Bool) (k base size : Nat) : List Nat :=
  (s.cx.marks.filter (fun x => decide (slotAddr k base ≤ x.1) && decide (x.1 < slotAddr k (base + size)) &&
    s.slotIn parity x.1)).map (fun x => (x.1 - (kindBase k).1) / (kindBase k).2)

/-- `n` words of a slot. -/
def State.slotWords (s : State) (addr n : Nat) : List Word := (List.range n).map (fun i => s.tableWord (addr + 4 * i))

/-! ### Keys (R285) -/

/-- The 96-byte key source (Table 11-2). -/
def keySource (r : ParseResult) (origin carry : Nat) : List Byte :=
  (List.range 64).map (sget (fun _ => 0) r.fields) ++
  bytesBE 2 (if r.second then 129 else r.source) ++ bytesBE 1 (if r.second then 2 else 1) ++ bytesBE 1 0 ++
  bytesBE 2 r.uflags ++ bytesBE 2 carry ++ bytesBE 2 origin ++ bytesBE 1 r.trunc.toNat ++ List.replicate 21 0

/-- The joined extracts of a key profile. -/
def extracts (s : State) (parity : Bool) (kprof : Nat) (src : List Byte) : List Byte :=
  ((List.range 8).map (fun j =>
    let w := s.ctlWord parity (0x02411000 + 0x20 * kprof + 4 * j)
    if w.field 31 31 = 1 then (List.range (w.field 3 0 + 1)).map (fun i => src.getD (w.field 22 16 + i) 0) else [])).flatten

/-- The first `n` bytes, padded with zero bytes. -/
def padTo (n : Nat) (bs : List Byte) : List Byte := bs.take n ++ List.replicate (n - bs.length) 0

/-! ### Lookups (R287, R303) -/

/-- What a lookup finds: an action address, a miss, or a word that may not be used. -/
inductive Found where
  | hit (act : Nat)
  | miss
  | error
  deriving DecidableEq, Repr

/-- EM: the lowest matching slot of two buckets. -/
def lookupEm (s : State) (parity : Bool) (table base size : Nat) (key : List Byte) : Found :=
  let bucket (h : Nat) : List Nat := (List.range 4).map (fun i => base + 4 * (h % (size / 4)) + i)
  let ks := (bucket (crc32 key) ++ bucket (crc32c key)).filter (fun i => s.slotIn parity (ctlAddr 1 i))
  if ks.any (fun i => s.badIn (slotAddr 1 i) 6) then .error
  else
    let good := ks.filter (fun i =>
      (s.tableWord (slotAddr 1 i + 20)).field 31 28 = table && wordsOctets (s.slotWords (slotAddr 1 i) 5) = key)
    match good with
    | [] => .miss
    | g :: gs => .hit ((s.tableWord (slotAddr 1 (gs.foldl min g) + 20)).field 18 0)

/-- TCAM: the lowest slot that agrees where its mask is 1. -/
def lookupTcam (s : State) (parity : Bool) (table base size : Nat) (key : List Byte) : Found :=
  let k := numBE key
  match (s.slots parity 2 base size).find? (fun i =>
    let a := slotAddr 2 i
    let m := numBE (wordsOctets (s.slotWords (a + 40) 10))
    (s.tableWord (a + 80)).field 31 28 = table && (numBE (wordsOctets (s.slotWords a 10)) &&& m) = (k &&& m)) with
  | some i => if s.badIn (slotAddr 2 i + 80) 1 then .error else .hit ((s.tableWord (slotAddr 2 i + 80)).field 18 0)
  | none => .miss

/-- Whether a valid LPM slot belongs to an IPv6 or an IPv4 table: the last slot of a group whose first word has V6, or a single slot
whose own V6 is clear; the last slot of four is single where the group's first word has V6 clear (R287). -/
def State.lpmFits (s : State) (v6 : Bool) (i : Nat) : Bool :=
  if v6 then s.groupV6 i && i % 4 = 3
  else (s.tableWord (slotAddr 3 i)).field 27 27 = 0 && !(s.groupV6 i && i % 4 = 3)

/-- LPM: the longest matching prefix, the lower slot on a tie. -/
def lookupLpm (s : State) (parity v6 : Bool) (table base size : Nat) (key : List Byte) : Found :=
  let vrf := sliceNum key 0 2
  let bits := if v6 then 128 else 32
  let addr := sliceNum key 2 (bits / 8)
  let first (i : Nat) : Nat := if v6 then i / 4 * 4 else i
  let cs := (s.slots parity 3 base size).filter (fun i =>
    let a := slotAddr 3 (first i)
    let w := s.tableWord a
    let net := numBE (wordsOctets (s.slotWords (a + 8) (bits / 32)))
    let cut := 2 ^ (bits - min bits (w.field 26 19))
    s.lpmFits v6 i && w.field 31 28 = table && (s.tableWord (a + 4)).field 31 16 = vrf &&
      addr / cut = net / cut)
  let plen (i : Nat) : Nat := (s.tableWord (slotAddr 3 (first i))).field 26 19
  match cs.foldl (fun (best : Option Nat) i =>
      match best with
      | none => some i
      | some j => if plen j < plen i then some i else some j) none with
  | some i => if s.badIn (slotAddr 3 (first i)) (if v6 then 6 else 3) then .error else .hit ((s.tableWord (slotAddr 3 (first i))).field 18 0)
  | none => .miss

/-- What a lookup in a logical table answers: an action word, or the default kind to take (R286, R287, R303). -/
def lookup (s : State) (parity : Bool) (table kprof : Nat) (src : List Byte) : Nat ⊕ Nat :=
  let w0 := s.ctlWord parity (0x02410000 + 8 * table)
  let w1 := s.ctlWord parity (0x02410000 + 8 * table + 4)
  let kind := w0.field 31 30
  let v6 := w0.field 29 29 = 1
  let size := 2 ^ w1.field 31 27
  let base := w1.field 17 0
  let key := extracts s parity kprof src
  let found :=
    if kind = 0 ∨ kindCap kind < base + size ∨ (kind = 1 ∧ size < 4) then Found.miss
    else if kind = 1 then lookupEm s parity table base size (padTo 20 key)
    else if kind = 2 then lookupTcam s parity table base size (padTo 40 key)
    else lookupLpm s parity v6 table base size (padTo (if v6 then 18 else 6) key)
  let actionAt (a : Nat) : Nat ⊕ Nat :=
    if s.badIn (0x03800000 + 8 * a) 2 then .inr 9
    else if s.slotIn parity (0x03C00000 + 4 * a) then
      .inl ((s.tableWord (0x03800000 + 8 * a)).toNat + (s.tableWord (0x03800000 + 8 * a + 4)).toNat * 2 ^ 32)
    else .inl 0
  match found with
  | .error => .inr 9
  | .hit a => actionAt a
  | .miss => if w0.field 28 28 = 1 then .inr 0 else actionAt (w0.field 18 0)

/-! ### Action words and defaults (R288, R291) -/

/-- Whether an action word keeps its reserved bits and values (R288). -/
def actionOk (w : Nat) : Bool :=
  match actKind w with
  | 0 => w / 2 ^ 15 % 2 ^ 47 = 0 && w % 2 ^ 14 = 0
  | 1 => actScOp w ≠ 3 && w % 2 ^ 14 = 0
  | 2 => w % 2 ^ 19 = 0
  | _ => w % 2 ^ 10 = 0 && decide (w / 2 ^ 39 % 2 ^ 14 ≤ 12287)

/-- The meter that an action word names. -/
def actMeter (w : Nat) : Option Nat :=
  if actKind w = 1 then (if w / 2 ^ 48 % 2 = 1 then some (w / 2 ^ 32 % 65536) else none)
  else if actKind w = 2 then (if w / 2 ^ 35 % 2 = 1 then some (w / 2 ^ 19 % 65536) else none)
  else none

/-- The default action word of a source and kind in a round (R291). -/
def State.defaultWord (s : State) (parity : Bool) (origin kind : Nat) : Nat :=
  let a := 0x02412000 + 0x80 * origin + 8 * kind
  (s.ctlWord parity a).toNat + (s.ctlWord parity (a + 4)).toNat * 2 ^ 32

/-- A word that may stand as a default: DROP or QUEUE with nothing reserved. -/
def defaultOk (w : Nat) : Bool := decide (actKind w ≤ 1) && actionOk w

/-- A default word is read; none: both its copies are bad (R277). -/
def readDefault (parity : Bool) (origin kind : Nat) (s : State) : Option Nat × State :=
  let a := 0x02412000 + 0x80 * origin + 8 * kind
  let (lost, s') := readTwice 3 parity [a, a + 4] s
  (if lost then none else some (s.defaultWord parity origin kind), s')

/-- The default word of a kind, or of kind bad action in its place, with the counts and flags; none: both copies of a word that it reads
are bad (R277, R288, R291). -/
def defaultOf (parity : Bool) (origin kind : Nat) (s : State) : Option Nat × State :=
  let s := s.bump (CX_DEFCNT kind)
  let s := if kind = 7 then cxFlag 13 s else if kind = 8 then cxFlag 14 s else if kind = 10 then cxFlag 12 s else s
  match readDefault (if kind = 6 then s.curParity else parity) origin kind s with
  | (none, s) => (none, s)
  | (some w, s) =>
    if defaultOk w then (some w, s)
    else if kind = 10 then (some 0, s)
    else
      match readDefault parity origin 10 (cxFlag 12 (s.bump (CX_DEFCNT 10))) with
      | (some v, s) => (some (if defaultOk v then v else 0), s)
      | (none, s) => (none, s)

/-- A frame is given a default action (R288, R291). Where both copies of the word are bad it takes the default of kind parse fault, and is
dropped where that cannot be read either (R277). -/
def takeDefault (parity : Bool) (origin kind : Nat) (s : State) : Nat × State :=
  match defaultOf parity origin kind s with
  | (some w, s) => (w, s)
  | (none, s) =>
    match defaultOf parity origin 1 s with
    | (some w, s) => (w, s)
    | (none, s) => (0, s)

/-- How the lookups of a pass end: an action word or a default kind; the meter remembered; lookups made; the words of the control bank
that were read. -/
structure ChainEnd where
  word : Nat ⊕ Nat
  meter : Option Nat
  made : Nat
  reads : List Nat
  deriving DecidableEq, Repr

/-- The words of the control bank that a lookup reads: those of its table and of its key profile (R286). -/
def lookupReads (table kprof : Nat) : List Nat :=
  [0x02410000 + 8 * table, 0x02410000 + 8 * table + 4] ++ (List.range 8).map (fun j => 0x02411000 + 0x20 * kprof + 4 * j)

/-- The lookups of R286 from the `made`-th on, `left` of them at most. -/
def lookups (s : State) (r : ParseResult) (origin : Nat) : Nat → Nat → Nat → Nat → Option Nat → Nat → List Nat → ChainEnd
  | 0, _, _, _, meter, made, reads => ⟨.inr 8, meter, made, reads⟩
  | left + 1, table, kprof, carry, meter, made, before =>
    let reads := before ++ lookupReads table kprof
    match lookup s r.parity table kprof (keySource r origin carry) with
    | .inr k => ⟨.inr k, meter, made + 1, reads⟩
    | .inl w =>
      if !actionOk w then ⟨.inr 10, meter, made + 1, reads⟩
      else
        let meter := match actMeter w with | some m => some m | none => meter
        if actKind w = 2 then
          lookups s r origin left (w / 2 ^ 58 % 16) (w / 2 ^ 52 % 64) (w / 2 ^ 36 % 65536) meter (made + 1) reads
        else if actKind w = 3 && r.second then ⟨.inr 7, meter, made + 1, reads⟩
        else ⟨.inl w, meter, made + 1, reads⟩

/-- How a pass is classified (R286, R273). -/
def classify (s : State) (r : ParseResult) (origin carry : Nat) : ChainEnd :=
  if r.status ≠ 0 then ⟨.inr r.status, none, 0, []⟩
  else
    let map := 0x02410400 + 4 * r.lastSq
    let e := s.ctlWord r.parity map
    if e.field 31 31 = 0 then ⟨.inr 0, none, 0, [map]⟩
    else lookups s r origin 4 (e.field 11 8) (e.field 5 0) (if r.second then carry else 0) none 0 [map]

/-! ### What follows the classification (R271, R289, R290, R343) -/

/-- A copy of a frame joins the queue named in CPUQ (R289, R335). -/
def copyToController (f : Nat) (s : State) : State :=
  match s.frame f with
  | none => s
  | some x =>
    let q := s.get QS_CFG_CPUQ
    let id := s.nextId
    let cls := if actKind x.act = 1 then actClass x.act else 0
    let y : Frame := { x with action := some (queueWord q cls), queue := none, verified := false, result := none }
    match x.head with
    | none => s
    | some h =>
      match shareHandle h s with
      | (true, s) => takeIn q id (setFrame id (some y) s.newId)
      | (false, s) =>
        let t := handleTile h
        let (h', s) := takeTiles (s.bagOf t) 0 (tilesFor x.bytes.length) [] s
        match h' with
        | some h' => takeIn q id (setFrame id (some { y with head := some h' }) s.newId)
        | none => s

/-- The tiles that the recirculation queue holds. -/
def State.recircTiles (s : State) : Nat :=
  (s.recirc.map (fun e => match s.frame e.1 with | some x => tilesFor x.bytes.length | none => 0)).foldl (· + ·) 0

/-- A frame joins the recirculation queue (R290, R335). -/
def pushRecirc (f : Nat) (s : State) : State :=
  match s.frame f with
  | none => s
  | some x =>
    let w := x.act
    if 8192 < s.recircTiles + tilesFor x.bytes.length then dropFrame f (qsFlag 0 (s.bump (QS_CNT 6)))
    else
      let s := match x.head with | some h => giveTiles h 1 s | none => s
      let s := setFrame f (some { x with carry := w / 2 ^ 23 % 65536, action := none }) s
      { s with recirc := s.recirc ++ [(f, w / 2 ^ 39 % 2 ^ 14, if w / 2 ^ 53 % 2 = 1 then some (w / 2 ^ 54 % 256) else none)] }

/-- The secure channel under which a frame is verified before it is queued or recirculated (R289, R290). -/
def Frame.verifySc (x : Frame) : Option Nat :=
  if x.verified then none
  else if actKind x.act = 1 && actScOp x.act = 1 then some (actSc x.act)
  else if actKind x.act = 3 && x.act / 2 ^ 22 % 2 = 1 then some (x.act / 2 ^ 10 % 4096)
  else none

/-- The final action of a pass is carried out: a QUEUE word leaves the frame to FRAME_ENQUEUE (R289, R290). -/
def carryOut (f : Nat) (s : State) : State :=
  match s.frame f with
  | none => s
  | some x =>
    let s := if decide (actKind x.act ≤ 1) && actCopy x.act then copyToController f s else s
    if actKind x.act = 0 then dropFrame f s
    else if actKind x.act = 3 && x.verifySc.isNone then pushRecirc f s
    else s

/-- The more severe of two colours: 0 green, 1 yellow, 2 red. -/
def worse (a b : Nat) : Nat := max a b

/-- The colour a frame carries. -/
def Frame.colour (x : Frame) : Nat := if x.red then 2 else if x.yellow then 1 else 0

/-- The meter of a pass judges the frame (R343); then its action is carried out. -/
def meterAndGo (f uflags : Nat) (second : Bool) (s : State) : State :=
  match s.frame f with
  | none => s
  | some x =>
    match x.meter with
    | none => carryOut f s
    | some m =>
      let aware := s.isSet (QS_METER_AWARE m)
      let inC := if !aware then 0 else if second then x.colour else if uflags / 2 ^ 15 % 2 = 1 then 1 else 0
      let j := meterFrame m inC x.bytes.length s
      let c := worse x.colour j.1
      if j.2.1 then dropFrame f j.2.2
      else carryOut f (setFrame f (some { x with meter := none, red := c = 2, yellow := c = 1 }) j.2.2)

/-- The check of R271 on a first pass parsed while its frame scope was open: the status it takes, or whether it is
truncated. -/
def deferredCheck (r : ParseResult) (scopeEnd : Nat) : Nat × Bool :=
  if r.second || r.status ≠ 0 || !r.opened then (0, false)
  else if scopeEnd < r.high then (2, false)
  else match r.deferred with
    | none => (0, false)
    | some (e, exact_, trunc) =>
      if scopeEnd < e then (if trunc then (0, true) else (3, false))
      else if exact_ && decide (e < scopeEnd) then (4, false)
      else (0, false)

/-- The flag bit of a status in `PA.FLAGS`. -/
def statusFlag (st : Nat) : Nat := match statusCount st with | some (_, b) => b | none => 0

/-- A classified frame whose end has been checked: the deferred check, the meter, the action (R16, R271). -/
def settle (f : Nat) (s : State) : State :=
  match s.frame f with
  | none => s
  | some x =>
    match x.result with
    | none => s
    | some r =>
      if x.checked && x.action.isSome then
        let p := pipeOf x.origin
        let d := deferredCheck r (scopeEndOf x.bytes r.wstart)
        let s := modFrame f (fun x => { x with result := none, trunc := x.trunc || d.2 }) s
        let s :=
          if d.1 ≠ 0 then
            let (w, s) := takeDefault x.parity x.origin d.1 (paFlag (statusFlag d.1) (s.bump (PA_CNT p 9)))
            modFrame f (fun x => { x with action := some w, meter := (actMeter w).or x.meter }) s
          else if d.2 then s.bump (PA_CNT p 5) else s
        meterAndGo f r.uflags r.second s
      else s

/-- The end of a pass's lookups. A word of the control bank that both copies hold badly stops the pass as a fault, which is counted with
its pipe's; one bad copy costs the bank a strike (R277, R303). -/
def chainOf (r : ParseResult) (x : Frame) (s : State) : ChainEnd × State :=
  let c := classify s r x.origin x.carry
  let (lost, s') := readTwice 3 r.parity c.reads s
  if lost then (⟨.inr 1, none, c.made, c.reads⟩, countStatus (pipeOf r.source) 1 s') else (c, s')

/-- A pass is classified: its action word is noted on the frame, which goes on when its end has been checked. -/
def classifyPass (r : ParseResult) (s : State) : State :=
  match s.frame r.frame with
  | none => s
  | some x =>
    let r := { r with trunc := r.trunc || x.trunc }
    let (c, s) := chainOf r x s
    let s := s.bump (CX_CNT 4) c.made
    let (w, s) := match c.word with
      | .inl w => (w, s)
      | .inr k =>
        let s := if k = 9 then s.bump (CX_CNT 6) else s
        takeDefault r.parity x.origin k s
    let y := { x with result := some r, action := some w, meter := (actMeter w).or c.meter, trunc := r.trunc }
    settle r.frame (setFrame r.frame (some y) s)

end Sys2Proof.Machine
end

