-- ==== Sys2Proof/Machine/Rounds.lean ====
section
/-! DEFINITION. Staging, versions, commits, drains, fingerprints and the upkeep of the table banks
(11_classification_rounds.md). -/
namespace Sys2Proof.Machine

/-! ### CRC-64 over sparse content (R300) -/

/-- One step of the CRC-64 register over a zero bit. -/
def crc64Bit (c : Nat) : Nat := crcBitL 64 0x42F0E1EBA9EA3693 c

/-- Product of two register values as polynomials modulo the generator. -/
def gfMul (a b : Nat) : Nat :=
  ((List.range 64).foldl (fun (x : Nat × Nat) i => (if b / 2 ^ i % 2 = 1 then x.1 ^^^ x.2 else x.1, crc64Bit x.2)) (0, a)).1

/-- The register after `n` zero bytes, by squaring; `p` is what `2^k` zero bytes multiply by. -/
def crcZeros : Nat → Nat → Nat → Nat → Nat
  | 0, _, _, c => c
  | fuel + 1, p, n, c =>
    if n = 0 then c else crcZeros fuel (gfMul p p) (n / 2) (if n % 2 = 1 then gfMul c p else c)

/-- The register after `n` zero words. -/
def crcZeroWords (n c : Nat) : Nat := if c = 0 then 0 else crcZeros 40 0x100000000 n c

/-- CRC-64 of `total` words that are zero but for runs of words at rising positions. -/
def sparseCrc (total : Nat) (runs : List (Nat × List Word)) : Nat :=
  let x := runs.foldl (fun (x : Nat × Nat) r =>
    ((wordsOctets r.2).foldl (crcByteL 64 0x42F0E1EBA9EA3693) (crcZeroWords (r.1 - x.2) x.1), r.1 + r.2.length)) (0, 0)
  crcZeroWords (total - x.2) x.1

/-! ### Bank CRCs and digests (R300, R301) -/

/-- A window of a double-banked store: its first address, words per element and their stride, elements and stride. -/
abbrev BankWindow := Nat × Nat

/-- The windows of a parser bank, in the order of R279: first address and words. -/
def parseWindows (p : Nat) : List BankWindow :=
  [(parseBase p, 2048), (parseBase p + 0x2000, 512), (parseBase p + 0x3000, 2048), (parseBase p + 0x6000, 131)]

/-- The windows of the control bank in address order (R300). -/
def ctlWindows : List BankWindow :=
  [(0x02410000, 32), (0x02410400, 256), (0x02411000, 512), (0x02412000, 131 * 32)]

/-- CRC of one half of a double-banked store over windows. -/
def windowsCrc (st : Store Word) (parity : Bool) (ws : List BankWindow) : Nat :=
  let off := parity.toNat * 2 ^ 26
  let x := ws.foldl (fun (x : Nat × List (Nat × List Word)) w =>
    (x.1 + w.2, x.2 ++ (st.filter (fun e => decide (off + w.1 ≤ e.1) && decide (e.1 < off + w.1 + 4 * w.2))).map
      (fun e => (x.1 + (e.1 - off - w.1) / 4, [e.2])))) (0, [])
  sparseCrc x.1 x.2

/-- The valid slots of an address range in the round of a parity, as control-word addresses. -/
def State.validIn (s : State) (parity : Bool) (lo hi : Nat) : List Nat :=
  (s.cx.marks.filter (fun x => decide (lo ≤ x.1) && decide (x.1 < hi) && s.slotIn parity x.1)).map (·.1)

/-- CRC of an EM or TCAM bank, or an action bank: `n` slots from `first`, `words` content words each. -/
def State.slotCrc (s : State) (parity : Bool) (base stride first n words : Nat) : Nat :=
  sparseCrc (n * words) ((s.validIn parity (base + stride * first) (base + stride * (first + n))).map (fun c =>
    let i := (c - base) / stride
    ((i - first) * words, s.slotWords (base + stride * i) words)))

/-- CRC of an action bank. -/
def State.actionCrc (s : State) (parity : Bool) (first : Nat) : Nat :=
  sparseCrc (32768 * 2) ((s.validIn parity (0x03C00000 + 4 * first) (0x03C00000 + 4 * (first + 32768))).map (fun c =>
    let i := (c - 0x03C00000) / 4
    ((i - first) * 2, s.slotWords (0x03800000 + 8 * i) 2)))

/-- CRC of an LPM bank: an IPv4 slot has 3 content words and an IPv6 group 15. -/
def State.lpmCrc (s : State) (parity : Bool) (first : Nat) : Nat :=
  let cs := (s.validIn parity (slotAddr 3 first) (slotAddr 3 (first + 16384))).map (fun c => (c - slotAddr 3 0) / 16)
  let x := cs.foldl (fun (x : Nat × List (Nat × List Word)) i =>
    if s.groupV6 i && i % 4 = 3 then
      (x.1 + 3, x.2 ++ [((i - 3 - first) * 3 + x.1, s.slotWords (slotAddr 3 (i - 3)) 15)])
    else if s.groupV6 i then x
    else (x.1, x.2 ++ [((i - first) * 3 + x.1, s.slotWords (slotAddr 3 i) 3)])) (0, [])
  sparseCrc (16384 * 3 + x.1) x.2

/-- The CRC of a bank in the round of a parity (Table 11-6). -/
def State.bankCrc (s : State) (parity : Bool) (b : Nat) : Nat :=
  if b < 3 then windowsCrc s.cx.parse parity (parseWindows b)
  else if b = 3 then windowsCrc s.cx.ctl parity ctlWindows
  else if b < 20 then s.slotCrc parity 0x02800000 32 (16384 * (b - 4)) 16384 7
  else if b < 28 then s.slotCrc parity 0x03000000 128 (4096 * (b - 20)) 4096 31
  else if b < 36 then s.lpmCrc parity (16384 * (b - 28))
  else s.actionCrc parity (32768 * (b - 36))

/-- The digest of the round of a parity (R301). -/
def State.roundDigest (s : State) (parity : Bool) : Nat :=
  crc64 (((List.range 52).map (fun b => bytesBE 8 (s.bankCrc parity b))).flatten)

/-! ### Staging (R279, R292) -/

/-- READY: staging writes are accepted. -/
def State.staging (s : State) : Bool := s.isSet CX_STATE_READY

/-- Whether a staging write is accepted: while READY is 1, and once a commit has been requested only in its own CORE cycle; a held
one takes none (R293, R295, R296). -/
def State.stageOpen (s : State) : Bool :=
  s.staging && (s.cx.request.isNone || (decide (s.cx.requestAt = s.now) && !s.isSet CX_STATE_HELD))

/-- A staging write that is refused. -/
def refuseStage (s : State) : State := cxFlag 4 s

/-- Whether a window address is a control word (Table 11-17). -/
def State.isCtl (s : State) (addr : Nat) : Bool := decide (tableKind addr ≠ 0) && s.ctlOf addr = addr

/-- The bank of a slot, by its control word. -/
def bankOfCtl (c : Nat) : Nat :=
  match tableKind c with
  | 1 => 4 + (c - 0x02800000) / 32 / 16384
  | 2 => 20 + (c - 0x03000000) / 128 / 4096
  | 3 => 28 + (c - 0x03400000) / 16 / 16384
  | _ => 36 + (c - 0x03C00000) / 4 / 32768

/-- Set the marks of a slot. -/
def setMarks (c m : Nat) (s : State) : State := { s with cx := { s.cx with marks := sset (fun _ => 0) s.cx.marks c m } }

/-- The control word of a slot as it reads: IN_CUR, IN_OTHER, BAD. -/
def State.ctlRead (s : State) (c : Nat) : Word :=
  BitVec.ofNat 32 ((s.slotIn s.curParity c).toNat * 2 ^ 31 + (s.slotIn (!s.curParity) c).toNat * 2 ^ 30 +
    (s.slotBad c).toNat * 2 ^ 29)

/-- ADD or REMOVE on a slot; both at once leave either result (R292). -/
def stageSlot (c : Nat) (add remove : Bool) (s : State) : State :=
  if !add && !remove then s
  else if !s.stageOpen then refuseStage s
  else
    let bit := 2 ^ (!s.curParity).toNat
    let m := s.marks c
    let clear := if m / bit % 2 = 1 then m - bit else m
    let live := if add && remove then s.bandBit else add
    let s := if add && remove then s.used else s
    setMarks c (if live then clear + bit else clear) s

/-- TABLE_ADD (R292). -/
def execTableAdd (a : Agent) (addr : Nat) (s : State) : Out :=
  .next (s.byAgent [.tenant, .host] a (fun s => if s.isCtl addr then stageSlot addr true false s else s))

/-- TABLE_REMOVE (R292). -/
def execTableRemove (a : Agent) (addr : Nat) (s : State) : Out :=
  .next (s.byAgent [.tenant, .host] a (fun s => if s.isCtl addr then stageSlot addr false true s else s))

/-- The bits of a content word that are not reserved (Table 11-17). -/
def State.contentMask (s : State) (addr : Nat) : Word :=
  match tableKind addr with
  | 1 =>
    let w := addr % 32 / 4
    if w < 5 then 0xFFFFFFFF else if w = 5 then 0xF007FFFF else 0
  | 2 =>
    let w := addr % 128 / 4
    if w < 20 then 0xFFFFFFFF else if w = 20 then 0xF007FFFF else 0
  | 3 =>
    let w := if s.groupV6 ((addr - 0x03400000) / 16) then addr % 64 / 4 else addr % 16 / 4
    if w = 0 then 0xFFFFFFFF else if w = 1 then 0xFFFF0000
    else if s.groupV6 ((addr - 0x03400000) / 16) then (if w < 6 then 0xFFFFFFFF else 0)
    else (if w = 2 then 0xFFFFFFFF else 0)
  | _ => 0xFFFFFFFF

/-- One content word is stored; it is not BAD any longer (R305). -/
def putContent (addr : Nat) (w : Word) (s : State) : State :=
  { s with cx := { s.cx with
    mem := sset (fun _ => 0) s.cx.mem addr (w &&& s.contentMask addr), badWords := s.cx.badWords.filter (· ≠ addr) } }

/-- A repair rewrites a word of the current round: what it held at the commit is noted (R305). -/
def noteGolden (key : Nat) (old : Word) (s : State) : State :=
  if s.cx.golden.any (fun e => e.1 = key) then s else { s with cx := { s.cx with golden := s.cx.golden ++ [(key, old)] } }

/-- A write to a content word: staged content of a slot that the current round does not use, or a repair by tenant
firmware (R292, R305). -/
def writeContent (a : Agent) (addr : Nat) (w : Word) (s : State) : State :=
  let c := s.ctlOf addr
  if s.slotIn s.curParity c then
    if a = .tenant ∧ s.isSet (CX_BANK_ERR (bankOfCtl c)) then putContent addr w (noteGolden addr (s.tableWord addr) s)
    else refuseStage s
  else if s.stageOpen then putContent addr w s
  else refuseStage s

/-- A write to a table window: a control word, a word of an action word (R10), or another content word. -/
def writeTable (a : Agent) (addr : Nat) (w : Word) (s : State) : State :=
  if s.isCtl addr then stageSlot addr (w.field 0 0 = 1) (w.field 1 1 = 1) s
  else if tableKind addr = 4 then
    if addr % 8 = 0 then holdWord a addr w s
    else
      let s' := match s.heldWord a (addr - 4) with
        | some v => writeContent a (addr - 4) v s
        | none => s
      clearHeld a (addr - 4) (addr + 1) (writeContent a addr w s')
  else writeContent a addr w s

/-- What a table window reads. -/
def State.readTable (s : State) (addr : Nat) : Word := if s.isCtl addr then s.ctlRead addr else s.tableWord addr

/-- The parity of the bank that staging reaches (R279). -/
def State.stageParity (s : State) : Bool := !s.curParity

/-- Whether an address lies in a list of windows. -/
def inWindows (ws : List BankWindow) (addr : Nat) : Bool :=
  ws.any (fun w => decide (w.1 ≤ addr) && decide (addr < w.1 + 4 * w.2))

/-- The windows of the three parser banks. -/
def allParseWindows : List BankWindow := parseWindows 0 ++ parseWindows 1 ++ parseWindows 2

/-- The bits of a parser window word that are not reserved (Tables 10-2 to 10-4). -/
def parseMask (addr : Nat) : Word :=
  let o := addr % 0x10000
  if o < 0x2000 then 0xFFFFFFFF
  else if o < 0x3000 then (if o % 8 = 0 then 0xC01FFFFF else 0xFFF80000)
  else if o < 0x6000 then (if o % 8 = 0 then 0xFFFFFFFF else 0x800001FF)
  else 0x800000FF

/-- A word of a parser bank is written in both its copies. -/
def putParse (key addr : Nat) (w : Word) (s : State) : State :=
  setCopies key 0 { s with cx := { s.cx with parse := sset (fun _ => 0) s.cx.parse key (w &&& parseMask addr) } }

/-- A write by tenant firmware to a word of the current round that has a bad copy is its repair (R277, R305). -/
def State.repairs (s : State) (a : Agent) (addr : Nat) : Bool := a = .tenant && s.copiesBad s.curParity addr ≠ 0

/-- The key of a word in the current round's parser or control bank. -/
def State.curKey (s : State) (addr : Nat) : Nat := s.curParity.toNat * 2 ^ 26 + addr

/-- A write to a parser window: a repair, or staging (R277, R279). -/
def writeParse (a : Agent) (addr : Nat) (w : Word) (s : State) : State :=
  if s.repairs a addr then
    putParse (s.curKey addr) addr w (noteGolden (s.curKey addr) (s.parseWord s.curParity addr) s)
  else if s.isSet PA_STAGE_READY && s.stageOpen then putParse (s.stageParity.toNat * 2 ^ 26 + addr) addr w s
  else paFlag 9 s

/-- A control-bank word after a write: reserved bits 0; SRC beyond 95 is not taken (R6, R7, Tables 11-14 to 11-16). -/
def ctlWrite (addr : Nat) (old w : Word) : Word :=
  if addr < 0x02410400 then w &&& (if addr % 8 = 0 then 0xF007FFFF else 0xF803FFFF)
  else if addr < 0x02411000 then w &&& 0x80000F3F
  else if addr < 0x02412000 then
    if 95 < w.field 22 16 then (w &&& 0x8000000F).withField 22 16 (old.field 22 16) else w &&& 0x807F000F
  else w

/-- One control-bank word is written in both its copies: in the current bank as a repair, else in the staging bank (R277, R292). -/
def putCtl (fix : Bool) (addr : Nat) (w : Word) (s : State) : State :=
  let k := if fix then s.curKey addr else s.stageParity.toNat * 2 ^ 26 + addr
  let old := sget (fun _ => 0) s.cx.ctl k
  let s := s.when fix (noteGolden k old)
  setCopies k 0 { s with cx := { s.cx with ctl := sset (fun _ => 0) s.cx.ctl k (ctlWrite addr old w) } }

/-- A write to a control-bank window, staged or a repair; a default action takes effect with its high word (R10, R292, R305). -/
def writeCtl (a : Agent) (addr : Nat) (w : Word) (s : State) : State :=
  let fix := s.repairs a addr || (decide (0x02412000 ≤ addr) && s.repairs a (addr / 8 * 8 + 4 - addr % 8))
  if !s.stageOpen && !fix then refuseStage s
  else if 0x02412000 ≤ addr ∧ addr % 8 = 0 then holdWord a addr w s
  else if 0x02412000 ≤ addr then
    let s' := match s.heldWord a (addr - 4) with
      | some v => putCtl fix (addr - 4) v s
      | none => s
    clearHeld a (addr - 4) (addr + 1) (putCtl fix addr w s')
  else putCtl fix addr w s

/-- What a control-bank window reads: the staging bank while READY is 1, else the current one (R292). -/
def State.readCtl (s : State) (addr : Nat) : Word :=
  s.ctlWord (if s.staging then s.stageParity else s.curParity) addr

/-! ### Commits (R294 to R296) -/

/-- The commit is done or refused: its requests are cleared; an armed edge that has not come stays armed (R294). -/
def endRequest (s : State) : State :=
  let s := (s.when (s.cx.edgeTaken = true) (fun s => s.putB CX_COMMIT_EDGE_ARM false)).putB CX_COMMIT_NOW false
  let s := s.putB CX_STATE_HELD false
  { s with cx := { s.cx with request := none, edgeAt := if s.cx.edgeTaken then none else s.cx.edgeAt, edgeTaken := false } }

/-- `PA.STAGE` follows the banks: the current one, the one that staging reaches, and whether it still drains. -/
def showStage (ready busy : Bool) (s : State) : State :=
  let cur := !s.curParity
  (((s.putB PA_STAGE_CUR_BANK cur).putB PA_STAGE_STAGE_BANK (!cur)).putB PA_STAGE_READY ready).putB PA_STAGE_BUSY busy

/-- A request is carried out while READY is 1 (R295); the first one after a start is round 0 (R457). -/
def commit (t : Nat) (s : State) : State :=
  let expect := (s.reg CX_COMMIT_DIGEST).toNat + (s.reg (CX_COMMIT_DIGEST + 4)).toNat * 2 ^ 32
  if s.isSet CX_COMMIT_CHECK_EN ∧ s.roundDigest s.stageParity ≠ expect then
    roundZero false (endRequest (cxFlag 2 ((s.put CX_STATE_LAST_RESULT 2).bump (CX_CNT 2))))
  else
    let s := roundZero true s
    let s := s.putB CX_STATE_PARITY s.stageParity
    let s := ((s.putB CX_STATE_READY false).putB CX_STATE_DRAINING true).put CX_STATE_LAST_RESULT 1
    let s := s.setReg CX_ROUND (s.reg CX_ROUND + 1)
    let s := putTime CX_LAST_COMMIT t (cxFlag 0 (s.bump (CX_CNT 0)))
    endRequest (showStage false true { s with cx := { s.cx with drainFrom := some s.now, golden := [] } })

/-- A commit is requested at a house time: it waits for its cycle, joins another, or is held (R294, R296). -/
def requestCommit (t : Nat) (s : State) : State :=
  if s.cx.request.isSome then cxFlag 1 (s.bump (CX_CNT 1))
  else
    let s := { s with cx := { s.cx with request := some t, requestAt := s.now } }
    if s.staging then s else cxFlag 1 (s.putB CX_STATE_HELD true)

/-- COMMIT_NOW (R294). -/
def execCommitNow (a : Agent) (s : State) : Out :=
  .next (s.byAgent [.tenant, .host] a (fun s => requestCommit s.house (s.putB CX_COMMIT_NOW true)))

/-- The first edge that the armed input stamps after EDGE_ARM was set (R294). -/
def commitStamp (n t : Nat) (s : State) : State :=
  if s.isSet CX_COMMIT_EDGE_ARM && s.get CX_COMMIT_EDGE_TIN = n && s.cx.edgeAt.isNone then
    { s with cx := { s.cx with edgeAt := some t } }
  else s

/-- COMMIT_EDGE: the edge that the armed input has stamped requests a commit with its stamp (R294, R295). -/
def execCommitEdge (n : Fin 8) (s : State) : Out :=
  match s.cx.edgeAt with
  | some t =>
    if s.isSet CX_COMMIT_EDGE_ARM && s.get CX_COMMIT_EDGE_TIN = n.val && !s.cx.edgeTaken then
      .next (requestCommit t { s with cx := { s.cx with edgeTaken := true } })
    else .next s
  | none => .next s

/-- ROUND_COMMIT (R295). -/
def execRoundCommit (s : State) : Out :=
  match s.cx.request with
  | some t => if s.staging then .next (commit t s) else .next s
  | none => .next s

/-! ### Drains (R293, R298, R299) -/

/-- The frames of a parity under a RECIRC word that have not reached the recirculation queue: their ends have not been
checked, or they wait to be verified (R290). Their second pass, and so a classification, is still to come. -/
def State.recircDue (s : State) (parity : Bool) : List Nat :=
  (s.frames.filter (fun e => match e.2 with
    | some x => decide (x.parity = parity) && x.action.isSome && decide (actKind x.act = 3)
    | none => false)).map (·.1)

/-- A frame of a round's parity still waits for a classification (R298). -/
def State.waits (s : State) (parity : Bool) : Bool :=
  [0, 1, 2].any (fun p =>
    let x := s.pipe p
    x.queue.any (fun q => q.parity = parity) || x.reruns.any (fun q => q.parity = parity) || x.results.any (fun r => r.parity = parity) ||
    x.released.any (fun r => r.parity = parity)) ||
  s.units.any (fun u => match u.2 with | some r => r.pass.parity = parity | none => false) ||
  s.recirc.any (fun e => match s.frame e.1 with | some x => x.parity = parity | none => false) ||
  !(s.recircDue parity).isEmpty

/-- The length of the drain in progress in steps of 0.1 µs. -/
def State.drainSteps (s : State) : Nat := match s.cx.drainFrom with | some t => (s.now - t) / 100 | none => 0

/-- DRAIN_END: no frame of the old round waits, and the sweep starts (R298). -/
def execDrainEnd (s : State) : Out :=
  if s.isSet CX_STATE_DRAINING && !s.waits s.stageParity then
    let s := s.put CX_STATE_DRAIN_HWM (min 4095 (max (s.get CX_STATE_DRAIN_HWM) s.drainSteps))
    let s := showStage false false ((s.putB CX_STATE_DRAINING false).putB CX_STATE_SWEEP true)
    .next { s with cx := { s.cx with drainFrom := none } }
  else .next s

/-- One half of a double-banked store is copied over the other. -/
def copyHalf (cur : Bool) (st : Store Word) : Store Word :=
  let mine := st.filter (fun e => decide (e.1 / 2 ^ 26 = cur.toNat))
  let at_ (k : Nat) : Store Word := mine.map (fun e => (e.1 % 2 ^ 26 + k * 2 ^ 26, e.2))
  at_ 0 ++ at_ 1

/-- The sweep: staging copies of marks, control bank and parser banks (R293). -/
def sweep (s : State) : State :=
  let p := s.curParity
  let marks := (s.cx.marks.map (fun x => (x.1, if s.slotIn p x.1 then 3 else 0))).filter (fun x => x.2 ≠ 0)
  { s with cx := { s.cx with marks := marks, ctl := copyHalf p s.cx.ctl, parse := copyHalf p s.cx.parse } }

/-- SWEEP_DONE: READY becomes 1, and a held commit is carried out in the same cycle (R293, R296). -/
def execSweepDone (s : State) : Out :=
  if s.isSet CX_STATE_SWEEP then
    let s := cxFlag 5 (showStage true false ((sweep s).putB CX_STATE_SWEEP false |>.putB CX_STATE_READY true))
    match s.cx.request with
    | some t => if s.isSet CX_STATE_HELD then .next (commit t s) else .next s
    | none => .next s
  else .next s

/-- The waiting passes of a pipe that carry a parity are handed on unparsed (R280). -/
def retireQueue (parity : Bool) (p : Nat) (s : State) : State :=
  let old := (s.pipe p).queue.filter (fun x => x.parity = parity)
  let results := old.map (fun x => resultOf { pass := x } 6 0)
  showQueue p (s.modPipe p (fun y => { y with
    queue := y.queue.filter (fun x => x.parity ≠ parity), results := y.results ++ results }))

/-- Frames of a parity leave the recirculation queue under the default of kind round retired (R299). -/
def retireRecirc (parity : Bool) (s : State) : State :=
  let old := s.recirc.filter (fun e => match s.frame e.1 with | some x => x.parity = parity | none => false)
  let s := { s with recirc := s.recirc.filter (fun e => !old.contains e) }
  s.each old (fun e s =>
    match s.frame e.1 with
    | none => s
    | some x =>
      let (w, s) := takeDefault parity x.origin 6 s
      meterAndGo e.1 0 true (setFrame e.1 (some { x with action := some w, meter := actMeter w })
        (setEgress 133 ((s.stageOf 133).filter (· ≠ e.1)) s)))

/-- A frame under a RECIRC word that has not reached the recirculation queue takes the default of kind round retired as well;
it goes on once its end has been checked. -/
def retireDue (f : Nat) (s : State) : State :=
  match s.frame f with
  | none => s
  | some x =>
    let (w, s) := takeDefault x.parity x.origin 6 s
    let s := setFrame f (some { x with action := some w, meter := (actMeter w).or x.meter }) s
    if x.result.isNone then meterAndGo f 0 false s else s

/-- FORCED_RETIRE (R299). -/
def execForcedRetire (s : State) : Out :=
  if s.isSet CX_STATE_DRAINING then
    let p := s.stageParity
    let due := s.recircDue p
    .next ((retireRecirc p ((cxFlag 3 (s.bump (CX_CNT 3))).each [0, 1, 2] (fun k s => retireQueue p k s))).each due retireDue)
  else .next s

/-! ### Strikes and repair (R302 to R306) -/

/-- A bank enters repair; FIRST_BAD keeps the first bad word since ERR was set. -/
def enterRepair (b : Nat) (idx : Option Nat) (s : State) : State :=
  let s := if s.isSet (CX_BANK_ERR b) then s else s.put (CX_BANK_FIRST_BAD b) 0x1FFFF
  let s := s.putB (CX_BANK_ERR b) true
  match idx with
  | some i => if s.get (CX_BANK_FIRST_BAD b) = 0x1FFFF then s.put (CX_BANK_FIRST_BAD b) i else s
  | none => s

/-! ### Bad words read in use (R277, R303) -/

/-- The pass that goes next to a unit: one that is to be rerun, else the oldest of the dispatch queue (R257, R275). -/
def takePass (p : Nat) (s : State) : Option (Pass × State) :=
  match (s.pipe p).reruns, (s.pipe p).queue with
  | x :: rest, _ => some (x, s.modPipe p (fun y => { y with reruns := rest }))
  | [], x :: rest => some (x, showQueue p (s.modPipe p (fun y => { y with queue := rest })))
  | [], [] => none

/-- PASS_DISPATCH: the oldest waiting pass goes to the next idle unit (R257). `upsets` are words of its round's bank, of whose two
copies one or both have gone bad: they are found when a pass reads them (R277). -/
def execPassDispatch (p : Pipe) (upsets : List (Nat × Bool)) (s : State) : Out :=
  match takePass p.val s, s.idleUnit p.val with
  | some (x, s), some u =>
    .next (startPass p.val u x (noteUpsets x.parity (upsets.filter (fun a => inWindows (parseWindows p.val) a.1)) s))
  | _, _ => .next s

/-- The place of an address in the words of a list of windows. -/
def windowIndex : List BankWindow → Nat → Option Nat
  | [], _ => none
  | w :: ws, a =>
    if w.1 ≤ a ∧ a < w.1 + 4 * w.2 then some ((a - w.1) / 4) else (windowIndex ws a).map (· + w.2)

/-- The bank of a word of a window, and the index that FIRST_BAD shows for it: of its slot in a table, of itself in a parser bank or
the control bank (Tables 11-6 and 11-13). -/
def State.bankOfWord (s : State) (a : Nat) : Option (Nat × Nat) :=
  let c := s.ctlOf a
  match tableKind a with
  | 1 => some (bankOfCtl c, (c - 0x02800000) / 32 % 16384)
  | 2 => some (bankOfCtl c, (c - 0x03000000) / 128 % 4096)
  | 3 => some (bankOfCtl c, (c - 0x03400000) / 16 % 16384)
  | 4 => some (bankOfCtl c, (c - 0x03C00000) / 4 % 32768)
  | 5 => none
  | _ =>
    match windowIndex ctlWindows a with
    | some i => some (3, i)
    | none => (List.range 3).findSome? (fun p => (windowIndex (parseWindows p) a).map (fun i => (p, i)))

/-- A content word is marked BAD. -/
def markBad (a : Nat) (s : State) : State :=
  { s with cx := { s.cx with badWords := s.cx.badWords.filter (· ≠ a) ++ [a] } }

/-- A word of bad parity has been read: a content word is BAD, its bank enters repair and takes a strike (R302, R303). -/
def tableError (a : Nat) (s : State) : State :=
  match s.bankOfWord a with
  | some (b, i) => bankStrike b (enterRepair b (some i) (markBad a (cxFlag 6 s)))
  | none => s

/-- Whether the lookups of a pass read the content word at `a`: marked BAD, it ends them in a table error, and not otherwise. -/
def State.readsWord (s : State) (r : ParseResult) (a : Nat) : Bool :=
  match s.frame r.frame with
  | some x =>
    decide (tableKind a ≠ 0) && (classify s r x.origin x.carry).word ≠ .inr 9 &&
      (classify (markBad a s) r x.origin x.carry).word = .inr 9
  | none => false

/-- PASS_CLASSIFY: the oldest released result of a pipe is classified (R286 to R291, R343 to R346). `upsets` are words of bad parity: a
content word counts if a lookup reads it (R303), a word of the control bank, in one copy or both, when it is read (R277). -/
def execPassClassify (p : Pipe) (upsets : List (Nat × Bool)) (s : State) : Out :=
  match (s.pipe p.val).released with
  | r :: rs =>
    let s := s.modPipe p.val (fun x => { x with released := rs })
    let s := noteUpsets r.parity (upsets.filter (fun a => inWindows ctlWindows a.1)) s
    .next (classifyPass r (s.each upsets (fun a s => s.when (s.readsWord r a.1) (tableError a.1))))
  | [] => .next s

/-! ### Scrub and repair (R302, R305) -/

/-- The state with the content that the current round was committed with. -/
def State.asCommitted (s : State) : State :=
  s.each s.cx.golden (fun e s =>
    let a := e.1 % 2 ^ 26
    if tableKind a ≠ 0 then { s with cx := { s.cx with mem := sset (fun _ => 0) s.cx.mem a e.2 } }
    else if inWindows ctlWindows a then { s with cx := { s.cx with ctl := sset (fun _ => 0) s.cx.ctl e.1 e.2 } }
    else { s with cx := { s.cx with parse := sset (fun _ => 0) s.cx.parse e.1 e.2 } })

/-- A bank's CRC equals the one held for the current round: what repairs have written comes to the same (R302, R305). -/
def State.crcHolds (s : State) (b : Nat) : Bool :=
  s.cx.golden.isEmpty || s.asCommitted.bankCrc s.curParity b = s.bankCrc s.curParity b

/-- The scrub finds a word of bad parity (R302); a word of a parser bank or of the control bank is bad in one copy or both (R277). -/
def scrubFinds (b : Nat) (u : Nat × Bool) (s : State) : State :=
  match s.bankOfWord u.1 with
  | some (k, i) =>
    if k ≠ b then s
    else if b < 4 then
      bankStrike b (enterRepair b (some i) (noteUpsets s.curParity [u] (paFlag 8 (cxFlag 6 s))))
    else tableError u.1 s
  | none => s

/-- The words of a bank among some. -/
def State.wordsOf (s : State) (b : Nat) (us : List (Nat × Bool)) : List (Nat × Bool) :=
  us.filter (fun u => match s.bankOfWord u.1 with | some (k, _) => k = b | none => false)

/-- SCRUB_BANK: the scrub finishes a bank, with the words of bad parity it found, or a CRC that differs from the one held: a word
differs unseen (`diff`), or a repair wrote another value (R302). -/
def execScrubBank (b : Bank) (bad : List (Nat × Bool)) (diff : Bool) (s : State) : Out :=
  let s := s.bump (CX_CNT 5)
  let us := s.wordsOf b.val bad
  if us ≠ [] then .next (s.each us (scrubFinds b.val))
  else if diff || !s.crcHolds b.val then .next (bankStrike b.val (enterRepair b.val none (cxFlag 7 s)))
  else .next s

/-- BANK_RETIRED: the copy is complete and lookups move to the spare (R304). -/
def execBankRetired (b : Bank) (s : State) : Out :=
  if s.cx.retiring.contains b.val then
    let s := { s with cx := { s.cx with retiring := s.cx.retiring.filter (· ≠ b.val) } }
    .next (cxFlag 9 (setBankStrikes b.val 0 (s.putB (CX_BANK_RETIRED b.val) true)))
  else .next s

/-- BANK_STRIKE_EXPIRY (R304). -/
def execBankStrikeExpiry (b : Bank) (s : State) : Out := .next (setBankStrikes b.val (s.bankStrikes b.val - 1) s)

/-- The check of a repair: the CRC fits the one held, or the repair failed. It fits where the repaired words hold what they held and
no other word of the bank differs unseen (`equal`) (R305). -/
def repairDone (b : Nat) (equal : Bool) (s : State) : State :=
  let s := s.putB (CX_BANK_REPAIR_DONE b) false
  if !s.isSet (CX_BANK_ERR b) then s
  else if equal && s.crcHolds b then (s.putB (CX_BANK_ERR b) false).put (CX_BANK_FIRST_BAD b) 0x1FFFF
  else bankStrike b (cxFlag 11 s)

/-- REPAIR_DONE, by tenant firmware alone (R305, Table 11-13). -/
def execRepairDone (a : Agent) (b : Bank) (equal : Bool) (s : State) : Out :=
  .next (s.byAgent [.tenant, .host] a (fun s => if a = .tenant then repairDone b.val equal s else s))

/-- A retired bank returns to service with no strikes (R306). -/
def restoreBank (b : Nat) (s : State) : State :=
  if s.isSet (CX_BANK_RETIRED b) then setBankStrikes b 0 (s.putB (CX_BANK_RETIRED b) false) else s

/-- BANK_RESTORE (R306). -/
def execBankRestore (a : Agent) (b : Bank) (s : State) : Out :=
  .next (s.byAgent [.tenant, .host] a (restoreBank b.val))

end Sys2Proof.Machine
end

