-- ==== Sys2Proof/Machine/Mac.lean ====
section
/-! DEFINITION. Frames into and out of the hub: the client MACs, the inputs of pipe 2, the tenant controller port, low power
idle, pause and packet parity (01, 08, 09, 10 and 12 of spec/). -/
namespace Sys2Proof.Machine

/-! ### Stamps (R194, R211, R213, R214) -/

/-- A correction of signed picoseconds in pips. -/
def psPips (ps : Int) : Int := ps * 2 ^ 32 / 1000

/-- House time gains this much in so many TIME cycles at its present pace (R192, R205). -/
def State.houseGain (s : State) (cycles : Nat) : Int :=
  let slew : Int := s.get TE_HOUSE_CFG_SLEW * 4295
  cycles * ((s.rate s.te.sel : Int) - (if 0 < s.te.off then slew else if s.te.off < 0 then -slew else 0))

/-- A stamp: house time at the TIME edge before the event, the interpolator phase in steps of 125 ps, and a correction. -/
def State.stampAt (s : State) (phase : Nat) (corr : Int) : Nat :=
  ((s.house : Int) + phase * 2 ^ 29 + psPips corr).toNat

/-- The stamp of an event that lies some TIME cycles back. -/
def State.stampAgo (s : State) (cycles phase : Nat) (corr : Int) : Nat :=
  ((s.house : Int) - s.houseGain cycles + phase * 2 ^ 29 + psPips corr).toNat

/-- Where the PTP message starts in a frame: after the addresses, any VLAN tags and EtherType 0x88F7. -/
def ptpStart (bs : List Byte) : Nat :=
  let tagged (o : Nat) : Bool := sliceNum bs o 2 = 0x8100 || sliceNum bs o 2 = 0x88A8
  if tagged 12 then (if tagged 16 then 22 else 18) else 14

/-- sequenceId, domainNumber and messageType of a PTP frame. -/
def ptpTags (bs : List Byte) : Nat × Nat × Nat :=
  let o := ptpStart bs
  (sliceNum bs (o + 30) 2, sliceNum bs (o + 4) 1, sliceNum bs o 1 % 16)

/-- Bytes of a list replaced from an offset on. -/
def overwrite (bs : List Byte) (o : Nat) (new : List Byte) : List Byte :=
  bs.take o ++ new ++ bs.drop (o + new.length)

/-- A frame with its FCS computed afresh (R248). -/
def freshFcs (bs : List Byte) : List Byte :=
  let body := bs.take (bs.length - 4)
  body ++ fcsBytes body

/-- A one-step frame as the MAC sends it (R214). -/
def oneStep (bs : List Byte) (t : Nat) : List Byte :=
  let o := ptpStart bs
  let bs := overwrite bs (o + 34) (bytesBE 6 (t / second) ++ bytesBE 4 (t / 2 ^ 32 % 1000000000))
  overwrite bs (o + 8) (bytesBE 8 ((sliceNum bs (o + 8) 8 + t % 2 ^ 32 / 2 ^ 16) % 2 ^ 64))

/-- The stamp queue of a port. -/
def State.stampQueue (s : State) (p : Nat) : List TxStamp := sget (fun _ => []) s.te.tsTx p

/-- Set the stamp queue of a port. -/
def setStampQueue (p : Nat) (q : List TxStamp) (s : State) : State :=
  { s with te := { s.te with tsTx := sset (fun _ => []) s.te.tsTx p q } }

/-- A stamp joins a port's queue of 16, or is discarded (R213). -/
def pushStamp (p t : Nat) (tags : Nat × Nat × Nat) (s : State) : State :=
  let q := s.stampQueue p
  if 16 ≤ q.length then teFlag 13 s else setStampQueue p (q ++ [⟨t, tags.1, tags.2.1, tags.2.2⟩]) s

/-! ### Frames in (R16, R248, R256, R271, R316 to R319) -/

/-- Whether a client MAC runs: its port exists, its link is up and EN is 1. -/
def State.macRuns (s : State) (p : Nat) : Bool := s.portUp p && s.isSet (CM_CFG_EN p)

/-- A frame's first pass enters its pipe's dispatch queue, when that has room (R256, R257). -/
def passFrame (f : Nat) (ended : Bool) (s : State) : State :=
  match s.frame f with
  | none => s
  | some x =>
    if s.queueOpen (pipeOf x.origin) then
      firstPass f x.origin x.bytes ended (setFrame f (some { x with passed := true }) s)
    else paFlag 10 s

/-- The oldest frame of a source that satisfies a test. -/
def State.oldest (s : State) (src : Nat) (p : Frame → Bool) : Option Nat :=
  (s.frames.find? (fun e => match e.2 with | some x => decide (x.origin = src) && p x | none => false)).map (·.1)

/-- The oldest frame of a source that waits for its pass enters its pipe's queue: a source's frames keep their order (R17, R257). -/
def passOldest (src : Nat) (s : State) : State :=
  match s.oldest src (fun x => !x.passed) with
  | some f => passFrame f (match s.frame f with | some x => x.whole | none => true) s
  | none => s

/-- A frame of the hub begins: its tiles are taken from the bag of its source, and it waits for its pass (R316, R320). -/
def newFrame (src : Nat) (x : Frame) (s : State) : Option Nat × State :=
  let (h, s) := takeTiles (s.get (BM_SRCMAP_BAG src)) 0 (tilesFor x.bytes.length) [] s
  match h with
  | some h => (some s.nextId, setFrame s.nextId (some { x with origin := src, head := some h, passed := false }) s.newId)
  | none => (none, s)

/-- The rest of an open frame takes its tiles; when it cannot, the frame is lost (R319). -/
def growFrame (f : Nat) (bytes : List Byte) (s : State) : State :=
  match s.frame f with
  | none => s
  | some x =>
    let n := tilesFor bytes.length - tilesFor x.bytes.length
    let (h, s) := takeTiles (s.get (BM_SRCMAP_BAG x.origin)) 0 n [] s
    match x.head, h, n with
    | some _, _, 0 => setFrame f (some { x with bytes := bytes }) s
    | some a, some b, _ =>
      let last := ((s.chain 49 (handleTile a)).getLast?).getD (handleTile a)
      let s := setTile last { s.tile last with next := some (handleTile b) } s
      let s := setTile (handleTile b) { s.tile (handleTile b) with head := false } s
      setFrame f (some { x with bytes := bytes }) s
    | _, _, _ => dropFrame f s

/-- The open frame of a source whose bytes so far begin a frame. -/
def State.openFrame (s : State) (src : Nat) (bytes : List Byte) : Option Nat :=
  s.oldest src (fun x => !x.checked && x.bytes.isPrefixOf bytes)

/-- A received frame goes no further: what stands of it in the hub is dropped. -/
def discardRx (p : Nat) (f : RxFrame) (s : State) : State :=
  match s.openFrame p f.bytes with
  | some id => dropFrame id s
  | none => s

/-- The end of a good frame: its tiles, its check, and what waited for the end (R16, R271). -/
def finishRx (p : Nat) (f : RxFrame) (s : State) : State :=
  let s := (s.bump (CM_CNT p 0)).bump (CM_CNT p 1) f.bytes.length
  let stamp := s.stampAgo f.cycles f.phase.val (signed 16 (s.get (CM_TS_CORR_RX_CORR p)))
  match s.openFrame p f.bytes with
  | some id =>
    let s := closeScope (pipeOf p) id (scopeEndOf f.bytes 0) (growFrame id f.bytes s)
    settle id (modFrame id (fun x => { x with whole := true, checked := true, stamp := stamp }) s)
  | none =>
    passOldest p (newFrame p { origin := p, bytes := f.bytes, whole := true, checked := true, stamp := stamp } s).2

/-- A MAC control frame spelt by its bytes: opcode, quanta, and the classes of a PFC frame (R249). -/
def controlOf (bs : List Byte) : MacControl :=
  if sliceNum bs 14 2 = 1 then .pause (sliceNum bs 16 2)
  else if sliceNum bs 14 2 = 0x101 then
    .pfc (((List.range 8).filter (fun i => sliceNum bs 16 2 / 2 ^ i % 2 = 1)).map
      (fun i => (Fin.ofNat 8 i, sliceNum bs (18 + 2 * i) 2)))
  else .other (sliceNum bs 14 2)

/-- PAUSE_FRAME_RECEIVE: PAUSE and PFC frames are counted, and acted on while PAUSE_RX is 1; any other opcode is dropped.
A second pause replaces the first's remaining time (R249). A MAC that does not run receives nothing. -/
def execPauseFrameReceive (p : Port) (f : MacControl) (s : State) : Out :=
  let act (g : PortX → PortX) : State :=
    let s := s.bump (CM_CNT p.val 5)
    if s.isSet (CM_CFG_PAUSE_RX p.val) then cmFlag p.val 3 (s.modPort p.val g) else s
  if !s.macRuns p.val then .next s
  else match f with
  | .pause q => .next (act (fun x => { x with pauseUntil := if q = 0 then none else some (s.now + s.quantaNs p.val q) }))
  | .pfc cs => .next (act (fun x => cs.foldl (fun x c => { x with
      classPause := (if c.2 = 0 then [] else [(c.1.val, s.now + s.quantaNs p.val c.2)]) ++
        x.classPause.filter (fun y => y.1 ≠ c.1.val) }) x))
  | .other _ => .next (s.bump (CM_CNT p.val 6))

/-- The fragments of a frame arrived in sequence with good mCRCs: their counts run 0 to 3 and on (R252). -/
def RxFrame.fragOk (f : RxFrame) : Bool := f.frags.zipIdx.all (fun x => x.1.2 && x.1.1 = x.2 % 4)

/-- A change of MAX_FRAME is noted with its TIME cycle (R248). -/
def noteMaxFrame (p old : Nat) (s : State) : State :=
  if s.get (CM_CFG_MAX_FRAME p) = old then s else s.modPort p (fun x => { x with maxLog := (s.now, old) :: x.maxLog })

/-- MAX_FRAME as it was at a TIME cycle (R248). -/
def State.maxFrameAt (s : State) (p t : Nat) : Nat :=
  match ((s.port p).maxLog.takeWhile (fun x => t < x.1)).getLast? with
  | some x => x.2
  | none => s.get (CM_CFG_MAX_FRAME p)

/-- CLIENT_FRAME_RECEIVE: a frame ends at a client MAC, which checks its fragments, its length and its FCS; a control
frame never enters a pipe (R16, R248, R249, R252). -/
def execClientFrameReceive (p : Port) (f : RxFrame) (s : State) : Out :=
  if !s.macRuns p.val then .next s
  else if !(RxFrame.fragOk f) then .next (discardRx p.val f (cmFlag p.val 4 (s.bump (CM_CNT p.val 7))))
  else if f.bytes.length < 64 then .next (discardRx p.val f (cmFlag p.val 1 (s.bump (CM_CNT p.val 3))))
  else if s.maxFrameAt p.val (s.now - f.cycles) < f.bytes.length then
    .next (discardRx p.val f (cmFlag p.val 2 (s.bump (CM_CNT p.val 4))))
  else if !fcsGood f.bytes then .next (discardRx p.val f (cmFlag p.val 0 (s.bump (CM_CNT p.val 2))))
  else if sliceNum f.bytes 12 2 = 0x8808 then execPauseFrameReceive p (controlOf f.bytes) (discardRx p.val f s)
  else .next (finishRx p.val f s)

/-- A pass of a client port: a frame that waits for its pass, or a new one whose bytes have begun to arrive. -/
def clientPass (p : Nat) (bytes : List Byte) (ended : Bool) (s : State) : State :=
  match s.oldest p (fun x => !x.passed) with
    | some _ => passOldest p s
    | none =>
      if !s.macRuns p || (!ended && decide (bytes.length < 256)) || sliceNum bytes 12 2 = 0x8808 then s
      else if !s.queueOpen (pipeOf p) then paFlag 10 s
      else
        let (f, s) := newFrame p { origin := p, bytes := bytes, whole := ended } s
        match f with
        | some f => passFrame f ended s
        | none => s

/-- A frame that the referee has admitted from a tie link enters pipe 2 (R20). -/
def tiePass (e : Engine) (s : State) : State :=
  match s.pair.admitted.find? (fun x => x.1 = e) with
  | none => s
  | some (_, bytes) =>
    if !s.queueOpen 2 then paFlag 10 s
    else
      let s := s.modPair (fun p => { p with admitted := p.admitted.eraseP (fun x => x.1 = e) })
      if !fcsGood bytes then s
      else
        let (f, s) := newFrame 128 { origin := 128, bytes := bytes, whole := true, checked := true,
                                     stamp := Config.freeWord s.freeCtr } s.used
        match f with
        | some f => passFrame f true s
        | none => s

/-- The frame at the recirculation port enters pipe 2 for its second pass; a window start at or past the FCS ends it
at once (R256, R290). -/
def recircPass (s : State) : State :=
  match s.recirc with
  | (f, woff, square) :: rest =>
    if !(s.stageOf 133).contains f then s
    else if !s.queueOpen 2 then paFlag 10 s
    else
      let s := setEgress 133 [] { s with recirc := rest }
      match s.frame f with
      | none => s
      | some x =>
        let mk (n : Nat) : Pass := ⟨n, f, true, 129, x.parity, woff, (x.bytes.drop woff).take 256, some (scopeEndOf x.bytes woff), square, false⟩
        if x.bytes.length - 4 ≤ woff then
          let n := (s.pipe 2).nextNum
          endPass 2 { pass := mk n } 2 3 (s.modPipe 2 (fun y => { y with nextNum := n + 1 }))
        else enqueuePass 2 mk s
  | [] => s

/-- A frame that tenant firmware has sent enters pipe 2. -/
def ctlPass (s : State) : State :=
  match s.ctlSend with
  | f :: rest => if s.queueOpen 2 then passFrame f true { s with ctlSend := rest } else paFlag 10 s
  | [] => s

/-- The four inputs of pipe 2: tie link A, tie link B, the recirculation port, the controller port. What waits there (R24). -/
def State.inputWaits (s : State) (i : Nat) : Bool :=
  if i = 0 then s.pair.admitted.any (fun x => x.1 = .la)
  else if i = 1 then s.pair.admitted.any (fun x => x.1 = .lb)
  else if i = 2 then (match s.recirc with | (f, _, _) :: _ => (s.stageOf 133).contains f | [] => false)
  else !s.ctlSend.isEmpty

/-- The input of pipe 2 whose turn it is: in round-robin order after the last served, inputs with nothing waiting skipped
(R24). -/
def State.turnInput (s : State) : Option Nat :=
  ((List.range 4).map (fun k => ((s.pipe 2).lastInput + 1 + k) % 4)).find? s.inputWaits

/-- The source code of an input of pipe 2 (Table 11-2). -/
def inputSource (i : Nat) : Nat := if i ≤ 1 then 128 else 127 + i

/-- An input of pipe 2 is served; its turn is over when its frame has left it (R24). -/
def serveInput (i : Nat) (s : State) : State :=
  if !s.queueOpen 2 then paFlag 10 s
  else
    let s := s.modPipe 2 (fun x => { x with lastInput := i })
    if i = 0 then tiePass .la s else if i = 1 then tiePass .lb s else if i = 2 then recircPass s else ctlPass s

/-- PASS_READY: a pass of a source is ready and enters its pipe's dispatch queue (R256, R257, R278). A source of pipe 2 is served
when it is its turn (R24). -/
def execPassReady (src : Nat) (bytes : List Byte) (ended : Bool) (s : State) : Out :=
  if src < 128 then .next (clientPass src bytes ended s)
  else match s.turnInput with
    | some i => .next (if inputSource i = src then serveInput i s else s)
    | none => .next s

/-- CONTROLLER_PORT_SEND: tenant firmware hands a frame of its own to class 1 and into pipe 2 (R320, R213). -/
def execControllerPortSend (handle : Word) (len : Nat) (bytes : List Byte) (mark : SendMark) (s : State) : Out :=
  let h := handle.toNat
  let r := s.tile (handleTile h)
  let bs := bytes.take len
  if s.stopped.contains .tenant || decide (387071 < handleTile h) || r.gen ≠ handleGen h || !r.head || r.count = 0 ||
      r.owner ≠ 2 || decide ((s.chain 49 (handleTile h)).length < tilesFor bs.length) then .next s
  else
    let s := giveTiles h 1 s
    let f := s.nextId
    let x : Frame := { origin := 130, bytes := bs, whole := true, checked := true, head := some h, mark := mark,
                       ptp := ptpTags bs, stamp := Config.freeWord s.freeCtr, passed := false }
    let s := setFrame f (some x) s.newId.used
    if fcsGood bs then .next { s with ctlSend := s.ctlSend ++ [f] } else .next (dropFrame f s)

/-! ### Frames out (R213, R214, R248, R251) -/

/-- Whether a frame of an egress stage may go: encrypted, where its action asks for it. -/
def Frame.ready (x : Frame) : Bool := actScOp x.act ≠ 2 || x.secured

/-- The frame that a port sends next: an express frame first, then another unless the MAC holds (R251, R352). -/
def State.nextOut (s : State) (p : Nat) : Option Nat :=
  let fs := (s.stageOf p).filter (fun f => match s.frame f with | some x => x.ready | none => false)
  match fs.find? (fun f => s.frameExpress p f) with
  | some f => some f
  | none => if (s.port p).held then none else fs.head?

/-- The preemptable frame ahead of an express one in a port's stage, which the MAC may have started, and its length (R251). -/
def State.underWay (s : State) (p f : Nat) : Option (Nat × Nat) :=
  if !s.merged p || !s.frameExpress p f then none
  else match (s.stageOf p).head? with
    | some g => if g = f || s.frameExpress p g then none else match s.frame g with
      | some y => if y.ready then some (g, y.bytes.length) else none
      | none => none
    | none => none

/-- The bytes of a frame that earlier cuts have let out. -/
def State.sentOf (s : State) (p g : Nat) : Nat :=
  match (s.port p).cut with
  | some (h, n) => if h = g then n else 0
  | none => 0

/-- The first permitted cut of a frame that stands at byte `pos`, its earlier fragments ending at `from'`: a multiple of 16 bytes
that leaves the sent fragment its least size (R251). -/
def State.nextCut (s : State) (p from' pos : Nat) : Nat := (max pos (from' + s.minFragment p) + 15) / 16 * 16

/-- The last permitted cut of a frame: the remainder keeps its least size (R251). -/
def State.lastCut (s : State) (p len : Nat) : Nat := (len - s.minFragment p) / 16 * 16

/-- An express frame that comes when a frame stands at byte `pos` cuts it: a permitted cut still lies ahead (R251). -/
def State.preempts (s : State) (p from' pos len : Nat) : Bool :=
  decide (s.nextCut p from' pos ≤ s.lastCut p len) && decide (pos < s.lastCut p len)

/-- What the MAC does for a marked frame: the bytes it sends and its stamp (R213, R214). -/
def stampFrame (p : Nat) (x : Frame) (s : State) : List Byte × State :=
  match x.mark with
  | .plain => (freshFcs x.bytes, s)
  | .twoStep =>
    let t := s.stampAt (s.drawn 8) (signed 16 (s.get (CM_TS_CORR_TX_CORR p)))
    (freshFcs x.bytes, pushStamp p t x.ptp s.used)
  | .oneStep =>
    let t := s.stampAt (s.drawn 8) (signed 16 (s.get (CM_TS_CORR_TX_CORR p)))
    if x.secured then (freshFcs x.bytes, teFlag 14 (pushStamp p t x.ptp s.used))
    else (freshFcs (oneStep x.bytes t), s.used)

/-- A frame leaves a port: stamped, counted, its tiles freed. -/
def sendOut (p f : Nat) (s : State) : State :=
  match s.frame f with
  | none => setEgress p ((s.stageOf p).filter (· ≠ f)) s
  | some x =>
    let (bs, s) := stampFrame p x s
    let s := (s.bump (CM_CNT p 8)).bump (CM_CNT p 9) bs.length
    dropFrame f (setEgress p ((s.stageOf p).filter (· ≠ f)) (s.modPort p (fun y => { y with wire := bs })))

/-- The frame next at a port leaves. One that is express cuts a preemptable frame under way, or waits for its end where no permitted cut lies
ahead; where the MAC stands in that frame is free (R251). -/
def sendNext (p f : Nat) (s : State) : State :=
  match s.underWay p f with
  | none => sendOut p f s
  | some (g, len) =>
    let from' := s.sentOf p g
    let pos := from' + s.drawn (len + 1 - from')
    let s := s.used
    if pos = from' then sendOut p f s
    else if s.preempts p from' pos len then
      sendOut p f ((s.modPort p (fun y => { y with cut := some (g, s.nextCut p from' pos) })).bump (CM_CNT p 11))
    else sendOut p g s

/-- Every lane of a port sends: none holds electrical idle (R237). -/
def State.portSends (s : State) (p : Nat) : Bool := (s.laneGroup p).all (fun l => !s.txIdle l)

/-- CLIENT_FRAME_TRANSMIT: the frame next in a port's egress stage leaves (R248). -/
def execClientFrameTransmit (p : Port) (s : State) : Out :=
  if s.macRuns p.val && s.portSends p.val && !s.isSet (CL_STATUS_LPI_TX p.val) && !(s.port p.val).wakeHold then
    match s.nextOut p.val with
    | some f => .next (sendNext p.val f s)
    | none => .next s
  else .next s

/-! ### Low power idle and pause (R245, R250) -/

/-- A port has nothing to send. -/
def State.portIdle (s : State) (p : Nat) : Bool :=
  (s.stageOf p).isEmpty && s.busyQueues.all (fun q => s.egressOf q ≠ some p)

/-- LPI_TX_ENTER: the port has had nothing to send for IDLE; a wake in the same cycle cancels the entry (R245). -/
def execLpiTxEnter (p : Port) (wakeNow : Bool) (s : State) : Out :=
  if s.isSet (CM_LPI_TX_EN p.val) && s.portUp p.val && s.eeeMode p.val && s.portIdle p.val && !wakeNow &&
      !s.isSet (CL_STATUS_LPI_TX p.val) then
    let s := s.until ((s.lane p.val).upAt + 1000000000)
    let s := s.each (s.laneGroup p.val) (fun l s => clFlag l 4 (s.putB (CL_STATUS_LPI_TX l) true))
    .next (s.bump (CM_CNT p.val 12))
  else .next s

/-- A PAUSE frame, or a PFC frame with the classes of `cls`, of 64 bytes (R250). -/
def pauseFrame (p quanta : Nat) (pfc : Bool) (cls : Nat) : List Byte :=
  let head := bytesBE 6 0x0180C2000001 ++ ((Config.portMac p).take 6 ++ List.replicate 6 0).take 6 ++ bytesBE 2 0x8808
  let times := ((List.range 8).map (fun i => bytesBE 2 (if cls / 2 ^ i % 2 = 1 then quanta else 0))).flatten
  let body := head ++ (if pfc then bytesBE 2 0x101 ++ bytesBE 2 cls ++ times else bytesBE 2 1 ++ bytesBE 2 quanta)
  let body := body ++ List.replicate (60 - body.length) 0
  body ++ fcsBytes body

/-- A port sends a pause frame of its PAUSE_MODE; the classes of a PFC frame are free (R250). -/
def sendPause (p quanta : Nat) (s : State) : State :=
  let bs := pauseFrame p quanta (s.get (CM_CFG_PAUSE_MODE p) = 2) (s.drawn 256)
  ((s.modPort p (fun x => { x with wire := bs, pauseSent := if quanta = 0 then none else some quanta, pauseAt := s.now })).bump
    (CM_CNT p 10)).used

/-- When a port that has sent a pause repeats it: after half its quanta (R250). -/
def State.pauseAgain (s : State) (p : Nat) : Nat :=
  match (s.port p).pauseSent with
  | some q => (s.port p).pauseAt + s.quantaNs p q / 2
  | none => s.now

/-- PAUSE_SEND: a PAUSE or PFC frame with QUANTA while the ingress bag is in XOFF, repeated at half the quanta, and one with quanta 0
after it, unless the port is in low power idle or held after a wake (R245, R250, R325). -/
def execPauseSend (p : Port) (s : State) : Out :=
  let xoff := s.isSet (BM_BAG_FREE_XOFF_ST (s.get (BM_SRCMAP_BAG p.val)))
  if s.get (CM_CFG_PAUSE_MODE p.val) = 0 || !s.macRuns p.val || !s.portSends p.val || s.isSet (CL_STATUS_LPI_TX p.val) ||
      (s.port p.val).wakeHold then .next s
  else if xoff then .next (sendPause p.val (s.get (CM_QUANTA_QUANTA p.val)) (s.until (s.pauseAgain p.val)))
  else if (s.port p.val).pauseSent.isSome then .next (sendPause p.val 0 s)
  else .next s

/-! ### Packet parity (R326) -/

/-- A frame is taken out of every queue and stage. -/
def unqueue (f : Nat) (s : State) : State :=
  let s := match s.frame f with
    | some x => (match x.queue with
      | some q => if (s.qlist q).contains f then putQueue q ((s.qlist q).filter (· ≠ f)) s else s
      | none => s)
    | none => s
  let s := { s with recirc := s.recirc.filter (fun e => e.1 ≠ f), ctlSend := s.ctlSend.filter (· ≠ f) }
  s.each (s.qs.egress.map (·.1)) (fun n s => setEgress n ((s.stageOf n).filter (· ≠ f)) s)

/-- Held segments that a condition names are lost: their playout finds them missing (R412). -/
def dropSegs (p : HeldSeg → Bool) (s : State) : State :=
  s.each (List.range 32) (fun f s =>
    let x := sget (fun _ => {}) s.cbr f
    if x.held.any p then
      let held := x.held.filter (fun g => !p g)
      ({ s with cbr := sset (fun _ => {}) s.cbr f { x with held := held } }).put (CF_HELD_HELD f) held.length
    else s)

/-- The head tile's handle of the held segment whose chain has a tile. -/
def State.segHead (s : State) (t : Nat) : Option Nat :=
  ((s.cbr.map (fun e => e.2.held)).flatten.filterMap (·.head)).find? (fun h => (s.chain 49 (handleTile h)).contains t)

/-- Both copies of a tile's record are bad: the tile is quarantined and tested (R326), the tiles chained after it are lost until INIT or a reset,
and the frame that held them is dropped; its tiles before the bad one go back (R314). -/
def loseTile (t : Nat) (s : State) : State :=
  if (s.tile t).state = 1 then
    let lost := (s.chain 49 t).tail
    let holds (h : Nat) : Bool := (s.chain 49 (handleTile h)).contains t
    let holders := s.frames.filter (fun e => match e.2 with | some y => (match y.head with | some h => holds h | none => false) | none => false)
    let before := match holders.head? with
      | some (_, some y) => (s.chain 49 (handleTile (y.head.getD 0))).takeWhile (fun u => u ≠ t)
      | _ => match s.segHead t with
        | some h => (s.chain 49 (handleTile h)).takeWhile (fun u => u ≠ t)
        | none => []
    let s := s.each (holders.map (·.1)) (fun f s => setFrame f none (unqueue f s))
    let s := dropSegs (fun g => match g.head with | some h => holds h | none => false) s
    let s := ((s.bump (BM_CNT 6)).bump (BM_CNT 7)).each before returnTile
    let s := setTile t { s.tile t with state := 2, count := 0, next := none } s
    let s := s.each lost (fun u s => setTile u { s.tile u with state := 4, count := 0, next := none } s)
    let s := s.put BM_STATUS_LEAKED (min 262143 (s.get BM_STATUS_LEAKED + lost.length))
    observe (if lost = [] then s else bmFlag 0 s)
  else if (s.tile t).state = 0 then quarantineFree t s
  else s

/-- A FREE by tenant firmware whose head tile's record reads so (R314, R322). -/
def freeRead (h : Nat) (r : RecordRead) (s : State) : State :=
  match r, decide (handleTile h ≤ 387071) with
  | .oneBad, true => freeHandle h 2 130 (bmFlag 6 s)
  | .bothBad, true => loseTile (handleTile h) s
  | _, _ => freeHandle h 2 130 s

/-- BM_FREE: tenant firmware frees as class 2 (R322, Table 12-9). -/
def execBmFree (a : Agent) (handle : Word) (r : RecordRead) (s : State) : Out :=
  .next (s.byAgent [.tenant] a (freeRead handle.toNat r))

/-- A tile of the chain at a head shows a parity error: every frame and held segment of that chain is lost, its other tiles
go back, and the tile is tested (R326, R412). -/
def dropChain (h tile : Nat) (s : State) : State :=
  let ts := s.chain 49 (handleTile h)
  if ts.contains tile then
    let holders := (s.frames.filter (fun e => match e.2 with | some y => y.head = some h | none => false)).map (·.1)
    let s := dropSegs (fun g => g.head = some h) (s.each holders (fun f s => setFrame f none (unqueue f s)))
    let s := bmFlag 7 ((s.bump (BM_CNT 6)).bump (BM_CNT 7))
    let s := s.each (ts.filter (· ≠ tile)) returnTile
    observe (setTile tile { s.tile tile with state := 2, count := 0, next := none } s)
  else s

/-- DATA_PARITY: the frame, or the held segment that has the tile, is dropped, its other tiles go back, and the failing tile
is tested (R326, R412). -/
def execDataParity (frame tile : Nat) (s : State) : Out :=
  match s.frame frame with
  | some x => .next (match x.head with | some h => dropChain h tile s | none => s)
  | none => .next (match s.segHead tile with | some h => dropChain h tile s | none => s)

end Sys2Proof.Machine
end

