-- ==== Sys2Proof/Machine/Cipher.lean ====
section
/-! DEFINITION. The cipher engines: secure channels, service jobs, the pawn, key slots and retirement
(14_cipher_keys.md). -/
namespace Sys2Proof.Machine

/-! ### Records -/

/-- The record of a cipher engine. -/
def State.engine (s : State) (e : Nat) : CeEngine := sget (fun _ => {}) s.ce.engines e

/-- Change the record of a cipher engine. -/
def modEngine (e : Nat) (f : CeEngine → CeEngine) (s : State) : State :=
  { s with ce := { s.ce with engines := sset (fun _ => {}) s.ce.engines e (f (s.engine e)) } }

/-- SUSP of an engine follows its suspend slot. -/
def showSlot (e : Nat) (s : State) : State := s.putB (CE_STATUS_SUSP.bit e) (s.engine e).slot.isSome

/-- A loaded key slot. SA slot a is slot a, service slot k is slot 8,192 + k. -/
def State.keySlot (s : State) (k : Nat) : Option CeKey := sget keyReset s.ce.keys k

/-- Set a key slot. -/
def setKeySlot (k : Nat) (v : Option CeKey) (s : State) : State :=
  { s with ce := { s.ce with keys := sset keyReset s.ce.keys k v } }

/-- A slot is loaded, by its origin (Table 14-12): KEYED and KSIZE of an SA, with NEAR and EXHAUSTED cleared, or LOADED,
SIZE and ORIGIN of a service slot. -/
def loadSlot (k origin : Nat) (v : CeKey) (s : State) : State :=
  let big := decide (v.key.length = 32)
  let s := setKeySlot k (some v) s
  if k < 8192 then
    (((s.putB (CE_SA_KEYED k) true).putB (CE_SA_KSIZE k) big).putB (CE_SA_NEAR k) false).putB (CE_SA_EXHAUSTED k) false
  else
    ((s.putB (CE_KEYSTAT_LOADED (k - 8192)) true).putB (CE_KEYSTAT_SIZE (k - 8192)) big).put (CE_KEYSTAT_ORIGIN (k - 8192)) origin

/-- A slot becomes empty. -/
def emptySlot (k : Nat) (s : State) : State :=
  let s := setKeySlot k none s
  if k < 8192 then (s.putB (CE_SA_KEYED k) false).putB (CE_SA_KSIZE k) false
  else ((s.putB (CE_KEYSTAT_LOADED (k - 8192)) false).putB (CE_KEYSTAT_SIZE (k - 8192)) false).put (CE_KEYSTAT_ORIGIN (k - 8192)) 0

/-- NEXT_PN of an SA. -/
def State.nextPn (s : State) (a : Nat) : Nat := (s.reg (CE_SA_PN a)).toNat + (s.reg (CE_SA_PN a + 4)).toNat * 2 ^ 32

/-- Set NEXT_PN of an SA. -/
def setNextPn (a v : Nat) (s : State) : State :=
  (s.setReg (CE_SA_PN a) (BitVec.ofNat 32 v)).setReg (CE_SA_PN a + 4) (BitVec.ofNat 32 (v / 2 ^ 32))

/-! ### Secure channels (R367 to R372) -/

/-- XPN suites. -/
def State.xpn (s : State) (sc : Nat) : Bool := decide (2 ≤ s.get (CE_SC_SUITE sc))

/-- The SA of an association number of a channel, when it is in use there. -/
def State.saOf (s : State) (sc an : Nat) : Option Nat :=
  let w := s.reg (CE_SC_AN sc (an / 2))
  if an % 2 = 0 then (if w.field 15 15 = 1 then some (w.field 12 0) else none)
  else (if w.field 31 31 = 1 then some (w.field 28 16) else none)

/-- The key of an SA that may serve a channel: valid, keyed, and of the size of its suite (R369). -/
def State.saKey (s : State) (sc a : Nat) : Option CeKey :=
  match s.keySlot a with
  | some k =>
    if s.isSet (CE_SA_VALID a) && s.isSet (CE_SA_KEYED a) && decide (k.key.length = 32) = (decide (s.get (CE_SC_SUITE sc) % 2 = 1))
    then some k else none
  | none => none

/-- The engine that serves a channel (R367, R390). -/
def State.servingEngine (s : State) (sc : Nat) : Nat := s.get (CE_STATUS_STAND_IN.part 2 (s.get (CE_SC_CE sc)))

/-- The SCI of a channel, 8 bytes. -/
def State.sciOf (s : State) (sc : Nat) : List Byte := wordsOctets (s.words (CE_SC_SCI sc) 2)

/-- The 12-byte nonce of a frame: SCI and packet number, or for XPN the salt with SSCI and packet number (R372). -/
def nonceOf (xpn : Bool) (sci : List Byte) (k : CeKey) (pn : Nat) : List Byte :=
  if xpn then List.zipWith (· ^^^ ·) (padTo 12 k.salt) (padTo 4 k.ssci ++ bytesBE 8 pn) else sci ++ bytesBE 4 pn

/-- TCI and AN of a SecTAG (IEEE 802.1AE): ES, SC, SCB, E, C, AN. -/
def tciByte (es sc scb enc : Bool) (an : Nat) : Nat :=
  es.toNat * 64 + sc.toNat * 32 + scb.toNat * 16 + (if enc then 12 else 0) + an

/-- When an engine's bulk frame in progress ends; now, when it has none. -/
def State.bulkEnd (s : State) (e : Nat) : Nat :=
  match (s.engine e).work with
  | some (.bulk _ _ d) => max d s.now
  | _ => s.now

/-- The bulk work of an engine: counted, and in progress for its cost of CIPHER cycles (Table 14-1), after the frame before
it (R373). -/
def startBulk (e frame len : Nat) (preemptable : Bool) (s : State) : State :=
  let s := (s.bump (CE_CNT e 0)).bump (CE_CNT e 1) len
  let d := s.bulkEnd e + (((len + 15) / 16 + 4) * 2 + 2) / 3
  modEngine e (fun x => { x with work := some (.bulk frame preemptable d) }) s

/-- Whether an engine can take a bulk frame now: no service job runs, and while its suspend slot is full only an express
frame may run (R373, R375). -/
def State.bulkOpen (s : State) (e : Nat) (express : Bool) : Bool :=
  (s.engine e).work ≠ some .service && ((s.engine e).slot.isNone || express)

/-- A frame is encrypted under an SA's key and packet number (R368). -/
def protect (s : State) (sc : Nat) (k : CeKey) (pn : Nat) (bs : List Byte) : List Byte :=
  let data := (bs.take (bs.length - 4)).drop 12
  let enc := s.isSet (CE_SC_ENC sc)
  let incl := s.isSet (CE_SC_INCL_SCI sc)
  let tag := bytesBE 2 0x88E5 ++
    bytesBE 1 (tciByte (s.isSet (CE_SC_ES sc)) incl (s.isSet (CE_SC_SCB sc)) enc (s.get (CE_SC_ENC_AN sc))) ++
    bytesBE 1 (if data.length < 48 then data.length else 0) ++ bytesBE 4 (pn % 2 ^ 32) ++
    (if incl then s.sciOf sc else [])
  let head := bs.take 12 ++ tag
  let iv := nonceOf (s.xpn sc) (s.sciOf sc) k pn
  let x := if enc then gcmEncrypt k.key iv head data else ((data, (gcmEncrypt k.key iv (head ++ data) []).2))
  let out := head ++ x.1 ++ x.2
  out ++ fcsBytes out

/-- A frame that its channel cannot send is dropped. -/
def dropTx (n f : Nat) (s : State) : State := dropFrame f (setEgress n ((s.stageOf n).filter (· ≠ f)) s)

/-- The encryption of a frame at an L0 node's stage (R368 to R370). -/
def encryptFrame (sc n f : Nat) (x : Frame) (s : State) : State :=
  let an := s.get (CE_SC_ENC_AN sc)
  let e := s.servingEngine sc
  let noSa : State := dropTx n f (ceFlag 3 (s.bump (CE_GCNT 0)))
  if !s.isSet (CE_SC_VALID sc) || s.isSet (CE_SC_DIR sc) then noSa
  else match s.saOf sc an with
    | none => noSa
    | some a =>
      match s.saKey sc a with
      | none => noSa
      | some k =>
        let pn := s.nextPn a
        if s.isSet (CE_SA_EXHAUSTED a) || (!s.xpn sc && decide (2 ^ 32 ≤ pn)) then
          dropTx n f (ceFlag 5 ((s.putB (CE_SA_EXHAUSTED a) true).bump (CE_GCNT 1)))
        else
          let bs := protect s sc k pn x.bytes
          let s := setNextPn a ((pn + 1) % 2 ^ 64) s
          let s := if pn + 1 = 2 ^ 64 then s.putB (CE_SA_EXHAUSTED a) true else s
          let s := { s with ce := { s.ce with checks := sset (fun _ => none) s.ce.checks a (some (keyCheck k.key)) } }
          let thresh := (s.reg (CE_SC_THRESH sc)).toNat + (s.reg (CE_SC_THRESH sc + 4)).toNat * 2 ^ 32
          let s := if thresh ≤ pn + 1 ∧ !s.isSet (CE_SA_NEAR a) then ceFlag 4 (s.putB (CE_SA_NEAR a) true) else s
          let s := (s.bump (CE_SACNT a 0)).bump (CE_SACNT a 1) (x.bytes.length - 16)
          let pre := decide (n < 128) && s.merged n && !s.frameExpress n f
          let s := startBulk e f x.bytes.length pre s
          release n f (setFrame f (some { x with bytes := bs, secured := true }) s)

/-- The L0 node at whose stage a frame waits. -/
def State.stageWith (s : State) (f : Nat) : Option Nat := (s.qs.egress.find? (fun e => e.2.contains f)).map (·.1)

/-- CIPHER_BULK_ENCRYPT: a dequeued frame, the oldest of its kind in its stage, is encrypted on the engine of its channel (R17, R368
to R370). -/
def execCipherBulkEncrypt (sc : ScId) (frame : Nat) (s : State) : Out :=
  match s.frame frame, s.stageWith frame with
  | some x, some n =>
    let oldest := (s.stageOf n).find? (fun g => s.frameExpress n g = s.frameExpress n frame)
    if actScOp x.act = 2 && !x.secured && actSc x.act = sc.val && oldest = some frame &&
        s.bulkOpen (s.servingEngine sc.val) (decide (n < 128) && s.merged n && s.frameExpress n frame) then
      .next (encryptFrame sc.val n frame x s)
    else .next s
  | _, _ => .next s

/-- A SecTAG as a receiver reads it: E, AN, packet number, SCI if present, and its length. -/
structure SecTag where
  enc : Bool
  an : Nat
  pn : Nat
  sci : Option (List Byte)
  len : Nat
  deriving DecidableEq, Repr

/-- The SecTAG of a frame: none, malformed, or read (Table 14-2, IEEE 802.1AE). -/
def readTag (xpn : Bool) (bs : List Byte) : Option (Option SecTag) :=
  if sliceNum bs 12 2 ≠ 0x88E5 then none
  else
    let t := sliceNum bs 14 1
    let sl := sliceNum bs 15 1
    let bit (i : Nat) : Bool := t / 2 ^ i % 2 = 1
    let len := if bit 5 then 16 else 8
    let data := bs.length - 4 - 12 - len - 16
    let pn := sliceNum bs 16 4
    if bit 7 || (bit 6 && bit 5) || (bit 4 && bit 5) || decide (48 ≤ sl) || decide (bs.length < 12 + len + 16 + 4) ||
        (decide (sl ≠ 0) && decide (data < sl)) || (decide (sl = 0) && decide (data < 48)) || (!xpn && pn = 0) then some none
    else some (some ⟨bit 3, t % 4, pn, if bit 5 then some ((bs.drop 20).take 8) else none, len⟩)

/-- The packet number of a received frame; XPN recovers its upper half from NEXT_PN (R372, IEEE 802.1AE). -/
def recoverPn (xpn : Bool) (next low : Nat) : Nat :=
  if !xpn then low
  else
    let hi := next / 2 ^ 32
    low + (if 2 ^ 31 ≤ next % 2 ^ 32 ∧ low < 2 ^ 31 then hi + 1 else hi) * 2 ^ 32

/-- What a receive check finds: deliver these bytes, or drop; the counter and flag; and the packet number accepted. -/
structure SecVerdict where
  deliver : Option (List Byte)
  count : Option Nat
  flag : Option Nat
  accept : Option (Nat × Nat)
  deriving DecidableEq, Repr

/-- A frame without its SecTAG and ICV. -/
def stripped (bs : List Byte) (data : List Byte) : List Byte :=
  let out := bs.take 12 ++ data
  out ++ fcsBytes out

/-- The checks of Table 14-2, in order. -/
def judgeRx (s : State) (sc : Nat) (bs : List Byte) : SecVerdict :=
  let check := s.get (CE_SC_VALIDATE sc) = 1
  if !s.isSet (CE_SC_VALID sc) || !s.isSet (CE_SC_DIR sc) then ⟨none, some (CE_SCCNT sc 0), some 0, none⟩
  else match readTag (s.xpn sc) bs with
    | none => ⟨if check then some bs else none, some (CE_SCCNT sc 1), some 0, none⟩
    | some none => ⟨none, some (CE_SCCNT sc 2), some 0, none⟩
    | some (some t) =>
      if t.sci.isSome && t.sci ≠ some (s.sciOf sc) then ⟨none, some (CE_SCCNT sc 2), some 0, none⟩
      else
        let head := bs.take (12 + t.len)
        let rest := (bs.take (bs.length - 4)).drop (12 + t.len)
        let data := rest.take (rest.length - 16)
        let icv := rest.drop (rest.length - 16)
        let passUn := if check && !t.enc then some (stripped bs data) else none
        match s.saOf sc t.an with
        | none => ⟨passUn, some (CE_SCCNT sc 3), some 0, none⟩
        | some a =>
          match s.saKey sc a with
          | none => ⟨passUn, some (CE_SCCNT sc 3), some 0, none⟩
          | some k =>
            let next := s.nextPn a
            let pn := recoverPn (s.xpn sc) next t.pn
            if s.isSet (CE_SC_RP_EN sc) && decide (pn + s.get (CE_SC_WINDOW_WINDOW sc) < next) then
              ⟨none, some (CE_SACNT a 2), some 1, none⟩
            else
              let iv := nonceOf (s.xpn sc) (s.sciOf sc) k pn
              let x := if t.enc then gcmDecrypt k.key iv head data icv
                else ((data, (gcmDecrypt k.key iv (head ++ data) [] icv).2))
              if !x.2 then
                if check && !t.enc then ⟨some (stripped bs data), some (CE_SACNT a 4), some 0, none⟩
                else ⟨none, some (CE_SACNT a 3), some 0, none⟩
              else if (sget (fun _ => []) s.ce.seen a).contains pn then ⟨none, some (CE_SACNT a 5), some 2, none⟩
              else ⟨some (stripped bs x.1), some (CE_SACNT a 0), none, some (a, pn)⟩

/-- An accepted frame moves NEXT_PN and enters the repeat filter of the 64 numbers below it (R372). -/
def acceptPn (a pn octets : Nat) (s : State) : State :=
  let next := max (s.nextPn a) (pn + 1)
  let seen := (pn :: sget (fun _ => []) s.ce.seen a).filter (fun p => decide (next ≤ p + 64))
  let s := (setNextPn a next s).bump (CE_SACNT a 1) octets
  { s with ce := { s.ce with seen := sset (fun _ => []) s.ce.seen a seen } }

/-- A received frame is judged; delivered, it goes on to its queue or to its second pass (R290, R336, R371). -/
def verifyFrame (sc f : Nat) (x : Frame) (s : State) : State :=
  let v := judgeRx s sc x.bytes
  let s := startBulk (s.servingEngine sc) f x.bytes.length false s
  let s := match v.count with | some c => s.bump c | none => s
  let s := match v.flag with | some b => ceFlag b s | none => s
  match v.deliver with
  | none => dropFrame f s
  | some bs =>
    let s := match v.accept with | some (a, pn) => acceptPn a pn (bs.length - 16) s | none => s
    let s := setFrame f (some { x with bytes := bs, verified := true }) s
    if actKind x.act = 3 then pushRecirc f s else s

/-- CIPHER_BULK_VERIFY: a frame is verified before it is queued or recirculated (R371, R372). -/
def execCipherBulkVerify (sc : ScId) (frame : Nat) (s : State) : Out :=
  match s.frame frame with
  | some x =>
    if x.checked && x.verifySc = some sc.val && x.result.isNone && x.queue.isNone &&
        s.bulkOpen (s.servingEngine sc.val) false then
      .next (verifyFrame sc.val frame x s)
    else .next s
  | none => .next s

/-! ### Suspension (R373 to R375) -/

/-- The engine's work may be suspended: a preemptable bulk frame in progress, or a service job that is not urgent. -/
def State.suspendable (s : State) (e : Nat) : Bool :=
  match (s.engine e).work with
  | some (.bulk _ p d) => p && decide (s.now < d)
  | some .service => !s.isSet (CE_OP_URGENT e)
  | none => false

/-- CIPHER_SUSPEND: the running job goes to the empty suspend slot at the end of its block (R374, R375). -/
def execCipherSuspend (e : CeId) (s : State) : Out :=
  if (s.engine e.val).slot.isNone && s.suspendable e.val then
    let w := match (s.engine e.val).work with
      | some (.bulk f p d) => some (.bulk f p (d - s.now))
      | w => w
    let s := s.when (w = some .service) (fun s => s.putB (CE_JOB_SUSPENDED e.val) true)
    .next (showSlot e.val (modEngine e.val (fun x => { x with slot := w, work := none }) (ceFlag 11 (s.bump (CE_CNT e.val 3)))))
  else .next s

/-- CIPHER_RESUME: the job in the suspend slot runs on, when the engine's bulk frame has ended (R373, R375). -/
def execCipherResume (e : CeId) (s : State) : Out :=
  match (s.engine e.val).slot with
  | some w =>
    if (s.engine e.val).work = some .service then .next s
    else
      let s := s.until (s.bulkEnd e.val)
      let w' := match w with
        | .bulk f p d => .bulk f p (s.now + d)
        | .service => .service
      let s := s.putB (CE_JOB_SUSPENDED e.val) false
      .next (showSlot e.val (modEngine e.val (fun x => { x with slot := none, work := some w' }) s))
  | none => .next s

/-! ### The pawn (R380, R381) -/

/-- The pawn's code of an agent. -/
def pawnCode : Agent → Nat
  | .carrier => 1
  | .tenant => 2
  | .keeper => 3
  | .host => 4

/-- A write to the pawn. -/
def writePawn (a : Agent) (e code : Nat) (s : State) : State :=
  let h := s.get (CE_PAWN_HOLDER e)
  if h = 0 ∧ code = pawnCode a then s.put (CE_PAWN_HOLDER e) code
  else if h = pawnCode a ∧ code = 0 then s.put (CE_PAWN_HOLDER e) 0
  else ceFlag 7 s

/-- PAWN_WRITE (R380). -/
def execPawnWrite (a : Agent) (e : CeId) (code : Nat) (s : State) : Out :=
  .next (s.byAgent [.tenant, .host, .carrier, .keeper] a (writePawn a e.val code))

/-! ### Service jobs (R377 to R379, R383, R384) -/

/-- First byte and size of an agent's memory in the store of memories (R378). -/
def jobMemory (code : Nat) : Nat × Nat :=
  if code = 1 then (0, 2 ^ 22)
  else if code = 2 then (2 ^ 23, 2 ^ 22)
  else if code = 3 then (2 ^ 24, 2 ^ 18)
  else (2 ^ 23 + 3 * 2 ^ 20, 2 ^ 20)

/-- Bytes of the memories. -/
def State.memBytes (s : State) (a n : Nat) : List Byte := (List.range n).map (fun i => sget (fun _ => 0) s.sram (a + i))

/-- Store bytes in the memories. -/
def putMem (a : Nat) (bs : List Byte) (s : State) : State :=
  { s with sram := bs.zipIdx.foldl (fun st x => sset (fun _ => 0) st (a + x.2) x.1) s.sram }

/-- A job ends: DONE, its result, and the flags (R379). -/
def endJob (e result : Nat) (s : State) : State :=
  let s := (((s.putB (CE_OP_GO e) false).putB (CE_JOB_BUSY e) false).putB (CE_JOB_SUSPENDED e) false).putB (CE_JOB_DONE e) true
  let s := ceFlag 8 (s.put (CE_JOB_RESULT e) result)
  let s := if result ≠ 0 then ceFlag 9 s else s
  showSlot e (modEngine e (fun x => { x with
    go := none, result := none, dest := none, rerun := false, agent := 0,
    work := if x.work = some .service then none else x.work
    slot := if x.slot = some .service then none else x.slot }) s)

/-- Whether an agent's code may name a service slot in a job (Table 14-5). -/
def slotAllowed (code k : Nat) : Bool :=
  (code = 1 && decide (k ≤ 31)) || (code = 2 && decide (32 ≤ k) && decide (k ≤ 239)) ||
  (code = 4 && decide (128 ≤ k) && decide (k ≤ 239)) || (code = 3 && decide (240 ≤ k) && decide (k ≤ 247))

/-- The key that a job's K names, where the job may name it (R383, R384). -/
def State.jobKey (s : State) (e code op : Nat) : Option CeKey :=
  let k := s.get (CE_KW_K e)
  if s.isSet (CE_OP_KSA e) then (if op = 5 && (code = 2 || code = 4) then s.keySlot k else none)
  else if slotAllowed code k then s.keySlot (8192 + k) else none

/-- The slot that a job's D names, where the job may write it. -/
def State.jobDest (s : State) (e code : Nat) : Option Nat :=
  let d := s.get (CE_D_D e)
  if s.isSet (CE_OP_DSA e) then (if code = 2 || code = 4 then some d else none)
  else if slotAllowed code d then some (8192 + d) else none

/-- The wrapping key that a job's W names. -/
def State.jobWrap (s : State) (e code op : Nat) : Option CeKey :=
  let w := s.get (CE_KW_W e) % 256
  if op = 6 && w = 255 then s.keySlot 8447
  else if slotAllowed code w then s.keySlot (8192 + w) else none

/-- The bytes that a job reads at SRC. -/
def State.jobSrc (s : State) (e code : Nat) : List Byte :=
  s.memBytes ((jobMemory code).1 + (s.reg (CE_SRC e)).toNat) (s.get (CE_LEN_LEN e))

/-- DATA0 to DATA3 as 16 bytes. -/
def State.jobTag (s : State) (e : Nat) : List Byte := wordsOctets (s.words (CE_DATA e 0) 4)

/-- Bytes in DATA from DATA0 on. -/
def putData (e : Nat) (bs : List Byte) (s : State) : State := putWords (CE_DATA e 0) (bytesWords (bs.length / 4) bs) s

/-- The IV of a GCM job. -/
def State.jobIv (s : State) (e : Nat) : List Byte := wordsOctets (s.words (CE_IV e 0) 3)

/-- A destination slot takes a key; an SA slot keeps its salt and SSCI. -/
def putDest (k origin : Nat) (key : List Byte) (s : State) : State :=
  let old := (s.keySlot k).getD { key := [] }
  loadSlot k origin { old with key := key } s

/-- The key that a job leaves in D when it ends. -/
def holdDest (e k origin : Nat) (key : List Byte) (s : State) : State :=
  modEngine e (fun x => { x with dest := some (k, origin, key) }) s

/-- What the jobs of Table 14-4 do: their result and the state. -/
abbrev Job := Nat → Nat → State → Nat × State

/-- CMAC_GEN. -/
def jobCmacGen : Job := fun e code s =>
  match s.jobKey e code 1 with
  | some k => (0, putData e (aesCmac k.key (s.jobSrc e code)) s)
  | none => (2, s)

/-- CMAC_VER. -/
def jobCmacVer : Job := fun e code s =>
  match s.jobKey e code 2 with
  | some k => (if aesCmac k.key (s.jobSrc e code) = s.jobTag e then 0 else 1, s)
  | none => (2, s)

/-- GCM_ENC: AAD and ciphertext at DST, the tag in DATA. -/
def jobGcmEnc : Job := fun e code s =>
  match s.jobKey e code 3 with
  | some k =>
    let src := s.jobSrc e code
    let n := s.get (CE_AADLEN_AADLEN e)
    let x := gcmEncrypt k.key (s.jobIv e) (src.take n) (src.drop n)
    (0, putData e x.2 (putMem ((jobMemory code).1 + (s.reg (CE_DST e)).toNat) (src.take n ++ x.1) s))
  | none => (2, s)

/-- GCM_DEC: plaintext at DST, zeros there when the tag fails (R378). -/
def jobGcmDec : Job := fun e code s =>
  match s.jobKey e code 4 with
  | some k =>
    let src := s.jobSrc e code
    let n := s.get (CE_AADLEN_AADLEN e)
    let x := gcmDecrypt k.key (s.jobIv e) (src.take n) (src.drop n) (s.jobTag e)
    let dst := (jobMemory code).1 + (s.reg (CE_DST e)).toNat
    if x.2 then (0, putMem dst x.1 s) else (1, putMem dst (List.replicate x.1.length 0) s)
  | none => (2, s)

/-- WRAP: K under a loaded service slot other than 255 (R384). -/
def jobWrap : Job := fun e code s =>
  match s.jobKey e code 5, s.jobWrap e code 5 with
  | some k, some w => (0, putData e (aesWrap w.key k.key) s)
  | _, _ => (2, s)

/-- UNWRAP: 40 bytes when LEN is 40, otherwise 24 bytes, into D. -/
def jobUnwrap : Job := fun e code s =>
  match s.jobWrap e code 6, s.jobDest e code with
  | some w, some d =>
    let n := if s.get (CE_LEN_LEN e) = 40 then 40 else 24
    match aesUnwrap w.key ((wordsOctets (s.words (CE_DATA e 0) 10)).take n) with
    | some k => (0, holdDest e d 1 k s)
    | none => (1, s)
  | _, _ => (2, s)

/-- The size of the key that DSIZE names, in bytes. -/
def State.dsize (s : State) (e : Nat) : Nat := if s.isSet (CE_D_DSIZE e) then 32 else 16

/-- KDF. -/
def jobKdf : Job := fun e code s =>
  match s.jobKey e code 7, s.jobDest e code with
  | some k, some d => (0, holdDest e d 3 (padTo (s.dsize e) (Config.kdf k.key (s.jobSrc e code) (s.dsize e))) s)
  | _, _ => (2, s)

/-- GEN. -/
def jobGen : Job := fun e code s =>
  match s.jobDest e code with
  | some d => (0, holdDest e d 2 (padTo (s.dsize e) (Config.randomBytes s.freeCtr)) s.used)
  | none => (2, s)

/-- SEND_LINE: a carrier key under the transfer key, to the line dies that ARG names (R387). -/
def jobSendLine : Job := fun e code s =>
  let k := s.get (CE_KW_K e)
  match (if code = 1 ∧ k ≤ 31 ∧ !s.isSet (CE_OP_KSA e) then s.keySlot (8192 + k) else none), s.keySlot 8446 with
  | some key, some t =>
    let w := aesWrap t.key key.key
    (0, s.each [Engine.la, Engine.lb] (fun x s =>
      if s.get (CE_OP_ARG e) / 2 ^ x.n % 2 = 1 then s.modLine x (fun l => { l with masterKey := some w }) else s))
  | _, _ => (2, s)

/-- An address range of a job lies in its holder's memory (R378). -/
def State.jobRange (s : State) (e code : Nat) : Bool :=
  let op := s.get (CE_OP_OP e)
  let size := (jobMemory code).2
  let len := s.get (CE_LEN_LEN e)
  let src := decide ((s.reg (CE_SRC e)).toNat + len ≤ size)
  let dst := decide ((s.reg (CE_DST e)).toNat + (if op = 4 then len - s.get (CE_AADLEN_AADLEN e) else len) ≤ size)
  if op = 1 || op = 2 || op = 7 then src else if op = 3 || op = 4 then src && dst else true

/-- GO by the holder: the job waits, or is refused (R379, R390). -/
def goJob (e : Nat) (s : State) : State :=
  let code := s.get (CE_PAWN_HOLDER e)
  let op := s.get (CE_OP_OP e)
  if s.isSet (CE_JOB_BUSY e) then ceFlag 9 (s.put (CE_JOB_RESULT e) 4)
  else if !s.isSet (CE_STATUS_IN_SERVICE.bit e) then endJob e 7 s
  else if op = 0 ∨ 9 < op ∨ (s.isSet (CE_OP_URGENT e) ∧ 2048 < s.get (CE_LEN_LEN e)) then endJob e 4 s
  else if !s.jobRange e code then endJob e 3 s
  else modEngine e (fun x => { x with go := some s.now, agent := code }) ((s.putB (CE_OP_GO e) true).putB (CE_JOB_BUSY e) true)

/-- A waiting job has passed its deadline (R379). -/
def State.pastDeadline (s : State) (e : Nat) : Bool :=
  match (s.engine e).go with
  | some t => decide (s.get (CE_OP_DL e) ≠ 0) && decide (s.get (CE_OP_DL e) * 1000 ≤ s.now - t)
  | none => false

/-- A waiting job of an OP starts on its engine when the bulk frame there has ended, and runs; JOB_DONE ends it. While
the suspend slot is full only an urgent job runs (R373, R375); on a retired engine it ends with ENGINE_FAULT (R390). GO is
cleared when the job starts (Table 14-8). -/
def startJob (e op : Nat) (f : Job) (s : State) : State :=
  let x := s.engine e
  if x.go.isNone || s.get (CE_OP_OP e) ≠ op || x.work = some .service || (x.slot.isSome && !s.isSet (CE_OP_URGENT e)) then s
  else
  let s := s.until (s.bulkEnd e)
  if !s.isSet (CE_STATUS_IN_SERVICE.bit e) then endJob e 7 s
  else if s.pastDeadline e then endJob e 5 (ceFlag 10 s)
  else
    let (r, s) := f e x.agent (s.putB (CE_OP_GO e) false)
    modEngine e (fun x => { x with go := none, result := some r, work := some .service }) (s.bump (CE_CNT e 2))

/-- CMAC_GEN (R377). -/
def execCmacGen (e : CeId) (s : State) : Out := .next (startJob e.val 1 jobCmacGen s)
/-- CMAC_VER (R377). -/
def execCmacVer (e : CeId) (s : State) : Out := .next (startJob e.val 2 jobCmacVer s)
/-- GCM_ENC (R377). -/
def execGcmEnc (e : CeId) (s : State) : Out := .next (startJob e.val 3 jobGcmEnc s)
/-- GCM_DEC (R378). -/
def execGcmDec (e : CeId) (s : State) : Out := .next (startJob e.val 4 jobGcmDec s)
/-- WRAP (R384). -/
def execWrap (e : CeId) (s : State) : Out := .next (startJob e.val 5 jobWrap s)
/-- UNWRAP (R377). -/
def execUnwrap (e : CeId) (s : State) : Out := .next (startJob e.val 6 jobUnwrap s)
/-- KDF (R377). -/
def execKdf (e : CeId) (s : State) : Out := .next (startJob e.val 7 jobKdf s)
/-- GEN (R377). -/
def execGen (e : CeId) (s : State) : Out := .next (startJob e.val 8 jobGen s)
/-- SEND_LINE (R387). -/
def execSendLine (e : CeId) (s : State) : Out := .next (startJob e.val 9 jobSendLine s)

/-- DEADLINE: a job that has not started in time is not run (R379). -/
def execDeadline (e : CeId) (s : State) : Out :=
  if s.pastDeadline e.val then .next (endJob e.val 5 (ceFlag 10 s)) else .next s

/-- JOB_DONE: the running job completes, and its key, if any, is in D (R379). -/
def execJobDone (e : CeId) (s : State) : Out :=
  match (s.engine e.val).result, (s.engine e.val).work with
  | some r, some .service =>
    let s := match (s.engine e.val).dest with
      | some (k, origin, key) => putDest k origin key s
      | none => s
    .next (endJob e.val r s)
  | _, _ => .next s

/-! ### Key slots (R370, R382 to R385) -/

/-- The agents that may write a service slot (Table 14-5). -/
def slotWriter (k : Nat) : Option Agent :=
  if k ≤ 31 then some .carrier
  else if k ≤ 239 then some .tenant
  else if k ≤ 247 then some .keeper
  else if k = 254 then some .keeper
  else none

/-- First word of a key slot (Table 14-11). -/
def keyAddr (sa : Bool) (slot : Nat) : Nat := if sa then 0x04900000 + 0x40 * slot else 0x04A00000 + 0x40 * slot

/-- The write of word 15 installs the words held aside (R382). -/
def installSlot (a : Agent) (sa : Bool) (slot : Nat) (w : Word) (s : State) : State :=
  let base := keyAddr sa slot
  let k := if sa then slot else 8192 + slot
  let old := (s.keySlot k).getD { key := [] }
  let oldBytes := padTo 32 old.key ++ padTo 12 old.salt ++ padTo 4 old.ssci
  let word (i : Nat) : List Byte :=
    match s.heldWord a (base + 4 * i) with
    | some v => wordOctets v
    | none => (oldBytes.drop (4 * i)).take 4
  let bytes := ((List.range 12).map word).flatten
  let key := bytes.take (if w.field 31 31 = 1 then 32 else 16)
  let v : CeKey := if sa then ⟨key, (bytes.drop 32).take 12, (bytes.drop 44).take 4⟩ else ⟨key, [], []⟩
  clearHeld a base (base + 64) (loadSlot k 0 v s)

/-- A write to a key slot is for its own agent; for another that the caption lists it sets SLOT_REFUSED (R383). -/
def slotWrite (a : Agent) (sa : Bool) (slot : Nat) (f : State → State) (s : State) : State :=
  if sa then s.byAgent [.tenant] a f
  else s.byAgent [.tenant, .carrier, .keeper] a (fun s => if slotWriter slot = some a then f s else ceFlag 17 s)

/-- KEY_SLOT_INSTALL (R382 to R384). -/
def execKeySlotInstall (a : Agent) (sa : Bool) (slot : Nat) (w : Word) (s : State) : Out :=
  if slot < (if sa then 8192 else 256) then .next (slotWrite a sa slot (installSlot a sa slot w) s) else .next s

/-- A write of NEXT_PN: lowering it is refused while the key may be the one last used (R370). -/
def writeNextPn (a : Agent) (sa : Nat) (hi : Word) (s : State) : State :=
  let lo := (s.heldWord a (CE_SA_PN sa)).getD (s.reg (CE_SA_PN sa))
  let v := lo.toNat + hi.toNat * 2 ^ 32
  let s := clearHeld a (CE_SA_PN sa) (CE_SA_PN sa + 8) s
  let reuse : Bool := match sget (fun _ => none) s.ce.checks sa, s.keySlot sa with
    | some c, some k => keyCheck k.key = c
    | some _, none => true
    | none, _ => false
  if v < s.nextPn sa ∧ reuse then ceFlag 6 s else setNextPn sa v s

/-- NEXT_PN_WRITE (R10, R370). -/
def execNextPnWrite (a : Agent) (sa : SaId) (high : Bool) (w : Word) (s : State) : Out :=
  .next (s.byAgent [.tenant, .host] a (fun s =>
    if high then writeNextPn a sa.val w s else holdWord a (CE_SA_PN sa.val) w s))

/-- KEY_PARITY: one bad copy is rewritten; two empty the slot (R385). -/
def execKeyParity (sa : Bool) (slot : Nat) (both : Bool) (s : State) : Out :=
  if slot < (if sa then 8192 else 256) then
    .next (if both then ceFlag 16 (emptySlot (if sa then slot else 8192 + slot) s) else ceFlag 15 s)
  else .next s

/-! ### Strikes (R389, R390) -/

/-- STAND_IN follows the engines in service: the next one in order (R390). -/
def showStandIn (s : State) : State :=
  s.each [0, 1, 2, 3] (fun e s =>
    match ([0, 1, 2, 3].map (fun i => (e + i) % 4)).find? (fun v => s.isSet (CE_STATUS_IN_SERVICE.bit v)) with
    | some v => s.put (CE_STATUS_STAND_IN.part 2 e) v
    | none => s)

/-- A strike is added to an engine; a third retires it, unless it is the last (R389, R390). -/
def engineStrike (e : Nat) (s : State) : State :=
  let n := s.get (CE_STATUS_STRIKES.part 2 e)
  let s := ceFlag 12 s
  if 2 ≤ n then
    if [0, 1, 2, 3].any (fun v => v ≠ e && s.isSet (CE_STATUS_IN_SERVICE.bit v)) then
      showStandIn (ceFlag 13 ((s.put (CE_STATUS_STRIKES.part 2 e) 0).putB (CE_STATUS_IN_SERVICE.bit e) false))
    else ceFlag 14 s
  else s.put (CE_STATUS_STRIKES.part 2 e) (n + 1)

/-- A bulk frame that an engine was working on is lost. -/
def loseBulk (e f : Nat) (s : State) : State :=
  let s := s.bump (CE_CNT e 5)
  match s.frame f with
  | some _ => dropFrame f (unqueue f s)
  | none => s

/-- CIPHER_ENGINE_PARITY: a strike; the bulk frame in progress is dropped, a service job is run again once (R389). -/
def execCipherEngineParity (e : CeId) (s : State) : Out :=
  let x := s.engine e.val
  let s := engineStrike e.val s
  let w := match x.work with
    | some (.bulk f p d) => if s.now < d then some (CeWork.bulk f p d) else x.slot
    | some .service => some .service
    | none => x.slot
  match w with
  | some (.bulk f _ _) =>
    .next (showSlot e.val (modEngine e.val (fun x => { x with
      work := if x.work = w then none else x.work, slot := if x.slot = w then none else x.slot }) (loseBulk e.val f s)))
  | some .service =>
    if x.rerun || !s.isSet (CE_STATUS_IN_SERVICE.bit e.val) then .next (endJob e.val 7 s)
    else
      let s := (s.bump (CE_CNT e.val 4)).putB (CE_JOB_SUSPENDED e.val) false
      .next (showSlot e.val (modEngine e.val (fun x => { x with
        go := some s.now, result := none, rerun := true
        work := if x.work = some .service then none else x.work
        slot := if x.slot = some .service then none else x.slot }) s))
  | none => .next s

/-- CIPHER_STRIKE_EXPIRY (R389). -/
def execCipherStrikeExpiry (e : CeId) (s : State) : Out :=
  .next (s.put (CE_STATUS_STRIKES.part 2 e.val) (s.get (CE_STATUS_STRIKES.part 2 e.val) - 1))

/-- Engines return to service with no strikes (R390). -/
def restoreCipher (mask : BitVec 4) (s : State) : State :=
  showStandIn (s.each [0, 1, 2, 3] (fun e s =>
    if mask.getLsbD e then (s.putB (CE_STATUS_IN_SERVICE.bit e) true).put (CE_STATUS_STRIKES.part 2 e) 0 else s))

/-- CIPHER_RESTORE (R390). -/
def execCipherRestore (a : Agent) (mask : BitVec 4) (s : State) : Out :=
  .next (s.byAgent [.tenant, .host] a (restoreCipher mask))

end Sys2Proof.Machine
end

