-- ==== Sys2Proof/Machine/Cbr.lean ====
section
/-! DEFINITION. The CBR framers: cutting and stamping, alignment, defects, performance monitoring, playout and clock
recovery (15_leased_line_emulation.md). -/
namespace Sys2Proof.Machine

/-! ### Records -/

/-- The record of a framer. -/
def State.cf (s : State) (f : Nat) : CbrX := sget (fun _ => {}) s.cbr f

/-- Change the record of a framer. -/
def modCf (f : Nat) (g : CbrX → CbrX) (s : State) : State :=
  { s with cbr := sset (fun _ => {}) s.cbr f (g (s.cf f)) }

/-- A framer runs. -/
def State.cfOn (s : State) (f : Nat) : Bool := s.isSet (CF_CFG_EN f)

/-- The mode of a framer's lane, less 0x8: 0 STM-1 to 5 OTU2. -/
def State.cfSig (s : State) (f : Nat) : Nat := s.laneMode (s.get (CF_CFG_LANE f)) - 8

/-- The framer's signal is OTN. -/
def State.otn (s : State) (f : Nat) : Bool := decide (4 ≤ s.cfSig f)

/-- Whether a path is monitored: always in OTN, and PATH from 1 to N in SDH (R400). -/
def State.hasPath (s : State) (f : Nat) : Bool :=
  s.otn f || (decide (1 ≤ s.get (CF_CFG_PATH f)) && decide (s.get (CF_CFG_PATH f) ≤ 4 ^ s.cfSig f))

/-! ### Performance bins (R404, R405) -/

/-- A new current bin starts at the present second of house time. -/
def startBin (f k : Nat) (sus : Bool) (s : State) : State :=
  let sec := s.house / second
  let s := (s.setReg (CF_BIN_START f k) (BitVec.ofNat 32 sec)).setReg (CF_BIN_START f k + 4) (BitVec.ofNat 32 (sec / 2 ^ 32))
  let s := (s.setReg (CF_BIN_LEN f k) 0).setReg (CF_BIN_FLAGS f k) 0
  let s := (s.putB (CF_BIN_FLAGS_VALID f k) true).putB (CF_BIN_FLAGS_SUSPECT f k) sus
  s.each (List.range 32) (fun j s => s.setReg (CF_BIN_COUNT f k j) 0)

/-- A bin record moves to another place. -/
def moveBin (f a b : Nat) (s : State) : State := putWords (CF_BIN_START f b) (s.words (CF_BIN_START f a) 36) s

/-- The current bin of a series closes in a framer and a new one starts (R404, R405); series 0 is the 15-minute one. -/
def closeBin (series f : Nat) (s : State) : State :=
  let k := if series = 0 then 0 else 17
  let nominal := if series = 0 then 900 else 86400
  let start := (s.reg (CF_BIN_START f k)).toNat + (s.reg (CF_BIN_START f k + 4)).toNat * 2 ^ 32
  let span := s.house / second - start
  let s := if span + 10 < nominal ∨ nominal + 10 < span then s.putB (CF_BIN_FLAGS_SUSPECT f k) true else s
  let s := if series = 0 then s.each ((List.range 16).reverse) (fun i s => moveBin f i (i + 1) s) else moveBin f 17 18 s
  let s := modCf f (fun x => if series = 0 then { x with gen15 := x.gen15 + 1 } else { x with gen24 := x.gen24 + 1 }) s
  cfFlag f 24 (startBin f k false s)

/-- A bin boundary closes the bin of a series in every enabled framer (R404). -/
def closeBins (series : Nat) (s : State) : State :=
  s.each ((List.range 32).filter s.cfOn) (closeBin series)

/-- A house step marks the bins of every framer (R405). -/
def suspectAll (s : State) : State := s.each (List.range 32) suspect

/-! ### Enabling (R395, R409) -/

/-- The recovery loop takes a state; a change sets CLK_CHG (R409). -/
def setClk (f st : Nat) (s : State) : State :=
  if s.get (CF_CLK_STATE f) = st then s else cfFlag f 22 (s.put (CF_CLK_STATE f) st)

/-- HELD follows the held segments. -/
def showHeld (f : Nat) (s : State) : State := s.put (CF_HELD_HELD f) (s.cf f).held.length

/-- The tiles of a segment are freed. -/
def freeSeg (g : HeldSeg) (s : State) : State :=
  match g.head with
  | some h => freeHandle h (s.tile (handleTile h)).owner 255 s
  | none => s

/-- A write of EN (R395). -/
def writeFramerEn (f : Nat) (v : Bool) (s : State) : State :=
  if v = s.cfOn f then s
  else if v then
    let lane := s.get (CF_CFG_LANE f)
    if !s.laneCbr lane || (s.framerOf lane).isSome then cfFlag f 25 s
    else
      let s := modCf f (fun x => { x with segStart := s.house, aligned := false, huntN := none, next := none, buf := s.get (CF_RXBUF_BUF f) }) (s.putB (CF_CFG_EN f) true)
      let s := s.each [0, 17] (fun k s => if s.isSet (CF_BIN_FLAGS_VALID f k) then s else startBin f k true s)
      suspect f s
  else
    let s := s.each (s.cf f).held freeSeg
    let s := modCf f (fun x => { x with held := [], next := none, aligned := false, sample := none, goodSince := none }) s
    showHeld f (setClk f 0 (s.putB (CF_CFG_EN f) false))

/-- FRAMER_ENABLE (R395). -/
def execFramerEnable (a : Agent) (f : Framer) (v : Bool) (s : State) : Out :=
  .next (s.byAgent [.tenant, .host] a (writeFramerEn f.val v))

/-! ### Cutting and stamping (R396 to R398) -/

/-- The low 32 bits of the seconds, the nanoseconds and the quarter nanoseconds of a time, 8 bytes (Table 15-3). -/
def segTime (t : Nat) : List Byte :=
  bytesBE 4 (t / second % 2 ^ 32) ++ bytesBE 4 (t / 2 ^ 32 % 1000000000 * 4 + t % 2 ^ 32 / 2 ^ 30)

/-- CRC-16 of the segment header (Table 15-3). -/
def segHeader (sig : Nat) (los lof ais tunl : Bool) (seq t cid : Nat) : List Byte :=
  let h := bytesBE 1 (16 + sig) ++ bytesBE 1 (los.toNat * 128 + lof.toNat * 64 + ais.toNat * 32 + tunl.toNat * 16) ++
    bytesBE 2 seq ++ segTime t ++ bytesBE 2 cid
  h ++ bytesBE 2 (crc16 h)

/-- The selected time domain is not Locked. -/
def State.timeUnlocked (s : State) : Bool := s.get (TE_DOM_STATUS_STATE s.te.sel.val) ≠ 2

/-- SEGMENT_CUT: 8,192 received bits become a stamped frame in the lane's pipe; while dLOS is present, ones at the nominal
rate (R396 to R398). -/
def execSegmentCut (f : Framer) (payload : List Byte) (s : State) : Out :=
  let f := f.val
  if !s.cfOn f || payload.length ≠ 1024 then .next s
  else
    let x := s.cf f
    let lane := s.get (CF_CFG_LANE f)
    let bit (i : Nat) : Bool := s.isSet ((CF_STATUS_DEFECT f).bit i)
    let bits := if bit 0 then List.replicate 1024 (0xFF : Byte) else payload
    let addr := (wordsOctets (s.words (CF_DA f 0) 3))
    let tag := if s.isSet (CF_VLAN_VLAN_EN f) then
      bytesBE 2 0x8100 ++ bytesBE 2 (s.get (CF_VLAN_PCP f) * 2 ^ 13 + s.get (CF_VLAN_VID f)) else []
    let body := addr ++ tag ++ bytesBE 2 (s.get (CF_VLAN_ETYPE f)) ++
      segHeader (s.cfSig f) (bit 0) (bit 2) (bit 3) s.timeUnlocked x.seq x.segStart (s.get (CF_CID_CID f)) ++ bits
    let frame := body ++ fcsBytes body
    let s := modCf f (fun x => { x with seq := (x.seq + 1) % 65536, segStart := s.house }) s
    let (id, s) := newFrame lane { origin := lane, bytes := frame, whole := true, checked := true, stamp := s.stampAt 0 0 } s
    match id with
    | some _ => .next (passOldest lane (s.bump (CF_CNT f 0)))
    | none => .next s

/-! ### Defects (R399 to R402) -/

/-- A failure takes a value; a change sets its flag (R402). -/
def setFailure (f n : Nat) (v : Bool) (s : State) : State :=
  if n = 1 ∨ s.isSet ((CF_FAIL_FAILURE f).bit n) = v then s
  else cfFlag f n (s.putB ((CF_FAIL_FAILURE f).bit n) v)

/-- A defect takes a value. The failure of dLOS follows it, and so does another whose SET or CLEAR is 0 (R402). -/
def setDefect (f n : Nat) (v : Bool) (s : State) : State :=
  if s.isSet ((CF_STATUS_DEFECT f).bit n) = v then s
  else
    let s := s.putB ((CF_STATUS_DEFECT f).bit n) v
    let s := if v then modCf f (fun x => { x with seen := x.seen ||| 2 ^ n }) s else s
    let soak := if v then s.get (CF_INTEG_SET f) else s.get (CF_INTEG_CLEAR f)
    if n = 0 ∨ soak = 0 then setFailure f n v s else s

/-- FAILURE_CHANGE: a defect has been present for SET, or absent for CLEAR (R402). -/
def execFailureChange (f : Framer) (n : Fin 15) (s : State) : Out :=
  if n.val ≤ 1 then .next s else .next (setFailure f.val n.val (s.isSet ((CF_STATUS_DEFECT f.val).bit n.val)) s)

/-- The patterns that the hunt in progress needs: a change of LOCK_N applies at the next hunt (R399). -/
def State.alignNeed (s : State) (f : Nat) : Nat := ((s.cf f).huntN).getD (s.get (CF_ALIGN_LOCK_N f))

/-- A hunt in progress keeps the LOCK_N with which it began (R399). -/
def keepAlignN (f old : Nat) (s : State) : State :=
  if s.get (CF_ALIGN_LOCK_N f) = old || !s.cfOn f || (s.cf f).aligned || (s.cf f).huntN.isSome then s
  else modCf f (fun x => { x with huntN := some old }) s

/-- IN_FRAME: LOCK_N exact patterns (R399). -/
def execInFrame (f : Framer) (matched : Nat) (s : State) : Out :=
  if s.cfOn f.val && !(s.cf f.val).aligned && decide (s.alignNeed f.val ≤ matched) then
    .next (setDefect f.val 1 false (modCf f.val (fun x => { x with aligned := true, huntN := none, runs := [], clears := [] }) s))
  else .next s

/-- LOSS_M, its standard value where it is 0 (R399). -/
def State.lossM (s : State) (f : Nat) : Nat :=
  if s.get (CF_ALIGN_LOSS_M f) = 0 then (if s.otn f then 5 else 4) else s.get (CF_ALIGN_LOSS_M f)

/-- OOF: LOSS_M errored patterns (R399). -/
def execOof (f : Framer) (errored : Nat) (s : State) : Out :=
  if s.cfOn f.val && (s.cf f.val).aligned && decide (s.lossM f.val ≤ errored) then
    .next (setDefect f.val 1 true (modCf f.val (fun x => { x with aligned := false }) (s.bump (CF_CNT f.val 10))))
  else .next s

/-- DLOF: OOF, or in-frame, has held for 3 ms (R399). -/
def execDlof (f : Framer) (present : Bool) (s : State) : Out :=
  if s.cfOn f.val && (s.cf f.val).aligned ≠ present then .next (setDefect f.val 2 present s) else .next s

/-- DLOS: the signal is lost or has returned; the next segment after a return begins at its first bit (R398, Table 15-4). -/
def execDlos (f : Framer) (present : Bool) (s : State) : Out :=
  if s.cfOn f.val then
    let s := if present then s else modCf f.val (fun x => { x with segStart := s.house }) s
    .next (setDefect f.val 0 present s)
  else .next s

/-- A condition of one frame on a defect that sets and clears after `n` frames in a row. -/
def judgeRun (f bit n : Nat) (cond : Bool) (s : State) : State :=
  let x := s.cf f
  let r := if cond then sget (fun _ => 0) x.runs bit + 1 else 0
  let c := if cond then 0 else sget (fun _ => 0) x.clears bit + 1
  let s := modCf f (fun x => { x with runs := sset (fun _ => 0) x.runs bit r, clears := sset (fun _ => 0) x.clears bit c }) s
  if n ≤ r then setDefect f bit true s else if n ≤ c then setDefect f bit false s else s

/-- A received label is accepted when it repeats, and judged against EXP_SL (Table 15-4). -/
def judgeLabel (f : Nat) (v : Nat) (s : State) : State :=
  let x := s.cf f
  let n := if x.labelCand.1 = v then x.labelCand.2 + 1 else 1
  let s := modCf f (fun x => { x with labelCand := (v, n), label := if (if s.otn f then 3 else 5) ≤ n then some v else x.label }) s
  match (s.cf f).label with
  | some l => setDefect f 8 (l ≠ s.get (CF_MON_EXP_SL f)) s
  | none => s

/-- The bytes of a trace that TMODE compares (R401). -/
def traceSpan (otn : Bool) (mode len : Nat) : Option (Nat × Nat) :=
  if mode = 0 then none
  else if !otn then some (0, len)
  else if mode = 1 then some (0, 16)
  else if mode = 2 then some (16, 16)
  else some (0, 32)

/-- The length of a trace message. -/
def State.traceLen (s : State) (f t : Nat) : Nat :=
  if s.otn f then 64
  else if t = 0 then (if s.isSet (CF_MON_TLEN0 f) then 16 else 1)
  else (if s.isSet (CF_MON_TLEN1 f) then 64 else 16)

/-- A completed trace message: accepted on its third in a row, then compared (R401). -/
def judgeTrace (f t : Nat) (m : TraceMsg) (s : State) : State :=
  let len := s.traceLen f t
  if m.bytes.length ≠ len ∨ (!s.otn f ∧ len = 16 ∧ !m.crcOk) then s
  else
    let x := s.cf f
    let c := sget (fun _ => ([], 0)) x.cand t
    let n := if c.1 = m.bytes then c.2 + 1 else 1
    let s := modCf f (fun x => { x with cand := sset (fun _ => ([], 0)) x.cand t (m.bytes, n) }) s
    let s :=
      if 3 ≤ n ∧ sget (fun _ => none) x.accepted t ≠ some m.bytes then
        let s := modCf f (fun x => { x with accepted := sset (fun _ => none) x.accepted t (some m.bytes) }) s
        cfFlag f 23 (putWords (CF_ACC_TRACE f t 0) (bytesWords 16 m.bytes) s)
      else s
    match sget (fun _ => none) (s.cf f).accepted t with
    | none => s
    | some acc =>
      let mode := if t = 0 then s.get (CF_MON_TMODE0 f) else s.get (CF_MON_TMODE1 f)
      let exp := wordsOctets (s.words (CF_EXP_TRACE f t 0) 16)
      match traceSpan (s.otn f) mode len with
      | none => setDefect f (9 + t) false s
      | some (o, n) => setDefect f (9 + t) ((acc.drop o).take n ≠ (exp.drop o).take n) s

/-- dLOM follows MFAS: out-of-multiframe after 5 errored values, the defect after 3 ms of it, and back (R399). -/
def judgeMfas (f : Nat) (ok : Bool) (s : State) : State :=
  let x := s.cf f
  let bad := if ok then 0 else x.mfasBad + 1
  let out := if 5 ≤ bad then (if x.outSince.isSome then x.outSince else some s.now) else if ok then none else x.outSince
  let in_ := if out.isSome then none else if x.inSince.isSome then x.inSince else some s.now
  let s := modCf f (fun x => { x with mfasBad := bad, outSince := out, inSince := in_ }) s
  match out, in_ with
  | some t, _ => if t + 3000000 ≤ s.now then setDefect f 5 true s else s
  | none, some t => if t + 3000000 ≤ s.now then setDefect f 5 false s else s
  | none, none => s

/-- A defect of bits `lo` to `hi` is present. -/
def State.anyDefect (s : State) (f : Nat) (bits : List Nat) : Bool := bits.any (fun i => s.isSet ((CF_STATUS_DEFECT f).bit i))

/-- The block counts of the open second. -/
def countBlocks (f : Nat) (o : CbrOverhead) (s : State) : State :=
  let near (i : Nat) : Bool := o.errs.getD i false
  let farLayer (j : Nat) : Nat := if s.otn f then 4 + j else 5 + j
  let farBad (j : Nat) : Bool := let v := o.far.getD j 0; decide (0 < v) && (decide (v ≤ 8) || (!s.otn f && j = 0))
  let n := if s.otn f then 2 else if s.hasPath f then 3 else 2
  let hits := (List.range n).filter near ++ (([0, 1].filter (fun j => farBad j && (j = 0 || s.hasPath f))).map farLayer)
  modCf f (fun x => { x with
    blocks := x.blocks + 1
    errored := hits.foldl (fun st k => sset (fun _ => 0) st k (sget (fun _ => 0) st k + 1)) x.errored }) s

/-- CBR_FRAME_MONITOR: the overhead of one frame, read while in-frame (R400, R401, R403). -/
def execCbrFrameMonitor (f : Framer) (o : CbrOverhead) (s : State) : Out :=
  let f := f.val
  if !s.cfOn f || !(s.cf f).aligned then .next s
  else
    let s := countBlocks f o s
    let s := if s.otn f then judgeMfas f o.mfasOk s else s
    if s.anyDefect f [0, 1, 2] then .next s
    else
      let s := judgeRun f 3 3 (o.code = 7) s
      let s := if s.otn f then judgeRun f 4 5 o.rdiSm s else judgeRun f 4 5 (o.code = 6) s
      let s := match o.trace0 with | some m => judgeTrace f 0 m s | none => s
      if !s.hasPath f || (!s.otn f && s.anyDefect f [3]) then .next s
      else
        let s := if s.otn f then judgeRun f 6 3 (o.code = 6) (judgeRun f 7 3 (o.code = 5) s)
          else judgeRun f 5 8 o.ptrBad (judgeRun f 6 3 o.auOnes (match o.label with | some v => judgeRun f 7 5 (v = 0) s | none => s))
        let s := match o.label with | some v => judgeLabel f v s | none => s
        let s := match o.trace1 with | some m => judgeTrace f 1 m s | none => s
        .next (judgeRun f 11 5 o.rdiP s)

/-! ### Seconds (R403, R404) -/

/-- The near-end defects of a layer and of those below it; the far-end defect of a layer. -/
def layerDefects (otn : Bool) (l : Nat) : List Nat :=
  if otn then
    match l with
    | 0 => [0, 1, 2, 5, 9, 12]
    | 1 => [0, 1, 2, 5, 9, 12, 3, 6, 7, 8, 10, 13]
    | 4 => [4]
    | 5 => [11]
    | _ => []
  else
    match l with
    | 0 => [0, 1, 2, 9, 12]
    | 1 => [0, 1, 2, 9, 12, 3, 13]
    | 2 => [0, 1, 2, 9, 12, 3, 13, 5, 6, 7, 8, 10, 14]
    | 5 => [4]
    | 6 => [11]
    | _ => []

/-- The layers that a signal uses, near end 0 to 3 and far end 4 to 7. -/
def State.usedLayer (s : State) (f l : Nat) : Bool :=
  if s.otn f then l ∈ [0, 1, 4, 5] else l ∈ [0, 1, 5] || (l ∈ [2, 6] && s.hasPath f)

/-- One layer of the second that ends. -/
def judgeLayer (s : State) (f l : Nat) : PmLayer :=
  let x := s.cf f
  let bad := sget (fun _ => 0) x.errored l
  let defect := (layerDefects (s.otn f) l).any (fun i => x.seen / 2 ^ i % 2 = 1)
  if !s.usedLayer f l then {}
  else
    let ses := defect || (decide (0 < x.blocks) && decide (3 * x.blocks ≤ 10 * bad))
    { es := defect || decide (0 < bad), ses := ses, bbe := if ses then 0 else bad }

/-- Availability after one more second of a layer: 10 in a row against it turn it, from the first of them (R403). -/
def judgeAvail (f l : Nat) (s : State) : State :=
  let x := s.cf f
  let un := sget (fun _ => false) x.unavail l
  let ses := match x.seconds.getLast? with | some r => (r.layers.getD l {}).ses | none => false
  let n := if ses ≠ un then sget (fun _ => 0) x.against l + 1 else 0
  let setUas (v : Bool) (r : PmSecond) : PmSecond := { r with layers := r.layers.modify l (fun y => { y with uas := v }) }
  let k := x.seconds.length
  if 10 ≤ n then
    modCf f (fun x => { x with
      unavail := sset (fun _ => false) x.unavail l (!un), against := sset (fun _ => 0) x.against l 0
      seconds := x.seconds.take (k - 10) ++ (x.seconds.drop (k - 10)).map (setUas (!un)) }) s
  else
    modCf f (fun x => { x with
      against := sset (fun _ => 0) x.against l n
      seconds := x.seconds.take (k - 1) ++ (x.seconds.drop (k - 1)).map (setUas un) }) s

/-- dDEG of a layer after one more second (R400); bit 12 is layer 0. -/
def judgeDeg (f l : Nat) (s : State) : State :=
  let x := s.cf f
  let low := if s.otn f then [0, 1, 2] else if l = 2 then [0, 1, 2, 3] else [0, 1, 2]
  if !s.usedLayer f l || s.anyDefect f low then s
  else
    let bad := decide (0 < x.blocks) && decide (s.get (CF_MON_DEG_THR f) * x.blocks ≤ 100 * sget (fun _ => 0) x.errored l)
    let b := if bad then sget (fun _ => 0) x.degBad l + 1 else 0
    let g := if bad then 0 else sget (fun _ => 0) x.degGood l + 1
    let s := modCf f (fun x => { x with degBad := sset (fun _ => 0) x.degBad l b, degGood := sset (fun _ => 0) x.degGood l g }) s
    if s.get (CF_MON_DEG_M f) ≤ b then setDefect f (12 + l) true s
    else if s.get (CF_MON_DEG_M f) ≤ g then setDefect f (12 + l) false s
    else s

/-- PM_SECOND: a second of house time ends and is judged (R400, R403). -/
def execPmSecond (f : Framer) (s : State) : Out :=
  let f := f.val
  if !s.cfOn f then .next s
  else
    let x := s.cf f
    let r : PmSecond := ⟨x.gen15, x.gen24, (List.range 8).map (judgeLayer s f)⟩
    let s := modCf f (fun x => { x with seconds := x.seconds ++ [r] }) s
    let s := s.each (List.range 8) (judgeAvail f)
    let s := s.each [0, 1, 2] (judgeDeg f)
    .next (modCf f (fun x => { x with blocks := 0, errored := [], seen := s.get (CF_STATUS_DEFECT f) }) s)

/-- A judged second is added to the record at a place. -/
def enterSecond (f k : Nat) (r : PmSecond) (s : State) : State :=
  let inc (a n : Nat) (s : State) : State := s.setReg a (s.reg a + BitVec.ofNat 32 n)
  let s := inc (CF_BIN_LEN f k) 1 s
  s.each (List.range 8) (fun l s =>
    let y := r.layers.getD l {}
    let j := 8 * (l % 4) + 4 * (l / 4)
    if y.uas then inc (CF_BIN_COUNT f k (j + 3)) 1 s
    else inc (CF_BIN_COUNT f k (j + 2)) y.bbe (inc (CF_BIN_COUNT f k (j + 1)) y.ses.toNat (inc (CF_BIN_COUNT f k j) y.es.toNat s)))

/-- A closed bin whose last second has been entered is final. -/
def finalBin (f k : Nat) (s : State) : State :=
  if s.isSet (CF_BIN_FLAGS_VALID f k) then s.putB (CF_BIN_FLAGS_FINAL f k) true else s

/-- The closed bins of a series older than the second to be entered next are final; `places` are those of the recent
records, newest first, and `back` how many boundaries lie after that second. -/
def finalBins (f back : Nat) (places : List Nat) (s : State) : State := s.each (places.drop back) (finalBin f)

/-- PM_SECOND_ENTRY: a second is entered in its bins 10 s after it ends; the last seconds of a framer that was disabled
follow too (R404). -/
def execPmSecondEntry (f : Framer) (s : State) : Out :=
  let f := f.val
  let x := s.cf f
  match x.seconds with
  | r :: rest =>
    if x.seconds.length < 10 ∧ s.cfOn f then .next s
    else
      let s := modCf f (fun x => { x with seconds := rest }) s
      let a := x.gen15 - r.gen15
      let b := x.gen24 - r.gen24
      let s := if a ≤ 16 then enterSecond f a r s else s
      let s := if b ≤ 1 then enterSecond f (17 + b) r s else s
      let m15 := match rest with | y :: _ => x.gen15 - y.gen15 | [] => 0
      let m24 := match rest with | y :: _ => x.gen24 - y.gen24 | [] => 0
      .next (finalBins f m24 [18] (finalBins f m15 ((List.range 16).map (· + 1)) s))
  | [] => .next s

/-! ### Receiving and playing (R406 to R412) -/

/-- A sequence number is behind NEXT. -/
def segBehind (next : Option Nat) (seq : Nat) : Bool :=
  match next with
  | some n => decide (32768 ≤ (seq + 65536 - n) % 65536)
  | none => false

/-- BUF in force, in pips. -/
def CbrX.bufPips (x : CbrX) : Nat := x.buf * 1000 * 2 ^ 32

/-- Playout starts with the first held segment whose playout time lies at least 20 µs after its arrival (R407). -/
def startPlayout (f : Nat) (s : State) : State :=
  let x := s.cf f
  if x.next.isSome then s
  else
    match x.held.find? (fun g => decide (g.arrived + 20000 * 2 ^ 32 ≤ g.time + x.bufPips) && decide (s.house ≤ g.time + x.bufPips)) with
    | none => s
    | some g =>
      let old := x.held.filter (fun h => segBehind (some g.seq) h.seq)
      let s := s.each old freeSeg
      let s := s.putB (CF_CFG_RESYNC f) false
      showHeld f (modCf f (fun x => { x with next := some g.seq, held := x.held.filter (fun h => !old.contains h) }) s)

/-- The full time that 8 bytes of a header spell, nearest to a house time (Table 15-3, R407). -/
def fullTime (house : Nat) (bs : List Byte) : Nat :=
  let lo := sliceNum bs 0 4
  let sec := house / second
  let base := sec / 2 ^ 32 * 2 ^ 32 + lo
  let near := if base + 2 ^ 31 < sec then base + 2 ^ 32 else if sec + 2 ^ 31 < base then base - 2 ^ 32 else base
  near * second + sliceNum bs 4 4 / 4 * 2 ^ 32 + sliceNum bs 4 4 % 4 * 2 ^ 30

/-- Row 1 of Table 15-5: the segment of a frame, its header at an offset. -/
def segOffset (s : State) (f : Nat) (bs : List Byte) : Option Nat :=
  let o := if sliceNum bs 12 2 = 0x8100 then 18 else 14
  let h := (bs.drop o).take 16
  if sliceNum bs (o - 2) 2 = s.get (CF_RXID_RX_ETYPE f) && bs.length = o + 16 + 1024 + 4 &&
      crc16 (h.take 14) = sliceNum h 14 2 && sliceNum h 0 1 / 16 = 1 && sliceNum h 0 1 % 16 = s.cfSig f &&
      sliceNum h 12 2 = s.get (CF_RXID_RX_CID f) then some o
  else none

/-- A received segment is judged by Table 15-5: the counter, the flag, and the segment that is held. -/
def judgeSeg (s : State) (f : Nat) (fr : Frame) : Nat × Option Nat × Option HeldSeg :=
  let x := s.cf f
  match segOffset s f fr.bytes with
  | none => (6, some 20, none)
  | some o =>
    let h := (fr.bytes.drop o).take 16
    let seq := sliceNum h 2 2
    let t := fullTime s.house (h.drop 4)
    let fl := sliceNum h 1 1
    if segBehind x.next seq then
      (if x.played.contains seq then (9, none, none) else (4, some 18, none))
    else if x.held.any (fun g => g.seq = seq) then (9, none, none)
    else if s.house + 1000000 * 2 ^ 32 < t ∨ 8192 ≤ x.held.length then (5, some 19, none)
    else (1, none, some ⟨seq, t, fl / 128 = 1, fl / 64 % 2 = 1, fl / 16 % 2 = 1, (fr.bytes.drop (o + 16)).take 1024, fr.head, s.house⟩)

/-- SEGMENT_RECEIVE: the next frame at the egress of the framer's lane (R406). -/
def execSegmentReceive (f : Framer) (s : State) : Out :=
  let f := f.val
  let lane := s.get (CF_CFG_LANE f)
  let fs := (s.stageOf lane).filter (fun i => match s.frame i with | some x => x.ready | none => false)
  if !s.cfOn f || !s.laneCbr lane then .next s
  else match fs with
    | [] => .next s
    | i :: _ =>
      match s.frame i with
      | none => .next s
      | some fr =>
        let j := judgeSeg s f fr
        let s := setEgress lane ((s.stageOf lane).filter (· ≠ i)) (s.bump (CF_CNT f j.1))
        let s := match j.2.1 with | some b => cfFlag f b s | none => s
        match j.2.2 with
        | none => .next (dropFrame i s)
        | some g =>
          .next (startPlayout f (showHeld f (modCf f (fun x => { x with held := x.held ++ [g] }) (setFrame i none s))))

/-- A phase sample in whole ns, saturating to 32 bits, as PHASE shows it. -/
def phaseNs (v : Int) : Int := max (-(2 ^ 31)) (min (2 ^ 31 - 1) (v / 2 ^ 32))

/-- A usable sample: a jump goes to the build-out offset, any other sample steers the oscillator (R409, R411). -/
def takeSample (f : Nat) (raw : Int) (s : State) : State :=
  let x := s.cf f
  let us : Int := 1000 * 2 ^ 32
  let v := raw - x.buildOut
  let s := s.put (CF_PHASE_PHASE f) (toField 32 (phaseNs raw))
  let jump := match x.sample with | some p => decide (us < v - p) || decide (us < p - v) | none => false
  let good := decide (v ≤ 100 * 2 ^ 32) && decide (-(100 * 2 ^ 32) ≤ v)
  let off := decide ((x.bufPips : Int) < 2 * raw) || decide (2 * raw < -(x.bufPips : Int))
  let far := if off then x.farOff + 1 else 0
  match x.sample, jump with
  | some p, true =>
    modCf f (fun x => { x with buildOut := x.buildOut + (v - p), sampleAt := s.now, farOff := far }) (s.bump (CF_CNT f 8))
  | _, _ =>
    let dco := Config.cbrDco s.freeCtr
    let s := (s.put (CF_DCO_DCO f) (toField 32 (max (-1000000) (min 1000000 dco)))).used
    modCf f (fun x => { x with
      sample := some v, sampleAt := s.now, farOff := far
      goodSince := if good then (if x.goodSince.isSome then x.goodSince else some s.now) else none }) s

/-- SEGMENT_PLAYOUT: at TIME + BUF the next segment is played, or fill in its place; a played segment with clear flags
yields a phase sample, in pips (R407 to R409). -/
def execSegmentPlayout (f : Framer) (phase : Int) (s : State) : Out :=
  let f := f.val
  let x := s.cf f
  if !s.cfOn f then .next s
  else match x.next with
    | none => .next s
    | some n =>
      let adv (was : Bool) (s : State) : State := modCf f (fun x => { x with
        next := some ((n + 1) % 65536)
        played := ((if was then [n] else []) ++ x.played).filter (fun q => decide ((n + 1 + 65536 - q) % 65536 ≤ 64)) }) s
      match x.held.find? (fun g => g.seq = n) with
      | none => .next (adv false (cfFlag f 17 (s.bump (CF_CNT f 3))))
      | some g =>
        let s := freeSeg g (modCf f (fun x => { x with held := x.held.filter (fun h => h.seq ≠ n) }) s)
        let s := showHeld f (adv true s)
        if g.los || g.lof then .next s
        else
          let s := s.bump (CF_CNT f 2)
          .next (if g.tunl then s else takeSample f phase s)

/-- CLK_CHG: the recovery loop changes state (R409). -/
def execClkChg (f : Framer) (k : ClkEvent) (s : State) : Out :=
  let f := f.val
  let x := s.cf f
  let st := s.get (CF_CLK_STATE f)
  let us : Int := 1000 * 2 ^ 32
  if !s.cfOn f then .next s
  else match k with
    | .firstSample =>
      if (st = 0 || st = 3) && x.sample.isSome then .next (setClk f 1 (modCf f (fun x => { x with goodSince := none }) s))
      else .next s
    | .settled =>
      match x.goodSince with
      | some t => if st = 1 then .next (setClk f 2 (s.until (t + 10000000000))) else .next s
      | none => .next s
    | .farSample =>
      match x.sample with
      | some v => if st = 2 ∧ (us < v ∨ v < -us) then .next (setClk f 1 (modCf f (fun x => { x with goodSince := none }) s)) else .next s
      | none => .next s
    | .noSample =>
      if st = 1 || st = 2 then
        let s := s.until (x.sampleAt + 10000000)
        let s := (s.put (CF_DCO_DCO f) (toField 32 (max (-1000000) (min 1000000 (Config.cbrDco s.freeCtr))))).used
        .next (setClk f 3 (modCf f (fun x => { x with sample := none, goodSince := none }) s))
      else .next s

/-- A framer resynchronises: it plays fill and restarts playout (R411). -/
def resyncFramer (f : Nat) (s : State) : State :=
  let s := cfFlag f 21 (s.bump (CF_CNT f 7))
  startPlayout f (modCf f (fun x => { x with next := none, buildOut := 0, farOff := 0, sample := none, buf := s.get (CF_RXBUF_BUF f) }) s)

/-- A write of 1 to RESYNC (R411). -/
def writeResync (f : Nat) (s : State) : State :=
  if s.cfOn f then resyncFramer f (s.putB (CF_CFG_RESYNC f) true) else s

/-- RESYNC (R411). -/
def execResync (f : Framer) (why : ResyncCause) (s : State) : Out :=
  match why with
  | .drift => if s.cfOn f.val ∧ 16 ≤ (s.cf f.val).farOff then .next (resyncFramer f.val s) else .next s
  | .farStep => if s.cfOn f.val then .next (resyncFramer f.val s) else .next s
  | .command a => .next (s.byAgent [.tenant, .host] a (writeResync f.val))

end Sys2Proof.Machine
end

