-- ==== Sys2Proof/Machine/Settings.lean ====
section
/-! DEFINITION. Start-up and settings: the option bytes, the image, the boot sequence, the retained store and the journal in
flash (17_startup_domains.md). -/
namespace Sys2Proof.Machine

/-! ### The flash -/

/-- `n` bytes of the flash; a byte never programmed reads 0xFF. -/
def State.flashBytes (s : State) (off n : Nat) : List Byte :=
  (List.range n).map (fun i => sget (fun _ => 0xFF) s.kp.flash (off + i))

/-- Bytes are programmed: a program only clears bits of an erased cell, and here stores what it is given over what it
finds. -/
def programFlash (off : Nat) (bs : List Byte) (s : State) : State :=
  s.modKp (fun k => { k with flash := bs.zipIdx.foldl (fun f x =>
    sset (fun _ => 0xFF) f (off + x.2) (x.1 &&& sget (fun _ => 0xFF) f (off + x.2))) k.flash })

/-- A range is erased. -/
def eraseFlash (off n : Nat) (s : State) : State :=
  s.modKp (fun k => { k with flash := skeep (fun i => !(decide (off ≤ i) && decide (i < off + n))) k.flash })

/-! ### The journal (R460, R461) -/

/-- A record as the journal holds it: domain, key, its value or none for a DELETE, and its SEQ. -/
structure JournalRec where
  dom : Nat
  key : Nat
  value : Option (List Byte)
  seq : Nat
  deriving DecidableEq, Repr

/-- The bytes of a journal record (Table 17-6). -/
def journalBytes (r : JournalRec) : List Byte :=
  let v := r.value.getD []
  let pad := v ++ List.replicate ((16 - v.length % 16) % 16) 0
  let len := match r.value with
    | some v => v.length
    | none => 0xFFFF
  let h := bytesBE 1 0xA5 ++ bytesBE 1 r.dom ++ bytesBE 2 r.key ++ bytesBE 2 len ++ bytesBE 2 0 ++ bytesBE 4 r.seq
  h ++ bytesBE 4 (crc32 (h ++ pad)) ++ pad

/-- The area mark (R461). -/
def areaMark (seq : Nat) : JournalRec := ⟨2, 0xFFFF, some [], seq⟩

/-- The record at the head of bytes: none at the end of the written part, `false` where it is torn. -/
def readRecord (bs : List Byte) : Option (Bool × JournalRec × Nat) :=
  let h := bs.take 16
  if h.length < 16 ∨ h.all (· = 0xFF) then none
  else
    let len := sliceNum h 4 2
    let n := if len = 0xFFFF then 0 else len
    let size := recSize n
    let v := (bs.drop 16).take (size - 16)
    let ok := decide (sliceNum h 0 1 = 0xA5) && decide (n ≤ 1024) && decide (size ≤ bs.length) &&
      decide (crc32 (h.take 12 ++ v) = sliceNum h 12 4)
    some (ok, ⟨sliceNum h 1 1, sliceNum h 2 2, if len = 0xFFFF then none else some (v.take n), sliceNum h 8 4⟩, size)

/-- The records of an area from a position on, whether it ends torn, and where it ends (R460). -/
def readRecords : Nat → List Byte → List JournalRec × Bool × Nat
  | 0, _ => ([], false, 0)
  | n + 1, bs =>
    match readRecord bs with
    | none => ([], false, 0)
    | some (false, _, _) => ([], true, 0)
    | some (true, r, size) =>
      let (rs, torn, used) := readRecords n (bs.drop size)
      (r :: rs, torn, used + size)

/-- Offset and size of a journal area. -/
def State.areaAt (s : State) (a : Nat) : Option (Nat × Nat) :=
  match s.kp.opt with
  | some o => o.jrnl.map (fun j => (j.1 + a * j.2, j.2))
  | none => none

/-- An area with a good mark: its SEQ, its records, whether it ends torn, and the offset at which its written part ends. -/
def State.readArea (s : State) (a : Nat) : Option (Nat × List JournalRec × Bool × Nat) :=
  match s.areaAt a with
  | none => none
  | some (off, size) =>
    match readRecord (s.flashBytes off 16) with
    | some (true, m, _) =>
      if m.dom = 2 ∧ m.key = 0xFFFF ∧ m.value = some [] then
        let (rs, torn, used) := readRecords (size / 16) (s.flashBytes (off + 16) (size - 16))
        some (m.seq, rs, torn, 16 + used)
      else none
    | _ => none

/-- The area whose mark has the higher SEQ (R461). -/
def State.bestArea (s : State) : Option (Nat × Nat × List JournalRec × Bool × Nat) :=
  match s.readArea 0, s.readArea 1 with
  | some x, some y => if x.1 < y.1 then some (1, y) else some (0, x)
  | some x, none => some (0, x)
  | none, some y => some (1, y)
  | none, none => none

/-- The newest record of each key, in ascending SEQ; keys whose newest record is a DELETE are gone (R459, R461). -/
def newestOf (rs : List JournalRec) : List JournalRec :=
  (rs.filter (fun r => rs.all (fun q => q.dom ≠ r.dom || q.key ≠ r.key || q.seq ≤ r.seq))).filter (fun r => r.value.isSome)

/-- Bytes that compaction would leave in an area with these records. -/
def compactSize (rs : List SetRec) : Nat := 16 + (rs.map (fun r => recSize r.value.length)).sum

/-- Bytes of the records that wait for flash. -/
def waitingSize (js : List JournalItem) : Nat := (js.map (fun j => recSize ((j.value.getD []).length))).sum

/-- A record of `n` bytes more fits in the journal, as it is or after compaction; without a journal nothing is stored in
flash (R461). -/
def State.journalFits (s : State) (n : Nat) (after : List SetRec) : Bool :=
  match s.areaAt 0 with
  | none => true
  | some (_, size) =>
    let pos := if s.kp.area.isSome then s.kp.jPos else 16
    decide (pos + waitingSize s.kp.journal + recSize n ≤ size) || decide (compactSize after ≤ size)

/-- One record is programmed after the written part of the active area. -/
def appendRecord (dom key : Nat) (v : Option (List Byte)) (s : State) : State :=
  match s.kp.area with
  | none => s
  | some a =>
    match s.areaAt a with
    | none => s
    | some (off, _) =>
      let bs := journalBytes ⟨dom, key, v, s.kp.jSeq + 1⟩
      (programFlash (off + s.kp.jPos) bs s).modKp (fun k => { k with jSeq := k.jSeq + 1, jPos := k.jPos + bs.length })

/-- The journal is first used: a mark into area 0 (R461). -/
def firstMark (s : State) : State :=
  match s.kp.area, s.areaAt 0 with
  | none, some (off, _) =>
    (programFlash off (journalBytes (areaMark (s.kp.jSeq + 1))) s).modKp (fun k => { k with
      area := some 0, jPos := 16, jSeq := k.jSeq + 1 })
  | _, _ => s

/-- Compaction into the other area: erase, the newest records, the mark last (R461). -/
def compact (s : State) : State :=
  match s.kp.area with
  | none => s
  | some a =>
    match s.areaAt (1 - a), s.readArea a with
    | some (off, size), some (_, rs, _, _) =>
      let body := (newestOf rs).flatMap journalBytes
      let s := programFlash (off + 16) body (eraseFlash off size s)
      (programFlash off (journalBytes (areaMark (s.kp.jSeq + 1))) s).modKp (fun k => { k with
        area := some (1 - a), jPos := 16 + body.length, jSeq := k.jSeq + 1 })
    | _, _ => s

/-- The record at the head of the queue goes to flash, after compaction where it does not fit (R460 to R462). -/
def journalHead (s : State) : State :=
  match s.kp.journal with
  | [] => s
  | j :: js =>
    let s := firstMark s
    let size := match s.areaAt 0 with
      | some (_, n) => n
      | none => 0
    let s := if size < s.kp.jPos + recSize ((j.value.getD []).length) then compact s else s
    (appendRecord j.dom j.key j.value s).modKp (fun k => { k with journal := js })

/-- The settings window of a domain: carrier at 0x4000, tenant at 0x5000 (Table 17-12). -/
def setBase (d : Nat) : Nat := 0x4000 + 0x1000 * d

/-- JOURNALED reads 1 for a domain none of whose PUTs waits (R462). -/
def showJournaled (d : Nat) (s : State) : State :=
  if d < 2 ∧ s.kp.journal.all (fun j => j.dom ≠ d || j.value.isNone) then s.putB ⟨setBase d + 4, 30, 30⟩ true else s

/-- JOURNALED: the flash program of the oldest waiting record completes (R462). -/
def execJournaled (s : State) : Out :=
  match s.kp.journal with
  | [] => .next s
  | j :: _ =>
    if j.begun && (s.areaAt 0).isSome then
      .next (if j.value.isSome then showJournaled j.dom (journalHead s) else journalHead s)
    else .next s

/-! ### Rebuilding and restoring (R459) -/

/-- The store is rebuilt from the journal; false where no area has a good mark. -/
def rebuildStore (s : State) : State × Bool :=
  match s.bestArea with
  | none => (s, false)
  | some (a, mark, rs, torn, pos) =>
    let live := newestOf rs
    let top := rs.foldl (fun n r => max n r.seq) mark
    let s := s.modKp (fun k => { k with
      recs := live.map (fun r => ⟨r.dom, r.key, r.value.getD []⟩)
      storeValid := true, area := some a, jPos := pos, jSeq := max k.jSeq top })
    (if torn then startFlag 7 s else s, true)

/-- The store is made ready: kept when valid, else rebuilt; `KP.BOOT.RESTORE` shows which served (R459). -/
def readyStore (s : State) : State × Bool :=
  if s.kp.storeValid then (if s.get KP_BOOT_RESTORE = 0 then s.put KP_BOOT_RESTORE 1 else s, true)
  else
    let (s, ok) := rebuildStore s
    (if ok then s.put KP_BOOT_RESTORE 2 else s, ok)

/-- The number of a settings domain. -/
def setNum : SetDomain → Nat
  | .carrier => 0
  | .tenant => 1

/-- SETTINGS_RESTORE: a domain restores its settings, or applies its section's defaults (R457 to R459). -/
def execSettingsRestore (d : SetDomain) (s : State) : Out :=
  let (s, ok) := readyStore s
  let s := if ok then s else startFlag 4 s
  .next (if d = .tenant && s.get KP_BOOT_T_STAGE = 4 then setBootStage true 5 s else s)

/-! ### The settings windows (Table 17-12) -/

/-- The agent of a settings window. -/
def setAgent : SetDomain → Agent
  | .carrier => .carrier
  | .tenant => .tenant

/-- An operation ends with a result. -/
def setResult (d r : Nat) (s : State) : State :=
  (s.put ⟨setBase d + 4, 3, 0⟩ r).putB ⟨setBase d, 31, 31⟩ false

/-- KEY, LEN and value of a window. -/
def State.setKey (s : State) (d : Nat) : Nat := s.get ⟨setBase d, 15, 0⟩
/-- LEN of a window. -/
def State.setLen (s : State) (d : Nat) : Nat := s.get ⟨setBase d, 26, 16⟩
/-- The value in a window: LEN bytes, the first in bits 31:24. -/
def State.setValue (s : State) (d : Nat) : List Byte := (wordsOctets (s.words (setBase d + 0x400) 256)).take (s.setLen d)

/-- GET: the record's value and length, or NOT_FOUND. -/
def doGet (d : Nat) (s : State) : State :=
  match s.record d (s.setKey d) with
  | none => setResult d 1 s
  | some r =>
    let ws := bytesWords ((r.value.length + 3) / 4) r.value
    setResult d 0 (putWords (setBase d + 0x400) ws (s.put ⟨setBase d, 26, 16⟩ r.value.length))

/-- The bytes of the store that a domain may fill (R459's text). -/
def storeRoom (d : Nat) : Nat := if d = 2 then 65536 else 98304

/-- The records of a domain fit in its part of the store. -/
def domFits (d : Nat) (rs : List SetRec) : Bool :=
  decide (((rs.filter (fun r => r.dom = d)).map (fun r => recSize r.value.length)).sum ≤ storeRoom d)

/-- PUT: into the store at once, and into the journal's queue; BAD_LEN above 1,024, STORE_FULL where it does not fit (R461,
R462). -/
def doPut (d : Nat) (s : State) : State :=
  if 1024 < s.setLen d then setResult d 3 s
  else
    let v := s.setValue d
    let after := s.recsWith d (s.setKey d) (some v)
    if !domFits d after then setResult d 2 s
    else if !s.journalFits v.length after then setResult d 2 (startFlag 8 s)
    else setResult d 0 (changeRecord d (s.setKey d) (some v) false (s.putB ⟨setBase d + 4, 30, 30⟩ false))

/-- DELETE: the key leaves the store, and a DELETE record waits for flash (R459). -/
def doDelete (d : Nat) (s : State) : State :=
  match s.record d (s.setKey d) with
  | none => setResult d 1 s
  | some _ =>
    let after := s.recsWith d (s.setKey d) none
    if !s.journalFits 0 after then setResult d 2 (startFlag 8 s)
    else setResult d 0 (changeRecord d (s.setKey d) none false s)

/-- A write of GO carries out OP (Table 17-12). -/
def setGo (d : Nat) (s : State) : State :=
  match s.get ⟨setBase d, 29, 28⟩ with
  | 0 => doGet d s
  | 1 => doPut d s
  | _ => doDelete d s

/-- SETTINGS_GET. -/
def execSettingsGet (a : Agent) (d : SetDomain) (s : State) : Out :=
  .next (s.byAgent [setAgent d] a (fun s => doGet (setNum d) (s.put ⟨setBase (setNum d), 29, 28⟩ 0)))

/-- SETTINGS_PUT. -/
def execSettingsPut (a : Agent) (d : SetDomain) (s : State) : Out :=
  .next (s.byAgent [setAgent d] a (fun s => doPut (setNum d) (s.put ⟨setBase (setNum d), 29, 28⟩ 1)))

/-- SETTINGS_DELETE. -/
def execSettingsDelete (a : Agent) (d : SetDomain) (s : State) : Out :=
  .next (s.byAgent [setAgent d] a (fun s => doDelete (setNum d) (s.put ⟨setBase (setNum d), 29, 28⟩ 2)))

/-! ### The write floor (R463, R549) -/

/-- WRITE_INHIBIT: VIN has fallen below WI_THR. -/
def execWriteInhibit (vin : Nat) (s : State) : Out :=
  let s := s.put KP_VIN_VIN vin
  .next (if vin < s.get KP_SUPPLY_WI_THR && !s.isSet KP_VIN_WI_ACTIVE then startFlag 5 (s.putB KP_VIN_WI_ACTIVE true) else s)

/-- JOURNAL_RESUME: VIN has stood above WI_THR + 0.1 V for 100 ms; every waiting record is appended. -/
def execJournalResume (vin : Nat) (s : State) : Out :=
  let s := s.put KP_VIN_VIN vin
  .next (if s.get KP_SUPPLY_WI_THR + 10 < vin && s.isSet KP_VIN_WI_ACTIVE then
    (s.putB KP_VIN_WI_ACTIVE false).modKp (fun k => { k with journal := k.journal.map (fun j => { j with begun := true }) })
  else s)

/-- A write of `KP.SUPPLY`: each field by its own range, then the pair together (R549). -/
def writeSupply (w : Word) (s : State) : State :=
  let dg := if 420 ≤ w.field 31 16 then w.field 31 16 else s.get KP_SUPPLY_DG_THR
  let wi := if 420 ≤ w.field 15 0 ∧ w.field 15 0 ≤ 1600 then w.field 15 0 else s.get KP_SUPPLY_WI_THR
  if wi < dg then s else (s.put KP_SUPPLY_DG_THR dg).put KP_SUPPLY_WI_THR wi

/-- SUPPLY_WRITE. -/
def execSupplyWrite (a : Agent) (w : Word) (s : State) : Out := .next (s.byAgent [.keeper] a (writeSupply w))

/-! ### Option bytes (R452, R453) -/

/-- An offset of a part that must lie in the flash and off the option bytes. -/
def State.partOk (s : State) (off len : Nat) : Bool := decide (0x2000 ≤ off) && decide (off + len ≤ s.kp.flashSize)

/-- Two parts do not overlap. -/
def apart (a b : Nat × Nat) : Bool := decide (a.1 + a.2 ≤ b.1) || decide (b.1 + b.2 ≤ a.1)

/-- The LENGTH that an image's header gives, where its MAGIC is right. -/
def State.imageLen (s : State) (off : Nat) : Nat :=
  let h := s.flashBytes off 16
  if sliceNum h 0 4 = 0x5459494D then (s.flashBytes (off + 16) 4).foldl (fun a b => a * 256 + b.toNat) 0 else 0

/-- A copy of the option bytes: accepted when MAGIC, VER, CRC and every field are right (R452). -/
def State.readOptions (s : State) (off : Nat) : Option OptBytes :=
  let b := s.flashBytes off 64
  let f (i n : Nat) : Nat := sliceNum b i n
  let imgB := f 12 4
  let o : OptBytes := {
    flags := f 5 1, flashMode := f 6 1, flashClk := f 7 1, imgA := f 8 4
    imgB := if imgB = 0xFFFFFFFF then none else some imgB
    jrnl := some (f 16 4, f 20 4), wiThr := f 24 2, dgThr := f 26 2, pfail := f 28 1, mgmtPort := f 29 1
    mgmtVlan := f 30 2 % 4096 }
  let areas : List (Nat × Nat) := [(f 16 4, 2 * f 20 4), (o.imgA, s.imageLen o.imgA)] ++ (match o.imgB with
    | some x => [(x, s.imageLen x)]
    | none => [])
  let places := areas.all (fun p => s.partOk p.1 p.2) &&
    (areas.zipIdx.all (fun p => areas.zipIdx.all (fun q => p.2 = q.2 || apart p.1 q.1)))
  let ok := f 0 4 = 0x54594F42 && f 4 1 = 1 && f 60 4 = crc32 (b.take 60) &&
    o.flags < 32 && o.flashMode ≤ 1 && 25 ≤ o.flashClk && o.flashClk ≤ 200 &&
    o.imgA % 4096 = 0 && (o.imgB.getD 0) % 4096 = 0 &&
    f 16 4 % 65536 = 0 && f 20 4 % 65536 = 0 && 65536 ≤ f 20 4 && f 20 4 ≤ 16777216 &&
    420 ≤ o.wiThr && o.wiThr ≤ 1600 && 420 ≤ o.dgThr && o.dgThr ≤ o.wiThr && f 28 1 / 16 % 8 = 0 &&
    o.mgmtPort < 128 && 1 ≤ o.mgmtVlan && o.mgmtVlan ≤ 4094 && f 30 2 < 4096 && (b.drop 32).take 28 = List.replicate 28 0 &&
    places
  if ok then some o else none

/-- Safe defaults (R453): no image B and no journal. -/
def safeOptions : OptBytes :=
  { flags := 1, flashMode := 0, flashClk := 25, imgA := 0x00010000, imgB := none, jrnl := none, wiThr := 435, dgThr := 420
    pfail := 0, mgmtPort := 0, mgmtVlan := 1 }

/-- The option bytes in force. -/
def State.options (s : State) : OptBytes := s.kp.opt.getD safeOptions

/-- Bit `i` of the option bytes' FLAGS. -/
def State.optFlag (s : State) (i : Nat) : Bool := s.options.flags.testBit i

/-- The register of a GPIO land (Table 20-7). -/
def gpioAddr (n : Nat) : Nat := 0x300 + 4 * n

/-- PFAIL_N: an input with its pull-up on and EDGE at falling (R529). -/
def pfailWord (w : Word) : Word := (((w.withField 1 0 0).withField 5 4 2).withField 13 12 2)

/-- OPTION_BYTES_LOAD: copy 0, else copy 1, else safe defaults (R452, R453). -/
def loadOptions (s : State) : State :=
  let put (o : OptBytes) (copy : Nat) (s : State) : State :=
    let o := if o.flags.testBit 0 then { safeOptions with flags := o.flags } else o
    let s := (s.put KP_SUPPLY_DG_THR o.dgThr).put KP_SUPPLY_WI_THR o.wiThr
    let s := if o.pfail.testBit 7 then s.setReg (gpioAddr (o.pfail % 16)) (pfailWord (s.reg (gpioAddr (o.pfail % 16)))) else s
    (s.put KP_BOOT_OPT copy).modKp (fun k => { k with opt := some o })
  match s.readOptions 0, s.readOptions 0x1000 with
  | some o, _ => put o 0 s
  | none, some o => put o 1 (startFlag 0 s)
  | none, none => put safeOptions 2 (startFlag 0 s)

/-! ### The image (R454 to R456) -/

/-- A section of the table (Table 17-3): type, ENC, offset, length, TARGET, IV, TAG, DIGEST, and its entry's bytes. -/
structure Section where
  type : Nat
  enc : Bool
  offset : Nat
  length : Nat
  target : Nat
  iv : List Byte
  tag : List Byte
  digest : List Byte
  entry : List Byte
  deriving DecidableEq, Repr

/-- A section's entry of 96 bytes. -/
def parseSection (b : List Byte) : Section :=
  { type := sliceNum b 0 1, enc := sliceNum b 1 1 % 2 = 1, offset := sliceNum b 4 4, length := sliceNum b 8 4
    target := sliceNum b 12 4, iv := (b.drop 16).take 12, tag := (b.drop 28).take 16, digest := (b.drop 44).take 48
    entry := b }

/-- The sections of an image. -/
def State.sections (s : State) (img : Nat) : List Section :=
  let n := sliceNum (s.flashBytes (img + 6) 2) 0 2
  (List.range (min n 32)).map (fun i => parseSection (s.flashBytes (img + 128 + 96 * i) 96))

/-- The AAD of an encrypted section: its entry with IV, TAG and DIGEST as zeros (R456). -/
def sectionAad (x : Section) : List Byte := x.entry.take 16 ++ List.replicate 76 0 ++ x.entry.drop 92

/-- The types of sections (Table 17-4). -/
def sectionTypes : List Nat := [0x01, 0x02, 0x03, 0x04, 0x10, 0x11, 0x12, 0x13, 0x14]

/-- The content of a section, without its Tyrok signature, decrypted under the content key where ENC is 1; none where its
tag fails (R454, R456). -/
def State.content (s : State) (img : Nat) (cek : Option (List Byte)) (x : Section) : Option (List Byte) :=
  let b := s.flashBytes (img + x.offset) (if x.type ≤ 4 then x.length - 96 else x.length)
  if x.enc then (match cek with
    | some k =>
      let (pt, ok) := gcmDecrypt k x.iv (sectionAad x) b x.tag
      if ok then some pt else none
    | none => none)
  else some b

/-- The content key that CEK_WRAP carries, under slot 255 (R456). -/
def State.cek (s : State) (img : Nat) : Option (List Byte) :=
  let w := s.flashBytes (img + 28) 40
  aesUnwrap Config.moduleKey w

/-- The ROM's checks of an image (R455, R456). -/
def State.imageOk (s : State) (img : Nat) : Bool :=
  let h := s.flashBytes img 128
  let nsec := sliceNum h 6 2
  let length := sliceNum h 16 4
  let xs := s.sections img
  let at' := img + 128 + 96 * nsec
  let key := s.flashBytes at' 96
  let sig := s.flashBytes (at' + 96) 96
  let which := sliceNum h 12 4 / 2 % 2
  sliceNum h 0 4 = 0x5459494D && sliceNum h 4 2 = 1 && 1 ≤ nsec && nsec ≤ 32 && length ≤ 67108864 &&
  xs.all (fun x => sectionTypes.contains x.type && decide (x.offset % 4096 = 0) && decide (x.offset + x.length ≤ length)) &&
  xs.all (fun x => Config.sha384 (s.flashBytes (img + x.offset) x.length) = x.digest) &&
  Config.sha384 key = Config.ownerHash which && !(which = 0 && s.kp.revoked0) &&
  Config.ecdsaOk key (Config.sha384 (s.flashBytes img (128 + 96 * nsec) ++ key)) sig &&
  xs.all (fun x => decide (4 < x.type) || (decide (96 ≤ x.length) &&
    Config.ecdsaOk Config.tyrokKey (Config.sha384 (s.flashBytes (img + x.offset) (x.length - 96)))
      (s.flashBytes (img + x.offset + x.length - 96) 96))) &&
  decide ((s.reg KP_SVN_MIN).toNat ≤ sliceNum h 8 4) &&
  xs.all (fun x => !x.enc || (s.content img (s.cek img) x).isSome)

/-- A controller's firmware is copied into its SRAM at TARGET (Table 17-4). -/
def loadFirmware (img : Nat) (s : State) : State :=
  let cek := s.cek img
  s.each ((s.sections img).filter (fun x => x.type = 2 || x.type = 3)) (fun x s =>
    let base := 2 ^ 23 * (x.type - 2) + x.target % 2 ^ 22
    match s.content img cek x with
    | some bs => { s with sram := bs.zipIdx.foldl (fun m b => sset (fun _ => 0) m (base + b.2) b.1) s.sram }
    | none => s)

/-- CLEAR_DISABLE: a section of type 0x14 that names an engine and its serial number deletes that engine's record (R464). -/
def clearDisables (img : Nat) (s : State) : State :=
  let cek := s.cek img
  s.each ((s.sections img).filter (fun x => x.type = 0x14)) (fun x s =>
    match s.content img cek x with
    | none => s
    | some bs =>
      let (n, vid, vssn) := Config.clearDisable bs
      let e : Engine := if n = 0 then .la else .lb
      if n < 2 ∧ (s.reg (TC_SERIAL_VID e.n)).toNat = vid ∧ (s.reg (TC_SERIAL_NUM e.n)).toNat = vssn ∧
          (s.record 2 (disableKey e)).isSome then
        recordDisable e false s
      else s)

/-- DISABLED of each engine shows its record in the store (R71). -/
def showDisables (s : State) : State :=
  s.each [Engine.la, Engine.lb] (fun e s => s.putB (TC_ACT_STATUS_DISABLED e.n) (s.record 2 (disableKey e)).isSome)

/-- The controllers are released; one whose domain is held in reset stays at step 0x2 (R457, R458). -/
def releaseControllers (s : State) : State :=
  let s := startWatchdog 1 (startWatchdog 2 (restop (s.modKp (fun k => { k with unreleased := false }))))
  setBootStage false (if s.carrierHeld then 2 else 4) (setBootStage true (if s.tenantHeld then 2 else 3) s)

/-- An image has passed: its header is shown, its firmware loaded, and the controllers released (R457, R458). -/
def startImage (img : Nat) (which : Nat) (s : State) : State :=
  let h := s.flashBytes img 128
  let fl := sliceNum h 12 4
  let s := (s.put KP_BOOT_IMAGE which).setReg KP_SVN (BitVec.ofNat 32 (sliceNum h 8 4))
  let s := s.put KP_BOOT_OWNER_KEY (fl / 2 % 2)
  let s := s.modKp (fun k => { k with image := some img, imgFlags := fl })
  let safe := s.optFlag 0
  let s := if safe then s else (readyStore s).1
  let s := releaseControllers (showDisables (clearDisables img (loadFirmware img s)))
  if safe then startFlag 2 (s.put KP_BOOT_STAGE 6) else s

/-- No image passes: both controllers are held, and the recovery service answers HOSTLINK (R453). -/
def recoveryService (s : State) : State :=
  let s := startFlag 2 ((s.put KP_BOOT_IMAGE 2).put KP_BOOT_STAGE 7)
  restop (s.modKp (fun k => { k with unreleased := true }))

/-- Steps 0x0 to 0x2 (R457). -/
def bootSteps (s : State) : State :=
  let s := (loadOptions s).modKp (fun k => { k with booted := true })
  let o := s.options
  let order : List (Nat × Nat) := match o.imgB with
    | some b => if o.flags.testBit 1 then [(b, 1), (o.imgA, 0)] else [(o.imgA, 0), (b, 1)]
    | none => [(o.imgA, 0)]
  let s := match order with
    | x :: _ => if s.imageOk x.1 then s else startFlag 1 s
    | [] => s
  match order.find? (fun x => s.imageOk x.1) with
  | some x => startImage x.1 x.2 s
  | none =>
    let s := s.modKp (fun k => { k with opt := some { safeOptions with flags := o.flags ||| 1 } })
    let s := (s.put KP_SUPPLY_DG_THR safeOptions.dgThr).put KP_SUPPLY_WI_THR safeOptions.wiThr
    if s.imageOk safeOptions.imgA then startImage safeOptions.imgA 0 s else recoveryService s

/-- BOOT: after the release of a MODULE or FULL reset (R457). -/
def execBoot (s : State) : Out := .next (if s.kp.booted || s.moduleHeld then s else bootSteps s)

end Sys2Proof.Machine
end

