-- ==== Sys2Proof/Machine/Gate.lean ====
section
/-! DEFINITION. The message gate and the HOSTLINK transactions (17_startup_domains.md). -/
namespace Sys2Proof.Machine

/-! ### The message gate (R469, R470, Table 17-13) -/

/-- The length of a message of a kind (Table 17-7): carrier to tenant from 0x00, tenant to carrier from 0x20. -/
def kindLens : List Nat :=
  [16, 4, 32, 8, 16, 8, 16, 16, 8, 8, 32, 32, 8, 4, 4, 16, 8, 8, 8, 64, 4, 32, 4, 8, 64, 64, 64, 64, 64, 64, 64, 64,
   16, 4, 24, 8, 8, 4, 8, 32, 32, 8, 8, 32, 8, 16, 8, 4, 4, 16, 4, 8, 4, 4, 4, 4, 64, 64, 64, 64, 64, 64, 64, 64]

/-- Firmware of a block may send a kind: its direction, and not the gate's own kinds. Block 2 carries the TYPEs that tenant
firmware sends to the host (R469, R475). -/
def kindSent (m k : Nat) : Bool :=
  match m with
  | 0 => decide (k < 0x20) && k ≠ 0x01
  | 1 => decide (0x20 ≤ k) && decide (k < 0x40) && k ≠ 0x21
  | _ => k = 4 || k = 5

/-- A kind's length is right; a host message has 8 to 64 bytes. -/
def kindLenOk (m k len : Nat) : Bool :=
  if m < 2 then kindLens.getD k 0 = len else decide (8 ≤ len) && decide (len ≤ 64)

/-- The queue that a block sends into. -/
def txQueue (m : Nat) : Nat := if m = 0 then 1 else if m = 1 then 0 else 2

/-- SETTINGS_DONE of a domain ends the hold of ALARM_N (Table 19-8). -/
def noteSent (k : Nat) (s : State) : State :=
  if k = 0x16 then s.modKp (fun x => { x with alarmC := false })
  else if k = 0x2F then s.modKp (fun x => { x with alarmT := false })
  else s

/-- The gate ends a SEND with a result (Table 17-13). -/
def txResult (m r : Nat) (s : State) : State := (s.put (MG_TX_TX_RESULT m) r).putB (MG_TX_SEND m) false

/-- A SEND of block `m` (R469, R470). -/
def gateSend (m : Nat) (s : State) : State :=
  let k := s.get (MG_TX_KIND m)
  let len := s.get (MG_TX_LEN m)
  if !kindSent m k then txResult m 3 (mgFlag m 1 (s.bump (MG_CNT m 2)))
  else if !kindLenOk m k len then txResult m 4 (mgFlag m 2 (s.bump (MG_CNT m 3)))
  else if 16 ≤ s.gateCount (txQueue m) then txResult m 2 (mgFlag m 3 s)
  else
    let bs := (wordsOctets (s.words (MG_TX_DATA m 0) 16)).take len
    txResult m 1 (noteSent k (deliver (txQueue m) ⟨k, bs⟩ (s.bump (MG_CNT m 0))))

/-- The agent of a mailbox block (Table 17-13). -/
def gateAgent (m : Nat) : Agent := if m = 0 then .carrier else .tenant

/-- MG_SEND. -/
def execMgSend (a : Agent) (m : MgBlock) (s : State) : Out := .next (s.byAgent [gateAgent m.val] a (gateSend m.val))

/-- The queue that a block receives from. -/
def rxQueue (m : Nat) : Nat := if m = 2 then 3 else m

/-- A write of POP discards the held message (R470). -/
def gatePop (m : Nat) (s : State) : State := setGateQ (rxQueue m) ((s.gateQ (rxQueue m)).drop 1) s

/-- MG_POP. -/
def execMgPop (a : Agent) (m : MgBlock) (s : State) : Out := .next (s.byAgent [gateAgent m.val] a (gatePop m.val))

/-- RX_DATA of a block: word `i` of the oldest received message (Table 17-13). -/
def State.rxData (s : State) (m i : Nat) : Word :=
  match s.gateQ (rxQueue m) with
  | [] => 0
  | x :: _ => (bytesWords 16 x.bytes).getD i 0

/-- RX_VALID, RX_KIND and RX_LEN of a block. -/
def State.rxState (s : State) (m : Nat) : Word :=
  match s.gateQ (rxQueue m) with
  | [] => 0
  | x :: _ => (((0 : Word).withField 31 31 1).withField 21 16 x.kind).withField 6 0 x.bytes.length

/-! ### HOSTLINK (R473 to R475) -/

/-- The result of a transaction, shown as byte 0 of the next, and its reply on HOST_MISO. -/
def hostEnd (result : Nat) (reply : List Byte) (s : State) : State :=
  s.modKp (fun k => { k with hostResult := result, hostReply := reply })

/-- A reply with its CRC-32. -/
def withCrc (bs : List Byte) : List Byte := bs ++ bytesBE 4 (crc32 bs)

/-- A transaction whose CRC is wrong does nothing (R473). -/
def hostlink (crcOk : Bool) (f : State → State) (s : State) : Out := .next (if crcOk then f s else hostEnd 1 [] s)

/-- STATUS: `KP.BOOT`, the mailbox levels from and to the host, and a CRC-32. -/
def execHostlinkStatus (crcOk : Bool) (s : State) : Out :=
  hostlink crcOk (fun s => hostEnd 0
    (withCrc (wordOctets (s.reg KP_BOOT) ++ bytesBE 2 (s.gateQ 3).length ++ bytesBE 2 (s.gateQ 2).length)) s) s

/-- Byte `i` of a host message. -/
def GateMsg.byte (m : GateMsg) (i : Nat) : Nat := (m.bytes.getD i 0).toNat

/-- PUT: a message of 8 to 64 bytes and a known TYPE joins the host mailbox, or is dropped and counted, or finds it full
(R469, R470, R473, R475). -/
def hostPut (bs : List Byte) (s : State) : State :=
  let m : GateMsg := ⟨(bs.getD 0 0).toNat, bs⟩
  if !(decide (1 ≤ m.kind) && decide (m.kind ≤ 5)) then hostEnd 4 [] (mgFlag 2 1 (s.bump (MG_CNT 2 2)))
  else if !(decide (8 ≤ bs.length) && decide (bs.length ≤ 64)) then hostEnd 4 [] (mgFlag 2 2 (s.bump (MG_CNT 2 3)))
  else if 16 ≤ s.gateCount 3 then hostEnd 2 [] s
  else hostEnd 0 [] (deliver 3 m s)

/-- GET: LEN and the oldest message, then a CRC-32; a new host event message follows while bank 3 is active (R487). -/
def hostGet (s : State) : State :=
  match s.gateQ 2 with
  | [] => hostEnd 0 (withCrc (bytesBE 2 0)) s
  | m :: ms => queueHostEvent (hostEnd 0 (withCrc (bytesBE 2 m.bytes.length ++ m.bytes)) (setGateQ 2 ms s))

/-- HOSTLINK_GET. -/
def execHostlinkGet (crcOk : Bool) (s : State) : Out := hostlink crcOk hostGet s

/-- The recovery opcodes are served by the recovery service alone (R453). -/
def recovery (crcOk : Bool) (f : State → State) (s : State) : Out :=
  hostlink crcOk (fun s => if s.get KP_BOOT_STAGE = 7 then f s else hostEnd 4 [] s) s

/-- FLASH_READ. -/
def execFlashRead (crcOk : Bool) (off len : Nat) (s : State) : Out :=
  recovery crcOk (fun s => hostEnd 0 (withCrc (s.flashBytes off (len % 65536))) s) s

/-- FLASH_WRITE. -/
def execFlashWrite (crcOk : Bool) (off : Nat) (data : List Byte) (s : State) : Out :=
  recovery crcOk (fun s => hostEnd 0 [] (programFlash off data s)) s

/-- FLASH_ERASE. -/
def execFlashErase (crcOk : Bool) (off len : Nat) (s : State) : Out :=
  recovery crcOk (fun s => hostEnd 0 [] (eraseFlash off len s)) s

/-- REBOOT: the boot sequence runs again from the flash. -/
def execReboot (crcOk : Bool) (s : State) : Out :=
  recovery crcOk (fun s => hostEnd 0 [] (bootSteps ((s.put KP_BOOT_STAGE 0).put KP_BOOT_OPT 0))) s

/-- An opcode that Table 17-8 does not list. -/
def execUnknownOpcode (op : Nat) (s : State) : Out :=
  .next (if [1, 2, 3, 4, 0x10, 0x11, 0x12, 0x13].contains op then s else hostEnd 3 [] s)

end Sys2Proof.Machine
end

