-- ==== Sys2Proof/Machine/Time.lean ====
section
/-! DEFINITION. The time engine: servos, house time, time of day, capture inputs, time outputs and the at-time action list
(08_network_time.md). -/
namespace Sys2Proof.Machine

/-- A microsecond in pips. -/
def micro : Nat := 1000 * 2 ^ 32

/-! ### Time outputs (R218, R219) -/

/-- The first occurrence of a period from a start that lies at or after `t`. -/
def firstFrom (start period t : Nat) : Nat :=
  if t ≤ start then start else start + (t - start + period - 1) / period * period

/-- The level of a time output. -/
def State.toutLevel (s : State) (n : Nat) : Bool := sget (fun _ => false) s.te.tout n

/-- A time output drives a level. -/
def setTout (n : Nat) (v : Bool) (s : State) : State :=
  { s with te := { s.te with tout := sset (fun _ => false) s.te.tout n v } }

/-- The next rising edge of an output, at or after `t`: a whole second, or START + k × PERIOD; other modes have none. -/
def State.nextRise (s : State) (n t : Nat) : Option Nat :=
  match s.get (TE_TOUT_MODE n) with
  | 1 => some (firstFrom 0 second t)
  | 2 => some (firstFrom (s.timeAt (TE_TOUT_START n)) ((s.reg (TE_TOUT_PERIOD n)).toNat * 2 ^ 32) t)
  | _ => none

/-- COMP of an output in pips: the correction of each of its edges (R218). -/
def State.toutComp (s : State) (n : Nat) : Int := signed 16 (s.get (TE_TOUT_COMP n)) * 2 ^ 29

/-- Where the pulse of an output that is high falls. -/
def State.toutFalls (s : State) (n : Nat) : Option Nat := sget (fun _ => none) s.te.toutFall n

/-- The falling edge of an output is set, or there is none. -/
def setFall (n : Nat) (t : Option Nat) (s : State) : State :=
  { s with te := { s.te with toutFall := sset (fun _ => none) s.te.toutFall n t } }

/-- The next rising edge is placed at least `ahead` pips after house time (R219). -/
def placeRise (n ahead : Nat) (s : State) : State :=
  { s with te := { s.te with toutNext := sset (fun _ => none) s.te.toutNext n (s.nextRise n (s.house + ahead)) } }

/-- House time reaches the instant at which an edge of an output leaves the land: its own time and COMP (R218). -/
def reachEdge (n t : Nat) (s : State) : State := s.reachHouse ((t : Int) + s.toutComp n).toNat

/-- TOUT_PULSE: the next edge of an output: the falling edge of the pulse that is high, which places the next rising one,
or else the rising edge at its place, whose pulse takes the WIDTH of that moment (R218, R219). -/
def execToutPulse (n : Fin 4) (s : State) : Out :=
  match s.toutFalls n.val, sget (fun _ => none) s.te.toutNext n.val with
  | some t, _ => .next (placeRise n.val 1 (setFall n.val none (setTout n.val false (reachEdge n.val t s))))
  | none, some t =>
    let width := (s.reg (TE_TOUT_WIDTH n.val)).toNat * 2 ^ 32
    .next (setFall n.val (some (t + width)) (setTout n.val true (reachEdge n.val t s)))
  | none, none => .next s

/-- A change of MODE, PERIOD, WIDTH or START: MODE low drives the output low at once, the others place the next rising
edge afresh; a pulse that is high keeps its falling edge (R219). -/
def toutChanged (n : Nat) (s : State) : State :=
  placeRise n micro (if s.get (TE_TOUT_MODE n) = 0 then setFall n none (setTout n false s) else s)

/-! ### The at-time action list (R220 to R225) -/

/-- The control word, the time and the period of an entry: 0 to 47 tenant, 48 to 63 carrier (Table 08-18). -/
def actCtrl (i : Nat) : Nat := TE_ACT_CTRL 0 + 32 * i

/-- The time words of an entry. -/
def actTime (i : Nat) : Nat := TE_ACT_TIME 0 + 32 * i

/-- The period of an entry in pips. -/
def State.actPeriod (s : State) (i : Nat) : Nat :=
  let a := TE_ACT_PERIOD 0 + 32 * i
  (s.reg a).toNat * second + (s.reg (a + 4)).toNat % 2 ^ 30 * 2 ^ 32

/-- An entry is armed. -/
def State.armed (s : State) (i : Nat) : Bool := s.isSet ⟨actCtrl i, 31, 31⟩

/-- The kinds a range of entries allows (R221). -/
def kindOk (i k : Nat) : Bool := if i < 48 then decide (k ≤ 5) else k = 0 || k = 5 || k = 6

/-- The target of an action whose entry holds the time `at'` (Table 08-8). -/
def actTarget (at' kind arg : Nat) (s : State) : State :=
  match kind with
  | 1 => requestCommit at' s
  | 2 => applyList (arg % 128) s.house s
  | 3 => closeBins (arg % 2) s
  | 4 => if s.get (TE_TOUT_MODE (arg % 4)) = 3 then setFall (arg % 4) none (setTout (arg % 4) ((arg / 256) % 2 = 1) s) else s
  | 6 => trigger [7] s
  | _ => s

/-- An entry fires (R222); a late one sets LATE and skips the occurrences it missed (R223). -/
def fireAction (i : Nat) (late : Bool) (s : State) : State :=
  let per := s.actPeriod i
  let t := s.timeAt (actTime i)
  let s := s.putB ⟨actCtrl i, 30, 30⟩ late
  let s := if late then teFlag 9 s else s
  let s := teFlag 8 s
  let s := if per = 0 then s.putB ⟨actCtrl i, 31, 31⟩ false
    else if !late then putTime (actTime i) (t + per) s
    else
      let next := max (t + per) (firstFrom t per (s.house + micro))
      let s := putTime (actTime i) next s
      if t + per < next then teFlag 10 s else s
  actTarget t (s.get ⟨actCtrl i, 19, 16⟩) (s.get ⟨actCtrl i, 15, 0⟩) s

/-- A write of an entry's control word: KIND as its range allows, ARG, and ARMED; an entry armed in the past fires at once,
and one that house time has reached fires before it is disarmed (R221, R223, R224). -/
def writeAction (i : Nat) (w : Word) (s : State) : State :=
  let s := if w.field 31 31 = 0 && s.armed i && decide (s.timeAt (actTime i) ≤ s.house) then fireAction i false s else s
  let s := if kindOk i (w.field 19 16) then s.put ⟨actCtrl i, 19, 16⟩ (w.field 19 16) else s
  let s := (s.put ⟨actCtrl i, 15, 0⟩ (w.field 15 0)).put ⟨actCtrl i, 31, 31⟩ (w.field 31 31)
  if w.field 31 31 = 1 && decide (s.timeAt (actTime i) < s.house + micro) then fireAction i true s else s

/-- The agents that write an entry. -/
def actAgents (i : Nat) : List Agent := if i < 48 then [.tenant, .host] else [.carrier]

/-- ACTION_ARM (R220, R223). -/
def execActionArm (a : Agent) (i : Fin 64) (w : Word) (s : State) : Out :=
  .next (s.byAgent (actAgents i.val) a (writeAction i.val w))

/-- ACTION_FIRE: house time reaches the time of an armed entry (R222). -/
def execActionFire (i : Fin 64) (s : State) : Out :=
  .next (if s.armed i.val then fireAction i.val false (s.reachHouse (s.timeAt (actTime i.val))) else s)

/-! ### House time (R204 to R208) -/

/-- What a house step does beside the time itself: bins, turn lists, outputs, and after a forward step the entries it passed
(R207, R219, R225, R351, R405). -/
def houseStep (old : Nat) (s : State) : State :=
  let s := stepLists (suspectAll (teFlag 0 s))
  let s := s.each (List.range 4) (fun n s =>
    placeRise n micro (setFall n ((s.toutFalls n).map (fun t => t + s.house - old)) s))
  s.each (List.range 64) (fun i s =>
    let t := s.timeAt (actTime i)
    if s.armed i && decide (old < t) && decide (t ≤ s.house) then fireAction i true s else s)

/-- The offset takes up a difference between the old house time and the selected counter; beyond its range it is 0 and house
time steps (R205, R206). -/
def takeOffset (old : Nat) (s : State) : State :=
  let o : Int := (old : Int) - s.domTime s.te.sel
  let top : Int := (2147483647 * 2 ^ 32 : Nat)
  if o < -top ∨ top < o then houseStep old { s with te := { s.te with off := 0 } }
  else { s with te := { s.te with off := o } }

/-- A domain is selected (R205). -/
def selectDomain (d : Dom) (s : State) : State :=
  if d = s.te.sel then s
  else
    let old := s.house
    let s := teFlag 1 (s.put TE_HOUSE_CFG_SEL d.val)
    takeOffset old { s with te := { s.te with sel := d } }

/-- HOUSE_SELECT: a write of SEL. -/
def execHouseSelect (a : Agent) (d : Dom) (s : State) : Out := .next (s.byAgent [.tenant] a (selectDomain d))

/-- SLEW_DONE: the time passes that the offset needs to reach 0 (R205). -/
def execSlewDone (s : State) : Out :=
  let step := s.get TE_HOUSE_CFG_SLEW * 4295
  if s.te.off = 0 ∨ step = 0 ∨ s.offFrozen ∨ s.moduleHeld then .next s
  else .next (s.elapse ((s.te.off.natAbs + step - 1) / step))

/-- A domain counter steps to a value (R197, R199), and house time steps with it or the offset takes it up (R207). -/
def stepDomain (d : Dom) (t : Nat) (s : State) : State :=
  let old := s.house
  let s := teFlag (5 + d.val) (setDom d t s)
  if d ≠ s.te.sel then s
  else if s.isSet TE_HOUSE_CFG_STEP_EN then houseStep old s
  else takeOffset old s

/-! ### Servos (R195 to R200, R208) -/

/-- `TE.DOMd_STATUS.STATE`. -/
def servoF (d : Dom) : Fld := TE_DOM_STATUS_STATE d.val

/-- A servo takes a state: a change sets the domain's flag (Table 08-3, Table 08-13). -/
def setServo (d : Dom) (st : Nat) (s : State) : State :=
  if s.get (servoF d) = st then s else teFlag (3 + d.val) (s.put (servoF d) st)

/-- The source of a domain. -/
def State.source (s : State) (d : Dom) : Nat := s.get (TE_DOM_CFG_SOURCE d.val)

/-- The line engine that a source names. -/
def sourceEngine (src : Nat) : Engine := if src = 1 then .la else .lb

/-- ADJ takes a value, within the correction's range (Table 08-15). -/
def putAdj (d : Dom) (v : Int) (s : State) : State :=
  s.setReg (TE_DOM_ADJ d.val) (BitVec.ofNat 32 (toField 32 (max (-858993) (min 858993 v))))

/-- What ADJ has been, up to the value that was in force at a TIME cycle. -/
def logSince (w : Nat) : List (Nat × Int) → List (Nat × Int)
  | [] => []
  | x :: rest => if x.1 ≤ w then [x] else x :: logSince w rest

/-- The sum over TIME cycles, from `w` up to `t`, of what ADJ was. -/
def logSum (w : Nat) : Nat → List (Nat × Int) → Int
  | _, [] => 0
  | t, x :: rest => if t ≤ w then 0 else x.2 * (t - max x.1 w : Nat) + logSum w (max x.1 w) rest

/-- ADJ of a servo in Acquire or Locked as it has been since it entered Acquire (R196). -/
def State.adjHistory (s : State) (d : Dom) : List (Nat × Int) := sget (fun _ => []) s.te.adjLog d.val

/-- The loop drives ADJ; `anew`: the servo enters Acquire (R196). -/
def driveAdj (d : Dom) (anew : Bool) (v : Int) (s : State) : State :=
  let s := putAdj d v s
  let old := if anew then [] else s.adjHistory d
  let log := (s.now, signed 32 (s.reg (TE_DOM_ADJ d.val)).toNat) :: logSince (s.now - 60 * 10 ^ 9) old
  { s with te := { s.te with adjLog := sset (fun _ => []) s.te.adjLog d.val log } }

/-- The mean of ADJ over the last 60 s, or since Acquire began if that is shorter; which of the two neighbouring steps a mean
between them takes is free (R196). -/
def State.adjMean (s : State) (d : Dom) : Int :=
  let log := s.adjHistory d
  let w := max (s.now - 60 * 10 ^ 9) (match log.getLast? with | some x => x.1 | none => s.now)
  let span : Int := (s.now - w : Nat)
  if span = 0 then signed 32 (s.reg (TE_DOM_ADJ d.val)).toNat
  else
    let sum := logSum w s.now log
    if sum % span = 0 then sum / span else sum / span + s.drawn 2

/-- The servo of a domain neither samples nor changes ADJ: its source is a line engine, in the gap of a switch-over (R208). -/
def State.servoFrozen (s : State) (d : Dom) : Bool := s.lineSourced d && !s.pair.ready

/-- A servo enters Holdover on the mean of ADJ; one that is frozen holds ADJ as it is (R196, R208). -/
def holdover (d : Dom) (s : State) : State :=
  let s := setServo d 3 s
  if s.servoFrozen d then s else (putAdj d (s.adjMean d) s).used

/-- When the servo of a domain took its last sample. -/
def State.lastSample (s : State) (d : Dom) : Option Nat := sget (fun _ => none) s.te.smpAt d.val

/-- The integral of a servo's loop. -/
def State.integral (s : State) (d : Dom) : Int := sget (fun _ => 0) s.te.integ d.val

/-- When the run of samples within ±50 ns began. -/
def State.calmSince (s : State) (d : Dom) : Option Nat := sget (fun _ => none) s.te.calmAt d.val

/-- What the loop of a servo makes of a sample: its integral and its correction. -/
def State.loopOf (s : State) (d : Dom) (v : Int) : Int × Int :=
  let since := match s.lastSample d with | some t => s.now - t | none => 0
  Config.servoLoop (s.get (TE_DOM_CFG_BW d.val)) since (s.integral d) v

/-- A servo takes a sample: one beyond STEP_THR steps the counter and leaves the integral, any other is taken up by the
loop (R196, R197). -/
def takeServoSample (d : Dom) (v : Int) (s : State) : State :=
  let st := s.get (servoF d)
  let ns : Int := v / 2 ^ 32
  let s := s.put (TE_DOM_STATUS_LAST_OFF d.val) (toField 16 (max (-32767) (min 32767 ns)))
  let mag := v.natAbs
  let big := decide (s.get (TE_DOM_CFG_STEP_THR d.val) * 100 * 2 ^ 32 < mag)
  let s := if big then stepDomain d ((s.domTime d : Int) + v).toNat s else s
  let enter := st = 0 || st = 3 || big || (st = 2 && decide (500 * 2 ^ 32 < mag))
  let s := if enter then setServo d 1 s else s
  let calm := if 50 * 2 ^ 32 < mag then none else some (if enter then s.now else (s.calmSince d).getD s.now)
  let loop := s.loopOf d (if big then 0 else v)
  let s := driveAdj d enter loop.2 s
  { s with te := { s.te with
    calmAt := sset (fun _ => none) s.te.calmAt d.val calm
    integ := sset (fun _ => 0) s.te.integ d.val (if big then s.integral d else loop.1)
    smpAt := sset (fun _ => none) s.te.smpAt d.val (some s.now) } }

/-- The sample that a line source or a capture input holds for a domain (R195, R201). -/
def State.sampleOf (s : State) (d : Dom) : Option Int :=
  let pick (p : Nat × Nat) : Int := if d = 0 then (p.1 : Int) else p.2
  match s.source d with
  | 1 | 2 =>
    let l := s.line (sourceEngine (s.source d))
    if s.pair.ready then l.todOut.map (fun t => t - pick l.todAt) else none
  | 4 =>
    let n := s.get (TE_DOM_CFG_TIN d.val)
    (sget (fun _ => none) s.te.tinAt n).map (fun _ =>
      let t := pick (sget (fun _ => (0, 0)) s.te.tinDom n)
      (t + second / 2) / (second : Int) * second - t)
  | _ => none

/-- A sample of the domain's source waits: a PSync of its line engine, or an edge of its capture input, since the last that
was taken (R195). -/
def State.freshSample (s : State) (d : Dom) : Bool := sget (fun _ => false) s.te.fresh d.val

/-- SERVO_SAMPLE: the servo of a domain takes the sample of its line engine or capture input, once (R195, R208). -/
def execServoSample (d : Dom) (s : State) : Out :=
  match s.sampleOf d with
  | some v => .next (if s.freshSample d then takeServoSample d v (setFresh d false s) else s)
  | none => .next s

/-- SERVO_LOCK: every sample has lain within ±50 ns for 10 s (R196). -/
def execServoLock (d : Dom) (s : State) : Out :=
  match s.calmSince d with
  | some t => .next (if s.get (servoF d) = 1 then setServo d 2 (s.until (t + 10 * 10 ^ 9)) else s)
  | none => .next s

/-- The source of a domain stays valid: a line engine's while its VALID is 1 (Table 08-2). -/
def State.lineValid (s : State) (d : Dom) : Bool := s.lineSourced d && s.isSet (TC_TOD_CTRL_VALID (sourceEngine (s.source d)).n)

/-- SERVO_HOLDOVER: the source stops being valid: a line engine's VALID is 0, or no sample of another source has come for
HOLD_TO (R196, Tables 08-2 and 08-14). -/
def execServoHoldover (d : Dom) (s : State) : Out :=
  let st := s.get (servoF d)
  if (st = 1 || st = 2) && !s.lineValid d then
    .next (holdover d (if s.lineSourced d then s
      else s.until ((s.lastSample d).getD 0 + s.get (TE_DOM_CFG_HOLD_TO d.val) * 500000000)))
  else .next s

/-- SOURCE, or the capture input of SOURCE 0b100, takes a value: none frees the servo, another one ends the old source's validity,
and what the old one delivered is no sample (R195, R196). -/
def sourceChanged (d : Dom) (old : Nat × Nat) (s : State) : State :=
  let st := s.get (servoF d)
  if (s.source d, s.get (TE_DOM_CFG_TIN d.val)) = old then s
  else
    let s := setFresh d false s
    if s.source d = 0 then setServo d 0 s
    else if (s.source d ≠ old.1 || s.source d = 4) && (st = 1 || st = 2) then holdover d s
    else s

/-- One word of a write to a domain's time: held aside until the highest, which installs the time (R10, R199); nanoseconds out of range
are refused (R11). -/
def writeDomTime (a : Agent) (d : Dom) (word : Nat) (w : Word) (s : State) : State :=
  let base := 0x00800100 + 0x80 * d.val
  if s.source d ≠ 0 then s.refuse a
  else if word < 3 then holdWord a (base + 4 * word) w s
  else
    let cur := timeWords (s.domTime d)
    let pick (i : Nat) : Word := (s.heldWord a (base + 4 * i)).getD (cur.getD i 0)
    let s := clearHeld a base (base + 16) s
    if 1000000000 ≤ (pick 2).toNat % 2 ^ 30 then s.refuse a
    else stepDomain d (wordsTime [pick 0, pick 1, pick 2, w]) s

/-- DOMAIN_TIME_WRITE (R199). -/
def execDomainTimeWrite (a : Agent) (d : Dom) (word : Fin 4) (w : Word) (s : State) : Out :=
  .next (s.byAgent [.tenant] a (writeDomTime a d word.val w))

/-- A word of a PTP sample: the highest one delivers it, under SOURCE 0b011 and at least 7.8125 ms after the last accepted
(R200). -/
def writeSample (a : Agent) (d : Dom) (high : Bool) (w : Word) (s : State) : State :=
  let base := TE_DOM_SAMPLE d.val
  if !high then holdWord a base w s
  else
    let ns := signed 32 ((s.heldWord a base).getD 0).toNat
    let s := clearHeld a base (base + 8) s
    let soon := match sget (fun _ => none) s.te.ptpAt d.val with
      | some t => decide (s.now < t + 7812500)
      | none => false
    if s.source d ≠ 3 || soon then s.refuse a
    else
      let s := { s with te := { s.te with ptpAt := sset (fun _ => none) s.te.ptpAt d.val (some s.now) } }
      takeServoSample d (ns * 2 ^ 32 + w.toNat) s

/-- PTP_SAMPLE_WRITE (R200). -/
def execPtpSampleWrite (a : Agent) (d : Dom) (high : Bool) (w : Word) (s : State) : Out :=
  .next (s.byAgent [.tenant] a (writeSample a d high w))

/-! ### Time of day (R201, R202) -/

/-- ARM: the stream stops; a frame that lies behind is refused with STALE (R202). -/
def armTod (e : Engine) (s : State) : State :=
  let s := stopTod e s
  let cur := (s.reg (TC_SFC e.n 0)).toNat
  let want := (s.reg (TC_TOD_SFC e.n)).toNat
  if (cur + 2 ^ 32 - want) % 2 ^ 32 < 2 ^ 31 then
    (s.putB (TC_TOD_CTRL_ARM e.n) false).putB (TC_TOD_CTRL_STALE e.n) true
  else s.putB (TC_TOD_CTRL_ARM e.n) true

/-- TOD_ARM. -/
def execTodArm (a : Agent) (e : Engine) (s : State) : Out := .next (s.byAgent [.carrier] a (armTod e))

/-- TOD_ANNOUNCED_FRAME: channel 0 has received the announced frame: VALID, and the sample of frame 0 (R201). -/
def execTodAnnouncedFrame (e : Engine) (s : State) : Out :=
  let now (d : Dom) : Nat := s.domTime d + s.drawn 8 * 2 ^ 29
  if s.isSet (TC_TOD_CTRL_ARM e.n) && s.reg (TC_SFC e.n 0) = s.reg (TC_TOD_SFC e.n) then
    let s := (s.putB (TC_TOD_CTRL_ARM e.n) false).putB (TC_TOD_CTRL_VALID e.n) true
    .next (lineFresh e (s.modLine e (fun l => { l with todK := 0, todOut := some (todTime s e 0), todAt := (now 0, now 1) }))).used
  else .next s

/-- TOD_STOP (R202). -/
def execTodStop (e : Engine) (s : State) : Out := .next (stopTod e s)

/-! ### Frequency (R209) -/

/-- FOUT's period in pips (R209, Table 08-12). -/
def State.foutPeriod (s : State) : Nat := (if s.isSet TE_FREQ_CFG_FOUT_FREQ then 40 else 100) * 2 ^ 32

/-- FOUT's next rising edge as house time: none while it is held low; on every whole second while the selected domain is
Locked, and at a free phase otherwise (R209). -/
def State.foutRise (s : State) : Option Nat :=
  if !s.isSet TE_FREQ_CFG_FOUT_EN || s.moduleHeld then none
  else
    let phase := if s.get (servoF s.te.sel) = 2 then 0 else Config.foutPhase s.freeCtr % s.foutPeriod
    some (firstFrom phase s.foutPeriod s.house)

/-- What the synthesiser follows: FSRC, with REF_FREQ of REF_IN or the lane of SyncE (R209). -/
def State.freqRef (s : State) : Nat × Nat :=
  let src := s.get TE_FREQ_CFG_FSRC
  (src, if src = 1 then s.get TE_FREQ_CFG_REF_FREQ else if src = 4 then s.get TE_FREQ_CFG_LANE else 0)

/-- A write selects a reference: a synthesiser in holdover follows another one from then on (R209). -/
def freqChanged (old : Nat × Nat) (s : State) : State :=
  if s.freqRef = old then s else { s with te := { s.te with freqHold := false } }

/-- FREQ_LOST: the selected reference is lost; the TCXO never is. -/
def execFreqLost (s : State) : Out :=
  .next (if s.get TE_FREQ_CFG_FSRC ≠ 0 && !s.te.freqHold then teFlag 7 { s with te := { s.te with freqHold := true } } else s)

/-- FREQ_REF_RETURN: the reference has been valid for 10 s. -/
def execFreqRefReturn (s : State) : Out := .next { s with te := { s.te with freqHold := false } }

/-! ### Stamp queues and capture inputs (R213, R216, R217) -/

/-- `CM.TS_TX` of a port (Table 08-19). -/
def tsTxAddr (p : Nat) : Nat := 0x01400810 + 0x1000 * p

/-- `TE.TINn_STAMP` (Table 08-17). -/
def tinStampAddr (n : Nat) : Nat := 0x00800700 + 0x10 * n

/-- The words of `CM.TS_TX` of a port: its oldest stamp (R9, Table 08-19). -/
def State.txStampWords (s : State) (p : Nat) : List Word :=
  match s.stampQueue p with
  | [] => [0, 0, 0, 0]
  | x :: _ =>
    let ws := timeWords x.time
    let tag : Word := BitVec.ofNat 32 (x.seqId % 2 ^ 16 * 2 ^ 16 + x.domain % 256 * 256 + x.msgType % 16 * 16)
    [ws.getD 0 0, ws.getD 1 0, (ws.getD 2 0).withField 31 31 1, tag]

/-- A read of the lowest word of `CM.TS_TX` pops the oldest stamp of a port and takes a snapshot of it (R213). -/
def popStamp (a : Agent) (p : Nat) (s : State) : State :=
  snapshot a (tsTxAddr p) (s.txStampWords p) (setStampQueue p (s.stampQueue p).tail s)

/-- TS_TX_POP (R213). -/
def execTsTxPop (a : Agent) (p : Port) (s : State) : Out := .next (s.byReader [.tenant, .host] a (popStamp a p.val))

/-- The unread stamps of a capture input. -/
def State.tinQueue (s : State) (n : Nat) : List TinStamp := sget (fun _ => []) s.te.tin n

/-- TIN_EDGE_CAPTURE: a selected edge is stamped against the counter that REF names, 8 ns or more after the last stamped
edge, and queued (R194, R216, R217). -/
def execTinEdgeCapture (n : Fin 8) (rising : Bool) (phase : Fin 8) (s : State) : Out :=
  let n := n.val
  let edge := s.get (TE_TIN_CFG_EDGE n)
  let wanted := edge = 3 || (edge = 1 && rising) || (edge = 2 && !rising)
  let at' := 8 * s.now + phase.val
  let close := match sget (fun _ => none) s.te.tinAt n with
    | some t => decide (at' < t + 64)
    | none => false
  if !wanted || close then .next s
  else
    let stamp (t : Nat) : Nat := t + phase.val * 2 ^ 29
    let t := stamp (match s.get (TE_TIN_CFG_REF n) with
      | 1 => s.te.dom0
      | 2 => s.te.dom1
      | _ => s.house)
    let q := s.tinQueue n
    let s := { s with te := { s.te with
      tinAt := sset (fun _ => none) s.te.tinAt n (some at')
      tinDom := sset (fun _ => (0, 0)) s.te.tinDom n (stamp s.te.dom0, stamp s.te.dom1) } }
    let s := s.each [0, 1] (fun d s => s.when (s.source d = 4 ∧ s.get (TE_DOM_CFG_TIN d.val) = n) (setFresh d true))
    let s := commitStamp n t s
    if 8 ≤ q.length then .next (teFlag 12 s)
    else .next { s with te := { s.te with tin := sset (fun _ => []) s.te.tin n (q ++ [⟨t, rising⟩]) } }

/-- The words of `TE.TINn_STAMP`: the oldest stamp of a capture input (R9, Table 08-17). -/
def State.tinStampWords (s : State) (n : Nat) : List Word :=
  match s.tinQueue n with
  | [] => [0, 0, 0, 0]
  | x :: _ =>
    let ws := timeWords x.time
    [ws.getD 0 0, ws.getD 1 0, ((ws.getD 2 0).withField 31 31 1).withField 30 30 x.rise.toNat, ws.getD 3 0]

/-- A read of the lowest word of `TE.TINn_STAMP` pops the oldest stamp and takes a snapshot of it (R217). -/
def popTin (a : Agent) (n : Nat) (s : State) : State :=
  snapshot a (tinStampAddr n) (s.tinStampWords n)
    { s with te := { s.te with tin := sset (fun _ => []) s.te.tin n (s.tinQueue n).tail } }

/-- TIN_STAMP_POP (R217). -/
def execTinStampPop (a : Agent) (n : Fin 8) (s : State) : Out := .next (s.byReader [.tenant] a (popTin a n.val))

/-! ### The ready point (R182, R208) -/

/-- FOLLOW_PX: the lowest-numbered Locked domain whose source is the new active engine is selected (R208). -/
def followPx (e : Engine) (s : State) : State :=
  let fits (d : Dom) : Bool := s.lineSourced d && decide (sourceEngine (s.source d) = e)
  match ([0, 1] : List Dom).find? fits with
  | some d => if s.isSet TE_HOUSE_CFG_FOLLOW_PX && s.get (servoF d) = 2 then selectDomain d s else s
  | none => s

/-- Samples that line engines delivered in the gap are not taken (R208). -/
def dropGapSamples (s : State) : State := s.each [0, 1] (fun d s => s.when (s.lineSourced d = true) (setFresh d false))

/-- READY_POINT: after the referee's move, the new active serves live grants, and the servos run again (R182, R208). -/
def execReadyPoint (s : State) : Out :=
  if s.pair.arming then
    let e := s.active
    .next (followPx e ((dropGapSamples (readyEngine e s)).modPair (fun p => { p with ready := true, arming := false })))
  else .next s

end Sys2Proof.Machine
end

