-- ==== Sys2Proof/Machine/Power.lean ====
section
/-! DEFINITION. The power controller: entry into REST and exit from it, wake events, gating in RUN, and the power-fail event
(19_power_reset_crossings.md, R465 to R468). -/
namespace Sys2Proof.Machine

/-! ### Entering REST (R497 to R503) -/

/-- The domain that a step of Table 19-3 asks; steps 16 and 17 show the first of a line engine's domains. -/
def restDomain (n : Nat) : Nat :=
  [0, 11, 12, 13, 14, 15, 16, 17, 18, 19, 10, 5, 6, 7, 8, 9, 20, 28, 2, 1, 3].getD n 0

/-- The answers of a domain. -/
inductive RestAnswer where
  | agree | delay | refuse
  deriving DecidableEq, Repr

/-- The lanes of a client lane group. -/
def groupLanes (g : Nat) : List Nat := (List.range 16).map (fun i => 16 * g + i)

/-- A frame is queued to a port of a group, or leaves it. -/
def State.groupBusy (s : State) (g : Nat) : Bool :=
  (groupLanes g).any (fun l => !(s.stageOf l).isEmpty) ||
  s.qs.queues.any (fun x => !x.2.isEmpty && (match s.egressOf x.1 with
    | some n => decide (n / 16 = g)
    | none => false))

/-- A service job runs, waits or is suspended on a cipher engine. -/
def State.jobsPresent (s : State) : Bool :=
  [0, 1, 2, 3].any (fun e =>
    let x := s.engine e
    x.go.isSome || x.work = some .service || x.slot = some .service)

/-- Passes are in flight in a pipe. -/
def State.pipeBusy (s : State) (p : Nat) : Bool :=
  let x := s.pipe p
  !x.queue.isEmpty || !x.results.isEmpty || !x.released.isEmpty || (List.range 16).any (fun u => (s.unitRun p u).isSome)

/-- A burst of an engine is in progress. -/
def State.bursting (s : State) (e : Engine) : Bool := channels.any (fun c => (s.ch e c).gate && (s.ch e c).flying.isSome)

/-- The answer of the domain of a step (Table 19-3). -/
def State.restAnswer (s : State) (n : Nat) : RestAnswer :=
  let ifOk (b : Bool) : RestAnswer := if b then .agree else .refuse
  if n = 1 then ifOk (!(List.range 32).any (fun f => s.isSet (CF_CFG_EN f)))
  else if n ≤ 9 then
    (if (groupLanes (n - 2)).any (fun l => s.stage l = 8) then .refuse else if s.groupBusy (n - 2) then .delay else .agree)
  else if n = 10 then
    (if [0, 1, 2, 3].any (fun e => s.get (CE_PAWN_HOLDER e) ≠ 0) then .refuse
     else if s.jobsPresent then .delay else .agree)
  else if n ≤ 13 then (if s.pipeBusy (n - 11) then .delay else .agree)
  else if n = 14 then
    (if s.isSet CX_STATE_HELD then .refuse
     else if s.isSet CX_STATE_DRAINING || s.isSet CX_STATE_SWEEP then .delay else .agree)
  else if n = 15 then
    (if (List.range 128).any (fun l => s.isSet (QS_TL_CTRL_OPER l)) then .refuse
     else if !s.qs.queues.isEmpty then .delay else .agree)
  else if n ≤ 17 then
    let e : Engine := if n = 16 then .la else .lb
    if s.bursting e then .delay
    else if !s.isSet (TC_ACT_CTRL_ACT_EN e.n) || s.pm e = 2 then .agree
    else ifOk (s.get (BURST_PM_CFG_MODE e.n) = 2 && (s.pm e = 0 || s.pm e = 3) && !enterRefused s e)
  else if n = 18 then ifOk (s.isSet KP_PWR_CTRL_T_ALLOW)
  else if n = 19 then ifOk (s.isSet KP_PWR_CTRL_C_ALLOW)
  else .agree

/-- The power controller asks the domain of a step. -/
def askDomain (n : Nat) (s : State) : State :=
  (s.put KP_PWR_STATUS_STEP (restDomain n)).modKp (fun k => { k with restStep := n, askedAt := s.now })

/-- A domain that agrees stops; a line engine enters its watchful interval (R498). -/
def stopDomain (n : Nat) (s : State) : State :=
  let s := if n = 16 ∧ s.isSet (TC_ACT_CTRL_ACT_EN 0) then s.put (BURST_PM_STATUS_STATE 0) 2 else s
  let s := if n = 17 ∧ s.isSet (TC_ACT_CTRL_ACT_EN 1) then s.put (BURST_PM_STATUS_STATE 1) 2 else s
  restop (s.modKp (fun k => { k with stopSteps := n :: k.stopSteps }))

/-- Entry ends as a refusal; the stopped domains restart (R500). -/
def refuseEntry (dom reason : Nat) (s : State) : State :=
  let s := restRefused dom reason s.kp.restStep s
  (s.putB KP_PWR_CTRL_REQ false).put KP_PWR_STATUS_PHASE 3

/-- A write of 1 to REQ, with a wake event that arrives in the same KEEP cycle (R497). -/
def restRequest (wake : Option WakeEvent) (s : State) : State :=
  let woke := match wake with
    | some w => s.wakes w
    | none => false
  if s.get KP_PWR_STATUS_PHASE ≠ 0 then restRefused 0 6 0 s
  else if !s.isSet KP_PWR_CTRL_C_ALLOW then restRefused 1 5 0 s
  else if !s.isSet KP_PWR_CTRL_T_ALLOW then restRefused 2 5 0 s
  else if woke then pwrFlag 3 (restRefused 0x3F 3 0 s)
  else askDomain 1 ((s.putB KP_PWR_CTRL_REQ true).put KP_PWR_STATUS_PHASE 1)

/-- What a wake event does at its own target: an engine wakes, a lane's signal is detected (R163, R502). -/
def wakeTarget (w : WakeEvent) (s : State) : State :=
  match w with
  | .line e c => wakeEvent e (wakeCode c) s
  | .lane l => signalSeen l.val s
  | _ => s

/-- REST_REQUEST: a wake event in the same cycle is delivered as in RUN (R497). -/
def execRestRequest (a : Agent) (wake : Option WakeEvent) (s : State) : Out :=
  .next (s.byAgent [.carrier, .tenant, .keeper] a (fun s =>
    let t := restRequest wake s
    match wake with
    | some w => if t.get KP_PWR_STATUS_PHASE = 0 then wakeTarget w (restLatch w t) else restLatch w t
    | none => t))

/-- REST_DOMAIN_ANSWER: the asked domain agrees and stops, goes on delaying, or refuses; the agreement of domain 3 is the
point of no return (R498, R500, R501). -/
def execRestDomainAnswer (s : State) : Out :=
  if s.get KP_PWR_STATUS_PHASE ≠ 1 then .next s
  else
    let n := s.kp.restStep
    match s.restAnswer n with
    | .delay => .next s
    | .refuse => .next (refuseEntry (restDomain n) 1 s)
    | .agree =>
      let s := stopDomain n s
      if n < 20 then .next (askDomain (n + 1) s)
      else .next (pwrFlag 0 ((s.putB KP_PWR_CTRL_REQ false).put KP_PWR_STATUS_PHASE 2))

/-- REST_DELAY_EXPIRY: a domain that still delays after 1 ms refuses with reason DELAY (R499). -/
def execRestDelayExpiry (s : State) : Out :=
  if s.get KP_PWR_STATUS_PHASE = 1 && s.restAnswer s.kp.restStep = .delay then
    let s := s.until (s.kp.askedAt + 1000000)
    .next (refuseEntry (restDomain s.kp.restStep) 2 s)
  else .next s

/-! ### Leaving REST (R500, R502 to R505) -/

/-- A lane group restarts: each lane with EN at 1 returns to Wait signal, with no strike. -/
def restartGroup (g : Nat) (s : State) : State :=
  s.each (groupLanes g) (fun l s => if s.isSet (CL_CFG_EN l) then restartLane l s else s)

/-- An engine that stopped runs again: it wakes and answers grants (R163). -/
def restartEngine (e : Engine) (s : State) : State := wakeComplete e (if s.pm e = 2 then wakeEvent e 5 s else s)

/-- Every domain that stopped runs again, and the latched event is replayed to its target (R500, R502 to R504). -/
def restartAll (s : State) : State :=
  let steps := s.kp.stopSteps
  let rested := steps.contains 20
  let w := s.kp.wake
  let s := if steps.contains 17 then restartEngine .lb s else s
  let s := if steps.contains 16 then restartEngine .la s else s
  let s := s.each ([7, 6, 5, 4, 3, 2, 1, 0].filter (fun g => steps.contains (g + 2))) restartGroup
  let s := restop (s.modKp (fun k => { k with stopSteps := [], restStep := 0, wake := none }))
  let s := (s.put KP_PWR_STATUS_PHASE 0).put KP_PWR_STATUS_STEP 0
  let s := match w with
    | some w => pwrFlag 4 ((wakeTarget w s).putB KP_WAKE_LAST_REPLAYED true)
    | none => s
  if rested then pwrFlag 1 s else s

/-- REST_WAKE: a wake event of R506 arrives. -/
def execRestWake (w : WakeEvent) (s : State) : Out :=
  .next (match w with
  | .line e c => wakeEvent e (wakeCode c) s
  | .lane l => if s.isSet (CL_CFG_WAKE_EN l.val) then
      (if s.get KP_PWR_STATUS_PHASE = 0 then wakeTarget w (restLatch w s) else restLatch w s) else s
  | w => restLatch w s)

/-- REST_EXIT_DONE: every domain runs again, after an exit or a refusal (R500, R504). -/
def execRestExitDone (s : State) : Out := .next (if s.get KP_PWR_STATUS_PHASE = 3 then restartAll s else s)

/-- PWR_EXIT: a write of 1 to EXIT is a wake event (R504). -/
def execPwrExit (a : Agent) (s : State) : Out :=
  .next (s.byAgent [.carrier, .tenant, .keeper] a (restLatch .exit))

/-- The earliest time of an armed at-time entry. -/
def State.earliestArmed (s : State) : Option Nat :=
  ((List.range 64).filter s.armed).foldl (fun m i => match m with
    | some t => some (min t (s.timeAt (actTime i)))
    | none => some (s.timeAt (actTime i))) none

/-- ACTION_LEAD_WAKE: house time reaches 3 ms before the earliest armed time (R505). -/
def execActionLeadWake (s : State) : Out :=
  match s.earliestArmed with
  | some t => .next (restLatch .action (s.reachHouse (t - 3000 * micro)))
  | none => .next s

/-! ### Gating in RUN and wake on access (R507, R508) -/

/-- The agent that gates a domain, for the domains that can be gated. -/
def gateOwner (d : Nat) : Option Agent :=
  if 11 ≤ d ∧ d ≤ 19 then some .tenant
  else if (21 ≤ d ∧ d ≤ 25) ∨ (29 ≤ d ∧ d ≤ 33) then some .carrier
  else none

/-- The gate bit of a domain. -/
def gateF (d : Nat) : Fld := if d < 32 then ⟨KP_PWR_GATE0, d, d⟩ else ⟨KP_PWR_GATE1, d - 32, d - 32⟩

/-- A domain is gated. -/
def State.gated (s : State) (d : Nat) : Bool := s.isSet (gateF d)

/-- A domain has work (R507). -/
def State.domainBusy (s : State) (d : Nat) : Bool :=
  let e : Engine := if d < 29 then .la else .lb
  let o := if d < 29 then d - 21 else d - 29
  if d = 11 then (List.range 32).any (fun f => s.isSet (CF_CFG_EN f))
  else if d ≤ 19 then (groupLanes (d - 12)).any (fun l => s.isSet (CL_CFG_EN l))
  else if o < 4 then
    s.act e (Fin.ofNat 4 o) ≠ 0 || s.isSet ((PFE_CTRL_RX_EN e.n).bit o) || s.isSet ((PFE_CTRL_TX_EN e.n).bit o)
  else (coresOf e).any s.started

/-- One gate bit is written: a domain with work, or a terminal out of RUN, refuses (R507). -/
def writeGate (d : Nat) (v : Bool) (s : State) : State :=
  if v && !s.gated d && (s.domainBusy d || s.powerState ≠ 0) then pwrFlag 6 s else s.putB (gateF d) v

/-- A write of a gate register: each bit of a domain that the agent may gate (R507, Table 19-18). -/
def writeGates (a : Agent) (high : Bool) (w : Word) (s : State) : State :=
  s.each ((List.range (if high then 4 else 32)).map (fun i => (i, if high then i + 32 else i))) (fun x s =>
    if gateOwner x.2 = some a then writeGate x.2 (w.toNat.testBit x.1) s else s)

/-- POWER_GATE_WRITE. -/
def execPowerGateWrite (a : Agent) (high : Bool) (w : Word) (s : State) : Out :=
  .next (s.byAgent [.carrier, .tenant, .keeper] a (writeGates a high w))

/-- An access wakes a gated domain (R508). -/
def accessWake (d : PowerDom) (s : State) : State :=
  if s.gated d.val then restLatch (.access d) (pwrFlag 5 (s.putB (gateF d.val) false)) else s

/-- ACCESS_WAKE: the first access to a gated domain, or to a domain stopped in REST (R508, R506). -/
def execAccessWake (d : PowerDom) (s : State) : Out :=
  .next (if s.gated d.val then accessWake d s
  else if s.get KP_PWR_STATUS_PHASE = 2 && s.kp.stopSteps.any (fun n => restDomain n = d.val) then restLatch (.access d) s
  else s)

/-! ### The power-fail event (R465, R466) -/

/-- PFAIL_N is enabled by the option bytes (Table 17-2). -/
def State.pfailEnabled (s : State) : Bool := s.options.pfail.testBit 7

/-- PFAIL_MONITOR_ARM: VIN has stood above WI_THR for 100 ms after the last release. -/
def execPfailMonitorArm (vin : Nat) (s : State) : Out :=
  let s := s.put KP_VIN_VIN vin
  .next (if s.get KP_SUPPLY_WI_THR < vin && !s.moduleHeld then s.modKp (fun k => { k with armed := true }) else s)

/-- An engine goes dark: its channels leave their states (R465). -/
def darkenChannels (e : Engine) (cs : List Ch) (s : State) : State :=
  s.each cs (fun c s => if c = 0 then enterState0 e 0 s else enterState e c 0 s)

/-- The load is shed: the tenant domain's clocks stop, every client lane is at electrical idle, and only channel 0 of the
active engine stays lit, without a cooler (R465). -/
def shedLoad (s : State) : State :=
  let a := s.active
  let s := s.each (List.range 128) (fun l s => if s.stage l = 7 then s else setStage l 0 s)
  let s := darkenChannels a.peer channels (darkenChannels a sideChannels s)
  let s := (s.putB (PFE_CTRL_COOL_EN 0) false).putB (PFE_CTRL_COOL_EN 1) false
  restop (s.modKp (fun k => { k with shed := true }))

/-- Carrier firmware sends GASP through the gate; its four bytes are its own (R466). -/
def sendGasp (s : State) : State :=
  if s.stopped.contains .carrier || 16 ≤ s.gateCount 1 then s
  else (deliver 1 ⟨0x0D, bytesBE 4 (Config.freeWord s.freeCtr)⟩ (s.bump (MG_CNT 0 0))).used

/-- POWER_FAIL_EVENT: VIN falls below DG_THR, or PFAIL_N is enabled and held low for 1 µs, while the monitor is armed. -/
def execPowerFailEvent (pin : Bool) (vin : Nat) (s : State) : Out :=
  let s := s.put KP_VIN_VIN vin
  let low := pin && s.pfailEnabled
  let s := if low then s.putB KP_VIN_PFAIL true else s
  if s.kp.armed && (low || decide (vin < s.get KP_SUPPLY_DG_THR)) then
    let s := startFlag 6 (s.putB KP_VIN_DG_ACTIVE true)
    .next (restLatch .powerFail (sendGasp (if s.kp.shed then s else shedLoad s)))
  else .next s

end Sys2Proof.Machine
end

