-- ==== Sys2Proof/Machine/Reset.lean ====
section
/-! DEFINITION. The reset controller: sources, reaches and releases, watchdogs, THERM_N, clock monitors and access watchdogs,
and the GPIO lands (19_power_reset_crossings.md, 20_electrical.md). -/
namespace Sys2Proof.Machine

/-! ### What a reset clears (Table 19-6 and each chapter's reset section) -/

/-- Registers in a range of addresses return to their reset values (R8). -/
def dropRegs (lo hi : Nat) (s : State) : State := s.resetRegs (fun a => !(decide (lo ≤ a) && decide (a < hi)))

/-- What an agent holds goes with its domain's reset: snapshots and words held aside (R9, R10). -/
def dropHeld (as : List Agent) (s : State) : State :=
  { s with
    snaps := s.snaps.filter (fun x => !as.contains x.agent)
    aside := s.aside.filter (fun x => !as.contains x.agent) }

/-- A pawn held under a code is free again; its job is abandoned (R381). -/
def releasePawns (code : Nat) (s : State) : State :=
  s.each [0, 1, 2, 3] (fun e s =>
    if s.get (CE_PAWN_HOLDER e) = code then
      let s := s.put (CE_PAWN_HOLDER e) 0
      if s.isSet (CE_JOB_BUSY e) then endJob e 6 s else s
    else s)

/-- The gate's own DOWN message: RST_CAUSE, most significant byte first; one that is unread takes in the new content (R471). -/
def queueDown (d kind : Nat) (s : State) : State :=
  let cause := (s.reg KP_RST_CAUSE).toNat
  let q := s.gateQ d
  let s := if q.any (fun m => m.kind = kind) then
      setGateQ d (q.map (fun m => if m.kind = kind then ⟨kind, bytesBE 4 (numBE m.bytes ||| cause)⟩ else m)) s
    else deliver d ⟨kind, bytesBE 4 cause⟩ s
  mgFlag d 4 s

/-- The line die and front end of an engine after a reset of ENGINE reach or wider: everything at its reset value but rogue
shut-offs, retired channels and retired cores; the inhibit counts as accepted (R33, R35, R38, R99, R133, R166, R202, R448). -/
def clearEngine (e : Engine) (s : State) : State :=
  let rogue := s.get (PFE_STATUS_ROGUE_OFF e.n)
  let retired := channels.filter (fun c => s.bond e c = 3)
  let base := 0x08000000 + 0x04000000 * e.n
  let s := dropRegs base (base + 0x04000000) s
  let s := (s.put (PFE_STATUS_ROGUE_OFF e.n) rogue).putB (PFE_STATUS_INHIBIT e.n) true
  let s := s.each retired (fun c s => s.put (bondStateF e c) 3)
  let s := s.each channels (fun c s => s.modCh e c (fun _ => {}))
  let s := s.modLine e (fun l => { transfer := l.transfer, gap := true })
  showDisables (resetDsp e s)

/-- An ENGINE reset seen from the hub: its tie link trains again, the pair leaves step, and the active engine's reset is a
trigger (R175, R548, Table 07-3). -/
def resetEngine (e : Engine) (s : State) : State :=
  let s := tieDown e (clearEngine e s)
  let s := loseStep (s.modPair (fun p => { p with
    digest := sset (fun _ => none) p.digest e.n none
    step := if p.step = .marked ∨ p.step = .markReady then .digestWait else p.step }))
  if s.active = e then trigger [2] s else s

/-- The protection block: all but the referee's choice and the retired tie lanes (R20, R242). -/
def clearPx (s : State) : State :=
  let active := s.get PX_STATUS_ACTIVE
  let lanes := [(0, 0), (0, 1), (1, 0), (1, 1)].map (fun x => (x, s.get (PX_TIE_HUB_RETIRED x.1 x.2)))
  let s := dropRegs 0x04C00000 0x05000000 s
  let s := (s.put PX_STATUS_ACTIVE active).each lanes (fun x s => s.put (PX_TIE_HUB_RETIRED x.1.1 x.1.2) x.2)
  { s with pair := {}, ties := [] }

/-- A domain that restarts shows step 0x2 while it is held, once the module has passed it (R458). -/
def holdStage (tenant : Bool) (s : State) : State :=
  if 2 ≤ s.get (if tenant then KP_BOOT_T_STAGE else KP_BOOT_C_STAGE) then setBootStage tenant 2 s else s

/-- A carrier DOMAIN reset. -/
def resetCarrier (s : State) : State :=
  let s := clearPx (clearEngine .lb (clearEngine .la s))
  let s := releasePawns 1 (s.each (List.range 32) (fun k s => emptySlot (8192 + k) s))
  let s := s.each ((List.range 16).map (· + 48)) (fun i s => s.putB ⟨actCtrl i, 31, 31⟩ false)
  let s := dropRegs 0x05000000 0x05000100 (setGateQ 0 [] s)
  let s := dropHeld [.carrier] (resetEventsCarrier s)
  holdStage false (queueDown 1 0x01 (s.modKp (fun k => { k with alarmC := true })))

/-- The client lanes, ports and framers of the tenant domain: retirements alone stand (R236, R254, R414). -/
def clearClients (s : State) : State :=
  let retired := (List.range 128).filter (fun l => s.stage l = 7 || (s.lane l).retired)
  let s := dropRegs 0x01000000 0x02000000 s
  let s := s.each retired (fun l s => (s.put (CL_STATUS_STAGE l) 7).put (CL_STATUS_CAUSE l) 7)
  { s with lanes := [], ports := [], cbr := [] }.each retired (fun l s => s.modLane l (fun x => { x with retired := true }))

/-- Parsing and classification: retirements alone stand (R281, R308). -/
def clearParsing (s : State) : State :=
  let units := [0, 1, 2].map (fun p => (p, s.get (PA_UNITS_IN_SERVICE p)))
  let banks := (List.range 52).filter (fun b => s.isSet (CX_BANK_RETIRED b))
  let s := dropRegs 0x02000000 0x04000000 s
  let s := s.each units (fun x s => s.put (PA_UNITS_IN_SERVICE x.1) x.2)
  let s := s.each banks (fun b s => s.putB (CX_BANK_RETIRED b) true)
  { s with pipes := [], units := [], unitStrikes := [], recirc := [], ctlSend := [], ctlRecv := [], frames := [], cx := {} }

/-- Bags and queues: quarantined tiles stay out, every other is free at GEN 0, and INIT is carried out (R329, R363). -/
def clearQueues (s : State) : State :=
  let held := s.get BM_STATUS_HELD
  let s := dropRegs 0x04000000 0x04800000 s
  (layOut ({ s with qs := {} }.put BM_STATUS_HELD held)).putB BM_STATUS_READY false

/-- The tenant's part of the cipher engines (R391). -/
def clearCipher (s : State) : State :=
  let s := { s with ce := { s.ce with
    keys := skeep (fun k => decide (8192 ≤ k)) s.ce.keys, checks := [], seen := [] } }
  let s := s.each ((List.range 208).map (· + 32)) (fun k s => emptySlot (8192 + k) s)
  let s := dropRegs 0x04B00000 0x04C00000 (dropRegs 0x04800A00 0x04900000 s)
  let s := releasePawns 4 (releasePawns 2 (s.setReg CE_FLAGS 0))
  s.each [0, 1, 2, 3] (fun e s =>
    let idle (w : Option CeWork) : Option CeWork := if w = some .service then w else none
    showSlot e (modEngine e (fun x => { x with work := idle x.work, slot := idle x.slot }) s))

/-- The host mailbox and block 2 are emptied (R471). -/
def clearHostBox (s : State) : State := dropRegs 0x05002000 0x05002100 (setGateQ 3 [] (setGateQ 2 [] s))

/-- A tenant DOMAIN reset. -/
def resetTenant (s : State) : State :=
  let s := s.each (List.range 48) (fun i s => s.putB ⟨actCtrl i, 31, 31⟩ false)
  let s := { s with te := { s.te with tin := [], tsTx := [] } }
  let s := clearCipher (clearQueues (clearParsing (clearClients s)))
  let s := clearHostBox (dropRegs 0x05001000 0x05001100 (setGateQ 1 [] s))
  let s := dropHeld [.tenant, .host] (resetEventsTenant s)
  holdStage true (queueDown 0 0x21 (s.modKp (fun k => { k with alarmT := true })))

/-- What MODULE and FULL resets share: everything outside the keeper island returns to its reset value. Time stands at 0, the
DSP memories keep their contents, a new transfer key is installed, and both domains owe each other a DOWN message (R226, R388,
R448, R471, R492). -/
def clearModule (s : State) : State :=
  let key := Config.transferKey s.freeCtr
  let s : State := { State.reset with
    pending := s.pending, now := s.now, nextId := s.nextId, freeCtr := s.freeCtr, rdata := s.rdata, tally := s.tally
    dsp := (s.dsp.map (fun x => (x.1, ({ prog := x.2.prog, x := x.2.x, y := x.2.y } : DspCore)))).filter (fun x => x.2 ≠ {})
    capBufs := (s.capBufs.map (fun x => (x.1, ({ samples := x.2.samples, bad := x.2.bad } : CapBuf)))).filter (fun x => x.2 ≠ {})
    sram := s.sram, snaps := s.snaps, aside := s.aside, regs := s.regs, stopped := s.stopped, kp := s.kp }
  let s := { s with ce := { keys := sset keyReset [] 8446 (some { key := key }) } }
  let s := s.each [Engine.la, Engine.lb] (fun e s =>
    (s.putB (PFE_STATUS_INHIBIT e.n) true).modLine e (fun _ => { transfer := some key }))
  (queueDown 0 0x21 (queueDown 1 0x01 s)).used

/-- A MODULE reset: all but the keeper island and the retained store. -/
def resetModule (s : State) : State :=
  let s := dropHeld [.carrier, .tenant, .host] (s.resetRegs (fun a => decide (a < 0x300) || (decide (0x340 ≤ a) && decide (a < 0x400000))))
  let s := { s with sram := skeep (fun i => decide (2 ^ 24 ≤ i)) s.sram }
  let s := (s.setReg KP_BOOT 0).setReg KP_PWR_STATUS 0
  let s := ((s.putB KP_PWR_CTRL_REQ false).putB KP_VIN_DG_ACTIVE false).put ⟨KP_RST_CTRL, 6, 0⟩ 0
  clearModule (s.modKp (fun k => { k with
    booted := false, unreleased := true, armed := false, shed := false, gate := [], restStep := 0, stopSteps := [], wake := none
    counts := [], wraps := [], pend := [], enab := [], permit := 0, alarmBoot := true, alarmC := false, alarmT := false
    opt := none, image := none, imgFlags := 0 }))

/-- A FULL reset: everything. The flash, the one-time store, what VIN and the dies are, and the sources that stand remain;
RST_CAUSE shows the FULL sources (R513). -/
def resetFull (s : State) : State :=
  let holds := s.get ⟨KP_RST_CTRL, 11, 8⟩ * 2 ^ 11
  let svn := s.reg KP_SVN_MIN
  let vin := s.get KP_VIN_VIN
  let a := s.kp.asserted - (s.kp.asserted &&& holds)
  let k : Keeper := {
    flash := s.kp.flash, flashSize := s.kp.flashSize, revoked0 := s.kp.revoked0, asserted := a
    driving := s.kp.driving, hot := s.kp.hot, unreleased := true }
  let s : State := { s with regs := [], snaps := [], aside := [], sram := [], kp := k }
  let s := ((s.setReg KP_SVN_MIN svn).put KP_VIN_VIN vin).setReg KP_RST_CAUSE (BitVec.ofNat 32 (a &&& 0x40209))
  clearModule s

/-- A BLOCK reset of a client lane with its MAC: its strikes, retirement and counters are kept (R509's text). -/
def resetLane (l : Nat) (s : State) : State :=
  let keep (a : Nat) : Bool :=
    let cl := 0x01000000 + 0x1000 * l
    let cm := 0x01400000 + 0x1000 * l
    !((decide (cl ≤ a) && decide (a < cl + 0x20)) || (decide (cm ≤ a) && decide (a < cm + 0x400)) ||
      (decide (cm + 0x800 ≤ a) && decide (a < cm + 0x1000)))
  let strikes := s.get (CL_STATUS_STRIKES l)
  let retired := decide (s.stage l = 7) || (s.lane l).retired
  let s := if retired then s else setStage l 0 s
  let s := (s.resetRegs keep).put (CL_STATUS_STRIKES l) strikes
  let s := if retired then (s.put (CL_STATUS_STAGE l) 7).put (CL_STATUS_CAUSE l) 7 else s
  { s with lanes := skeep (fun i => i ≠ l) s.lanes, ports := skeep (fun i => i ≠ l) s.ports }.modLane l (fun x => { x with retired := retired })

/-- A BLOCK reset of a framer: what R414 does for all. -/
def resetFramer (f : Nat) (s : State) : State :=
  let s := s.each (s.cf f).held freeSeg
  let s := dropRegs (0x01800000 + 0x4000 * f) (0x01804000 + 0x4000 * f) s
  { s with cbr := skeep (fun i => i ≠ f) s.cbr }

/-- A host message that reads or writes registers (R475). -/
def isHostAccess (m : GateMsg) : Bool := m.kind = 1 || m.kind = 2

/-- A BLOCK reset of the tenant proxy abandons the host transaction in progress: the oldest register access in the host
mailbox, answered with a status when the access watchdog caused it (R509's text, R523). -/
def resetProxy (status : Option Nat) (s : State) : State :=
  match (s.gateQ 3).find? isHostAccess with
  | none => s
  | some m =>
    let s := setGateQ 3 ((s.gateQ 3).erase m) s
    match status with
    | some v => deliver 2 ⟨m.kind, m.bytes.take 3 ++ bytesBE 1 v ++ (m.bytes.drop 4).take 4⟩ s
    | none => s

/-! ### Sources (R509, R511 to R513) -/

/-- The reach of a source (Table 19-5). -/
inductive Reach where
  | full | module | carrier | tenant | engine (e : Engine) | block | proxy
  deriving DecidableEq, Repr

/-- Table 19-5. -/
def sourceReach (n : Nat) : Reach :=
  if n = 0 ∨ n = 3 ∨ n = 9 ∨ n = 18 then .full
  else if n = 1 ∨ n = 2 ∨ n = 6 ∨ n = 8 ∨ n = 10 then .module
  else if n = 4 ∨ n = 11 ∨ n = 16 then .carrier
  else if n = 5 ∨ n = 7 ∨ n = 12 ∨ n = 17 then .tenant
  else if n = 13 then .engine .la
  else if n = 14 then .engine .lb
  else if n = 15 then .block
  else .proxy

/-- What the target of `KP.RST_BLOCK` loses. -/
def resetBlock (s : State) : State :=
  let i := s.get KP_RST_BLOCK_INDEX
  match s.get KP_RST_BLOCK_TARGET with
  | 0 => resetLane i s
  | 1 => if i < 32 then resetFramer i s else s
  | _ => resetProxy none s

/-- The state under a reach that was already in reset does not change; otherwise the reach is cleared (R512). -/
def applyReach (was : State) (r : Reach) (s : State) : State :=
  match r with
  | .full => if was.fullHeld then s else resetFull s
  | .module => if was.moduleHeld then s else resetModule s
  | .carrier => if was.carrierHeld then s else resetCarrier s
  | .tenant => if was.tenantHeld then s else resetTenant s
  | .engine e => if was.engineHeld e then s else resetEngine e s
  | .block => if was.tenantHeld then s else resetBlock s
  | .proxy => if was.tenantHeld then s else resetProxy (some 7) s

/-- A source asserts: RST_CAUSE shows it, its reach is cleared, and a MODULE or FULL reach drives RESET_N low (R509, R511,
R513). A FULL reset's own record is written with what it clears. -/
def assertSource (n : Nat) (s : State) : State :=
  if s.kp.asserted.testBit n then s
  else
    let r := sourceReach n
    let t := (s.raise KP_RST_CAUSE n n).modKp (fun k => { k with asserted := k.asserted ||| 2 ^ n })
    let t := applyReach s r t
    let t := if r = .full ∨ r = .module then t.modKp (fun k => { k with driving := true }) else t
    restop t

/-- The processor of a watchdog: the housekeeper, the carrier controller, the tenant controller. -/
def wdogAgent (x : Fin 3) : Agent := if x = 0 then .keeper else if x = 1 then .carrier else .tenant

/-- The line engines and the protection block at the end of a carrier DOMAIN reset. -/
def endCarrier (s : State) : State := clearPx (clearEngine .lb (clearEngine .la s))

/-- The client lanes, parsing, bags, queues and tenant ciphers at the end of a tenant DOMAIN reset. -/
def endTenant (s : State) : State := clearCipher (clearQueues (clearParsing (clearClients s)))

/-- At the end of a reset what it held has its Reset values, whatever was written or happened there in the meantime (R8, R33,
R35). -/
def endReset (was s : State) : State :=
  if was.moduleHeld && !s.moduleHeld then
    { endTenant (endCarrier (dropRegs 0x00800000 0x01000000 s)) with te := {} }
  else
    let s := if was.carrierHeld && !s.carrierHeld then endCarrier s
      else s.each [Engine.la, .lb] (fun e s => s.when (was.engineHeld e && !s.engineHeld e) (clearEngine e))
    if was.tenantHeld && !s.tenantHeld then endTenant s else s

/-- A part leaves reset when no source covers it any more: a processor's watchdog runs from its release, and a domain's
controller starts again from step 0x2 (R458, R512, R514). -/
def settleReset (was s : State) : State :=
  let s := purgeJudged (endReset was (restop s))
  let s := s.each [0, 1, 2] (fun x s =>
    if was.stopped.contains (wdogAgent x) && !s.stopped.contains (wdogAgent x) then startWatchdog x.val s else s)
  let s := if was.carrierHeld && !s.carrierHeld && s.get KP_BOOT_C_STAGE = 2 then setBootStage false 4 s else s
  if was.tenantHeld && !s.tenantHeld && s.get KP_BOOT_T_STAGE = 2 then setBootStage true 3 s else s

/-- A source is released. -/
def releaseSource (n : Nat) (s : State) : State :=
  if s.kp.asserted.testBit n then
    let t := s.modKp (fun k => { k with asserted := k.asserted - 2 ^ n })
    let t := if n = 15 then t.putB KP_RST_BLOCK_GO false else t
    settleReset s t
  else s

/-- The HOLD bit of a source: bits 11 to 14 (Table 19-12). -/
def State.holdsSource (s : State) (n : Nat) : Bool := decide (11 ≤ n) && decide (n ≤ 14) && s.isSet ⟨KP_RST_CTRL, n - 3, n - 3⟩

/-- RESET_RELEASE: the release condition of Table 19-5 has come; RESET_N keeps its state during the drive, and a HOLD bit holds
its source (R510 to R512). -/
def execResetRelease (src : Fin 20) (s : State) : Out :=
  .next (if (src.val = 1 && s.kp.driving) || s.holdsSource src.val then s else releaseSource src.val s)

/-- POR: VIN below 3.5 V, or the standby rail out of regulation. -/
def execPor (s : State) : Out := .next (assertSource 0 s)

/-- RESET_N_LOW: a low of the land, its length in ns (R510, R511, R13). -/
def execResetNLow (lowNs : Nat) (s : State) : Out :=
  if s.kp.driving || decide (lowNs < 2000) then .next s
  else if 10000 ≤ lowNs then .next (assertSource 1 s)
  else .next (if s.bandBit then assertSource 1 s.used else s.used)

/-- RESET_N_DRIVE_END: 20 ms have passed, and every MODULE or FULL source but RESET_N is released (R511). -/
def execResetNDriveEnd (s : State) : Out :=
  if s.kp.driving && s.kp.asserted &&& 0x4074D = 0 then
    .next (settleReset s (s.modKp (fun k => { k with driving := false })))
  else .next s

/-- BROWNOUT: VIN has stood below 4.05 V for 10 µs. -/
def execBrownout (vin : Nat) (s : State) : Out :=
  let s := s.put KP_VIN_VIN vin
  .next (if vin < 405 then assertSource 2 s else s)

/-- GASP_RECOVERY_RESET: after a power-fail event VIN has stood above WI_THR for 100 ms: a MODULE reset with the brown-out
cause (R468). -/
def execGaspRecoveryReset (vin : Nat) (s : State) : Out :=
  let s := s.put KP_VIN_VIN vin
  .next (if s.isSet KP_VIN_DG_ACTIVE && decide (s.get KP_SUPPLY_WI_THR < vin) then assertSource 2 s else s)

/-- The temperature of the hottest die, in °C, decides THERM_N (R515). -/
def thermLevel (dieC : Int) (s : State) : State :=
  if 105 ≤ dieC ∧ !s.kp.hot then restLatch .therm ((s.modKp (fun k => { k with hot := true })).occur 80)
  else if dieC < 100 then s.modKp (fun k => { k with hot := false })
  else s

/-- THERMAL_RESET: a die has stood at 115 °C or more for 1 ms. -/
def execThermalReset (dieC : Int) (s : State) : Out :=
  let s := thermLevel dieC s
  .next (if 115 ≤ dieC then assertSource 8 s else s)

/-- THERM_N_CHANGE (R515). -/
def execThermNChange (dieC : Int) (s : State) : Out := .next (thermLevel dieC s)

/-! ### Watchdogs (R514) -/

/-- The register of a watchdog. -/
def wdogAddr (x : Fin 3) : Nat := KP_WDOG0 + 4 * x.val

/-- WATCHDOG_EXPIRY: PERIOD has passed since the last KICK of a processor that runs. -/
def execWatchdogExpiry (x : Fin 3) (s : State) : Out :=
  if s.stopped.contains (wdogAgent x) then .next s
  else .next (assertSource (3 + x.val)
    (s.until (sget (fun _ => 0) s.kp.kicked x.val + s.get ⟨wdogAddr x, 7, 0⟩ * 10000000)))

/-- A KICK restarts the period; hardware clears the bit at once. -/
def kick (x : Fin 3) (s : State) : State := startWatchdog x.val (s.putB ⟨wdogAddr x, 31, 31⟩ false)

/-- WDOG_KICK. -/
def execWdogKick (a : Agent) (x : Fin 3) (s : State) : Out := .next (s.byAgent [wdogAgent x] a (kick x))

/-! ### Resets by software (Tables 19-12 and 19-13) -/

/-- RST_FULL, by K. -/
def execRstFull (a : Agent) (s : State) : Out := .next (s.byAgent [.keeper] a (assertSource 9))

/-- RST_MODULE, by K. -/
def execRstModule (a : Agent) (s : State) : Out := .next (s.byAgent [.keeper] a (assertSource 10))

/-- HE_REBOOT, by C: the reset follows 100 ms after the write. -/
def execHeReboot (a : Agent) (s : State) : Out := .next (s.byAgent [.carrier] a (fun s => s.putB KP_RST_CTRL_HE_REBOOT true))

/-- HE_REBOOT_RESET: those 100 ms have passed. -/
def execHeRebootReset (s : State) : Out := .next (if s.isSet KP_RST_CTRL_HE_REBOOT then assertSource 6 s else s)

/-- RST_ENGINE, by C. -/
def execRstEngine (a : Agent) (e : Engine) (s : State) : Out := .next (s.byAgent [.carrier] a (assertSource (13 + e.n)))

/-- RST_TENANT, by T and K. -/
def execRstTenant (a : Agent) (s : State) : Out := .next (s.byAgent [.tenant, .keeper] a (assertSource 12))

/-- RST_CARRIER, by C and K. -/
def execRstCarrier (a : Agent) (s : State) : Out := .next (s.byAgent [.carrier, .keeper] a (assertSource 11))

/-- A write of HOLD: each bit that becomes 1 asserts its source, each that becomes 0 releases it (Table 19-12). -/
def writeHold (mask : Nat) (s : State) : State :=
  let old := s.get KP_RST_CTRL_HOLD
  let s := s.put KP_RST_CTRL_HOLD mask
  s.each [0, 1, 2, 3] (fun i s =>
    if mask.testBit i = old.testBit i then s
    else if mask.testBit i then assertSource (11 + i) s else releaseSource (11 + i) s)

/-- RST_HOLD, by K. -/
def execRstHold (a : Agent) (mask : BitVec 4) (s : State) : Out := .next (s.byAgent [.keeper] a (writeHold mask.toNat))

/-- A write of `KP.RST_BLOCK` with GO at 1; the tenant proxy is the tenant controller's own target (Table 19-13). -/
def blockGo (a : Agent) (target index : Nat) (s : State) : State :=
  let s := (if target < 3 then s.put KP_RST_BLOCK_TARGET target else s).put KP_RST_BLOCK_INDEX index
  if s.get KP_RST_BLOCK_TARGET = 2 ∧ a ≠ .tenant then s
  else if s.kp.asserted.testBit 15 then resetBlock s
  else assertSource 15 (s.putB KP_RST_BLOCK_GO true)

/-- RST_BLOCK_GO, by T and H. -/
def execRstBlockGo (a : Agent) (target index : Nat) (s : State) : Out :=
  .next (s.byAgent [.tenant, .host] a (blockGo a target index))

/-- HOSTLINK_RESET: acts only with its payload and while HOST_RESET is 1 (R474, Table 17-8). -/
def execHostlinkReset (crcOk : Bool) (payload : Word) (s : State) : Out :=
  hostlink crcOk (fun s =>
    if s.optFlag 3 && payload = 0x52535421 then
      let s := assertSource 7 (hostEnd 0 [] s)
      resetEventsHost s
    else hostEnd 4 [] s) s

/-- HOSTLINK_PUT: the message joins the host mailbox and may wake the terminal (R473, R506). -/
def execHostlinkPut (crcOk : Bool) (msg : List Byte) (s : State) : Out :=
  hostlink crcOk (fun s =>
    let t := hostPut msg s
    if t.kp.hostResult = 0 then restLatch .hostPut t else t) s

/-! ### Hangs (R523) -/

/-- A clock is gated: of a gated domain or an engine in retention, or a hub clock in REST. -/
def State.clockGated (s : State) (k : Nat) : Bool :=
  if k < 3 then s.kp.stopSteps.contains 20
  else if k = 4 then s.gated 25 || s.pm .la = 2
  else if k = 5 then s.gated 33 || s.pm .lb = 2
  else if k = 6 then s.pm .la = 2
  else if k = 7 then s.pm .lb = 2
  else false

/-- CLOCK_FAIL: a clock that is not gated has stopped for 4 µs. -/
def execClockFail (k : Fin 10) (s : State) : Out :=
  .next (if s.clockGated k.val then s else pwrFlag 7 (s.putB (KP_CLK_STATUS_FAILED.bit k.val) true))

/-- The source that resets a requester whose access watchdog expires. -/
def accessSource : Agent → Nat
  | .carrier => 16
  | .tenant => 17
  | .keeper => 18
  | .host => 19

/-- ACCESS_TIMEOUT: the requester is reset, never the target. -/
def execAccessTimeout (a : Agent) (s : State) : Out :=
  .next (if s.stopped.contains a then s else assertSource (accessSource a) (pwrFlag 8 s))

/-! ### GPIO (R529, R530) -/

/-- GPIO n is the land PFAIL_N (Table 17-2). -/
def State.isPfail (s : State) (n : Nat) : Bool := s.options.pfail.testBit 7 && s.options.pfail % 16 = n

/-- A filtered level of a land: IN follows, and in input mode a change that EDGE selects occurs and may wake. -/
def gpioSeen (n : Fin 16) (level : Bool) (s : State) : State :=
  if s.isSet (gpioF n.val 31 31) = level then s
  else
    let edge := s.get (gpioF n.val 13 12)
    let s := s.putB (gpioF n.val 31 31) level
    let s := if s.isPfail n.val then s.putB KP_VIN_PFAIL (!level) else s
    if s.gpioMode n.val = 0 && (if level then edge % 2 = 1 else edge / 2 = 1) then restLatch (.gpio n) (s.occur (64 + n.val))
    else s

/-- GPIO_EDGE: a level that has held for some ns: ignored below 40, seen from 80 on, between them one of the two (R530, R13). -/
def execGpioEdge (n : Fin 16) (level : Bool) (heldNs : Nat) (s : State) : Out :=
  if heldNs < 40 then .next s
  else if 80 ≤ heldNs then .next (gpioSeen n level s)
  else .next (if s.bandBit then gpioSeen n level s.used else s.used)

end Sys2Proof.Machine
end

