-- ==== Sys2Proof/Machine/Ports.lean ====
section
/-! DEFINITION. What an address is: the register or window it names, the agents that may access it, and what it reads as
(R1, R9, R476, Table 17-9). -/
namespace Sys2Proof.Machine

/-- A register value or a word of a window: its lowest address, its words, and the agents that may read and write it. -/
structure Place where
  base : Nat
  wide : Nat
  readers : List Agent
  writers : List Agent
  deriving DecidableEq, Repr

/-- Every agent. -/
def everyone : List Agent := [.carrier, .tenant, .host, .keeper]

/-- The tenant controller and host software. -/
def tenantHost : List Agent := [.tenant, .host]

/-- A port whose agents both read and write. -/
def shared (base wide : Nat) (as : List Agent) : Place := ⟨base, wide, as, as⟩

/-! ### The event fabric and the scoreboard (R486 to R489) -/

/-- The agents of a bank (Table 18-3). -/
def bankAgents (bank : Nat) : List Agent :=
  match bank with
  | 0 => [.carrier]
  | 1 => [.tenant]
  | 2 => [.keeper]
  | 3 => tenantHost
  | _ => everyone

/-- The agents that write a word of a group in a bank; in bank 4 those of the group's domain (R488). -/
def bankWriters (bank g : Nat) : List Agent :=
  if bank < 4 then bankAgents bank
  else match groupDomain g with
    | .carrier => [.carrier]
    | .tenant => [.tenant]
    | _ => [.keeper]

/-- A word of the event fabric (Table 18-5). A word of a group that the bank does not see is nobody's (R486). -/
def eventPort (addr : Nat) : Option Place :=
  let o := addr - 0x00400000
  let bank := o / 0x1000
  let r := o % 0x1000
  if 5 ≤ bank then none
  else if r < 0x200 ∧ r % 0x100 < 0xC0 then
    let g := r % 0x100 / 4
    some (if bankSees bank g then ⟨addr, 1, bankAgents bank, bankWriters bank g⟩ else shared addr 1 [])
  else if r = 0x200 ∨ r = 0x204 then some (shared (0x00400200 + 0x1000 * bank) 2 (bankAgents bank))
  else none

/-- The agents for which a group is their own (R489). -/
def groupOwn (g : Nat) : List Agent :=
  match groupDomain g with
  | .keeper => everyone
  | .carrier => [.carrier, .keeper]
  | .tenant => [.tenant, .host, .keeper]
  | .reserved => [.keeper]

/-- The agents that read the counters and WRAP bits of a group: its own, and T and H by permit (R489). -/
def State.groupReaders (s : State) (g : Nat) : List Agent :=
  groupOwn g ++ (if groupDomain g = .carrier && s.kp.permit.testBit g then tenantHost else [])

/-- A word of the scoreboard (Tables 18-7 and 18-8). -/
def State.scorePort (s : State) (addr : Nat) : Option Place :=
  let o := addr - 0x00600000
  if o < 8 * 1536 then
    some ⟨addr / 8 * 8, 2, s.groupReaders (o / 256), s.groupReaders (o / 256)⟩
  else if 0x4000 ≤ o ∧ o < 0x40C0 then
    let g := (o - 0x4000) / 4
    some ⟨addr, 1, s.groupReaders g, groupOwn g⟩
  else if o = 0x5000 ∨ o = 0x5004 then some ⟨0x00605000, 2, [.carrier, .tenant, .host], [.carrier]⟩
  else none

/-! ### Windows -/

/-- A word of a DSP window (Table 16-11): the core, the space (0 program, 1 X, 2 Y, 3 capture buffer of the channel in the
core's place), and the byte offset. -/
def dspWindow (addr : Nat) : Option (Nat × Nat × Nat) :=
  let o := addr % 0x04000000 - 0x01000000
  let q := o % 0x100000
  let core := o / 0x100000 - 1
  if o < 0x100000 then none
  else if o < 0x300000 then
    if q < 0x20000 then some (core, 0, q)
    else if 0x40000 ≤ q ∧ q < 0x50000 then some (core, 1, q - 0x40000)
    else if 0x80000 ≤ q ∧ q < 0x90000 then some (core, 2, q - 0x80000)
    else none
  else if o < 0x340000 then some (q / 0x10000, 3, q % 0x10000)
  else none

/-- A word of the controllers' memories: its place in the store of memories (R378). -/
def sramWindow (addr : Nat) : Option Nat :=
  if 0x20000000 ≤ addr ∧ addr < 0x20400000 then some (addr - 0x20000000)
  else if 0x20400000 ≤ addr ∧ addr < 0x20800000 then some (2 ^ 23 + (addr - 0x20400000))
  else none

/-- The time words of the time engine (Tables 08-9, 08-11 and 08-17) that no register holds. -/
def timePort (addr : Nat) : Option Place :=
  let read : List Agent := [.tenant, .host, .carrier]
  let o := addr - 0x00800000
  if o < 0x10 then some ⟨0x00800000, 4, read, tenantHost⟩
  else if o = 0x14 then some ⟨addr, 1, read, tenantHost⟩
  else if o = 0x18 ∨ o = 0x1C then some ⟨0x00800018, 2, read, tenantHost⟩
  else if o / 0x80 = 2 ∧ o % 0x80 < 0x10 then some ⟨0x00800100, 4, read, [.tenant]⟩
  else if o / 0x80 = 3 ∧ o % 0x80 < 0x10 then some ⟨0x00800180, 4, read, [.tenant]⟩
  else if 0x700 ≤ o ∧ o < 0x780 then some (shared (addr / 16 * 16) 4 [.tenant])
  else none

/-- The slot and the word of a key slot (Table 14-11): whether it is an SA slot, the slot, the word. -/
def keyWindow (addr : Nat) : Option (Bool × Nat × Nat) :=
  if 0x04900000 ≤ addr ∧ addr < 0x04980000 then some (true, (addr - 0x04900000) / 64, addr % 64 / 4)
  else if 0x04A00000 ≤ addr ∧ addr < 0x04A04000 then some (false, (addr - 0x04A00000) / 64, addr % 64 / 4)
  else none

/-- What an address names beside the registers. -/
def State.extraPort (s : State) (addr : Nat) : Option Place :=
  if addr < 0x00400000 then none
  else if addr < 0x00600000 then eventPort addr
  else if addr < 0x00800000 then s.scorePort addr
  else if addr < 0x01000000 then timePort addr
  else if addr < 0x01400000 then none
  else if addr < 0x01800000 then
    if 0x810 ≤ addr % 0x1000 ∧ addr % 0x1000 < 0x820 ∧ addr < 0x01480000 then some (shared (addr / 16 * 16) 4 tenantHost) else none
  else if addr < 0x02000000 then none
  else if addr < 0x02400000 then (if inWindows allParseWindows addr then some (shared addr 1 tenantHost) else none)
  else if addr < 0x04000000 then
    if inWindows ctlWindows addr then
      some (if 0x02412000 ≤ addr then shared (addr / 8 * 8) 2 tenantHost else shared addr 1 tenantHost)
    else if tableKind addr = 4 then some (shared (addr / 8 * 8) 2 tenantHost)
    else if tableKind addr ≠ 0 then some (shared addr 1 tenantHost)
    else none
  else if addr < 0x08000000 then
    match keyWindow addr with
    | some (true, _) => some (shared addr 1 [.tenant])
    | some (false, _) => some (shared addr 1 [.tenant, .carrier, .keeper])
    | none => none
  else if addr < 0x10000000 then
    if 0x01000000 ≤ addr % 0x04000000 ∧ (dspWindow addr).isSome then some (shared addr 1 [.carrier]) else none
  else if (sramWindow addr).isSome then some (shared addr 1 [if addr < 0x20400000 then .carrier else .tenant])
  else none

/-- What an address names: a register of the tables, or a word of a window. -/
def State.portOf (s : State) (addr : Nat) : Option Place :=
  match regAt addr with
  | some (r, w) => some ⟨addr - 4 * w, r.wide, r.readers, r.writers⟩
  | none => s.extraPort addr

/-- The domains of a range of Table 17-9, for an address in it at which nothing lies: those that read and those that write.
Outside every range there are none (R476). -/
def rangeAgents (addr : Nat) : List Agent × List Agent :=
  if addr < 0x00400000 then ([.keeper], [.keeper])
  else if addr < 0x00800000 then (everyone, everyone)
  else if addr < 0x01000000 then ([.tenant, .host, .carrier], tenantHost)
  else if addr < 0x04C00000 then (tenantHost, tenantHost)
  else if addr < 0x05000000 then ([.carrier], [.carrier])
  else if addr < 0x05001000 then ([.carrier], [.carrier])
  else if addr < 0x05003000 then ([.tenant], [.tenant])
  else if addr < 0x08000000 then ([], [])
  else if addr < 0x10000000 then ([.carrier], [.carrier])
  else ([], [])

/-- The agents that may read an address. -/
def State.readersOf (s : State) (addr : Nat) : List Agent :=
  match s.portOf addr with
  | some p => p.readers
  | none => (rangeAgents addr).1

/-- The agents that may write an address. -/
def State.writersOf (s : State) (addr : Nat) : List Agent :=
  match s.portOf addr with
  | some p => p.writers
  | none => (rangeAgents addr).2

/-! ### What an address reads as -/

/-- The words that the event fabric and the scoreboard show. -/
def State.viewEvents (s : State) (addr : Nat) : Word :=
  if addr < 0x00600000 then
    let bank := (addr - 0x00400000) / 0x1000
    let r := addr % 0x1000
    if r < 0x100 then s.pend bank (r / 4)
    else if r < 0x200 then s.enab bank ((r - 0x100) / 4)
    else BitVec.ofNat 32 (if r = 0x200 then s.summary bank else s.summary bank / 2 ^ 32)
  else
    let o := addr - 0x00600000
    let half (n : Nat) : Word := BitVec.ofNat 32 (if addr % 8 = 0 then n else n / 2 ^ 32)
    if o < 0x4000 then half (sget (fun _ => 0) s.kp.counts (o / 8))
    else if o < 0x5000 then sget (fun _ => 0) s.kp.wraps ((o - 0x4000) / 4)
    else half s.kp.permit

/-- The words of the time engine that no register holds: house time, HOUSE_STATUS, HOUSE_OFFSET and the domain counters. -/
def State.viewTime (s : State) (addr : Nat) : Word :=
  let word (t : Nat) : Word := (timeWords t).getD (addr % 16 / 4) 0
  if addr < 0x00800010 then word s.house
  else if addr = 0x00800014 then BitVec.ofNat 32 ((decide (s.te.off ≠ 0)).toNat * 2 + s.te.sel.val)
  else if addr = 0x00800018 then BitVec.ofNat 32 (toField 32 (s.te.off / 2 ^ 32))
  else if addr = 0x0080001C then BitVec.ofNat 32 (toField 32 s.te.off)
  else if addr < 0x00800110 then word s.te.dom0
  else if addr < 0x00800190 then word s.te.dom1
  else if 0x00800700 ≤ addr ∧ addr < 0x00800780 then (s.tinStampWords ((addr - 0x00800700) / 16)).getD (addr % 16 / 4) 0
  else 0

/-- The word at a DSP window, the lowest address least significant. -/
def State.viewDsp (s : State) (addr : Nat) : Word :=
  let e : Engine := if addr < 0x0C000000 then .la else .lb
  match dspWindow addr with
  | some (c, 0, o) => sget (fun _ => 0) (s.core ⟨e, Fin.ofNat 2 c⟩).prog (o / 4)
  | some (c, 1, o) => BitVec.ofNat 32 (storeRead (s.core ⟨e, Fin.ofNat 2 c⟩).x o 4)
  | some (c, 2, o) => BitVec.ofNat 32 (storeRead (s.core ⟨e, Fin.ofNat 2 c⟩).y o 4)
  | some (c, _, o) => BitVec.ofNat 32 (storeRead (s.capBuf e (Fin.ofNat 4 c)).samples o 4)
  | none => 0

/-- What a window word reads as. -/
def State.viewExtra (s : State) (addr : Nat) : Word :=
  if addr < 0x00800000 then s.viewEvents addr
  else if addr < 0x01000000 then s.viewTime addr
  else if addr < 0x02000000 then
    if 0x01400000 ≤ addr ∧ addr < 0x01800000 ∧ addr % 0x1000 / 16 = 0x81 then
      (s.txStampWords ((addr - 0x01400000) / 0x1000)).getD (addr % 16 / 4) 0
    else 0
  else if addr < 0x02400000 then sget (fun _ => 0) s.cx.parse (s.stageParity.toNat * 2 ^ 26 + addr)
  else if addr < 0x02800000 then s.readCtl addr
  else if addr < 0x04000000 then s.readTable addr
  else if addr < 0x08000000 then 0
  else if addr < 0x10000000 then s.viewDsp addr
  else match sramWindow addr with
    | some a => BitVec.ofNat 32 (numBE (s.memBytes a 4))
    | none => 0

/-- The digest words of the current and of the staged round (Table 11-11). -/
def State.viewDigest (s : State) (addr : Nat) : Word :=
  let d := if addr < CX_DIGEST_STAGE then s.roundDigest s.curParity else if s.staging then s.roundDigest s.stageParity else 0
  BitVec.ofNat 32 (if addr % 8 = 0 then d else d / 2 ^ 32)

/-- The bit counter of a pattern checker counts up to now (R243). -/
def State.showBits (s : State) (l addr : Nat) (w : Word) : Word :=
  let a := CL_PRBS_CNT l 0
  if addr = a then w + BitVec.ofNat 32 (s.checkedBits l)
  else if addr = a + 4 then BitVec.ofNat 32 (((s.reg a).toNat + w.toNat * 2 ^ 32 + s.checkedBits l) % 2 ^ 48 / 2 ^ 32)
  else w

/-- DRAIN_HWM counts the drain in progress too (R543, R299). -/
def State.showDrain (s : State) (w : Word) : Word :=
  let f := CX_STATE_DRAIN_HWM
  if s.isSet CX_STATE_DRAINING then w.withField f.hi f.lo (min 4095 (max (w.field f.hi f.lo) s.drainSteps)) else w

/-- The fields of a register that are computed from the rest of the state, laid over what the register holds. -/
def State.overlay (s : State) (addr : Nat) (w : Word) : Word :=
  if addr < 0x00400000 then (if addr = KP_PWR_STATUS then w.withField 1 0 s.powerState else w)
  else if 0x01000000 ≤ addr ∧ addr < 0x01080000 then s.showBits ((addr - 0x01000000) / 0x1000) addr w
  else if addr < 0x02400000 then w
  else if addr < 0x04000000 then
    if addr = CX_STATE then s.showDrain w
    else if CX_DIGEST_CUR ≤ addr ∧ addr < CX_DIGEST_STAGE + 8 then s.viewDigest addr
    else w
  else if addr < 0x04400000 then w
  else if addr < 0x04800000 then
    if addr = QS_STATUS then w.withField 0 0 s.practiceAll.toNat
    else if 0x04440000 ≤ addr ∧ addr < 0x04480000 ∧ addr % 32 = 0x14 then
      let q := (addr - 0x04440000) / 32
      let b := (s.blocks q).zipIdx.foldl (fun n x => if x.1 then n + 2 ^ x.2 else n) 0
      let cls := match s.headFrame q with
        | some x => actClass x.act
        | none => 0
      (w.withField 11 8 b).withField 2 0 cls
    else w
  else if addr < 0x04C00000 then w
  else if addr < 0x05000000 then
    if addr = PX_STATUS then (w.withField 3 3 (s.eligible .lb).toNat).withField 2 2 (s.eligible .la).toNat else w
  else if addr < 0x08000000 then
    let m := (addr - 0x05000000) / 0x1000
    let o := addr % 0x1000
    if 0x80 ≤ o ∧ o < 0xC0 then s.rxData m ((o - 0x80) / 4) else if o = 0xC0 then s.rxState m else w
  else
    let e : Engine := if addr < 0x0C000000 then .la else .lb
    if addr = BOND_SIT_CAUSE e.n then
      BitVec.ofNat 32 ((channels.map (fun c => s.sitCause e c * 2 ^ (8 * c.val))).foldl (· + ·) 0)
    else if addr = DSP_STATUS e.n 0 ∨ addr = DSP_STATUS e.n 1 then
      if s.pm e = 2 then w.withField 2 0 4 else w
    else w

/-- What an address reads as, present value (R1, R2, R6). -/
def State.view (s : State) (addr : Nat) : Word :=
  match regAt addr with
  | some (r, w) => s.overlay addr (r.read w (s.reg addr))
  | none => if (s.extraPort addr).isSome then s.viewExtra addr else 0

/-- The present words of a value. -/
def State.viewWords (s : State) (base n : Nat) : List Word := (List.range n).map (fun i => s.view (base + 4 * i))

/-! ### Waking what an access reaches (R508) -/

/-- The channel whose registers an address of a line engine belongs to. -/
def chanOf (o : Nat) : Option Nat :=
  if 0x120 ≤ o ∧ o < 0x130 then some ((o - 0x120) / 4)
  else if 0x220 ≤ o ∧ o < 0x240 then some ((o - 0x220) / 8)
  else if 0x400 ≤ o ∧ o < 0x600 then some ((o - 0x400) / 0x80)
  else if 0x00400020 ≤ o ∧ o < 0x00400030 then some ((o - 0x00400020) / 4)
  else if 0x00400200 ≤ o ∧ o < 0x00400300 then some ((o - 0x00400200) / 0x40)
  else if 0x00801000 ≤ o ∧ o < 0x00801200 then some ((o - 0x00801000) / 0x80)
  else if 0x00C00010 ≤ o ∧ o < 0x00C00030 then some ((o - 0x00C00010) % 16 / 4)
  else none

/-- The power domain of an address (Table 19-1). -/
def domainOf (addr : Nat) : PowerDom :=
  Fin.ofNat 36 (
    if addr < 0x00400000 then 0
    else if addr < 0x00800000 then 3
    else if addr < 0x01000000 then 4
    else if addr < 0x01800000 then 12 + addr % 0x00400000 / 0x10000 % 8
    else if addr < 0x02000000 then 11
    else if addr < 0x02400000 then 5
    else if addr < 0x04000000 then 8
    else if addr < 0x04800000 then 9
    else if addr < 0x04C00000 then 10
    else if addr < 0x08000000 then 3
    else if addr < 0x10000000 then
      let o := addr % 0x04000000
      let up := if addr < 0x0C000000 then 0 else 8
      up + (if 0x01000000 ≤ o then 25 else match chanOf o with
        | some c => 21 + c
        | none => if 0x00C00000 ≤ o then 27 else 20)
    else if addr < 0x20400000 then 1
    else 2)

/-- A domain is stopped for REST. -/
def State.domainStopped (s : State) (d : PowerDom) : Bool := s.kp.stopSteps.any (fun n => restDomain n = d.val)

/-- Every tally crosses (R485). -/
def crossTallies (s : State) : State :=
  s.tally.foldl (fun s x => arrive x.1 x.2 { s with tally := sset (fun _ => 0) s.tally x.1 0 }) s

/-- An access wakes the domain it reaches: a gated one, or the terminal from REST, and then completes (R485, R504, R508). -/
def wakeFor (addr : Nat) (s : State) : State :=
  let d := domainOf addr
  if s.gated d.val then accessWake d s
  else if s.domainStopped d then crossTallies (restartAll (restLatch (.access d) s))
  else s

/-- The clock that serves an address (Table 19-9); none: KEEP. -/
def clockOf (addr : Nat) : Option Nat :=
  if addr < 0x00400000 then none
  else if addr < 0x00800000 then some 0
  else if addr < 0x01000000 then some 3
  else if addr < 0x04800000 then some 1
  else if addr < 0x04C00000 then some 2
  else if addr < 0x08000000 then some 0
  else if addr < 0x0C000000 then some (if 0x09000000 ≤ addr then 4 else 6)
  else if addr < 0x10000000 then some (if 0x0D000000 ≤ addr then 5 else 7)
  else none

/-- An access into a domain whose clock has failed does not complete (R523). -/
def State.hangs (s : State) (addr : Nat) : Bool :=
  match clockOf addr with
  | some k => s.isSet (KP_CLK_STATUS_FAILED.bit k)
  | none => false

/-! ### Reads (R1, R9, R543) -/

/-- What a read of a register leaves behind: an RC extreme restarts from the present level (R543). -/
def restart (addr : Nat) (s : State) : State :=
  if addr = CX_STATE then s.put CX_STATE_DRAIN_HWM (if s.isSet CX_STATE_DRAINING then min 4095 s.drainSteps else 0)
  else if 0x02000020 ≤ addr ∧ addr < 0x0200002C then
    let p := (addr - 0x02000020) / 4
    s.put (PA_QUEUE_HWM p) (s.get (PA_QUEUE_DEPTH p))
  else if 0x04001000 ≤ addr ∧ addr < 0x04001400 ∧ addr % 16 = 0xC then
    let b := (addr - 0x04001000) / 16
    s.put (BM_BAG_LOW_LOW b) (s.get (BM_BAG_FREE_FREE b))
  else if addr = BOND_BUF 0 ∨ addr = BOND_BUF 1 then s.put ⟨addr, 31, 16⟩ (s.get ⟨addr, 15, 0⟩)
  else if addr = BURST_ROOM 0 ∨ addr = BURST_ROOM 1 then s.put ⟨addr, 28, 16⟩ (s.get ⟨addr, 12, 0⟩)
  else s

/-- A read of one word of a wide value: the lowest takes the snapshot, or pops a stamp; a higher one answers from the
agent's snapshot, or the present value where it holds none (R9, R213, R217). -/
def readWide (a : Agent) (p : Place) (addr : Nat) (s : State) : State :=
  if addr = p.base then
    if 0x01400000 ≤ addr ∧ addr < 0x01800000 ∧ addr % 0x1000 = 0x810 then popStamp a ((addr - 0x01400000) / 0x1000) s
    else if 0x00800700 ≤ addr ∧ addr < 0x00800780 then popTin a ((addr - 0x00800700) / 16) s
    else snapshot a addr (s.viewWords addr p.wide) s
  else match s.snaps.find? (fun x => x.agent = a && x.addr = p.base) with
    | some x => s.answer a (x.words.getD ((addr - p.base) / 4) 0)
    | none => s.answer a (s.view addr)

/-- A port that PORT100 of its quad takes away reads 0 and takes no write (R229). -/
def State.absent (s : State) (addr : Nat) : Bool :=
  decide (0x01400000 ≤ addr) && decide (addr < 0x01480000) && decide ((addr - 0x01400000) / 0x1000 % 4 ≠ 0) &&
    s.quad100 ((addr - 0x01400000) / 0x1000)

/-- A read that is permitted. -/
def readPort (a : Agent) (addr : Nat) (s : State) : State :=
  if s.absent addr then s.answer a 0
  else if addr = BM_ALLOC then
    let (h, s) := takeTile (s.get BM_ALLOC_BAG_ALLOC_BAG) 2 s
    s.answer a (BitVec.ofNat 32 (h.getD 0))
  else match s.portOf addr with
    | some p => if 1 < p.wide then readWide a p addr s else restart addr (s.answer a (s.view addr))
    | none => s.answer a 0

/-- A read: refused and answered 0, or done (R1, R476). -/
def readReg (a : Agent) (addr : Nat) (s : State) : State :=
  if !(s.readersOf addr).contains a then (s.refuse a).answer a 0
  else if s.hangs addr then s
  else readPort a addr (wakeFor addr s)

/-- A read of any size and address: only aligned 32-bit accesses are served; an agent held in reset issues none (R1). -/
def readAccess (a : Agent) (addr size : Nat) (s : State) : State :=
  if s.stopped.contains a then s
  else if size ≠ 4 ∨ addr % 4 ≠ 0 then (s.refuse a).answer a 0
  else readReg a addr s

/-- WIDE_VALUE_READ (R9). -/
def execWideValueRead (a : Agent) (addr size : Nat) (s : State) : Out := .next (readAccess a addr size s)

/-- RC_FIELD_READ (R543). -/
def execRcFieldRead (a : Agent) (addr size : Nat) (s : State) : Out := .next (readAccess a addr size s)

end Sys2Proof.Machine
end

