-- ==== Sys2Proof/Machine/Access.lean ====
section
/-! DEFINITION. Register writes: what the write of a word does at every register and window of the address map (R1, R2, R10),
and the host's reads and writes through the tenant proxy (R475). -/
namespace Sys2Proof.Machine

/-! ### Words -/

/-- Whether bit `i` of a written word is 1. -/
def bitOf (w : Word) (i : Nat) : Bool := w.toNat.testBit i

/-- A write by the access codes, except that the bits `keep` stay as they are and the bits `drop` are taken as 0: what they
ask for is done by an operation of their own. -/
def writeBut (a : Agent) (addr keep drop : Nat) (w : Word) (s : State) : State :=
  writeFields a addr ((w &&& ~~~(BitVec.ofNat 32 (keep ||| drop))) ||| (s.reg addr &&& BitVec.ofNat 32 keep)) s

/-- Where bit `i` of a written word differs from the register, do `f` with the new value. -/
def onChange (addr i : Nat) (w : Word) (f : Bool → State → State) (s : State) : State :=
  if bitOf w i = bitOf (s.reg addr) i then s else f (bitOf w i) s

/-- Where bit `i` of a written word is 1, do `f`. -/
def onOne (i : Nat) (w : Word) (f : State → State) (s : State) : State := if bitOf w i then f s else s

/-- A nanoseconds field of a wide value, which takes no value above 999,999,999 (R11). -/
def isNsField (f : FieldDesc) : Bool := f.hi = 29 && f.lo = 0 && !f.ok.isEmpty

/-- The words of a wide value that an agent installs: those it holds aside, the others as the register holds them, and the
highest one as written (R10). -/
def State.wideWords (s : State) (a : Agent) (base n : Nat) (w : Word) : List Word :=
  (List.range (n - 1)).map (fun i => (s.heldWord a (base + 4 * i)).getD (s.reg (base + 4 * i))) ++ [w]

/-- The write of the highest word of a value wider than 32 bits installs the whole value; nanoseconds out of range leave it
unchanged and count as a refusal (R10, R11). -/
def installWide (a : Agent) (r : RegDesc) (base : Nat) (w : Word) (s : State) : State :=
  let ws := s.wideWords a base r.wide w
  let s := clearHeld a base (base + 4 * r.wide) s
  if r.fields.any (fun f => isNsField f && !f.takes ((ws.getD f.word 0).field f.hi f.lo)) then s.refuse a
  else s.each ws.zipIdx (fun x s => writeFields a (base + 4 * x.2) x.1 s)

/-- A write of a register word with nothing beside its access codes; the lower words of a wide value are held aside (R2,
R10). -/
def writePlain (a : Agent) (addr : Nat) (w : Word) (s : State) : State :=
  match regAt addr with
  | some (r, i) =>
    if r.wide = 1 then writeFields a addr w s
    else if !r.fields.any (fun f => f.acc = .rw || f.acc = .wo) then s
    else if i + 1 < r.wide then holdWord a addr w s
    else installWide a r (addr - 4 * i) w s
  | none => s

/-! ### The line engines (Tables 02-6, 03-5, 04-11, 05-8, 06-6, 06-11, 06-12, 08-20, 16-11 and 16-12) -/

/-- `LE.PFE`: ROGUE_RESTORE, and a transmitter that is powered down goes dark (R38, Table 02-2). -/
def writePfe (a : Agent) (e : Engine) (addr : Nat) (w : Word) (s : State) : State :=
  if addr = PFE_CTRL e.n then
    let s := writeBut a addr 0 0xF00000 w s
    let s := s.each channels (fun c s => if bitOf w (12 + c.val) then s else darken e c s)
    let s := s.each channels (newHunt e)
    rogueRestore e (w.field 23 20) s
  else writePlain a addr w s

/-- `LE.TC`: ACT_EN, CH_JOIN and DEACT; GEN and LOAD; ARM. -/
def writeTc (a : Agent) (e : Engine) (addr : Nat) (w : Word) (s : State) : State :=
  if addr = TC_ACT_CTRL e.n then
    let s := writeBut a addr 0xE01 0x4 w s
    let s := onChange addr 0 w (setActEn e) s
    let s := s.each sideChannels (fun c s => onChange addr (8 + c.val) w (setChJoin e c) s)
    onOne 2 w (writeDeact e) s
  else if addr = TC_KEY_CMD e.n then
    let s := writeBut a addr 0 0x3 w s
    let slot := s.get (TC_KEY_CMD_SLOT e.n)
    onOne 1 w (loadKey e slot) (onOne 0 w (genKey e slot) s)
  else if addr = TC_TOD_CTRL e.n then onOne 0 w (armTod e) (writeBut a addr 0 0x1 w s)
  else if addr = TC_SYNC_CFG e.n then keepLockN e (s.get (TC_SYNC_CFG_LOCK_N e.n)) (writePlain a addr w s)
  else if addr = TC_DEF_CFG e.n then
    keepDefCfg e (s.get (TC_DEF_CFG_SET e.n)) (s.get (TC_DEF_CFG_CLEAR e.n)) (writePlain a addr w s)
  else writePlain a addr w s

/-- `LE.BOND`: MEMBER, RESTORE and US_RESYNC. -/
def writeBond (a : Agent) (e : Engine) (addr : Nat) (w : Word) (s : State) : State :=
  if addr = BOND_CTRL e.n then
    let s := writeBut a addr 0xF 0x1F0 w s
    let s := if w.field 3 0 = s.get (BOND_CTRL_MEMBER e.n) then s else setMember e (w.field 3 0) s
    onOne 8 w (usResync e) (bondRestore e (BitVec.ofNat 4 (w.field 7 4)) s)
  else writePlain a addr w s

/-- `LE.BURST`: ENTER and EXIT, and the VALID bits of slots and line queues (R137, R141, Table 06-12). -/
def writeBurst (a : Agent) (e : Engine) (addr : Nat) (w : Word) (s : State) : State :=
  let o := addr % 0x04000000 - 0x00800000
  if addr = BURST_PM_CTRL e.n then onOne 1 w (pmExit e) (onOne 0 w (pmEnter e) s)
  else if 0x100 ≤ o ∧ o < 0x200 then
    let sl := (o - 0x100) / 4
    let was := s.isSet (BURST_SLOT_VALID e.n sl)
    let s := writePlain a addr w s
    if !bitOf w 31 then freeSlot e sl s
    else if was then s
    else s.modLine e (fun l => { l with rsDone := sset (fun _ => false) l.rsDone sl false })
  else if 0x400 ≤ o ∧ o < 0xC00 then
    let s := writePlain a addr w s
    if bitOf w 31 then s else disableQport e ((o - 0x400) / 4) s
  else writePlain a addr w s

/-- A write to a DSP window: refused while the core runs; a program word that changes leaves the repeat cache (R419,
R428, Table 16-11). -/
def writeDspWindow (e : Engine) (addr : Nat) (w : Word) (s : State) : State :=
  match dspWindow addr with
  | some (c, sp, o) =>
    let k : Core := ⟨e, Fin.ofNat 2 c⟩
    if sp = 3 then s
    else if s.started k then dspFlag e 8 s
    else s.modCore k (fun x =>
      if sp = 0 then { x with prog := sset (fun _ => 0) x.prog (o / 4) w, cache := none }
      else if sp = 1 then { x with x := storeWrite x.x o w.toNat 4 }
      else { x with y := storeWrite x.y o w.toNat 4 })
  | none => s

/-- `LE.DSP`: RESTORE and RUN, IN_FULL, and the words of a full mailbox (R419, R439, R447). -/
def writeDsp (a : Agent) (e : Engine) (addr : Nat) (w : Word) (s : State) : State :=
  let o := addr % 0x04000000 - 0x01000000
  if 0x100000 ≤ o then writeDspWindow e addr w s
  else if o < 0x100 then
    let k : Core := ⟨e, Fin.ofNat 2 (o / 0x80)⟩
    let i := k.idx.val
    if o % 0x80 = 0 then
      let s := onOne 31 w (restoreCore k) (writeBut a addr 0x1 0x80000000 w s)
      if bitOf w 0 then startCore k s else stopCore k s
    else if o % 0x80 = 8 then onOne 0 w (fillMbox k) (writeBut a addr 0 0x1 w s)
    else if 0x20 ≤ o % 0x80 ∧ o % 0x80 < 0x40 ∧ s.isSet (DSP_MBOX_IN_FULL e.n i) then s
    else writePlain a addr w s
  else writePlain a addr w s

/-- A write to a line engine. -/
def writeLine (a : Agent) (addr : Nat) (w : Word) (s : State) : State :=
  let e : Engine := if addr < 0x0C000000 then .la else .lb
  let o := addr % 0x04000000
  if o < 0x00400000 then writeTc a e addr w s
  else if o < 0x00800000 then writeBond a e addr w s
  else if o < 0x00C00000 then writeBurst a e addr w s
  else if o < 0x01000000 then writePfe a e addr w s
  else writeDsp a e addr w s

/-! ### Protection (Tables 07-8 and 09-14) -/

/-- `PX`: MODE and PRIMARY, AUTO_EN, SWITCH and RESTEP; the tie links' RESTORE and RETRAIN. A write that changes MODE and
PRIMARY together is judged once. -/
def writePx (a : Agent) (addr : Nat) (w : Word) (s : State) : State :=
  if addr = PX_CTRL then
    let rise := bitOf w 12 && !s.isSet PX_CTRL_AUTO_EN
    let s := writeBut a addr 0x13 0x10100 w s
    let s := s.when rise autoOn
    let old := (s.get PX_CTRL_MODE, s.get PX_CTRL_PRIMARY)
    let new := (if w.field 1 0 < 3 then w.field 1 0 else old.1, w.field 4 4)
    let s := if new = old then s else applyMode old ((s.put PX_CTRL_MODE new.1).put PX_CTRL_PRIMARY new.2)
    onOne 16 w restep (onOne 8 w (pxSwitch (bitOf w 9)) s)
  else if addr = PX_TIE_CFG then
    let s := writeBut a addr 0 0xF00 w s
    let s := onOne 9 w (tieRestore .lb) (onOne 8 w (tieRestore .la) s)
    onOne 11 w (tieDown .lb) (onOne 10 w (tieDown .la) s)
  else purgeJudged (writePlain a addr w s)

/-! ### The time engine (Tables 08-10 to 08-18) -/

/-- A change of a time output's register places its next edge afresh (R219). -/
def writeTout (a : Agent) (n : Nat) (addr : Nat) (w : Word) (s : State) : State :=
  let base := TE_TOUT n
  if addr = base then
    let was := s.get (TE_TOUT_MODE n)
    let s := writePlain a addr w s
    if s.get (TE_TOUT_MODE n) = was then s else toutChanged n s
  else if addr = base + 8 then
    let per := (s.reg (TE_TOUT_PERIOD n)).toNat
    if 8 ≤ w.toNat ∧ w.toNat + 8 ≤ per ∧ s.reg addr ≠ w then toutChanged n (s.setReg addr w) else s
  else
    let t := writePlain a addr w s
    if t.words base 8 = s.words base 8 then t else toutChanged n t

/-- ADJ: a write takes effect only under SOURCE 0b000; out of range it is refused (Table 08-15). -/
def writeAdj (a : Agent) (d : Dom) (w : Word) (s : State) : State :=
  let v := signed 32 w.toNat
  if s.source d ≠ 0 then s
  else if v < -858993 ∨ 858993 < v then s.refuse a
  else s.setReg (TE_DOM_ADJ d.val) w

/-- A word of an at-time entry: CTRL, or another, which an armed entry does not take (R220). -/
def writeEntry (a : Agent) (addr : Nat) (w : Word) (s : State) : State :=
  let i := (addr - TE_ACT_TIME 0) / 32
  if addr = actCtrl i then writeAction i w s
  else if s.armed i then teFlag 11 s
  else writePlain a addr w s

/-- A word of a domain's block. -/
def writeDomain (a : Agent) (d : Dom) (o addr : Nat) (w : Word) (s : State) : State :=
  if o < 0x10 then writeDomTime a d (o / 4) w s
  else if o = 0x10 then
    let old := (s.source d, s.get (TE_DOM_CFG_TIN d.val))
    sourceChanged d old (writePlain a addr w s)
  else if o = 0x14 then writeAdj a d w s
  else if o = 0x20 then writeSample a d false w s
  else if o = 0x24 then writeSample a d true w s
  else writePlain a addr w s

/-- `TE`. -/
def writeTe (a : Agent) (addr : Nat) (w : Word) (s : State) : State :=
  let o := addr - 0x00800000
  if addr = TE_HOUSE_CFG then
    let s := writeBut a addr 0x1 0 w s
    selectDomain (if bitOf w 0 then 1 else 0) s
  else if 0x100 ≤ o ∧ o < 0x180 then writeDomain a 0 (o - 0x100) addr w s
  else if 0x180 ≤ o ∧ o < 0x200 then writeDomain a 1 (o - 0x180) addr w s
  else if 0x400 ≤ o ∧ o < 0x480 then writeTout a ((o - 0x400) / 32) addr w s
  else if 0x1000 ≤ o ∧ o < 0x1800 then writeEntry a addr w s
  else if addr = TE_FREQ_CFG then freqChanged s.freqRef (writePlain a addr w s)
  else writePlain a addr w s

/-! ### Client lanes and MACs (Tables 09-5 to 09-11) -/

/-- `CL.CFG`: RESTORE, MODE and EN; a change of FEC restarts the lane (R230, R232, R236, R237). -/
def writeLaneCfg (a : Agent) (l addr : Nat) (w : Word) (s : State) : State :=
  let fec := s.get (CL_CFG_FEC l)
  let mode := if knownMode (w.field 7 4) && !modeRefused s l (w.field 7 4) then w.field 7 4 else s.laneMode l
  let keepFec := if mode = 3 && w.field 9 8 = 2 then 0x300 else 0
  let s := writeBut a addr (0xF1 + keepFec) 0x01000000 w (countInverted l s)
  let s := if s.get (CL_CFG_FEC l) = fec then s else restartLane l s
  let s := onOne 24 w (restoreLane l) s
  let s := if w.field 7 4 = s.get (CL_CFG_MODE l) then s else writeLaneMode l (w.field 7 4) s
  injectWaiting l (onChange addr 0 w (writeLaneEn l) s)

/-- `CL.PRBS`: GEN_EN and CHK_EN, and INJ_ONE (R243, R244). -/
def writePrbsReg (a : Agent) (l addr : Nat) (w : Word) (s : State) : State :=
  let was := s.reg addr
  let s := writeBut a addr 0x3 0x100 w (countInverted l s)
  let s := if w.field 1 0 = was.field 1 0 ∧ !bitOf w 1 then s else writePrbs l (bitOf w 0) (bitOf w 1) s
  onOne 8 w (injectOne l false) s

/-- `CL.QUAD_CFG`: PORT100, and a change of MODE100 of a 100 Gb/s port (R229, R237). -/
def writeQuad (a : Agent) (q addr : Nat) (w : Word) (s : State) : State :=
  let m := s.get (CL_QUAD_CFG_MODE100 q)
  let s := writeBut a addr 0x1 0 w s
  let s := if s.get (CL_QUAD_CFG_MODE100 q) ≠ m ∧ s.isSet (CL_QUAD_CFG_PORT100 q) then restartQuad q s else s
  onChange addr 0 w (writePort100 q) s

/-- `CL`. -/
def writeCl (a : Agent) (addr : Nat) (w : Word) (s : State) : State :=
  let l := (addr - 0x01000000) / 0x1000
  let o := addr % 0x1000
  if 128 ≤ l then writePlain a addr w s
  else if o = 0 then writeLaneCfg a l addr w s
  else if o = 0x10 then writePrbsReg a l addr w s
  else if o = 0x100 ∧ l % 4 = 0 then writeQuad a (l / 4) addr w s
  else writePlain a addr w s

/-- `CM`: a change of PREEMPT_EN or VERIFY_DIS starts verification afresh (R252). -/
def writeCm (a : Agent) (addr : Nat) (w : Word) (s : State) : State :=
  let p := (addr - 0x01400000) / 0x1000
  if addr % 0x1000 = 8 ∧ p < 128 then
    let was := (s.reg addr).field 1 0
    let s := writePlain a addr w s
    if (s.reg addr).field 1 0 = was then s else startVerify p s
  else if addr % 0x1000 = 0 ∧ p < 128 then
    noteMaxFrame p (s.get (CM_CFG_MAX_FRAME p)) (writePlain a addr w s)
  else writePlain a addr w s

/-! ### Framers, parser and classifier (Tables 15-8, 10-2 to 10-14 and 11-10 to 11-17) -/

/-- `CF.CFG`: EN and RESYNC. A write of EN at 1 whose LANE may not be served is refused with that LANE (R395, R411). -/
def writeFramer (a : Agent) (f addr : Nat) (w : Word) (s : State) : State :=
  let lane := w.field 14 8
  let taken := (List.range 32).any (fun k => k ≠ f && s.cfOn k && s.get (CF_CFG_LANE k) = lane)
  if s.cfOn f ∧ bitOf w 0 ∧ (!s.laneCbr lane || taken) then
    onOne 31 w (writeResync f) (cfFlag f 25 (writeBut a addr 0x7F01 0x80000000 w s))
  else
    let s := if lane = s.get (CF_CFG_LANE f) then s else suspect f s
    let s := writeBut a addr 0x1 0x80000000 w s
    onOne 31 w (writeResync f) (writeFramerEn f (bitOf w 0) s)

/-- `CF`. -/
def writeCf (a : Agent) (addr : Nat) (w : Word) (s : State) : State :=
  let f := (addr - 0x01800000) / 0x4000
  if addr % 0x4000 = 0 ∧ f < 32 then writeFramer a f addr w s
  else if addr % 0x4000 = 4 ∧ f < 32 then keepAlignN f (s.get (CF_ALIGN_LOCK_N f)) (writePlain a addr w s)
  else writePlain a addr w s

/-- `PA`: RESTORE of units, and the staging windows (R276, R279). -/
def writePa (a : Agent) (addr : Nat) (w : Word) (s : State) : State :=
  if 0x02000010 ≤ addr ∧ addr < 0x0200001C then
    restoreUnits ((addr - 0x02000010) / 4) (BitVec.ofNat 16 (w.field 31 16)) s
  else if inWindows allParseWindows addr then writeParse a addr w s
  else writePlain a addr w s

/-- `CX` and its windows: NOW and EDGE_ARM, the banks' RESTORE and REPAIR_DONE, staging (R292 to R294, R305, R306). -/
def writeCx (a : Agent) (addr : Nat) (w : Word) (s : State) : State :=
  if addr = CX_COMMIT then
    let armed := (s.isSet CX_COMMIT_EDGE_ARM, s.get CX_COMMIT_EDGE_TIN)
    let s := writeBut a addr 0 0x1 w s
    let s := s.when (armed ≠ (s.isSet CX_COMMIT_EDGE_ARM, s.get CX_COMMIT_EDGE_TIN))
      (fun s => { s with cx := { s.cx with edgeAt := none, edgeTaken := false } })
    onOne 0 w (fun s => requestCommit s.house (s.putB CX_COMMIT_NOW true)) s
  else if 0x02400400 ≤ addr ∧ addr < 0x024004D0 then
    onOne 31 w (restoreBank ((addr - 0x02400400) / 4)) (writeBut a addr 0 0x80000000 w s)
  else if inWindows ctlWindows addr then writeCtl a addr w s
  else if tableKind addr ≠ 0 then writeTable a addr w s
  else writePlain a addr w s

/-! ### Bags, scheduler and cipher (Tables 12-7 to 12-11, 13-6 to 13-12 and 14-7 to 14-11) -/

/-- `BM`: INIT, RECOUNT, UNHOLD, FREE, SHARE, and the pair XON and XOFF. -/
def writeBm (a : Agent) (addr : Nat) (w : Word) (s : State) : State :=
  if addr = BM_CTRL then
    let s := writeBut a addr 0 0xD w s
    let s := onOne 3 w bmUnhold (onOne 0 w bmInit s)
    onOne 2 w (fun s => recountBag (s.get BM_CTRL_RECOUNT_BAG) s) s
  else if addr = BM_FREE then freeHandle w.toNat 2 130 s
  else if addr = BM_SHARE then (shareHandle w.toNat s).2
  else if 0x04001000 ≤ addr ∧ addr < 0x04001400 ∧ addr % 16 = 4 then
    writeXon ((addr - 0x04001000) / 16) (w.field 31 16) (w.field 15 0) s
  else writePlain a addr w s

/-- Tenant firmware rewrites a configuration word: it stands again (R361). -/
def unbad (base : Nat) (s : State) : State := { s with qs := { s.qs with bad := s.qs.bad.filter (· ≠ base) } }

/-- A word of a turn list: the pending copy takes no write while a change is pending; CANCEL comes before APPLY (R350,
R351). A turn's reserved OP leaves that field as it was (R7, Table 13-3). -/
def writeList (a : Agent) (l o addr : Nat) (w : Word) (s : State) : State :=
  let s := if o = 0x810 then onOne 30 w (cancelList l) s else s
  if 0x400 ≤ o ∧ o < 0x800 ∨ 0x814 ≤ o then s
  else if s.isSet (QS_TL_CTRL_PENDING l) then qsFlag 7 s
  else if o < 0x400 then
    if 8 ≤ w.field 21 0 then
      writePlain a addr (if w.field 31 30 = 3 then w.withField 31 30 ((s.reg addr).field 31 30) else w) s
    else s
  else if o = 0x810 then onOne 31 w (fun s => applyList l s.house s) (writeBut a addr 0 0xC0000000 w s)
  else writePlain a addr w s

/-- `QS`. -/
def writeQs (a : Agent) (addr : Nat) (w : Word) (s : State) : State :=
  observe (
    if 0x04410000 ≤ addr ∧ addr < 0x04412E00 then unbad (addr / 8 * 8) (writePlain a addr w s)
    else if 0x04420000 ≤ addr ∧ addr < 0x04429700 then writeShaper a ((addr - 0x04420000) / 4) w s
    else if 0x04440000 ≤ addr ∧ addr < 0x04480000 then
      let q := (addr - 0x04440000) / 32
      let s := unbad (addr / 32 * 32) s
      if addr % 32 = 4 then onOne 0 w (flushHub q) (writeBut a addr 0 0x1 w s) else writePlain a addr w s
    else if 0x04500000 ≤ addr ∧ addr < 0x04600000 then
      if addr % 16 < 8 then holdWord a addr w s
      else if addr % 16 = 8 then installMeter a ((addr - 0x04500000) / 16) w s
      else s
    else if 0x04780000 ≤ addr ∧ addr < 0x04800000 then
      writeList a ((addr - 0x04780000) / 0x1000) (addr % 0x1000) addr w s
    else writePlain a addr w s)

/-- A register of a service interface: the pawn by any agent, the job registers by its holder alone (R379 to R381). -/
def writeJob (a : Agent) (e o addr : Nat) (w : Word) (s : State) : State :=
  if o = 0 then writePawn a e (w.field 2 0) s
  else if s.get (CE_PAWN_HOLDER e) ≠ pawnCode a then s
  else if o = 4 then onOne 31 w (goJob e) (writeBut a addr 0 0x80000000 w s)
  else writePlain a addr w s

/-- A word of a key slot: held aside until word 15 installs the slot (R382, R383). -/
def writeKey (a : Agent) (sa : Bool) (slot word : Nat) (addr : Nat) (w : Word) (s : State) : State :=
  if !sa && slotWriter slot ≠ some a then ceFlag 17 s
  else if word = 15 then installSlot a sa slot w s
  else if word < 12 then holdWord a addr w s
  else s

/-- `CE`. -/
def writeCe (a : Agent) (addr : Nat) (w : Word) (s : State) : State :=
  if addr = CE_CTRL then restoreCipher (BitVec.ofNat 4 (w.field 19 16)) (writeBut a addr 0 0xF0000 w s)
  else if 0x04800100 ≤ addr ∧ addr < 0x04800300 then
    writeJob a ((addr - 0x04800100) / 0x80) (addr % 0x80) addr w s
  else if 0x04840000 ≤ addr ∧ addr < 0x04880000 ∧ addr % 32 = 8 then holdWord a addr w s
  else if 0x04840000 ≤ addr ∧ addr < 0x04880000 ∧ addr % 32 = 12 then writeNextPn a ((addr - 0x04840000) / 32) w s
  else match keyWindow addr with
    | some (sa, slot, word) => writeKey a sa slot word addr w s
    | none => writePlain a addr w s

/-! ### Events, gate and keeper (Tables 18-5 to 18-8, 17-11 to 17-13, 19-11 to 19-18 and 20-7) -/

/-- `EV`: pending bits are cleared by ones, enables are written; software sources occur. -/
def writeEv (a : Agent) (addr : Nat) (w : Word) (s : State) : State :=
  let o := addr - 0x00400000
  let bank := o / 0x1000
  let r := o % 0x1000
  if bank < 5 then
    if r < 0x100 then setPend bank (r / 4) (s.pend bank (r / 4) &&& ~~~w) s
    else if r < 0x200 then
      let was := s.output 3
      let g := (r - 0x100) / 4
      hostEventAfter was (s.modKp (fun k => { k with enab := sset (fun _ => 0) k.enab (64 * bank + g) w }))
    else s
  else if 0x00408000 ≤ addr ∧ addr < 0x00408100 then writeSwset ((addr - 0x00408000) / 4) w s
  else writePlain a addr w s

/-- `SB`: WRAP bits are cleared by ones; the permit. -/
def writeSb (a : Agent) (addr : Nat) (w : Word) (s : State) : State :=
  let o := addr - 0x00600000
  if 0x4000 ≤ o ∧ o < 0x5000 then
    let g := (o - 0x4000) / 4
    s.modKp (fun k => { k with wraps := sset (fun _ => 0) k.wraps g (sget (fun _ => 0) k.wraps g &&& ~~~w) })
  else if o = 0x5000 then writePermit a false w s
  else if o = 0x5004 then writePermit a true w s
  else s

/-- `MG`: SEND and POP. -/
def writeMg (a : Agent) (addr : Nat) (w : Word) (s : State) : State :=
  let m := (addr - 0x05000000) / 0x1000
  if addr % 0x1000 = 0x40 then onOne 31 w (gateSend m) (writeBut a addr 0 0x80000000 w s)
  else if addr % 0x1000 = 0xC0 then onOne 30 w (gatePop m) s
  else writePlain a addr w s

/-- The bits of `KP.RST_CAUSE` that an agent may clear (R513). -/
def causeMask : Agent → Word
  | .carrier => 0x16810
  | .tenant => 0x210A0
  | .host => 0
  | .keeper => 0xFFFFF

/-- `KP.RST_CTRL`: each bit by the agents that Table 19-12 gives. -/
def writeRstCtrl (a : Agent) (w : Word) (s : State) : State :=
  let one (i : Nat) (as : List Agent) (f : State → State) (s : State) : State := if as.contains a then onOne i w f s else s
  let s := if a = .keeper then writeHold (w.field 11 8) s else s
  let s := one 4 [.carrier] (fun s => s.putB KP_RST_CTRL_HE_REBOOT true) s
  let s := one 3 [.carrier] (assertSource 14) (one 2 [.carrier] (assertSource 13) s)
  let s := one 1 [.tenant, .keeper] (assertSource 12) s
  let s := one 0 [.carrier, .keeper] (assertSource 11) s
  one 6 [.keeper] (assertSource 9) (one 5 [.keeper] (assertSource 10) s)

/-- `KP`. -/
def writeKp (a : Agent) (addr : Nat) (w : Word) (s : State) : State :=
  if addr = KP_RST_CAUSE then writePlain a addr (w &&& causeMask a) s
  else if addr = KP_RST_CTRL then writeRstCtrl a w s
  else if addr = KP_RST_BLOCK then
    if bitOf w 31 then blockGo a (w.field 25 24) (w.field 6 0) s else writePlain a addr w s
  else if KP_WDOG0 ≤ addr ∧ addr ≤ KP_WDOG2 then
    onOne 31 w (kick (Fin.ofNat 3 ((addr - KP_WDOG0) / 4))) (writeBut a addr 0 0x80000000 w s)
  else if addr = KP_PWR_CTRL then
    onOne 1 w (restLatch .exit) (onOne 0 w (restRequest none) (writeBut a addr 0 0x3 w s))
  else if addr = KP_PWR_GATE0 then writeGates a false w s
  else if addr = KP_PWR_GATE1 then writeGates a true w s
  else if addr = KP_SUPPLY then writeSupply w s
  else if 0x300 ≤ addr ∧ addr < 0x340 then
    if s.isPfail ((addr - 0x300) / 4) then s.refuse a else writePlain a addr w s
  else if addr = KP_SET_CTRL then onOne 31 w (setGo 0) (writeBut a addr 0 0x80000000 w s)
  else if addr = KP_SETT_CTRL then onOne 31 w (setGo 1) (writeBut a addr 0 0x80000000 w s)
  else writePlain a addr w s

/-! ### The whole map -/

/-- A write that is permitted, by the block that its address lies in (Table 17-9). -/
def writePort (a : Agent) (addr : Nat) (w : Word) (s : State) : State :=
  if addr < 0x00400000 then writeKp a addr w s
  else if addr < 0x00600000 then writeEv a addr w s
  else if addr < 0x00800000 then writeSb a addr w s
  else if addr < 0x01000000 then writeTe a addr w s
  else if addr < 0x01400000 then writeCl a addr w s
  else if addr < 0x01800000 then (if s.absent addr then s else writeCm a addr w s)
  else if addr < 0x02000000 then writeCf a addr w s
  else if addr < 0x02400000 then writePa a addr w s
  else if addr < 0x04000000 then writeCx a addr w s
  else if addr < 0x04400000 then writeBm a addr w s
  else if addr < 0x04800000 then writeQs a addr w s
  else if addr < 0x04C00000 then writeCe a addr w s
  else if addr < 0x05000000 then writePx a addr w s
  else if addr < 0x08000000 then writeMg a addr w s
  else if addr < 0x10000000 then writeLine a addr w s
  else match sramWindow addr with
    | some o => putMem o (wordOctets w) s
    | none => s

/-- A write: refused, or done where something lies (R1, R476). -/
def writeReg (a : Agent) (addr : Nat) (w : Word) (s : State) : State :=
  if !s.served (s.writersOf addr) a then s.refuse a
  else if s.hangs addr then s
  else
    let s := wakeFor addr s
    if (s.portOf addr).isSome then writePort a addr w s else s

/-- A write of any size and address: only aligned 32-bit accesses are served; an agent held in reset issues none (R1). -/
def writeAccess (a : Agent) (addr size : Nat) (w : Word) (s : State) : State :=
  if s.stopped.contains a then s
  else if size ≠ 4 ∨ addr % 4 ≠ 0 then s.refuse a
  else writeReg a addr w s

/-- REGISTER_WRITE (R1, R2, R6, R7). -/
def execRegisterWrite (a : Agent) (addr size : Nat) (w : Word) (s : State) : Out := .next (writeAccess a addr size w s)

/-- WIDE_VALUE_WRITE (R10). -/
def execWideValueWrite (a : Agent) (addr size : Nat) (w : Word) (s : State) : Out := .next (writeAccess a addr size w s)

/-! ### The host's accesses through the tenant proxy (R475) -/

/-- The request that the proxy serves leaves the mailbox from the host: the oldest of its TYPE and TAG. -/
def takeRequest (type : Nat) (tag : Byte) (s : State) : State :=
  let q := s.gateQ 3
  match q.find? (fun m => m.kind = type && m.bytes.getD 1 0 = tag) with
  | some m => setGateQ 3 (q.erase m) s
  | none => s

/-- The reply to a host request: TYPE, TAG, N, STATUS, ADDR and the words read (R475). -/
def hostReply (type : Nat) (tag : Byte) (n addr : Nat) (ok : Bool) (ws : List Word) (s : State) : State :=
  let head := bytesBE 1 type ++ [tag] ++ bytesBE 1 n ++ [Config.hostStatus ok] ++ bytesBE 4 addr
  deliver 2 ⟨type, head ++ wordsOctets ws⟩ s

/-- The host's refused accesses so far. -/
def State.hostRefusals (s : State) : Nat := s.count (MG_CNT 2 4)

/-- Words read one after the other, each as an access of the host. -/
def readWords : Nat → Nat → State → List Word × State
  | 0, _, s => ([], s)
  | n + 1, addr, s =>
    let s := readAccess .host addr 4 s
    let w := sget (fun _ => 0) s.rdata (agentNum .host)
    let (ws, s) := readWords n (addr + 4) s
    (w :: ws, s)

/-- HOST_READ: `n` words from an address, each an access of the host; the reply carries them (R475). -/
def execHostRead (n addr : Nat) (tag : Byte) (s : State) : Out :=
  .next (if s.stopped.contains .host then s
  else
    let s := takeRequest 1 tag s
    if n = 0 ∨ 14 < n then hostReply 1 tag n addr false [] (s.refuse .host)
    else
      let (ws, t) := readWords n addr s
      hostReply 1 tag n addr (decide (t.hostRefusals = s.hostRefusals)) ws t)

/-- HOST_WRITE: the words from an address on, each an access of the host, and only while HOST_WRITE is 1 (R475). -/
def execHostWrite (addr : Nat) (ws : List Word) (tag : Byte) (s : State) : Out :=
  .next (if s.stopped.contains .host then s
  else
    let s := takeRequest 2 tag s
    if !s.hostMay || ws.isEmpty || decide (14 < ws.length) then
      hostReply 2 tag ws.length addr false [] (s.refuse .host)
    else
      let t := s.each ws.zipIdx (fun x s => writeAccess .host (addr + 4 * x.2) 4 x.1 s)
      hostReply 2 tag ws.length addr (decide (t.hostRefusals = s.hostRefusals)) [] t)

end Sys2Proof.Machine
end

