-- ==== Sys2Proof/Machine/Status.lean ====
section
/-! DEFINITION. Engine status messages toward the line: the peer's claim, the relayed removal counts, the hub's backlog and
the master session key (R142, R170, R173, R357, R387). -/
namespace Sys2Proof.Machine

/-- The frames that the hub's line queues hold for a slot (R356, R357). -/
def State.slotFrames (s : State) (sl : Nat) : List Frame :=
  (s.busyQueues.filter (fun q => s.isLine q && s.get (QS_QGATE_LQ q) / 8 = sl)).flatMap
    (fun q => (s.qlist q).filterMap s.frame)

/-- The two figures that the hub announces for each slot: frames, and their bytes after encryption, each rounded up to 8
(R357). -/
def announce (e : Engine) (s : State) : State :=
  let figs := (List.range 64).map (fun sl =>
    let fs := s.slotFrames sl
    (sl, fs.length, (fs.map (fun x => (s.sentLen x + 7) / 8 * 8)).foldl (· + ·) 0))
  s.modLine e (fun l => { l with
    hubFrames := figs.foldl (fun st f => sset (fun _ => 0) st f.1 f.2.1) l.hubFrames
    hubBacklog := figs.foldl (fun st f => sset (fun _ => 0) st f.1 f.2.2) l.hubBacklog })

/-- A line die unwraps a master session key with its own copy of the transfer key and derives its KEK; a wrap that fails
its check sets LOAD_ERR (R387). -/
def takeMaster (e : Engine) (s : State) : State :=
  let l := s.line e
  match l.masterKey with
  | none => s
  | some w =>
    let s := s.modLine e (fun l => { l with masterKey := none })
    match aesUnwrap (l.transfer.getD (Config.transferKey 0)) w with
    | some k => s.modLine e (fun l => { l with kek := some (Config.kekOf k) })
    | none => s.putB (TC_KEY_CMD_LOAD_ERR e.n) true

/-- HUB_STATUS_MESSAGE: the hub's status message reaches an engine, its header good or not (R19, R170, R173, R357, R387). -/
def execHubStatusMessage (m : LinkMessage) (s : State) : Out :=
  let e := m.engine
  .next (hubMessage e m.good (fun s => takeMaster e (announce e (standbyRemoval e (lowerClaim e s)))) s)

end Sys2Proof.Machine
end

