-- ==== Sys2Proof/Machine/Dispatch.lean ====
section
/-! DEFINITION. What each command does: one arm per row of the table, each a call of the row's meaning. -/
namespace Sys2Proof.Machine

/-- The effect of a command on everything but the queue of waiting commands. -/
def exec (i : Instr) (s : State) : Host.Outcome State Fault Refusal :=
  match i with
  | .registerWrite a addr size w => Sys2Proof.Machine.execRegisterWrite a addr size w s
  | .wideValueRead a addr size => Sys2Proof.Machine.execWideValueRead a addr size s
  | .wideValueWrite a addr size w => Sys2Proof.Machine.execWideValueWrite a addr size w s
  | .rcFieldRead a addr size => Sys2Proof.Machine.execRcFieldRead a addr size s
  | .clientFrameReceive p f => Sys2Proof.Machine.execClientFrameReceive p f s
  | .clientFrameTransmit p => Sys2Proof.Machine.execClientFrameTransmit p s
  | .tieFrameReceive e hdr pay => Sys2Proof.Machine.execTieFrameReceive e hdr pay s
  | .lineTieFrameReceive e hdr pay => Sys2Proof.Machine.execLineTieFrameReceive e hdr pay s
  | .engineStatusMessage m => Sys2Proof.Machine.execEngineStatusMessage m s
  | .hubStatusMessage m => Sys2Proof.Machine.execHubStatusMessage m s
  | .txInhibitAccept lowNs => Sys2Proof.Machine.execTxInhibitAccept lowNs s
  | .txInhibitRelease highNs => Sys2Proof.Machine.execTxInhibitRelease highNs s
  | .rogueDetect e c ns => Sys2Proof.Machine.execRogueDetect e c ns s
  | .rogueRestore a e mask => Sys2Proof.Machine.execRogueRestore a e mask s
  | .tempWarn e dev => Sys2Proof.Machine.execTempWarn e dev s
  | .tempGateChange e dev => Sys2Proof.Machine.execTempGateChange e dev s
  | .losChange e c power => Sys2Proof.Machine.execLosChange e c power s
  | .equaliserTrain e c => Sys2Proof.Machine.execEqualiserTrain e c s
  | .telemetryUpdate e t => Sys2Proof.Machine.execTelemetryUpdate e t s
  | .actEn a e v => Sys2Proof.Machine.execActEn a e v s
  | .chJoin a e c v => Sys2Proof.Machine.execChJoin a e c v s
  | .deact a e => Sys2Proof.Machine.execDeact a e s
  | .downstreamFrame e c f => Sys2Proof.Machine.execDownstreamFrame e c f s
  | .frameLock e c diffs sfc => Sys2Proof.Machine.execFrameLock e c diffs sfc s
  | .lossOfLock e c => Sys2Proof.Machine.execLossOfLock e c s
  | .defectWindowClose e c => Sys2Proof.Machine.execDefectWindowClose e c s
  | .burstProfile e c h p => Sys2Proof.Machine.execBurstProfile e c h p s
  | .assignOnuId e c h sn id => Sys2Proof.Machine.execAssignOnuId e c h sn id s
  | .rangingTime e c h relative v => Sys2Proof.Machine.execRangingTime e c h relative v s
  | .deactivateOnuId e c h => Sys2Proof.Machine.execDeactivateOnuId e c h s
  | .disableSerialNumber e c h sn => Sys2Proof.Machine.execDisableSerialNumber e c h sn s
  | .enableSerialNumber e c h sn => Sys2Proof.Machine.execEnableSerialNumber e c h sn s
  | .requestRegistration e c h => Sys2Proof.Machine.execRequestRegistration e c h s
  | .assignAllocId e s0 b => Sys2Proof.Machine.execAssignAllocId e s0 b s
  | .keyControl e c h slot => Sys2Proof.Machine.execKeyControl e c h slot s
  | .sleepAllow e c h allow => Sys2Proof.Machine.execSleepAllow e c h allow s
  | .tuningControl e c h => Sys2Proof.Machine.execTuningControl e c h s
  | .unsupportedPloam e c h type => Sys2Proof.Machine.execUnsupportedPloam e c h type s
  | .serialNumberGrant e g => Sys2Proof.Machine.execSerialNumberGrant e g s
  | .discoveryTimeout e => Sys2Proof.Machine.execDiscoveryTimeout e s
  | .rangingGrant e c g => Sys2Proof.Machine.execRangingGrant e c g s
  | .to1Expiry e c => Sys2Proof.Machine.execTo1Expiry e c s
  | .to2Expiry e c => Sys2Proof.Machine.execTo2Expiry e c s
  | .burstGateOverrun e c => Sys2Proof.Machine.execBurstGateOverrun e c s
  | .ponKeyGen a e slot => Sys2Proof.Machine.execPonKeyGen a e slot s
  | .ponKeyLoad a e slot => Sys2Proof.Machine.execPonKeyLoad a e slot s
  | .bondedSduArrival e c x => Sys2Proof.Machine.execBondedSduArrival e c x s
  | .skewWindowExpiry e st => Sys2Proof.Machine.execSkewWindowExpiry e st s
  | .bondWindowClose e c => Sys2Proof.Machine.execBondWindowClose e c s
  | .sitOutEntry e c => Sys2Proof.Machine.execSitOutEntry e c s
  | .sitHoldExpiry e c => Sys2Proof.Machine.execSitHoldExpiry e c s
  | .bondIn e c => Sys2Proof.Machine.execBondIn e c s
  | .bondOut e c => Sys2Proof.Machine.execBondOut e c s
  | .bondStrikeExpiry e c => Sys2Proof.Machine.execBondStrikeExpiry e c s
  | .bondRestore a e mask => Sys2Proof.Machine.execBondRestore a e mask s
  | .usResync a e => Sys2Proof.Machine.execUsResync a e s
  | .memberMaskSet e mask => Sys2Proof.Machine.execMemberMaskSet e mask s
  | .slotFree a e s0 => Sys2Proof.Machine.execSlotFree a e s0 s
  | .qportDisable a e q => Sys2Proof.Machine.execQportDisable a e q s
  | .grantReceive e c g => Sys2Proof.Machine.execGrantReceive e c g s
  | .burstAssembly e c => Sys2Proof.Machine.execBurstAssembly e c s
  | .burstLaunch e c => Sys2Proof.Machine.execBurstLaunch e c s
  | .burstEnd e c => Sys2Proof.Machine.execBurstEnd e c s
  | .pmEnter a p => Sys2Proof.Machine.execPmEnter a p s
  | .pmExit a e => Sys2Proof.Machine.execPmExit a e s
  | .tlowExpiry e => Sys2Proof.Machine.execTlowExpiry e s
  | .tawareExpiry e => Sys2Proof.Machine.execTawareExpiry e s
  | .pmWake e cause => Sys2Proof.Machine.execPmWake e cause s
  | .wakeComplete e => Sys2Proof.Machine.execWakeComplete e s
  | .pxModeWrite a mode => Sys2Proof.Machine.execPxModeWrite a mode s
  | .pxPrimaryWrite a e => Sys2Proof.Machine.execPxPrimaryWrite a e s
  | .raise e => Sys2Proof.Machine.execRaise e s
  | .settle e => Sys2Proof.Machine.execSettle e s
  | .tieLinkClaimTimeout e => Sys2Proof.Machine.execTieLinkClaimTimeout e s
  | .stepDigest => Sys2Proof.Machine.execStepDigest s
  | .restep a => Sys2Proof.Machine.execRestep a s
  | .stepMarkSend => Sys2Proof.Machine.execStepMarkSend s
  | .stepMark m => Sys2Proof.Machine.execStepMark m s
  | .stepBack => Sys2Proof.Machine.execStepBack s
  | .pxSwitch a force => Sys2Proof.Machine.execPxSwitch a force s
  | .switchoverTrigger causes => Sys2Proof.Machine.execSwitchoverTrigger causes s
  | .protectionSwitchCommand v => Sys2Proof.Machine.execProtectionSwitchCommand v s
  | .guardExpiry => Sys2Proof.Machine.execGuardExpiry s
  | .readyPoint => Sys2Proof.Machine.execReadyPoint s
  | .recoveryExpiry => Sys2Proof.Machine.execRecoveryExpiry s
  | .servoSample d => Sys2Proof.Machine.execServoSample d s
  | .servoLock d => Sys2Proof.Machine.execServoLock d s
  | .servoHoldover d => Sys2Proof.Machine.execServoHoldover d s
  | .domainTimeWrite a d word w => Sys2Proof.Machine.execDomainTimeWrite a d word w s
  | .ptpSampleWrite a d high w => Sys2Proof.Machine.execPtpSampleWrite a d high w s
  | .todArm a e => Sys2Proof.Machine.execTodArm a e s
  | .todAnnouncedFrame e => Sys2Proof.Machine.execTodAnnouncedFrame e s
  | .todStop e => Sys2Proof.Machine.execTodStop e s
  | .houseSelect a d => Sys2Proof.Machine.execHouseSelect a d s
  | .slewDone => Sys2Proof.Machine.execSlewDone s
  | .freqLost => Sys2Proof.Machine.execFreqLost s
  | .freqRefReturn => Sys2Proof.Machine.execFreqRefReturn s
  | .tsTxPop a p => Sys2Proof.Machine.execTsTxPop a p s
  | .tinEdgeCapture n rising phase => Sys2Proof.Machine.execTinEdgeCapture n rising phase s
  | .tinStampPop a n => Sys2Proof.Machine.execTinStampPop a n s
  | .toutPulse n => Sys2Proof.Machine.execToutPulse n s
  | .actionArm a i0 w => Sys2Proof.Machine.execActionArm a i0 w s
  | .actionFire i0 => Sys2Proof.Machine.execActionFire i0 s
  | .laneModeWrite a l mode => Sys2Proof.Machine.execLaneModeWrite a l mode s
  | .port100Write a q v => Sys2Proof.Machine.execPort100Write a q v s
  | .laneEnable a l v => Sys2Proof.Machine.execLaneEnable a l v s
  | .signalDetect l => Sys2Proof.Machine.execSignalDetect l s
  | .cdrLock l => Sys2Proof.Machine.execCdrLock l s
  | .trainingComplete l => Sys2Proof.Machine.execTrainingComplete l s
  | .polarityTry l => Sys2Proof.Machine.execPolarityTry l s
  | .wordLock l => Sys2Proof.Machine.execWordLock l s
  | .alignmentLock l map skew => Sys2Proof.Machine.execAlignmentLock l map skew s
  | .stageTimeout l => Sys2Proof.Machine.execStageTimeout l s
  | .laneDown l why sig => Sys2Proof.Machine.execLaneDown l why sig s
  | .laneStrikeExpiry l => Sys2Proof.Machine.execLaneStrikeExpiry l s
  | .laneRestore a l => Sys2Proof.Machine.execLaneRestore a l s
  | .tieLinkTrain e failHub failLine latHub latLine => Sys2Proof.Machine.execTieLinkTrain e failHub failLine latHub latLine s
  | .tieRetrain a e => Sys2Proof.Machine.execTieRetrain a e s
  | .flitReceive e toLine f => Sys2Proof.Machine.execFlitReceive e toLine f s
  | .tieStrikeExpiry e toLine i0 => Sys2Proof.Machine.execTieStrikeExpiry e toLine i0 s
  | .tieRestore a e => Sys2Proof.Machine.execTieRestore a e s
  | .prbsEnable a l gen chk => Sys2Proof.Machine.execPrbsEnable a l gen chk s
  | .injOne l again => Sys2Proof.Machine.execInjOne l again s
  | .lpiTxEnter p wakeNow => Sys2Proof.Machine.execLpiTxEnter p wakeNow s
  | .lpiTxWake p => Sys2Proof.Machine.execLpiTxWake p s
  | .lpiRxChange l low => Sys2Proof.Machine.execLpiRxChange l low s
  | .pauseFrameReceive p f => Sys2Proof.Machine.execPauseFrameReceive p f s
  | .pauseExpiry p => Sys2Proof.Machine.execPauseExpiry p s
  | .pauseSend p => Sys2Proof.Machine.execPauseSend p s
  | .mmVerify p answered => Sys2Proof.Machine.execMmVerify p answered s
  | .passReady src bytes ended => Sys2Proof.Machine.execPassReady src bytes ended s
  | .passDispatch p upsets => Sys2Proof.Machine.execPassDispatch p upsets s
  | .parseNop p u => Sys2Proof.Machine.execParseNop p u s
  | .parseLdf p u => Sys2Proof.Machine.execParseLdf p u s
  | .parseLdi p u => Sys2Proof.Machine.execParseLdi p u s
  | .parseLdih p u => Sys2Proof.Machine.execParseLdih p u s
  | .parseAdd p u => Sys2Proof.Machine.execParseAdd p u s
  | .parseSub p u => Sys2Proof.Machine.execParseSub p u s
  | .parseAnd p u => Sys2Proof.Machine.execParseAnd p u s
  | .parseOr p u => Sys2Proof.Machine.execParseOr p u s
  | .parseXor p u => Sys2Proof.Machine.execParseXor p u s
  | .parseAddi p u => Sys2Proof.Machine.execParseAddi p u s
  | .parseAndi p u => Sys2Proof.Machine.execParseAndi p u s
  | .parseShli p u => Sys2Proof.Machine.execParseShli p u s
  | .parseShri p u => Sys2Proof.Machine.execParseShri p u s
  | .parseGet p u => Sys2Proof.Machine.execParseGet p u s
  | .parseBr p u => Sys2Proof.Machine.execParseBr p u s
  | .parseBri p u => Sys2Proof.Machine.execParseBri p u s
  | .parseSel p u => Sys2Proof.Machine.execParseSel p u s
  | .parseMove p u => Sys2Proof.Machine.execParseMove p u s
  | .parseDone p u => Sys2Proof.Machine.execParseDone p u s
  | .parseExc p u => Sys2Proof.Machine.execParseExc p u s
  | .parseKey p u => Sys2Proof.Machine.execParseKey p u s
  | .parseKcpy p u => Sys2Proof.Machine.execParseKcpy p u s
  | .parseFlag p u => Sys2Proof.Machine.execParseFlag p u s
  | .parseLen p u => Sys2Proof.Machine.execParseLen p u s
  | .parseLchk p u => Sys2Proof.Machine.execParseLchk p u s
  | .parsePopl p u => Sys2Proof.Machine.execParsePopl p u s
  | .parseResultRelease p => Sys2Proof.Machine.execParseResultRelease p s
  | .parseUnitParity p u => Sys2Proof.Machine.execParseUnitParity p u s
  | .parseStrikeExpiry p u => Sys2Proof.Machine.execParseStrikeExpiry p u s
  | .parseUnitRestore a p mask => Sys2Proof.Machine.execParseUnitRestore a p mask s
  | .passClassify p upsets => Sys2Proof.Machine.execPassClassify p upsets s
  | .tableAdd a addr => Sys2Proof.Machine.execTableAdd a addr s
  | .tableRemove a addr => Sys2Proof.Machine.execTableRemove a addr s
  | .commitNow a => Sys2Proof.Machine.execCommitNow a s
  | .commitEdge n => Sys2Proof.Machine.execCommitEdge n s
  | .roundCommit => Sys2Proof.Machine.execRoundCommit s
  | .drainEnd => Sys2Proof.Machine.execDrainEnd s
  | .sweepDone => Sys2Proof.Machine.execSweepDone s
  | .forcedRetire => Sys2Proof.Machine.execForcedRetire s
  | .scrubBank b bad diff => Sys2Proof.Machine.execScrubBank b bad diff s
  | .bankRetired b => Sys2Proof.Machine.execBankRetired b s
  | .bankStrikeExpiry b => Sys2Proof.Machine.execBankStrikeExpiry b s
  | .repairDone a b equal => Sys2Proof.Machine.execRepairDone a b equal s
  | .bankRestore a b => Sys2Proof.Machine.execBankRestore a b s
  | .bmAlloc a r => Sys2Proof.Machine.execBmAlloc a r s
  | .bmFree a handle r => Sys2Proof.Machine.execBmFree a handle r s
  | .bmShare a handle => Sys2Proof.Machine.execBmShare a handle s
  | .handRefill b => Sys2Proof.Machine.execHandRefill b s
  | .bmInit a => Sys2Proof.Machine.execBmInit a s
  | .bmRecount a b => Sys2Proof.Machine.execBmRecount a b s
  | .recountDone b => Sys2Proof.Machine.execRecountDone b s
  | .bmUnhold a => Sys2Proof.Machine.execBmUnhold a s
  | .dataParity frame tile => Sys2Proof.Machine.execDataParity frame tile s
  | .tileTestDone tile clean => Sys2Proof.Machine.execTileTestDone tile clean s
  | .ringParity b => Sys2Proof.Machine.execRingParity b s
  | .frameEnqueue frame => Sys2Proof.Machine.execFrameEnqueue frame s
  | .frameSelect n => Sys2Proof.Machine.execFrameSelect n s
  | .shaperWrite a s0 w => Sys2Proof.Machine.execShaperWrite a s0 w s
  | .meterInstall a m w => Sys2Proof.Machine.execMeterInstall a m w s
  | .tlApply a l => Sys2Proof.Machine.execTlApply a l s
  | .tlCancel a l => Sys2Proof.Machine.execTlCancel a l s
  | .tlChange l => Sys2Proof.Machine.execTlChange l s
  | .turnStart l => Sys2Proof.Machine.execTurnStart l s
  | .queueFlush a q => Sys2Proof.Machine.execQueueFlush a q s
  | .cfgParity addr both => Sys2Proof.Machine.execCfgParity addr both s
  | .stateParity w => Sys2Proof.Machine.execStateParity w s
  | .cipherBulkEncrypt sc frame => Sys2Proof.Machine.execCipherBulkEncrypt sc frame s
  | .cipherBulkVerify sc frame => Sys2Proof.Machine.execCipherBulkVerify sc frame s
  | .cipherSuspend ce => Sys2Proof.Machine.execCipherSuspend ce s
  | .cipherResume ce => Sys2Proof.Machine.execCipherResume ce s
  | .cmacGen ce => Sys2Proof.Machine.execCmacGen ce s
  | .cmacVer ce => Sys2Proof.Machine.execCmacVer ce s
  | .gcmEnc ce => Sys2Proof.Machine.execGcmEnc ce s
  | .gcmDec ce => Sys2Proof.Machine.execGcmDec ce s
  | .wrap ce => Sys2Proof.Machine.execWrap ce s
  | .unwrap ce => Sys2Proof.Machine.execUnwrap ce s
  | .kdf ce => Sys2Proof.Machine.execKdf ce s
  | .gen ce => Sys2Proof.Machine.execGen ce s
  | .sendLine ce => Sys2Proof.Machine.execSendLine ce s
  | .deadline ce => Sys2Proof.Machine.execDeadline ce s
  | .jobDone ce => Sys2Proof.Machine.execJobDone ce s
  | .pawnWrite a ce code => Sys2Proof.Machine.execPawnWrite a ce code s
  | .keySlotInstall a sa slot w => Sys2Proof.Machine.execKeySlotInstall a sa slot w s
  | .nextPnWrite a sa high w => Sys2Proof.Machine.execNextPnWrite a sa high w s
  | .keyParity sa slot both => Sys2Proof.Machine.execKeyParity sa slot both s
  | .cipherEngineParity ce => Sys2Proof.Machine.execCipherEngineParity ce s
  | .cipherStrikeExpiry ce => Sys2Proof.Machine.execCipherStrikeExpiry ce s
  | .cipherRestore a mask => Sys2Proof.Machine.execCipherRestore a mask s
  | .framerEnable a f v => Sys2Proof.Machine.execFramerEnable a f v s
  | .segmentCut f payload => Sys2Proof.Machine.execSegmentCut f payload s
  | .inFrame f matched => Sys2Proof.Machine.execInFrame f matched s
  | .oof f errored => Sys2Proof.Machine.execOof f errored s
  | .dlof f present => Sys2Proof.Machine.execDlof f present s
  | .cbrFrameMonitor f o => Sys2Proof.Machine.execCbrFrameMonitor f o s
  | .failureChange f n => Sys2Proof.Machine.execFailureChange f n s
  | .pmSecond f => Sys2Proof.Machine.execPmSecond f s
  | .pmSecondEntry f => Sys2Proof.Machine.execPmSecondEntry f s
  | .segmentReceive f => Sys2Proof.Machine.execSegmentReceive f s
  | .segmentPlayout f phase => Sys2Proof.Machine.execSegmentPlayout f phase s
  | .clkChg f k => Sys2Proof.Machine.execClkChg f k s
  | .resync f why => Sys2Proof.Machine.execResync f why s
  | .dspRun a k => Sys2Proof.Machine.execDspRun a k s
  | .dspStop a k => Sys2Proof.Machine.execDspStop a k s
  | .dspNop k => Sys2Proof.Machine.execDspNop k s
  | .dspBr k => Sys2Proof.Machine.execDspBr k s
  | .dspCall k => Sys2Proof.Machine.execDspCall k s
  | .dspJr k => Sys2Proof.Machine.execDspJr k s
  | .dspLoop k => Sys2Proof.Machine.execDspLoop k s
  | .loopEnd k => Sys2Proof.Machine.execLoopEnd k s
  | .dspRti k => Sys2Proof.Machine.execDspRti k s
  | .dspTrap k => Sys2Proof.Machine.execDspTrap k s
  | .dspHalt k => Sys2Proof.Machine.execDspHalt k s
  | .dspSwop k => Sys2Proof.Machine.execDspSwop k s
  | .dspMov k => Sys2Proof.Machine.execDspMov k s
  | .dspLdi k => Sys2Proof.Machine.execDspLdi k s
  | .dspLd k => Sys2Proof.Machine.execDspLd k s
  | .dspSt k => Sys2Proof.Machine.execDspSt k s
  | .dspLdp k => Sys2Proof.Machine.execDspLdp k s
  | .dspAlu k => Sys2Proof.Machine.execDspAlu k s
  | .dspAlui k => Sys2Proof.Machine.execDspAlui k s
  | .dspMac k => Sys2Proof.Machine.execDspMac k s
  | .dspMsu k => Sys2Proof.Machine.execDspMsu k s
  | .dspMpy k => Sys2Proof.Machine.execDspMpy k s
  | .dspDmac k => Sys2Proof.Machine.execDspDmac k s
  | .dspAcop k => Sys2Proof.Machine.execDspAcop k s
  | .dspAcld k => Sys2Proof.Machine.execDspAcld k s
  | .dspExt k => Sys2Proof.Machine.execDspExt k s
  | .dspMaxx k => Sys2Proof.Machine.execDspMaxx k s
  | .dspMinx k => Sys2Proof.Machine.execDspMinx k s
  | .interruptEntry k => Sys2Proof.Machine.execInterruptEntry k s
  | .dspTimerExpiry k t => Sys2Proof.Machine.execDspTimerExpiry k t s
  | .kick k => Sys2Proof.Machine.execKick k s
  | .watchdogHalf k => Sys2Proof.Machine.execWatchdogHalf k s
  | .watchdogHalt k => Sys2Proof.Machine.execWatchdogHalt k s
  | .bell k => Sys2Proof.Machine.execBell k s
  | .dspMboxIn a k => Sys2Proof.Machine.execDspMboxIn a k s
  | .dspMboxAck k => Sys2Proof.Machine.execDspMboxAck k s
  | .dspMboxOut k => Sys2Proof.Machine.execDspMboxOut k s
  | .dspMboxOutClear a k => Sys2Proof.Machine.execDspMboxOutClear a k s
  | .capGo k c mode trig => Sys2Proof.Machine.execCapGo k c mode trig s
  | .capRelease k c => Sys2Proof.Machine.execCapRelease k c s
  | .captureComplete e c samples bad sfc ui => Sys2Proof.Machine.execCaptureComplete e c samples bad sfc ui s
  | .dspParity k => Sys2Proof.Machine.execDspParity k s
  | .dspStrikeExpiry k => Sys2Proof.Machine.execDspStrikeExpiry k s
  | .coreRestore a k => Sys2Proof.Machine.execCoreRestore a k s
  | .boot => Sys2Proof.Machine.execBoot s
  | .settingsRestore d => Sys2Proof.Machine.execSettingsRestore d s
  | .settingsGet a d => Sys2Proof.Machine.execSettingsGet a d s
  | .settingsPut a d => Sys2Proof.Machine.execSettingsPut a d s
  | .settingsDelete a d => Sys2Proof.Machine.execSettingsDelete a d s
  | .journaled => Sys2Proof.Machine.execJournaled s
  | .writeInhibit vin => Sys2Proof.Machine.execWriteInhibit vin s
  | .journalResume vin => Sys2Proof.Machine.execJournalResume vin s
  | .pfailMonitorArm vin => Sys2Proof.Machine.execPfailMonitorArm vin s
  | .powerFailEvent pin vin => Sys2Proof.Machine.execPowerFailEvent pin vin s
  | .gaspRecoveryReset vin => Sys2Proof.Machine.execGaspRecoveryReset vin s
  | .supplyWrite a w => Sys2Proof.Machine.execSupplyWrite a w s
  | .mgSend a m => Sys2Proof.Machine.execMgSend a m s
  | .mgPop a m => Sys2Proof.Machine.execMgPop a m s
  | .hostlinkStatus crcOk => Sys2Proof.Machine.execHostlinkStatus crcOk s
  | .hostlinkPut crcOk msg => Sys2Proof.Machine.execHostlinkPut crcOk msg s
  | .hostlinkGet crcOk => Sys2Proof.Machine.execHostlinkGet crcOk s
  | .hostlinkReset crcOk payload => Sys2Proof.Machine.execHostlinkReset crcOk payload s
  | .flashRead crcOk off len => Sys2Proof.Machine.execFlashRead crcOk off len s
  | .flashWrite crcOk off data => Sys2Proof.Machine.execFlashWrite crcOk off data s
  | .flashErase crcOk off len => Sys2Proof.Machine.execFlashErase crcOk off len s
  | .reboot crcOk => Sys2Proof.Machine.execReboot crcOk s
  | .hostRead n addr tag => Sys2Proof.Machine.execHostRead n addr tag s
  | .hostWrite addr ws tag => Sys2Proof.Machine.execHostWrite addr ws tag s
  | .tallyDeltaArrive src => Sys2Proof.Machine.execTallyDeltaArrive src s
  | .swset a g w => Sys2Proof.Machine.execSwset a g w s
  | .permitWrite a high w => Sys2Proof.Machine.execPermitWrite a high w s
  | .restRequest a wake => Sys2Proof.Machine.execRestRequest a wake s
  | .restDomainAnswer => Sys2Proof.Machine.execRestDomainAnswer s
  | .restDelayExpiry => Sys2Proof.Machine.execRestDelayExpiry s
  | .restWake w => Sys2Proof.Machine.execRestWake w s
  | .restExitDone => Sys2Proof.Machine.execRestExitDone s
  | .pwrExit a => Sys2Proof.Machine.execPwrExit a s
  | .actionLeadWake => Sys2Proof.Machine.execActionLeadWake s
  | .powerGateWrite a high w => Sys2Proof.Machine.execPowerGateWrite a high w s
  | .accessWake d => Sys2Proof.Machine.execAccessWake d s
  | .por => Sys2Proof.Machine.execPor s
  | .resetNLow lowNs => Sys2Proof.Machine.execResetNLow lowNs s
  | .resetNDriveEnd => Sys2Proof.Machine.execResetNDriveEnd s
  | .brownout vin => Sys2Proof.Machine.execBrownout vin s
  | .thermalReset dieC => Sys2Proof.Machine.execThermalReset dieC s
  | .thermNChange dieC => Sys2Proof.Machine.execThermNChange dieC s
  | .watchdogExpiry x => Sys2Proof.Machine.execWatchdogExpiry x s
  | .wdogKick a x => Sys2Proof.Machine.execWdogKick a x s
  | .rstFull a => Sys2Proof.Machine.execRstFull a s
  | .rstModule a => Sys2Proof.Machine.execRstModule a s
  | .heReboot a => Sys2Proof.Machine.execHeReboot a s
  | .heRebootReset => Sys2Proof.Machine.execHeRebootReset s
  | .rstEngine a e => Sys2Proof.Machine.execRstEngine a e s
  | .rstTenant a => Sys2Proof.Machine.execRstTenant a s
  | .rstCarrier a => Sys2Proof.Machine.execRstCarrier a s
  | .rstHold a mask => Sys2Proof.Machine.execRstHold a mask s
  | .rstBlockGo a target index => Sys2Proof.Machine.execRstBlockGo a target index s
  | .accessTimeout a => Sys2Proof.Machine.execAccessTimeout a s
  | .resetRelease src => Sys2Proof.Machine.execResetRelease src s
  | .clockFail k => Sys2Proof.Machine.execClockFail k s
  | .gpioEdge n level heldNs => Sys2Proof.Machine.execGpioEdge n level heldNs s
  | .tieLaneLockLoss e toLine lane => Sys2Proof.Machine.execTieLaneLockLoss e toLine lane s
  | .checkerLock l r => Sys2Proof.Machine.execCheckerLock l r s
  | .wakeHoldExpiry p => Sys2Proof.Machine.execWakeHoldExpiry p s
  | .dlos f present => Sys2Proof.Machine.execDlos f present s
  | .controllerPortSend handle len bytes mark => Sys2Proof.Machine.execControllerPortSend handle len bytes mark s
  | .unknownOpcode op => Sys2Proof.Machine.execUnknownOpcode op s

end Sys2Proof.Machine
end

