-- ==== Sys2Proof/Machine/Step.lean ====
section
/-! DEFINITION. The step: the command at the front of the queue is carried out with the rest of the queue; on an empty queue
one cycle of the TIME clock passes. -/
namespace Sys2Proof.Machine

/-- A cycle of the TIME clock with no command (R192, R205; DESIGN CHOICE, log entry 3). -/
def idle (s : State) : State := s.elapse 1

/-- A step of the terminal. -/
def step (s : State) : Host.Outcome State Fault Refusal :=
  match s.pending with
  | [] => .next (idle s)
  | c :: rest => exec c { s with pending := rest }

/-- The state with the command that a table word spells put at the front of its queue; unchanged where it spells none. -/
def State.withFetchWord (s : State) (nbits w : Nat) : State :=
  match Sys2Proof.decodeTableWord nbits w with
  | some c => { s with pending := c :: s.pending }
  | none => s

end Sys2Proof.Machine
end

