-- ==== Sys2Proof/Safety.lean ====
section
/-! DEFINITION. What counts as a safe state and a safe step, in the terms the statements use. -/
namespace Sys2Proof.Machine

/-- The register file is in its canonical form: addresses rise, and no entry equals what an unlisted address reads as. -/
abbrev State.regsOk (s : State) : Prop := swf regReset 0 s.regs = true

/-- A memory of bytes is in its canonical form: unlisted bytes read 0. -/
def Memory.wf (m : Store Byte) : Bool := swf (fun _ => 0) 0 m

/-- The controllers' memories are in their canonical form. -/
abbrev State.memOk (s : State) : Prop := Memory.wf s.sram = true

/-- The tallies are in their canonical form. -/
abbrev State.tallyOk (s : State) : Prop := swf (fun _ => 0) 0 s.tally = true

/-- The registers, the memories and the tallies are in their canonical forms: no address twice, none that reads as an
unlisted one. -/
abbrev State.Ok (s : State) : Prop := s.regsOk ∧ s.memOk ∧ s.tallyOk

/-- No register but those at the addresses listed has changed. -/
abbrev regsKept (as : List Nat) (s t : State) : Prop := ∀ a, a ∉ as → t.reg a = s.reg a

/-- No tally but those of the sources listed has changed. -/
abbrev talliesKept (ns : List Nat) (s t : State) : Prop := ∀ n, n ∉ ns → t.tallyOf n = s.tallyOf n

/-- Nothing but the registers at the addresses listed has changed. -/
abbrev onlyRegs (as : List Nat) (s t : State) : Prop := { t with regs := s.regs } = s ∧ regsKept as s t

/-- Nothing but the registers at the addresses listed and the tallies of the sources listed has changed. -/
abbrev onlyRegsTallies (as ns : List Nat) (s t : State) : Prop :=
  { t with regs := s.regs, tally := s.tally } = s ∧ regsKept as s t ∧ talliesKept ns s t

/-- Every register from address `lo` up to `hi` reads as after reset, but those that `p` excepts. -/
abbrev regsFresh (lo hi : Nat) (p : Nat → Prop) (t : State) : Prop := ∀ a, lo ≤ a → a < hi → ¬ p a → t.reg a = regReset a

/-- No register from address `lo` up to `hi` has changed, but those that `p` excepts. -/
abbrev regsSame (lo hi : Nat) (p : Nat → Prop) (s t : State) : Prop := ∀ a, lo ≤ a → a < hi → ¬ p a → t.reg a = s.reg a

/-- An address can be reached: the clock that serves it runs and its power domain is neither gated nor at rest. -/
abbrev State.reachable (s : State) (addr : Nat) : Prop :=
  s.hangs addr = false ∧ s.gated (domainOf addr).val = false ∧ s.domainStopped (domainOf addr) = false

/-- A register description is well made: every field lies within its word, and no two fields of a word share a bit. -/
def RegDesc.wellMade (r : RegDesc) : Bool :=
  r.fields.all (fun f => f.lo ≤ f.hi && f.hi ≤ 31 && f.word < r.wide) &&
    r.fields.zipIdx.all (fun x => r.fields.zipIdx.all (fun y => x.2 = y.2 || x.1.word ≠ y.1.word || x.1.hi < y.1.lo || y.1.hi < x.1.lo))

/-- A parse unit holds the pass `r` and comes to an instruction word `w` of opcode `op` that may run: the step check and the
fetch pass, and no copy of the word is bad (R265, R268, R277). -/
abbrev State.fetches (s : State) (p : Pipe) (u : ParseUnit) (op : Nat) (w : Word) (r : ParseRun) : Prop :=
  s.unitRun p.val u.val = some r ∧ r.steps < 64 ∧ r.pc ≤ 2047 ∧
    s.parseWord r.pass.parity (parseBase p.val + 4 * r.pc) = w ∧ w.field 31 26 = op ∧ parseReserved op w = true ∧
    s.copiesBad r.pass.parity (parseBase p.val + 4 * r.pc) = 0

/-- A pass after one more step, at the next instruction. -/
def ParseRun.stepped (r : ParseRun) : ParseRun := { r with steps := r.steps + 1, pc := r.pc + 1 }

/-- A DSP core runs, its pipeline holds no delayed write, branch or judgement, and it comes to an instruction word `w` of
opcode `op` that does not stand at a loop end. -/
abbrev State.dspAt (s : State) (k : Core) (op : Nat) (w : Word) : Prop :=
  s.issues k = true ∧ (s.core k).fetch = w ∧ w.field 31 26 = op ∧
    (s.core k).judge = none ∧ (s.core k).late = [] ∧ (s.core k).loads = [] ∧ (s.core k).old = [] ∧
    (s.core k).slots = 0 ∧ (s.core k).atEnd (s.core k).next = none ∧ s.regsOk

/-- A core has gone on to its next instruction; of its registers only those whose codes are listed have changed, and no
memory, timer, interrupt register or capture setting of it. -/
abbrev dspNext (cs : List Nat) (k : Core) (s t : State) : Prop :=
  (t.core k).next = ((s.core k).next + 1) % 2 ^ 15 ∧ (∀ c, c ∉ cs → (t.core k).hw c = (s.core k).hw c) ∧
    (t.core k).prog = (s.core k).prog ∧ (t.core k).x = (s.core k).x ∧ (t.core k).y = (s.core k).y ∧
    (t.core k).ien = (s.core k).ien ∧ (t.core k).ipend = (s.core k).ipend ∧ (t.core k).caps = (s.core k).caps ∧
    t.get (DSP_STATUS_PC k.engine.n k.idx.val) = (s.core k).next % 2 ^ 15 ∧
    t.count (DSP_CNT k.engine.n k.idx.val 1) = (s.count (DSP_CNT k.engine.n k.idx.val 1) + 1) % 2 ^ 48

/-- A core has taken vector `v`: IPC and ISW hold the next instruction's address and SW, IE and LEN are clear, and control
is at the vector. -/
abbrev dspVector (v : Nat) (k : Core) (s t : State) : Prop :=
  (t.core k).next = 4 * v ∧ (t.core k).hw 0x36 = ((s.core k).next + 1) % 2 ^ 15 ∧ (t.core k).hw 0x37 = (s.core k).hw 0x35 ∧
    (t.core k).hw 0x35 = ((s.core k).hw 0x35 &&& 0x3F) ∧ (t.core k).entered = true

/-- A step is safe: it answers a next state, never a fault or a refusal. -/
def stepSafe (s : State) : Prop := ∃ t, step s = .next t

end Sys2Proof.Machine
end

