-- ==== Sys2Proof/WellFormed.lean ====
section
/-! DEFINITION. Well-formed commands: every operand that the spec gives a width or a range lies in it. The meanings are total
on the others too. -/
namespace Sys2Proof

/-- A serial number: a 4-byte vendor ID and a 4-byte vendor-specific part (R74). -/
def Serial.wf (x : Serial) : Bool := decide (x.vid < 2 ^ 32) && decide (x.ssn < 2 ^ 32)

/-- The header of a downstream PLOAM message: a 10-bit address and an 8-bit sequence number (R67, R68). -/
def PloamHdr.wf (h : PloamHdr) : Bool := decide (h.onuId < 1024) && decide (h.seq < 256)

/-- A Burst_Profile message names one of four profiles (R546). -/
def ProfileMsg.wf (p : ProfileMsg) : Bool := decide (p.index < 4)

/-- The body of a downstream PLOAM message (Table 03-4). -/
def PloamBody.wf : PloamBody → Bool
  | .burstProfile p => p.wf
  | .assignOnuId sn id => sn.wf && decide (id < 1024)
  | .rangingTime _ v => decide (v.natAbs < 2 ^ 32)
  | .disableSerialNumber sn _ => sn.wf
  | .assignAllocId a _ => decide (a < 16384)
  | .other t => decide (t < 256)
  | .deactivateOnuId | .requestRegistration | .keyControl _ | .sleepAllow _ | .tuningControl => true

/-- A downstream PLOAM message. -/
def PloamMsg.wf (m : PloamMsg) : Bool := m.hdr.wf && m.body.wf

/-- An allocation structure: the widths of Table 06-2. -/
def Alloc.wf (a : Alloc) : Bool :=
  decide (a.allocId < 16384) && decide (a.start < 65536) && decide (a.grant < 65536) && decide (a.profile < 4)

/-- An XGEM unit: the widths of Table 04-3, and as many bytes of payload as it was received with. -/
def XgemUnit.wf (u : XgemUnit) : Bool :=
  decide (u.pli < 16384) && decide (u.keyIdx < 4) && decide (u.portId < 65536) && decide (u.data.length ≤ 16383)

/-- A downstream frame: a 64-bit synchronisation word, a 51-bit superframe counter, and well-formed parts. -/
def DsFrame.wf (f : DsFrame) : Bool :=
  decide (f.psyncDiff ≤ 64) && decide (f.sfc < 2 ^ 51) && f.bwmap.all Alloc.wf && f.ploam.all PloamMsg.wf &&
    f.xgem.all XgemUnit.wf

/-- A bonded SDU carries an 8-byte tag (R107). -/
def BondSdu.wf (x : BondSdu) : Bool := decide (x.tag.length = 8) && decide (x.portId < 65536) && decide (x.keyIdx < 4)

/-- A telemetry update has a value for each of the four channels. -/
def Telemetry.wf (t : Telemetry) : Bool :=
  decide (t.txPwr.length = 4) && decide (t.needBias.length = 4) &&
    decide (t.rxPwr.length = 4) && decide (t.apdV.length = 4)

/-- A slot binding: a 14-bit Alloc-ID, at most eight lane bits. -/
def SlotBinding.wf (b : SlotBinding) : Bool := decide (b.allocId < 16384) && decide (b.ports.length ≤ 8)

/-- A flit's number has 8 bits (Table 09-4). -/
def Flit.wf (f : Flit) : Bool := decide (f.seq < 256)

/-- A MAC control frame: quanta and opcode of 16 bits. -/
def MacControl.wf : MacControl → Bool
  | .pause q => decide (q < 65536)
  | .pfc cs => cs.all (fun x => decide (x.2 < 65536))
  | .other op => decide (op < 65536)

/-- The overhead of a received frame: a label of 8 bits. -/
def CbrOverhead.wf (o : CbrOverhead) : Bool :=
  match o.label with
  | some l => decide (l < 256)
  | none => true

/-- An access: a 32-bit address, and 1, 2, 4 or 8 bytes. -/
def okAccess (addr size : Nat) : Bool := decide (addr < 2 ^ 32) && [1, 2, 4, 8].contains size

/-- A tie frame: a header of 32 bytes and what follows it (Table 01-3). -/
def okTie (hdr : List Byte) (pay : TiePayload) : Bool := decide (hdr.length = 32) && decide (pay.bytes.length ≤ 65535)

/-- A command whose operands lie in the ranges of the spec. -/
def Instr.wf : Instr → Bool
  | .registerWrite _ addr size _ => okAccess addr size
  | .wideValueRead _ addr size => okAccess addr size
  | .wideValueWrite _ addr size _ => okAccess addr size
  | .rcFieldRead _ addr size => okAccess addr size
  | .clientFrameReceive _ f => decide (f.bytes.length ≤ 65535)
  | .tieFrameReceive _ hdr pay => okTie hdr pay
  | .lineTieFrameReceive _ hdr pay => okTie hdr pay
  | .telemetryUpdate _ t => t.wf
  | .downstreamFrame _ _ f => f.wf
  | .frameLock _ _ diffs _ => diffs.all (fun d => decide (d ≤ 64))
  | .burstProfile _ _ h p => h.wf && p.wf
  | .assignOnuId _ _ h sn id => h.wf && sn.wf && decide (id < 1024)
  | .rangingTime _ _ h _ v => h.wf && decide (v.natAbs < 2 ^ 32)
  | .deactivateOnuId _ _ h => h.wf
  | .disableSerialNumber _ _ h sn => h.wf && sn.wf
  | .enableSerialNumber _ _ h sn => h.wf && sn.wf
  | .requestRegistration _ _ h => h.wf
  | .assignAllocId _ _ b => b.wf
  | .keyControl _ _ h _ => h.wf
  | .sleepAllow _ _ h _ => h.wf
  | .tuningControl _ _ h => h.wf
  | .unsupportedPloam _ _ h type => h.wf && decide (type < 256)
  | .serialNumberGrant _ g => g.wf
  | .rangingGrant _ _ g => g.wf
  | .bondedSduArrival _ _ x => x.wf
  | .grantReceive _ _ g => g.wf
  | .pxModeWrite _ mode => decide (mode < 4)
  | .switchoverTrigger causes => causes.all (fun k => decide (1 ≤ k) && decide (k ≤ 7))
  | .protectionSwitchCommand v => decide (v < 256)
  | .laneModeWrite _ _ mode => decide (mode < 16)
  | .flitReceive _ _ f => f.wf
  | .pauseFrameReceive _ f => f.wf
  | .passReady src _ _ => decide (src < 131)
  | .tableAdd _ addr => decide (addr < 2 ^ 32)
  | .tableRemove _ addr => decide (addr < 2 ^ 32)
  | .dataParity _ tile => decide (tile < 387072)
  | .tileTestDone tile _ => decide (tile < 387072)
  | .shaperWrite _ s _ => decide (s < 9664)
  | .meterInstall _ m _ => decide (m < 65536)
  | .cfgParity addr _ => decide (addr < 2 ^ 32)
  | .pawnWrite _ _ code => decide (code < 2)
  | .keySlotInstall _ sa slot _ => decide (slot < if sa then 8192 else 256)
  | .keyParity sa slot _ => decide (slot < if sa then 8192 else 256)
  | .segmentCut _ payload => decide (payload.length = 1024)
  | .cbrFrameMonitor _ o => o.wf
  | .capGo _ _ mode trig => decide (mode < 4) && decide (trig < 4)
  | .captureComplete _ _ samples _ sfc _ => decide (samples.length = 65536) && decide (sfc < 2 ^ 51)
  | .flashRead _ off len => decide (off < 2 ^ 24) && decide (len < 2 ^ 16)
  | .flashWrite _ off _ => decide (off < 2 ^ 24)
  | .flashErase _ off len => decide (off < 2 ^ 24) && decide (len < 2 ^ 24)
  | .hostRead n addr _ => decide (n < 256) && decide (addr < 2 ^ 32)
  | .hostWrite addr _ _ => decide (addr < 2 ^ 32)
  | .swset _ g _ => decide (g < 48)
  | .rstBlockGo _ target index => decide (target < 4) && decide (index < 128)
  | .controllerPortSend _ _ bytes _ => decide (bytes.length ≤ 65535)
  | .unknownOpcode op => decide (op < 256)
  | .clientFrameTransmit .. | .engineStatusMessage .. | .hubStatusMessage .. | .txInhibitAccept .. | .txInhibitRelease ..
  | .rogueDetect .. | .rogueRestore .. | .tempWarn .. | .tempGateChange .. | .losChange .. | .equaliserTrain ..
  | .actEn .. | .chJoin .. | .deact .. | .lossOfLock .. | .defectWindowClose .. | .discoveryTimeout .. | .to1Expiry ..
  | .to2Expiry .. | .burstGateOverrun .. | .ponKeyGen .. | .ponKeyLoad .. | .skewWindowExpiry .. | .bondWindowClose ..
  | .sitOutEntry .. | .sitHoldExpiry .. | .bondIn .. | .bondOut .. | .bondStrikeExpiry .. | .bondRestore ..
  | .usResync .. | .memberMaskSet .. | .slotFree .. | .qportDisable .. | .burstAssembly .. | .burstLaunch ..
  | .burstEnd .. | .pmEnter .. | .pmExit .. | .tlowExpiry .. | .tawareExpiry .. | .pmWake .. | .wakeComplete ..
  | .pxPrimaryWrite .. | .raise .. | .settle .. | .tieLinkClaimTimeout .. | .stepDigest .. | .restep .. | .stepMarkSend ..
  | .stepMark .. | .stepBack .. | .pxSwitch .. | .guardExpiry .. | .readyPoint .. | .recoveryExpiry .. | .servoSample ..
  | .servoLock .. | .servoHoldover .. | .domainTimeWrite .. | .ptpSampleWrite .. | .todArm .. | .todAnnouncedFrame ..
  | .todStop .. | .houseSelect .. | .slewDone .. | .freqLost .. | .freqRefReturn .. | .tsTxPop .. | .tinEdgeCapture ..
  | .tinStampPop .. | .toutPulse .. | .actionArm .. | .actionFire .. | .port100Write .. | .laneEnable .. | .signalDetect ..
  | .cdrLock .. | .trainingComplete .. | .polarityTry .. | .wordLock .. | .alignmentLock .. | .stageTimeout ..
  | .laneDown .. | .laneStrikeExpiry .. | .laneRestore .. | .tieLinkTrain .. | .tieRetrain .. | .tieStrikeExpiry ..
  | .tieRestore .. | .prbsEnable .. | .injOne .. | .lpiTxEnter .. | .lpiTxWake .. | .lpiRxChange .. | .pauseExpiry ..
  | .pauseSend .. | .mmVerify .. | .passDispatch .. | .parseNop .. | .parseLdf .. | .parseLdi .. | .parseLdih ..
  | .parseAdd .. | .parseSub .. | .parseAnd .. | .parseOr .. | .parseXor .. | .parseAddi .. | .parseAndi ..
  | .parseShli .. | .parseShri .. | .parseGet .. | .parseBr .. | .parseBri .. | .parseSel .. | .parseMove ..
  | .parseDone .. | .parseExc .. | .parseKey .. | .parseKcpy .. | .parseFlag .. | .parseLen .. | .parseLchk ..
  | .parsePopl .. | .parseResultRelease .. | .parseUnitParity .. | .parseStrikeExpiry .. | .parseUnitRestore ..
  | .passClassify .. | .commitNow .. | .commitEdge .. | .roundCommit .. | .drainEnd .. | .sweepDone .. | .forcedRetire ..
  | .scrubBank .. | .bankRetired .. | .bankStrikeExpiry .. | .repairDone .. | .bankRestore .. | .bmAlloc ..
  | .bmFree .. | .bmShare .. | .handRefill .. | .bmInit .. | .bmRecount .. | .recountDone .. | .bmUnhold ..
  | .ringParity .. | .frameEnqueue .. | .frameSelect .. | .tlApply .. | .tlCancel .. | .tlChange .. | .turnStart ..
  | .queueFlush .. | .stateParity .. | .cipherBulkEncrypt .. | .cipherBulkVerify .. | .cipherSuspend .. | .cipherResume ..
  | .cmacGen .. | .cmacVer .. | .gcmEnc .. | .gcmDec .. | .wrap .. | .unwrap .. | .kdf .. | .gen .. | .sendLine ..
  | .deadline .. | .jobDone .. | .nextPnWrite .. | .cipherEngineParity .. | .cipherStrikeExpiry .. | .cipherRestore ..
  | .framerEnable .. | .inFrame .. | .oof .. | .dlof .. | .failureChange .. | .pmSecond .. | .pmSecondEntry ..
  | .segmentReceive .. | .segmentPlayout .. | .clkChg .. | .resync .. | .dspRun .. | .dspStop .. | .dspNop ..
  | .dspBr .. | .dspCall .. | .dspJr .. | .dspLoop .. | .loopEnd .. | .dspRti .. | .dspTrap .. | .dspHalt ..
  | .dspSwop .. | .dspMov .. | .dspLdi .. | .dspLd .. | .dspSt .. | .dspLdp .. | .dspAlu .. | .dspAlui .. | .dspMac ..
  | .dspMsu .. | .dspMpy .. | .dspDmac .. | .dspAcop .. | .dspAcld .. | .dspExt .. | .dspMaxx .. | .dspMinx ..
  | .interruptEntry .. | .dspTimerExpiry .. | .kick .. | .watchdogHalf .. | .watchdogHalt .. | .bell .. | .dspMboxIn ..
  | .dspMboxAck .. | .dspMboxOut .. | .dspMboxOutClear .. | .capRelease .. | .dspParity .. | .dspStrikeExpiry ..
  | .coreRestore .. | .boot .. | .settingsRestore .. | .settingsGet .. | .settingsPut .. | .settingsDelete ..
  | .journaled .. | .writeInhibit .. | .journalResume .. | .pfailMonitorArm .. | .powerFailEvent .. | .gaspRecoveryReset ..
  | .supplyWrite .. | .mgSend .. | .mgPop .. | .hostlinkStatus .. | .hostlinkPut .. | .hostlinkGet .. | .hostlinkReset ..
  | .reboot .. | .tallyDeltaArrive .. | .permitWrite .. | .restRequest .. | .restDomainAnswer .. | .restDelayExpiry ..
  | .restWake .. | .restExitDone .. | .pwrExit .. | .actionLeadWake .. | .powerGateWrite .. | .accessWake ..
  | .por .. | .resetNLow .. | .resetNDriveEnd .. | .brownout .. | .thermalReset .. | .thermNChange .. | .watchdogExpiry ..
  | .wdogKick .. | .rstFull .. | .rstModule .. | .heReboot .. | .heRebootReset .. | .rstEngine .. | .rstTenant ..
  | .rstCarrier .. | .rstHold .. | .accessTimeout .. | .resetRelease .. | .clockFail .. | .gpioEdge .. | .tieLaneLockLoss ..
  | .checkerLock .. | .wakeHoldExpiry .. | .dlos .. => true

end Sys2Proof
end

