-- ==== Sys2Proof/Certificates/Slice0/Obligations.lean ====
section
/-! DEFINITION. The statements about the terminal, in the order of the chapters of spec/. -/

section
open Sys2Proof Sys2Proof.Machine

/-- O1. A step carries out the command at the front of the queue with the rest of the queue -/
def Obligations.StepRunsFront : Prop :=
  ∀ (i : Instr) (q : List Instr) (s : State), s.pending = i :: q → step s = exec i { s with pending := q }

/-- O2. On an empty queue a step lets one cycle of the TIME clock pass -/
def Obligations.IdleTick : Prop :=
  ∀ (s : State), s.pending = [] → ∃ t, step s = .next t ∧ t.now = s.now + 1 ∧ t.pending = []

/-- O3. Every command answers a next state in every state -/
def Obligations.EveryCommandAnswers : Prop :=
  ∀ (i : Instr) (s : State), ∃ t, exec i s = .next t

/-- O4. No command changes the queue of waiting commands -/
def Obligations.QueueUntouched : Prop :=
  (∀ (i : Instr) (s : State) (t : State), exec i s = .next t → t.pending = s.pending) ∧
  (∀ (s : State) (t : State), step s = .next t → t.pending = s.pending.tail)

/-- O5. Every step keeps the canonical form of the registers, the memories and the tallies -/
def Obligations.StepKeepsCanonical : Prop :=
  ∀ (s : State) (t : State), s.Ok → step s = .next t → t.Ok

/-- O6. After reset every register reads its Reset column, no command waits and the canonical form holds -/
def Obligations.ResetState : Prop :=
  (State.reset.Ok ∧ State.reset.pending = [] ∧ State.reset.regs = [] ∧ State.reset.sram = [] ∧ State.reset.tally = [] ∧ State.reset.now = 0) ∧
  (∀ (x : Nat), State.reset.reg x = regReset x) ∧
  (∀ (n : Nat), n < 4 → State.reset.reg (TE_TOUT_PERIOD n) = 1000000000) ∧
  (∀ (e : Engine), State.reset.reg (TC_TOD_ASYM e.n) = 0x80000000 ∧ State.reset.get (PFE_STATUS_RX_LOS e.n) = 15) ∧
  (State.reset.reg (TC_SERIAL_NUM 0) = 2 * Config.serialNumber ∧ State.reset.reg (TC_SERIAL_NUM 1) = 2 * Config.serialNumber + 1)

/-- O7. Register accesses: only aligned 32-bit ones from listed agents are served; refusals answer 0, change nothing and are counted -/
def Obligations.RefusedAccesses : Prop :=
  (∀ (a : Agent) (x : Nat) (n : Nat) (w : Word) (s : State), s.stopped.contains a = false → (n ≠ 4 ∨ x % 4 ≠ 0 ∨ a ∉ s.writersOf x) → exec (.registerWrite a x n w) s = .next (s.refuse a) ∧ exec (.wideValueWrite a x n w) s = .next (s.refuse a)) ∧
  (∀ (a : Agent) (x : Nat) (n : Nat) (s : State), s.stopped.contains a = false → (n ≠ 4 ∨ x % 4 ≠ 0 ∨ a ∉ s.readersOf x) → exec (.wideValueRead a x n) s = .next ((s.refuse a).answer a 0) ∧ exec (.rcFieldRead a x n) s = .next ((s.refuse a).answer a 0)) ∧
  (∀ (a : Agent) (x : Nat) (n : Nat) (w : Word) (s : State), s.stopped.contains a = true → exec (.registerWrite a x n w) s = .next s ∧ exec (.wideValueWrite a x n w) s = .next s ∧ exec (.wideValueRead a x n) s = .next s ∧ exec (.rcFieldRead a x n) s = .next s) ∧
  (∀ (a : Agent) (m : Nat) (s : State), s.Ok → agentBlock a = some m → (s.refuse a).count (MG_CNT m 4) = (s.count (MG_CNT m 4) + 1) % 2 ^ 48 ∧ onlyRegs [MG_CNT m 4, MG_CNT m 4 + 4] s (s.refuse a)) ∧
  (∀ (a : Agent) (w : Word) (s : State), sget (fun _ => 0) (s.answer a w).rdata (agentNum a) = w ∧ (s.answer a w).regs = s.regs)

/-- O8. What a written word does to a field by its access code, and what a read of a field returns -/
def Obligations.AccessCodes : Prop :=
  (∀ (r : RegDesc) (f : FieldDesc) (i : Nat) (a : Agent) (old : Word) (w : Word), r.wellMade = true → f ∈ r.fields → f.word = i → f.takesFrom a = true → (f.acc = .rw ∨ f.acc = .wo) → (r.write i a old w).field f.hi f.lo = (if f.takes (w.field f.hi f.lo) then w.field f.hi f.lo else old.field f.hi f.lo)) ∧
  (∀ (r : RegDesc) (f : FieldDesc) (i : Nat) (a : Agent) (old : Word) (w : Word) (b : Nat), r.wellMade = true → f ∈ r.fields → f.word = i → f.takesFrom a = true → f.lo ≤ b → b ≤ f.hi → (f.acc = .w1c → (r.write i a old w).getLsbD b = (old.getLsbD b && !w.getLsbD b)) ∧ (f.acc = .w1s → (r.write i a old w).getLsbD b = (old.getLsbD b || w.getLsbD b))) ∧
  (∀ (r : RegDesc) (f : FieldDesc) (i : Nat) (a : Agent) (old : Word) (w : Word), r.wellMade = true → f ∈ r.fields → f.word = i → (f.acc = .ro ∨ f.acc = .rc ∨ f.takesFrom a = false) → (r.write i a old w).field f.hi f.lo = old.field f.hi f.lo) ∧
  (∀ (r : RegDesc) (i : Nat) (a : Agent) (old : Word) (w : Word) (b : Nat), r.wellMade = true → (∀ f ∈ r.fields, f.word = i → b < f.lo ∨ f.hi < b) → (r.write i a old w).getLsbD b = old.getLsbD b ∧ (r.read i w).getLsbD b = false) ∧
  (∀ (r : RegDesc) (f : FieldDesc) (i : Nat) (w : Word), r.wellMade = true → f ∈ r.fields → f.word = i → (r.read i w).field f.hi f.lo = (if f.acc = .wo then 0 else w.field f.hi f.lo)) ∧
  (∀ rs ∈ [regsPFE, regsTC, regsBOND, regsBURST, regsPX, regsDSP, regsTE, regsCM, regsCL, regsPA, regsCX, regsBM, regsQS, regsCE, regsCF, regsEV, regsKP, regsMG], ∀ r ∈ rs, r.wellMade = true)

/-- O9. A served write of a register of the bond and receive blocks that asks for no operation of its own: its fields by their access codes -/
def Obligations.RegisterWrites : Prop :=
  (∀ (x : Nat) (w : Word) (r : RegDesc) (i : Nat) (s : State), s.stopped.contains .carrier = false → x % 4 = 0 → regAt x = some (r, i) → r.wide = 1 → Agent.carrier ∈ r.writers → s.reachable x → (0x08400000 ≤ x ∧ x < 0x08800000 ∨ 0x0C400000 ≤ x ∧ x < 0x0C800000) → x ≠ BOND_CTRL 0 → x ≠ BOND_CTRL 1 → exec (.registerWrite .carrier x 4 w) s = .next (s.setReg x (r.write i .carrier (s.reg x) w))) ∧
  (∀ (x : Nat) (w : Word) (r : RegDesc) (i : Nat) (s : State), s.stopped.contains .carrier = false → x % 4 = 0 → regAt x = some (r, i) → r.wide = 1 → Agent.carrier ∈ r.writers → s.reachable x → (0x08C00000 ≤ x ∧ x < 0x09000000 ∨ 0x0CC00000 ≤ x ∧ x < 0x0D000000) → x ≠ PFE_CTRL 0 → x ≠ PFE_CTRL 1 → exec (.registerWrite .carrier x 4 w) s = .next (s.setReg x (r.write i .carrier (s.reg x) w)))

/-- O10. Reads of wide values take and use snapshots; a read of an extreme restarts it from the present level -/
def Obligations.WideReads : Prop :=
  (∀ (x : Nat) (r : RegDesc) (s : State), s.stopped.contains .carrier = false → x % 4 = 0 → regAt x = some (r, 0) → 1 < r.wide → Agent.carrier ∈ r.readers → s.reachable x → 0x08000000 ≤ x → x < 0x10000000 → exec (.wideValueRead .carrier x 4) s = .next (snapshot .carrier x (s.viewWords x r.wide) s)) ∧
  (∀ (x : Nat) (r : RegDesc) (i : Nat) (y : Snapshot) (s : State), s.stopped.contains .carrier = false → x % 4 = 0 → regAt x = some (r, i) → 1 < r.wide → 0 < i → Agent.carrier ∈ r.readers → s.reachable x → 0x08000000 ≤ x → x < 0x10000000 → s.snaps.find? (fun z => z.agent = .carrier && z.addr = x - 4 * i) = some y → exec (.wideValueRead .carrier x 4) s = .next (s.answer .carrier (y.words.getD i 0))) ∧
  (∀ (x : Nat) (r : RegDesc) (i : Nat) (s : State), s.stopped.contains .carrier = false → x % 4 = 0 → regAt x = some (r, i) → 1 < r.wide → 0 < i → Agent.carrier ∈ r.readers → s.reachable x → 0x08000000 ≤ x → x < 0x10000000 → s.snaps.find? (fun z => z.agent = .carrier && z.addr = x - 4 * i) = none → exec (.wideValueRead .carrier x 4) s = .next (s.answer .carrier (s.view x))) ∧
  (∀ (b : Nat) (s : State), b < 64 → s.stopped.contains .tenant = false → s.reachable (BM_BAG_LOW b) → exec (.rcFieldRead .tenant (BM_BAG_LOW b) 4) s = .next ((s.answer .tenant (s.view (BM_BAG_LOW b))).put (BM_BAG_LOW_LOW b) (s.get (BM_BAG_FREE_FREE b)))) ∧
  (∀ (e : Engine) (s : State), s.stopped.contains .carrier = false → s.reachable (BOND_BUF e.n) → exec (.rcFieldRead .carrier (BOND_BUF e.n) 4) s = .next ((s.answer .carrier (s.view (BOND_BUF e.n))).put ⟨BOND_BUF e.n, 31, 16⟩ (s.get ⟨BOND_BUF e.n, 15, 0⟩))) ∧
  (∀ (e : Engine) (s : State), s.stopped.contains .carrier = false → s.reachable (BURST_ROOM e.n) → exec (.rcFieldRead .carrier (BURST_ROOM e.n) 4) s = .next ((s.answer .carrier (s.view (BURST_ROOM e.n))).put ⟨BURST_ROOM e.n, 28, 16⟩ (s.get ⟨BURST_ROOM e.n, 12, 0⟩)))

/-- O11. Wide writes: lower words are held aside, the highest word installs the whole value, and nanoseconds out of range leave it -/
def Obligations.WideWrites : Prop :=
  (∀ (e : Engine) (i : Nat) (w : Word) (s : State), i < 3 → s.stopped.contains .carrier = false → s.reachable (TC_TOD_TIME e.n + 4 * i) → exec (.wideValueWrite .carrier (TC_TOD_TIME e.n + 4 * i) 4 w) s = .next (holdWord .carrier (TC_TOD_TIME e.n + 4 * i) w s)) ∧
  (∀ (e : Engine) (w : Word) (ws : List Word) (s : State), s.Ok → s.stopped.contains .carrier = false → s.reachable (TC_TOD_TIME e.n + 12) → ws = s.wideWords .carrier (TC_TOD_TIME e.n) 4 w → (ws.getD 2 0).field 29 0 ≤ 999999999 → ∃ t, exec (.wideValueWrite .carrier (TC_TOD_TIME e.n + 12) 4 w) s = .next t ∧ t.reg (TC_TOD_TIME e.n) = ws.getD 0 0 ∧ t.reg (TC_TOD_TIME e.n + 4) = ws.getD 1 0 ∧ (t.reg (TC_TOD_TIME e.n + 8)).field 29 0 = (ws.getD 2 0).field 29 0 ∧ t.reg (TC_TOD_TIME e.n + 12) = w ∧ (∀ i < 4, t.heldWord .carrier (TC_TOD_TIME e.n + 4 * i) = none) ∧ regsKept [TC_TOD_TIME e.n, TC_TOD_TIME e.n + 4, TC_TOD_TIME e.n + 8, TC_TOD_TIME e.n + 12] s t) ∧
  (∀ (e : Engine) (w : Word) (s : State), s.stopped.contains .carrier = false → s.reachable (TC_TOD_TIME e.n + 12) → 999999999 < ((s.wideWords .carrier (TC_TOD_TIME e.n) 4 w).getD 2 0).field 29 0 → exec (.wideValueWrite .carrier (TC_TOD_TIME e.n + 12) 4 w) s = .next ((clearHeld .carrier (TC_TOD_TIME e.n) (TC_TOD_TIME e.n + 16) s).refuse .carrier)) ∧
  (∀ (a : Agent) (x : Nat) (w : Word) (s : State), (holdWord a x w s).heldWord a x = some w ∧ (holdWord a x w s).regs = s.regs)

/-- O12. TX_INHIBIT_N and rogue light: which pulses are accepted, and what acceptance, release, detection and restoring change -/
def Obligations.InhibitAndRogueLight : Prop :=
  (∀ (n : Nat) (s : State), n < 20 → exec (.txInhibitAccept n) s = .next s) ∧
  (∀ (n : Nat) (s : State), 20 ≤ n → n < 100 → (exec (.txInhibitAccept n) s = .next s.used ∨ exec (.txInhibitAccept n) s = exec (.txInhibitAccept 100) s.used)) ∧
  (∀ (n : Nat) (s : State), 100 ≤ n → (∀ e c, (s.ch e c).gate = false) → exec (.txInhibitAccept n) s = .next (pfeFlag .lb 14 ((pfeFlag .la 14 ((s.occur 81).putB (PFE_STATUS_INHIBIT 0) true)).putB (PFE_STATUS_INHIBIT 1) true))) ∧
  (∀ (n : Nat) (s : State), 100 ≤ n → s.inhibited .la = true → s.engineHeld .la = false → s.Ok → exec (.txInhibitRelease n) s = .next (releaseInhibit .lb ((s.putB (PFE_STATUS_INHIBIT 0) false).modLine .la (fun l => { l with inhFrom := s.now + 2000 })))) ∧
  (∀ (n : Nat) (s : State), n < 100 → exec (.txInhibitRelease n) s = .next s) ∧
  (∀ (e : Engine) (c : Ch) (n : Nat) (s : State), s.mayEmit e c = false → 200 ≤ n → (s.ch e c).gate = false → exec (.rogueDetect e c n) s = .next ((((s.putB ((PFE_STATUS_ROGUE_OFF e.n).bit c.val) true) |> pfeFlag e c.val).putB ((PFE_STATUS_LATCH e.n).bit c.val) false).putB ((PFE_STATUS_LIGHT e.n).bit c.val) false)) ∧
  (∀ (e : Engine) (c : Ch) (n : Nat) (s : State), (s.mayEmit e c = true ∨ n < 200) → exec (.rogueDetect e c n) s = .next s) ∧
  (∀ (e : Engine) (m : BitVec 4) (s : State), s.Ok → s.stopped.contains .carrier = false → ∃ t, exec (.rogueRestore .carrier e m) s = .next t ∧ (∀ c ∈ channels, t.isSet ((PFE_STATUS_ROGUE_OFF e.n).bit c.val) = (s.isSet ((PFE_STATUS_ROGUE_OFF e.n).bit c.val) && !m.getLsbD c.val) ∧ t.isSet ((PFE_STATUS_LATCH e.n).bit c.val) = s.isSet ((PFE_STATUS_LATCH e.n).bit c.val)) ∧ onlyRegs [PFE_STATUS e.n, PFE_CTRL e.n] s t) ∧
  (∀ (a : Agent) (e : Engine) (m : BitVec 4) (s : State), a ≠ .carrier → s.stopped.contains a = false → exec (.rogueRestore a e m) s = .next (s.refuse a))

/-- O13. Plate temperature, loss of signal, equaliser taps and telemetry: thresholds, states and flags -/
def Obligations.CoolerAndReceivers : Prop :=
  (∀ (e : Engine) (d : Int) (s : State), -100 ≤ d → d ≤ 100 → exec (.tempWarn e d) s = .next (s.putB (PFE_STATUS_TEMP_OK e.n) (-50 ≤ d ∧ d ≤ 50))) ∧
  (∀ (e : Engine) (d : Int) (s : State), (d < -100 ∨ 100 < d) → exec (.tempWarn e d) s = .next (pfeFlag e 12 (s.putB (PFE_STATUS_TEMP_OK e.n) false))) ∧
  (∀ (e : Engine) (d : Int) (s : State), s.Ok → (d < -300 ∨ 300 < d) → s.isSet (PFE_STATUS_TEMP_GATE e.n) = false → (s.ch e 0).gate = false → (s.ch e 1).gate = false → (s.ch e 2).gate = false → (s.ch e 3).gate = false → exec (.tempGateChange e d) s = .next (pfeFlag e 13 ((s.putB (PFE_STATUS_TEMP_OK e.n) false).putB (PFE_STATUS_TEMP_GATE e.n) true))) ∧
  (∀ (e : Engine) (d : Int) (s : State), s.Ok → -100 < d → d < 100 → s.isSet (PFE_STATUS_TEMP_GATE e.n) = true → exec (.tempGateChange e d) s = .next ((s.putB (PFE_STATUS_TEMP_OK e.n) (-50 ≤ d ∧ d ≤ 50)).putB (PFE_STATUS_TEMP_GATE e.n) false)) ∧
  (∀ (e : Engine) (d : Int) (s : State), s.Ok → (if s.isSet (PFE_STATUS_TEMP_GATE e.n) then d ≤ -100 ∨ 100 ≤ d else -300 ≤ d ∧ d ≤ 300) → exec (.tempGateChange e d) s = .next (s.putB (PFE_STATUS_TEMP_OK e.n) (-50 ≤ d ∧ d ≤ 50))) ∧
  (∀ (e : Engine) (c : Ch) (p : Int) (s : State), s.defectsMuted e c = false → s.isSet ((PFE_STATUS_RX_LOS e.n).bit c.val) = false → (s.isSet ((PFE_CTRL_RX_EN e.n).bit c.val) = false ∨ p < -2800) → exec (.losChange e c p) s = .next (breakRuns e c (pfeFlag e (4 + c.val) (s.putB ((PFE_STATUS_RX_LOS e.n).bit c.val) true)))) ∧
  (∀ (e : Engine) (c : Ch) (p : Int) (s : State), s.defectsMuted e c = false → s.isSet ((PFE_STATUS_RX_LOS e.n).bit c.val) = true → s.isSet ((PFE_CTRL_RX_EN e.n).bit c.val) = true → -2700 < p → exec (.losChange e c p) s = .next (pfeFlag e (4 + c.val) (s.putB ((PFE_STATUS_RX_LOS e.n).bit c.val) false))) ∧
  (∀ (e : Engine) (c : Ch) (p : Int) (s : State), (s.defectsMuted e c = true ∨ (if s.isSet ((PFE_STATUS_RX_LOS e.n).bit c.val) then s.isSet ((PFE_CTRL_RX_EN e.n).bit c.val) = false ∨ p ≤ -2700 else s.isSet ((PFE_CTRL_RX_EN e.n).bit c.val) = true ∧ -2800 ≤ p)) → exec (.losChange e c p) s = .next s) ∧
  (∀ (e : Engine) (c : Ch) (s : State), s.locked e c = true → (s.ch e c).wakeReturn = false → exec (.equaliserTrain e c) s = .next (s.modCh e c (fun x => { x with trained := true, wakeReturn := false }))) ∧
  (∀ (e : Engine) (c : Ch) (s : State), s.locked e c = false → exec (.equaliserTrain e c) s = .next s) ∧
  (∀ (e : Engine) (t0 : Telemetry) (s : State), s.Ok → t0.wf = true → s.engineHeld e = false → ∃ t, exec (.telemetryUpdate e t0) s = .next t ∧ t.get (PFE_TEMP_ARRAY_T e.n) = toField 16 t0.plate ∧ t.get (PFE_TEMP_TEC_I e.n) = toField 16 t0.tecI ∧ (∀ c ∈ channels, t.get (PFE_RXMON_RXPWR e.n c.val) = (if t0.rxPwr.getD c.val 0 < -4000 ∨ s.isSet ((PFE_CTRL_RX_EN e.n).bit c.val) = false then 0x8000 else toField 16 (t0.rxPwr.getD c.val 0)) ∧ t.get (PFE_RXMON_APD_V e.n c.val) = t0.apdV.getD c.val 0 % 65536 ∧ t.get (PFE_TXMON_BIAS e.n c.val) = t0.needBias.getD c.val 0 % 65536 ∧ (s.unlit e c = true → t.get (PFE_TXMON_TXPWR e.n c.val) = 0x8000)) ∧ regsKept [PFE_TEMP e.n, PFE_STATUS e.n, PFE_FLAGS e.n, PFE_TXMON e.n 0, PFE_TXMON e.n 1, PFE_TXMON e.n 2, PFE_TXMON e.n 3, PFE_RXMON e.n 0, PFE_RXMON e.n 1, PFE_RXMON e.n 2, PFE_RXMON e.n 3] s t ∧ { t with regs := s.regs, tally := s.tally, chans := s.chans, lines := s.lines, dsp := s.dsp, kp := s.kp } = s)

/-- O14. ACT_EN, CH_JOIN and DEACT: where each write sends the channels, and its refusal to any other agent -/
def Obligations.ActivationByFirmware : Prop :=
  (∀ (e : Engine) (s : State), s.Ok → s.stopped.contains .carrier = false → s.engineHeld e = false → s.act e 0 = 0 → ∃ t, exec (.actEn .carrier e true) s = .next t ∧ t.isSet (TC_ACT_CTRL_ACT_EN e.n) = true ∧ t.act e 0 = 1 ∧ (∀ c ∈ sideChannels, t.act e c = s.act e c)) ∧
  (∀ (e : Engine) (s : State), s.Ok → s.stopped.contains .carrier = false → s.engineHeld e = false → ∃ t, exec (.actEn .carrier e false) s = .next t ∧ t.isSet (TC_ACT_CTRL_ACT_EN e.n) = false ∧ (∀ c ∈ channels, t.act e c = 0)) ∧
  (∀ (e : Engine) (c : Ch) (s : State), s.Ok → s.stopped.contains .carrier = false → s.engineHeld e = false → c ≠ 0 → s.act e 0 = 5 → s.act e c = 0 → (s.ch e c).hold = false → ∃ t, exec (.chJoin .carrier e c true) s = .next t ∧ t.isSet ((TC_ACT_CTRL_CH_JOIN e.n).bit (c.val - 1)) = true ∧ t.act e c = 1 ∧ t.act e 0 = 5) ∧
  (∀ (e : Engine) (c : Ch) (s : State), s.Ok → s.stopped.contains .carrier = false → s.engineHeld e = false → c ≠ 0 → ∃ t, exec (.chJoin .carrier e c false) s = .next t ∧ t.isSet ((TC_ACT_CTRL_CH_JOIN e.n).bit (c.val - 1)) = false ∧ t.act e c = 0 ∧ t.act e 0 = s.act e 0) ∧
  (∀ (e : Engine) (s : State), s.Ok → s.stopped.contains .carrier = false → s.engineHeld e = false → s.act e 0 = 5 → ∃ t, exec (.deact .carrier e) s = .next t ∧ t.act e 0 = 1 ∧ (∀ c ∈ sideChannels, t.act e c = 0) ∧ t.onuId e = 1023 ∧ t.get (TC_ACT_CTRL_DEACT e.n) = 0) ∧
  (∀ (e : Engine) (s : State), s.stopped.contains .carrier = false → (s.act e 0 = 7 ∨ s.act e 0 = 0) → exec (.deact .carrier e) s = .next (s.put (TC_ACT_CTRL_DEACT e.n) 0)) ∧
  (∀ (e : Engine) (c : Ch) (v : Bool) (s : State), s.stopped.contains .carrier = false → s.engineHeld e = true → exec (.actEn .carrier e v) s = .next s ∧ exec (.chJoin .carrier e c v) s = .next s) ∧
  (∀ (a : Agent) (e : Engine) (c : Ch) (v : Bool) (s : State), s.stopped.contains a = false → a ≠ .carrier → exec (.actEn a e v) s = .next (s.refuse a) ∧ exec (.chJoin a e c v) s = .next (s.refuse a) ∧ exec (.deact a e) s = .next (s.refuse a))

/-- O15. Broadcast downstream PLOAM messages with a good MIC: what each type does, and the copy to carrier firmware -/
def Obligations.PloamMessages : Prop :=
  (∀ (e : Engine) (c : Ch) (p : ProfileMsg) (q : Nat) (s : State), s.Ok → s.engineHeld e = false → s.act e c = 2 → p.index ≤ 3 → (p.profile.rate = 124416 ∨ p.profile.rate = 248832 ∨ p.profile.rate = 497664) → ∃ t, exec (.burstProfile e c ⟨1023, true, q⟩ p) s = .next t ∧ t.act e c = (if c = 0 then 3 else 4) ∧ (t.ch e c).profiles = (p.index, p.profile) :: (s.ch e c).profiles.filter (fun x => x.1 ≠ p.index)) ∧
  (∀ (e : Engine) (c : Ch) (p : ProfileMsg) (q : Nat) (s : State), 1 < s.act e c → (3 < p.index ∨ (p.profile.rate ≠ 124416 ∧ p.profile.rate ≠ 248832 ∧ p.profile.rate ≠ 497664)) → exec (.burstProfile e c ⟨1023, true, q⟩ p) s = .next (actFlag e 14 (sendUp e (.ploam c.val ⟨⟨1023, true, q⟩, .burstProfile p⟩) s))) ∧
  (∀ (e : Engine) (id : Nat) (q : Nat) (s : State), s.Ok → s.engineHeld e = false → s.act e 0 = 3 → id ≤ 1020 → ∃ t, exec (.assignOnuId e 0 ⟨1023, true, q⟩ (s.serial e) id) s = .next t ∧ t.onuId e = id ∧ t.act e 0 = 4 ∧ t.get (TC_DISC_STAT_TRIES e.n) = 0 ∧ (t.ch e 0).to1 = true) ∧
  (∀ (e : Engine) (c : Ch) (v : Int) (q : Nat) (s : State), s.Ok → s.engineHeld e = false → s.act e c = 4 → 0 ≤ v → v < 2 ^ 26 → ∃ t, exec (.rangingTime e c ⟨1023, true, q⟩ false v) s = .next t ∧ t.act e c = 5 ∧ t.eqd e c = v.toNat) ∧
  (∀ (e : Engine) (c : Ch) (v : Int) (q : Nat) (s : State), s.Ok → s.act e c = 5 → (s.eqd e c : Int) + v < 0 → exec (.rangingTime e c ⟨1023, true, q⟩ true v) s = .next (actFlag e 14 (sendUp e (.ploam c.val ⟨⟨1023, true, q⟩, .rangingTime true v⟩) s))) ∧
  (∀ (e : Engine) (c : Ch) (q : Nat) (s : State), s.Ok → c ≠ 0 → 1 < s.act e c → s.act e 0 ≠ 7 → ∃ t, exec (.deactivateOnuId e c ⟨1023, true, q⟩) s = .next t ∧ t.act e c = 0 ∧ (t.ch e c).hold = true ∧ (∀ d ∈ channels, d ≠ c → t.act e d = s.act e d)) ∧
  (∀ (e : Engine) (q : Nat) (s : State), s.Ok → s.engineHeld e = false → s.act e 0 = 5 → ∃ t, exec (.disableSerialNumber e 0 ⟨1023, true, q⟩ (s.serial e)) s = .next t ∧ t.act e 0 = 7 ∧ (∀ c ∈ sideChannels, t.act e c = (if s.act e c = 0 then 0 else 7)) ∧ t.onuId e = 1023 ∧ t.isSet (TC_ACT_STATUS_DISABLED e.n) = true) ∧
  (∀ (e : Engine) (q : Nat) (s : State), s.Ok → s.engineHeld e = false → s.act e 0 = 7 → ∃ t, exec (.enableSerialNumber e 0 ⟨1023, true, q⟩ (s.serial e)) s = .next t ∧ t.act e 0 = 1 ∧ (∀ c ∈ sideChannels, t.act e c = (if s.act e c = 7 then 0 else s.act e c)) ∧ t.isSet (TC_ACT_STATUS_DISABLED e.n) = false) ∧
  (∀ (e : Engine) (c : Ch) (q : Nat) (s : State), 1 < s.act e c → exec (.requestRegistration e c ⟨1023, true, q⟩) s = .next ((sendUp e (.ploam c.val ⟨⟨1023, true, q⟩, .requestRegistration⟩) s).modCh e c (fun x => { x with regPending := true }))) ∧
  (∀ (e : Engine) (c : Ch) (q : Nat) (s : State), 1 < s.act e c → exec (.tuningControl e c ⟨1023, true, q⟩) s = .next (actFlag e 14 (sendUp e (.ploam c.val ⟨⟨1023, true, q⟩, .tuningControl⟩) s))) ∧
  (∀ (e : Engine) (c : Ch) (q : Nat) (ty : Nat) (s : State), 1 < s.act e c → exec (.unsupportedPloam e c ⟨1023, true, q⟩ ty) s = .next (actFlag e 14 (sendUp e (.ploam c.val ⟨⟨1023, true, q⟩, .other ty⟩) (s.modCh e c (fun x => { x with ackQ := x.ackQ ++ [.acknowledge q false] }))))) ∧
  (∀ (e : Engine) (c : Ch) (h : PloamHdr) (s : State), (s.act e c ≤ 1 ∨ (h.onuId ≠ 1023 ∧ h.onuId ≠ s.onuId e)) → exec (.requestRegistration e c h) s = .next s ∧ exec (.tuningControl e c h) s = .next s ∧ exec (.deactivateOnuId e c h) s = .next s) ∧
  (∀ (e : Engine) (c : Ch) (q : Nat) (s : State), 1 < s.act e c → exec (.requestRegistration e c ⟨1023, false, q⟩) s = .next (actFlag e 13 s))

/-- O16. Discovery wait, TO1, TO2 and the burst gate guard: where each ends the channel -/
def Obligations.ActivationTimers : Prop :=
  (∀ (e : Engine) (s : State), s.Ok → s.act e 0 = 3 → (s.line e).discWait = true → s.isSet (TC_ACT_CTRL_BACKOFF_EN e.n) = false → exec (.discoveryTimeout e) s = .next ((s.satInc (TC_DISC_STAT_TRIES e.n) 255).used.modLine e (fun l => { l with discWait := false, skip := 0 }))) ∧
  (∀ (e : Engine) (s : State), s.Ok → s.act e 0 = 3 → (s.line e).discWait = true → ∃ t, exec (.discoveryTimeout e) s = .next t ∧ (t.line e).discWait = false ∧ t.get (TC_DISC_STAT_TRIES e.n) = min (s.get (TC_DISC_STAT_TRIES e.n) + 1) 255 ∧ (t.line e).skip < 2 ^ (min (t.get (TC_DISC_STAT_TRIES e.n)) 4) ∧ onlyRegs [TC_DISC_STAT e.n] s { t with freeCtr := s.freeCtr, lines := s.lines }) ∧
  (∀ (e : Engine) (s : State), (s.act e 0 ≠ 3 ∨ (s.line e).discWait = false) → exec (.discoveryTimeout e) s = .next s) ∧
  (∀ (e : Engine) (s : State), s.Ok → s.engineHeld e = false → (s.ch e 0).to1 = true → s.act e 0 = 4 → ∃ t, exec (.to1Expiry e 0) s = .next t ∧ t.act e 0 = 1 ∧ t.onuId e = 1023 ∧ (∀ c ∈ sideChannels, t.act e c = 0)) ∧
  (∀ (e : Engine) (c : Ch) (s : State), s.Ok → s.engineHeld e = false → c ≠ 0 → (s.ch e c).to2 = true → ∃ t, exec (.to2Expiry e c) s = .next t ∧ t.act e c = 1 ∧ t.isSet (TC_EQD_VALID e.n c.val) = (if s.act e c = 1 then s.isSet (TC_EQD_VALID e.n c.val) else false) ∧ (∀ d ∈ channels, d ≠ c → t.act e d = s.act e d)) ∧
  (∀ (e : Engine) (c : Ch) (s : State), (s.ch e c).to1 = false → (s.ch e c).to2 = false → (s.ch e c).gate = false → exec (.to1Expiry e c) s = .next s ∧ exec (.to2Expiry e c) s = .next s ∧ exec (.burstGateOverrun e c) s = .next s) ∧
  (∀ (e : Engine) (c : Ch) (s : State), s.Ok → s.engineHeld e = false → (s.ch e c).gate = true → ∃ t, exec (.burstGateOverrun e c) s = .next t ∧ t.isSet ⟨TC_ACT_FLAGS e.n, 8 + c.val, 8 + c.val⟩ = true ∧ t.act e c = 1) ∧
  (∀ (e : Engine) (c : Ch) (g : Alloc) (s : State), s.act e 0 ≠ 3 → s.act e c ≠ 4 → exec (.serialNumberGrant e g) s = .next s ∧ exec (.rangingGrant e c g) s = .next s) ∧
  (∀ (e : Engine) (c : Ch) (g : Alloc) (p : Profile) (s : State), s.act e c = 4 → g.allocId = s.onuId e → (s.ch e c).grants = [] → s.profileOf e c (soleGrant s e c g) = some p → impossible s e c (soleGrant s e c g) true = false → lateGrant p (soleGrant s e c g) = false → overlaps s e c p (soleGrant s e c g) = false → ∃ t b, exec (.rangingGrant e c g) s = .next t ∧ t.ch e c = { s.ch e c with prevKept := true, bursts := (s.ch e c).bursts ++ [b], lastSpan := some (b.first, b.last) } ∧ (∀ i ∈ [Engine.la, Engine.lb], ∀ d ∈ channels, ¬ (i = e ∧ d = c) → t.ch i d = s.ch i d) ∧ { t with chans := s.chans } = s ∧ b.kind = .registration ∧ b.launch = launchOf p (soleGrant s e c g) ∧ b.ploam = some (.registration ((List.range 9).map (fun w => s.reg (TC_REG_ID e.n w))))) ∧
  (∀ (e : Engine) (g : Alloc) (p : Profile) (s : State), s.act e 0 = 3 → (s.ch e 0).grants = [] → s.profileOf e 0 (soleGrant s e 0 g) = some p → impossible s e 0 (soleGrant s e 0 g) true = false → lateGrant p (soleGrant s e 0 g) = false → (s.line e).discWait = false → ((s.line e).skip = 0 ∨ s.isSet (TC_ACT_CTRL_BACKOFF_EN e.n) = false) → (s.ch e 0).lastSpan = none → (s.ch e 0).bursts = [] → ∃ t b, exec (.serialNumberGrant e g) s = .next t ∧ t.ch e 0 = { s.ch e 0 with prevKept := true, bursts := [b], lastSpan := some (b.first, b.last) } ∧ (∀ i ∈ [Engine.la, Engine.lb], ∀ d ∈ channels, ¬ (i = e ∧ d = 0) → t.ch i d = s.ch i d) ∧ { t with chans := s.chans } = s.used.put (TC_DISC_STAT_LAST_ROLL e.n) (s.drawn (s.get (TC_DISC_CFG_ROLL_SPAN e.n))) ∧ b.kind = .serialNumber ∧ b.launch = launchOf p (soleGrant s e 0 g) + s.drawn (s.get (TC_DISC_CFG_ROLL_SPAN e.n)) * 15925248 ∧ b.ploam = some (.serialNumberOnu (s.serial e) (s.drawn (s.get (TC_DISC_CFG_ROLL_SPAN e.n)))))

/-- O17. Frame lock after LOCK_N matches, and loss of lock: state, counter, missing PSyncs -/
def Obligations.FrameLockAndLoss : Prop :=
  (∀ (e : Engine) (c : Ch) (m : List Nat) (v : Nat) (s : State), s.Ok → s.engineHeld e = false → c ≠ 0 → s.hunts e c = true → s.locked e c = false → s.act e c = 1 → s.lockNeed e c ≤ s.psyncMatches e m → v < 2 ^ 51 → ∃ t, exec (.frameLock e c m (some v)) s = .next t ∧ t.locked e c = true ∧ t.act e c = 2 ∧ t.sfcOf e c = v ∧ t.isSet ((TC_DS_STATUS_SFC_VALID e.n).bit c.val) = true) ∧
  (∀ (e : Engine) (c : Ch) (m : List Nat) (s : State), s.Ok → s.engineHeld e = false → c ≠ 0 → s.hunts e c = true → s.locked e c = false → s.act e c = 6 → s.lockNeed e c ≤ s.psyncMatches e m → ∃ t, exec (.frameLock e c m none) s = .next t ∧ t.locked e c = true ∧ t.act e c = 5 ∧ t.eqd e c = s.eqd e c ∧ (t.ch e c).to2 = false) ∧
  (∀ (e : Engine) (c : Ch) (m : List Nat) (v : Option Nat) (s : State), (s.hunts e c = false ∨ s.locked e c = true ∨ s.psyncMatches e m < s.lockNeed e c) → exec (.frameLock e c m v) s = .next s) ∧
  (∀ (e : Engine) (m : List Nat) (s : State), s.get (TC_SYNC_CFG_PSYNC_TOL e.n) = 4 → m = [4, 0, 5, 0] → s.psyncMatches e m = 2) ∧
  (∀ (e : Engine) (c : Ch) (s : State), s.Ok → s.engineHeld e = false → c ≠ 0 → s.locked e c = true → s.get (TC_SYNC_CFG_LOSS_M e.n) ≤ (s.ch e c).misses + 1 → s.act e c = 5 → s.defectsMuted e c = false → (s.ch e c).flying = none → ∃ t, exec (.lossOfLock e c) s = .next t ∧ t.locked e c = false ∧ t.act e c = 6 ∧ (t.ch e c).to2 = true ∧ t.isSet ((TC_DS_STATUS_SFC_VALID e.n).bit c.val) = false ∧ t.count (TC_CNT e.n c.val 1) = (s.count (TC_CNT e.n c.val 1) + 1) % 2 ^ 48) ∧
  (∀ (e : Engine) (c : Ch) (s : State), (s.locked e c = false ∨ (s.ch e c).misses + 1 < s.get (TC_SYNC_CFG_LOSS_M e.n)) → exec (.lossOfLock e c) s = .next s)

/-- O18. A downstream frame: what is counted, what a lost header drops, and how a sound data unit is handed on -/
def Obligations.DownstreamFrames : Prop :=
  (∀ (e : Engine) (c : Ch) (f : DsFrame) (s : State), s.Ok → c ≠ 0 → s.hunts e c = true → s.locked e c = true → s.pm e ≠ 2 → s.isSet ((TC_DS_STATUS_SFC_VALID e.n).bit c.val) = true → f.psyncDiff ≤ s.get (TC_SYNC_CFG_PSYNC_TOL e.n) → f.hlendHecOk = false → ∃ t, exec (.downstreamFrame e c f) s = .next t ∧ t.count (TC_CNT e.n c.val 0) = (s.count (TC_CNT e.n c.val 0) + 1) % 2 ^ 48 ∧ t.count (TC_CNT e.n c.val 4) = (s.count (TC_CNT e.n c.val 4) + 360) % 2 ^ 48 ∧ t.count (TC_CNT e.n c.val 6) = (s.count (TC_CNT e.n c.val 6) + f.bitsCorr) % 2 ^ 48 ∧ t.count (TC_CNT e.n c.val 7) = (s.count (TC_CNT e.n c.val 7) + f.cwUncorr) % 2 ^ 48 ∧ t.count (TC_CNT e.n c.val 3) = (s.count (TC_CNT e.n c.val 3) + 1) % 2 ^ 48 ∧ t.isSet ⟨TC_DS_FLAGS e.n, 13, 13⟩ = true ∧ (t.ch e c).frag = none ∧ t.act e c = s.act e c) ∧
  (∀ (e : Engine) (c : Ch) (f : DsFrame) (s : State), s.Ok → c ≠ 0 → s.hunts e c = true → s.locked e c = true → s.pm e ≠ 2 → s.get (TC_SYNC_CFG_PSYNC_TOL e.n) < f.psyncDiff → (s.ch e c).misses + 1 < s.get (TC_SYNC_CFG_LOSS_M e.n) → f.hlendHecOk = false → ∃ t, exec (.downstreamFrame e c f) s = .next t ∧ t.count (TC_CNT e.n c.val 1) = (s.count (TC_CNT e.n c.val 1) + 1) % 2 ^ 48 ∧ t.count (TC_CNT e.n c.val 0) = (s.count (TC_CNT e.n c.val 0) + 1) % 2 ^ 48 ∧ (t.ch e c).misses = (s.ch e c).misses + 1 ∧ t.locked e c = true) ∧
  (∀ (e : Engine) (c : Ch) (f : DsFrame) (u : XgemUnit) (w : Word) (s : State), s.Ok → c ≠ 0 → s.hunts e c = true → s.locked e c = true → s.pm e ≠ 2 → s.isSet ((TC_DS_STATUS_SFC_VALID e.n).bit c.val) = true → f.psyncDiff ≤ s.get (TC_SYNC_CFG_PSYNC_TOL e.n) → f.hlendHecOk = true → f.bwmap = [] → f.ploam = [] → f.xgem = [u] → (s.ch e c).frag = none → u.hecOk = true → u.lf = true → u.marked = false → u.parity = false → u.keyIdx = 0 → u.portId ≠ 0xFFFF → s.portEntry e u.portId = some w → w.field (24 + c.val) (24 + c.val) = 1 → w.field 29 29 = 0 → w.field 30 30 = 0 → u.data.length = u.pli → 64 ≤ u.pli → u.pli ≤ 12320 → fcsGood u.data = true → ∃ t, exec (.downstreamFrame e c f) s = .next t ∧ (t.line e).down = (s.line e).down ++ [⟨c.val, false, u.portId, 0, u.data⟩] ∧ t.count (TC_CNT e.n c.val 10) = (s.count (TC_CNT e.n c.val 10) + 1) % 2 ^ 48 ∧ t.count (TC_CNT e.n c.val 15) = (s.count (TC_CNT e.n c.val 15) + u.pli) % 2 ^ 48) ∧
  (∀ (e : Engine) (c : Ch) (f : DsFrame) (s : State), s.locked e c = false → exec (.downstreamFrame e c f) s = .next s)

/-- O19. Defect windows and PON-layer keys: SD and SF judged by runs, GEN and LOAD install or refuse -/
def Obligations.DefectsAndPonKeys : Prop :=
  (∀ (e : Engine) (c : Ch) (s : State), s.Ok → s.defectsMuted e c = false → (s.ch e c).winCfg = none → s.los e c = false → s.lof e c = false → s.isSet ((TC_DS_STATUS_SD e.n).bit c.val) = false → s.get (TC_DEF_CFG_SD_THR e.n) * (s.ch e c).winBits < (s.ch e c).winErr * 10000 → s.get (TC_DEF_CFG_SET e.n) ≤ (s.ch e c).sdTrue + 1 → ∃ t, exec (.defectWindowClose e c) s = .next t ∧ t.isSet ((TC_DS_STATUS_SD e.n).bit c.val) = true ∧ t.isSet ⟨TC_DS_FLAGS e.n, 4 + c.val, 4 + c.val⟩ = true ∧ (t.ch e c).sdTrue = (s.ch e c).sdTrue + 1 ∧ (t.ch e c).sdFalse = 0 ∧ (t.ch e c).winBits = 0) ∧
  (∀ (e : Engine) (c : Ch) (s : State), s.defectsMuted e c = false → (s.ch e c).winCfg = none → (s.los e c = true ∨ s.lof e c = true) → exec (.defectWindowClose e c) s = .next (s.modCh e c (fun x => { x with sdTrue := 0, sdFalse := 0, sfTrue := 0, sfFalse := 0, winBits := 0, winErr := 0, winUncorr := 0 }))) ∧
  (∀ (e : Engine) (sl : Fin 2) (s : State), s.Ok → s.stopped.contains .carrier = false → ∃ t, exec (.ponKeyGen .carrier e sl) s = .next t ∧ t.ponKey e (sl.val + 1) = some (s.drawn (2 ^ 128)) ∧ (t.isSet ⟨TC_DS_FLAGS e.n, 16, 16⟩ = (s.isSet ⟨TC_DS_FLAGS e.n, 16, 16⟩ || (sget (fun _ => none) (s.line e).keyUse (sl.val + 1)).any (fun u => decide (s.now < u + 10000000)))) ∧ t.isSet (keyBit e (sl.val + 1)) = true ∧ t.isSet (TC_KEY_CMD_GEN e.n) = false ∧ t.isSet (TC_KEY_CMD_LOAD_ERR e.n) = s.isSet (TC_KEY_CMD_LOAD_ERR e.n) ∧ t.freeCtr = s.freeCtr + 1) ∧
  (∀ (e : Engine) (sl : Fin 2) (s : State), s.Ok → s.stopped.contains .carrier = false → ∃ t, exec (.ponKeyLoad .carrier e sl) s = .next t ∧ (∀ k, aesUnwrap (s.kek e) (wordsOctets ((List.range 6).map (fun w => s.reg (TC_KEY_IN e.n w)))) = some k → t.ponKey e (sl.val + 3) = some (numBE k) ∧ t.isSet (keyBit e (sl.val + 3)) = true) ∧ (aesUnwrap (s.kek e) (wordsOctets ((List.range 6).map (fun w => s.reg (TC_KEY_IN e.n w)))) = none → t = ((s.put (TC_KEY_CMD_SLOT e.n) (sl.val + 1)).putB (TC_KEY_CMD_LOAD e.n) false).putB (TC_KEY_CMD_LOAD_ERR e.n) true)) ∧
  (∀ (a : Agent) (e : Engine) (sl : Fin 2) (s : State), s.stopped.contains a = false → a ≠ .carrier → exec (.ponKeyGen a e sl) s = .next (s.refuse a) ∧ exec (.ponKeyLoad a e sl) s = .next (s.refuse a)) ∧
  (∀ (e : Engine) (q : Nat) (sl : Fin 2) (s : State), s.Ok → 1 < s.act e 0 → ∃ t, exec (.keyControl e 0 ⟨1023, true, q⟩ sl) s = .next t ∧ t.ponKey e (sl.val + 1) = some (s.drawn (2 ^ 128)) ∧ (t.line e).toCarrier = (s.line e).toCarrier ++ [.ploam 0 ⟨⟨1023, true, q⟩, .keyControl sl⟩]) ∧
  (∀ (e : Engine) (c : Ch) (q : Nat) (sl : Fin 2) (s : State), c ≠ 0 → 1 < s.act e c → exec (.keyControl e c ⟨1023, true, q⟩ sl) s = .next (actFlag e 14 s))

/-- O20. The downstream reorder: in-order release, holding, late and bad tags, the skew window and the window close -/
def Obligations.ReorderBuffer : Prop :=
  (∀ (e : Engine) (c : Ch) (x : BondSdu) (s : State), tagGood x.tag = false → (s.line e).bondIn = [] → exec (.bondedSduArrival e c x) s = .next (bondFlag e 15 (((s.modLine e (fun l => { l with bondIn := [] })).bump (BOND_CHCNT e.n c.val 0)).bump (BOND_CNT e.n 3)))) ∧
  (∀ (e : Engine) (c : Ch) (x : BondSdu) (n : Nat) (s : State), s.Ok → tagGood x.tag = true → tagRs x.tag = false → s.stream e (tagStream x.tag) = ⟨some n, []⟩ → tagSeq x.tag = n → ∃ t, exec (.bondedSduArrival e c x) s = .next t ∧ (t.line e).down = (s.line e).down ++ [⟨c.val, true, x.portId, x.keyIdx, x.data⟩] ∧ t.stream e (tagStream x.tag) = ⟨some ((n + 1) % 2 ^ 24), []⟩ ∧ t.count (BOND_CNT e.n 0) = (s.count (BOND_CNT e.n 0) + 1) % 2 ^ 48 ∧ t.count (BOND_CHCNT e.n c.val 0) = (s.count (BOND_CHCNT e.n c.val 0) + 1) % 2 ^ 48) ∧
  (∀ (e : Engine) (c : Ch) (x : BondSdu) (n : Nat) (s : State), s.Ok → tagGood x.tag = true → tagRs x.tag = false → s.stream e (tagStream x.tag) = ⟨some n, []⟩ → 0 < (tagSeq x.tag + 2 ^ 24 - n) % 2 ^ 24 → (tagSeq x.tag + 2 ^ 24 - n) % 2 ^ 24 < 2 ^ 23 → s.bondCells e + (8 + x.data.length + 63) / 64 ≤ 32768 → ∃ t, exec (.bondedSduArrival e c x) s = .next t ∧ (t.line e).down = (s.line e).down ∧ t.stream e (tagStream x.tag) = ⟨some n, [⟨tagSeq x.tag, x, s.now, s.get (BOND_CFG_SKEW_WIN e.n) * 1000, c.val⟩]⟩ ∧ t.count (BOND_CNT e.n 0) = s.count (BOND_CNT e.n 0)) ∧
  (∀ (e : Engine) (c : Ch) (x : BondSdu) (n : Nat) (s : State), s.Ok → tagGood x.tag = true → tagRs x.tag = false → s.stream e (tagStream x.tag) = ⟨some n, []⟩ → 2 ^ 23 ≤ (tagSeq x.tag + 2 ^ 24 - n) % 2 ^ 24 → ∃ t, exec (.bondedSduArrival e c x) s = .next t ∧ (t.line e).down = (s.line e).down ∧ t.stream e (tagStream x.tag) = ⟨some n, []⟩ ∧ t.count (BOND_CHCNT e.n c.val 1) = (s.count (BOND_CHCNT e.n c.val 1) + 1) % 2 ^ 48 ∧ t.isSet ⟨BOND_FLAGS e.n, 13, 13⟩ = true ∧ (t.ch e c).lateN = (s.ch e c).lateN + 1) ∧
  (∀ (e : Engine) (c : Ch) (x : BondSdu) (s : State), s.Ok → tagGood x.tag = true → tagRs x.tag = false → s.stream e (tagStream x.tag) = ⟨none, []⟩ → ∃ t, exec (.bondedSduArrival e c x) s = .next t ∧ (t.line e).down = (s.line e).down ++ [⟨c.val, true, x.portId, x.keyIdx, x.data⟩] ∧ t.stream e (tagStream x.tag) = ⟨some ((tagSeq x.tag + 1) % 2 ^ 24), []⟩) ∧
  (∀ (e : Engine) (st : Slot) (n : Nat) (h : HeldSdu) (s : State), s.Ok → s.stream e st.val = ⟨some n, [h]⟩ → h.sdu.parity = false → ∃ t, exec (.skewWindowExpiry e st) s = .next t ∧ (t.line e).down = (s.line e).down ++ [⟨h.chan, true, h.sdu.portId, h.sdu.keyIdx, h.sdu.data⟩] ∧ t.stream e st.val = ⟨some ((h.seq + 1) % 2 ^ 24), []⟩ ∧ t.count (BOND_CNT e.n 1) = (s.count (BOND_CNT e.n 1) + (h.seq + 2 ^ 24 - n) % 2 ^ 24) % 2 ^ 48 ∧ t.count (BOND_CNT e.n 0) = (s.count (BOND_CNT e.n 0) + 1) % 2 ^ 48) ∧
  (∀ (e : Engine) (st : Slot) (s : State), (s.stream e st.val).held = [] → exec (.skewWindowExpiry e st) s = .next s) ∧
  (∀ (e : Engine) (c : Ch) (s : State), exec (.bondWindowClose e c) s = .next (((s.put (BOND_LAG_LAG e.n c.val) (if (s.ch e c).lateN = 0 then (s.ch e c).lagMax else 0xFFFF)).putB (lateBit e c) (decide ((s.put (BOND_LAG_LAG e.n c.val) (if (s.ch e c).lateN = 0 then (s.ch e c).lagMax else 0xFFFF)).get (BOND_CFG_LATE_THR e.n) ≤ (s.ch e c).lateN))).modCh e c (fun y => { y with lateN := 0, lagMax := 0 })))

/-- O21. Bond membership: In, Sitting out, Out, Retired and the strikes between them -/
def Obligations.BondMembership : Prop :=
  (∀ (e : Engine) (c : Ch) (s : State), s.bond e c = 0 → s.canBeIn e c = true → exec (.bondIn e c) s = .next (bondFlag e c.val (s.put (bondStateF e c) 1))) ∧
  (∀ (e : Engine) (c : Ch) (s : State), s.bond e c = 2 → s.canBeIn e c = true → exec (.sitHoldExpiry e c) s = .next (bondFlag e c.val (s.put (bondStateF e c) 1))) ∧
  (∀ (e : Engine) (c : Ch) (s : State), s.canBeIn e c = false → exec (.bondIn e c) s = .next s ∧ exec (.sitHoldExpiry e c) s = .next s) ∧
  (∀ (e : Engine) (c : Ch) (s : State), s.Ok → s.bond e c = 1 → s.sitCause e c ≠ 0 → (s.ch e c).wakeReturn = false → s.get (bondStrikesF e c) < 2 → ∃ t, exec (.sitOutEntry e c) s = .next t ∧ t.bond e c = 2 ∧ t.get (bondStrikesF e c) = s.get (bondStrikesF e c) + 1 ∧ t.count (BOND_CHCNT e.n c.val 2) = (s.count (BOND_CHCNT e.n c.val 2) + 1) % 2 ^ 48 ∧ t.count (BOND_CHCNT e.n c.val 3) = (s.count (BOND_CHCNT e.n c.val 3) + 1) % 2 ^ 48 ∧ t.isSet ⟨BOND_FLAGS e.n, 8 + c.val, 8 + c.val⟩ = true) ∧
  (∀ (e : Engine) (c : Ch) (s : State), s.Ok → s.bond e c = 1 → s.sitCause e c ≠ 0 → (s.ch e c).wakeReturn = false → s.get (bondStrikesF e c) = 2 → ∃ t, exec (.sitOutEntry e c) s = .next t ∧ t.bond e c = 3 ∧ t.isSet ⟨BOND_FLAGS e.n, 4 + c.val, 4 + c.val⟩ = true ∧ t.count (BOND_CHCNT e.n c.val 2) = s.count (BOND_CHCNT e.n c.val 2)) ∧
  (∀ (e : Engine) (c : Ch) (s : State), (s.bond e c ≠ 1 ∨ s.sitCause e c = 0) → exec (.sitOutEntry e c) s = .next s) ∧
  (∀ (e : Engine) (c : Ch) (s : State), s.isSet ((BOND_CTRL_MEMBER e.n).bit c.val) = false → (s.bond e c = 1 ∨ s.bond e c = 2) → exec (.bondOut e c) s = .next (bondFlag e c.val (s.put (bondStateF e c) 0))) ∧
  (∀ (e : Engine) (c : Ch) (s : State), (s.bond e c = 0 ∨ s.bond e c = 3) → exec (.bondOut e c) s = .next s) ∧
  (∀ (e : Engine) (c : Ch) (s : State), 0 < s.get (bondStrikesF e c) → exec (.bondStrikeExpiry e c) s = .next (s.put (bondStrikesF e c) (s.get (bondStrikesF e c) - 1))) ∧
  (∀ (e : Engine) (m : BitVec 4) (s : State), s.Ok → s.stopped.contains .carrier = false → ∃ t, exec (.bondRestore .carrier e m) s = .next t ∧ (∀ c ∈ channels, t.get (bondStrikesF e c) = (if m.getLsbD c.val then 0 else s.get (bondStrikesF e c)) ∧ t.bond e c = (if m.getLsbD c.val ∧ s.bond e c = 3 then 0 else s.bond e c)) ∧ regsKept [BOND_CH_STATE e.n, BOND_FLAGS e.n] s t) ∧
  (∀ (a : Agent) (e : Engine) (m : BitVec 4) (s : State), a ≠ .carrier → s.stopped.contains a = false → exec (.bondRestore a e m) s = .next (s.refuse a) ∧ exec (.usResync a e) s = .next (s.refuse a)) ∧
  (∀ (e : Engine) (s : State), s.stopped.contains .carrier = false → exec (.usResync .carrier e) s = .next (s.modLine e (fun l => { l with rsDone := [] }))) ∧
  (∀ (e : Engine) (m : BitVec 4) (s : State), s.Ok → ∃ t, exec (.memberMaskSet e m) s = .next t ∧ t.get (BOND_CTRL_MEMBER e.n) = m.toNat ∧ (∀ c ∈ sideChannels, t.isSet ((TC_ACT_CTRL_CH_JOIN e.n).bit (c.val - 1)) = m.getLsbD c.val))

/-- O22. Binding and freeing a slot, disabling a line queue, and taking a grant -/
def Obligations.UpstreamSlots : Prop :=
  (∀ (e : Engine) (sl : Slot) (b : SlotBinding) (s : State), s.Ok → b.valid = true → (b.ports.map (·.1)).Nodup → ∃ t, exec (.assignAllocId e sl b) s = .next t ∧ t.get (BURST_SLOT_VALID e.n sl.val) = 1 ∧ t.get (BURST_SLOT_CH e.n sl.val) = b.ch.val ∧ t.get (BURST_SLOT_ALLOC_ID e.n sl.val) = b.allocId % 2 ^ 14 ∧ t.get (BURST_SLOT_CELLS e.n sl.val) = (if 0 < b.cells ∧ b.cells < 4096 then b.cells else s.get (BURST_SLOT_CELLS e.n sl.val)) ∧ (∀ p ∈ b.ports, t.get (BURST_QPORT_VALID e.n (8 * sl.val + p.1.val)) = 1 ∧ t.get (BURST_QPORT_ENC e.n (8 * sl.val + p.1.val)) = p.2.1.toNat ∧ t.get (BURST_QPORT_PORTID e.n (8 * sl.val + p.1.val)) = (if p.2.2 < 65535 then p.2.2 else s.get (BURST_QPORT_PORTID e.n (8 * sl.val + p.1.val)))) ∧ regsKept (BURST_SLOT e.n sl.val :: b.ports.map (fun p => BURST_QPORT e.n (8 * sl.val + p.1.val))) s t ∧ t.sram = s.sram ∧ t.tally = s.tally) ∧
  (∀ (e : Engine) (sl : Slot) (b : SlotBinding) (s : State), b.valid = false → s.stopped.contains .carrier = false → exec (.assignAllocId e sl b) s = .next (freeSlot e sl.val s) ∧ exec (.slotFree .carrier e sl) s = .next (freeSlot e sl.val s)) ∧
  (∀ (e : Engine) (sl : Slot) (s : State), s.Ok → s.stopped.contains .carrier = false → ∃ t, exec (.slotFree .carrier e sl) s = .next t ∧ t.get (BURST_SLOT_VALID e.n sl.val) = 0 ∧ t.count (BURST_FLUSHED e.n) = (s.count (BURST_FLUSHED e.n) + ((List.range 8).map (fun k => (s.queue e (8 * sl.val + k)).length)).sum) % 2 ^ 48 ∧ regsKept [BURST_SLOT e.n sl.val, BURST_FLUSHED e.n, BURST_FLUSHED e.n + 4, BURST_FLAGS e.n, BURST_ROOM e.n] s t) ∧
  (∀ (e : Engine) (q : LineQ) (s : State), s.stopped.contains .carrier = false → exec (.qportDisable .carrier e q) s = .next (showRoom e (flushQueue e q.val (s.putB (BURST_QPORT_VALID e.n q.val) false)))) ∧
  (∀ (e : Engine) (q : Nat) (f : UpFrame) (fs : List UpFrame) (s : State), s.queue e q = f :: fs → flushQueue e q s = burstFlag e 4 ((countRemoved e q (fs.length + 1) (setQueue e q [] s)).bump (BURST_FLUSHED e.n) (fs.length + 1))) ∧
  (∀ (a : Agent) (e : Engine) (sl : Slot) (q : LineQ) (s : State), a ≠ .carrier → s.stopped.contains a = false → exec (.slotFree a e sl) s = .next (s.refuse a) ∧ exec (.qportDisable a e q) s = .next (s.refuse a)) ∧
  (∀ (e : Engine) (c : Ch) (g : Alloc) (s : State), g.hecOk = true → s.act e c = 5 → s.keeps e c g.allocId = true → (c = 0 ∨ g.allocId ≠ 1023) → g.fwi = false → g.start ≠ 0xFFFF → exec (.grantReceive e c g) s = .next (s.modCh e c (fun x => { x with grants := x.grants ++ [⟨[g], false, s.get (TC_SFC_SFC_LO e.n c.val) + s.get (TC_SFC_SFC_HI e.n c.val) * 2 ^ 32, (s.ch e c).psync, s.eqd e c, s.now, [s.bindOf e g]⟩], prevKept := true }))) ∧
  (∀ (e : Engine) (c : Ch) (g : Alloc) (gs : List Grant) (l : Grant) (s : State), g.hecOk = true → s.act e c = 5 → s.keeps e c g.allocId = true → (c = 0 ∨ g.allocId ≠ 1023) → g.fwi = false → g.start = 0xFFFF → (s.ch e c).prevKept = true → (s.ch e c).grants = gs ++ [l] → exec (.grantReceive e c g) s = .next (s.modCh e c (fun x => { x with grants := gs ++ [{ l with allocs := l.allocs ++ [g], binds := l.binds ++ [s.bindOf e g] }], prevKept := true }))) ∧
  (∀ (e : Engine) (c : Ch) (g : Alloc) (s : State), g.hecOk = true → s.act e c = 5 → s.keeps e c g.allocId = true → (c = 0 ∨ g.allocId ≠ 1023) → g.fwi = false → g.start = 0xFFFF → (s.ch e c).prevKept = false → ∃ t y, exec (.grantReceive e c g) s = .next t ∧ (t.ch e c).grants = (s.ch e c).grants ++ [y] ∧ y.orphan = true ∧ y.allocs = [g] ∧ (t.ch e c).prevKept = true) ∧
  (∀ (e : Engine) (c : Ch) (g : Alloc) (s : State), (g.hecOk = false ∨ s.keeps e c g.allocId = false ∧ (c = 0 ∨ g.allocId ≠ 1023)) → exec (.grantReceive e c g) s = .next (s.modCh e c (fun x => { x with prevKept := false }))) ∧
  (∀ (e : Engine) (c : Ch) (g : Alloc) (s : State), g.hecOk = true → s.keeps e c g.allocId = true → g.fwi = true → g.allocId ≠ 1023 → exec (.grantReceive e c g) s = .next (keepGrant e c g (wakeEvent e 1 s))) ∧
  (∀ (e : Engine) (c : Ch) (g : Alloc) (s : State), g.hecOk = true → c ≠ 0 → g.allocId = 1023 → exec (.grantReceive e c g) s = .next ((actFlag e 14 s).modCh e c (fun x => { x with prevKept := false })))

/-- O23. Assembling, launching and ending an upstream burst -/
def Obligations.UpstreamBursts : Prop :=
  (∀ (e : Engine) (c : Ch) (s : State), (s.ch e c).grants = [] → s.act e c ≠ 3 → s.act e c ≠ 4 → exec (.burstAssembly e c) s = .next s) ∧
  (∀ (e : Engine) (c : Ch) (s : State), (s.ch e c).grants = [] → (s.act e c = 3 ∨ s.act e c = 4) → ∃ t, exec (.burstAssembly e c) s = .next t ∧ t.ch e c = s.ch e c ∧ { t with chans := s.chans } = s) ∧
  (∀ (e : Engine) (c : Ch) (g : Grant) (n : Nat) (b : Nat) (s : State), (s.ch e c).grants = [g] → s.act e c ≠ 3 → s.act e c ≠ 4 → mustWait s e c g = false → stopCause (s.modCh e c (fun x => { x with grants := [] })) e c g false = some (n, b) → exec (.burstAssembly e c) s = .next (burstFlag e b ((s.modCh e c (fun x => { x with grants := [] })).bump (BURST_CNT e.n c.val n)))) ∧
  (∀ (e : Engine) (c : Ch) (g : Grant) (p : Profile) (s : State), (s.ch e c).grants = [g] → s.act e c ≠ 3 → s.act e c ≠ 4 → mustWait s e c g = false → s.profileOf e c g = some p → stopCause (s.modCh e c (fun x => { x with grants := [] })) e c g false = none → ∃ t b, exec (.burstAssembly e c) s = .next t ∧ (t.ch e c).bursts = (s.ch e c).bursts ++ [b] ∧ (t.ch e c).grants = [] ∧ b.launch = g.psync + (1741824 + g.eqd + 128 * g.start - (p.preamble + p.delimiter) * uiPerBit p.rate) * 10000 ∧ b.contentWords = (g.allocs.map (·.grant)).sum ∧ b.profile = p ∧ (b.shadow = !s.live e) ∧ b.kind = .traffic ∧ b.ploam = upPloam s e c g ∧ (t.ch e c).lastSpan = some (b.first, b.last)) ∧
  (∀ (e : Engine) (c : Ch) (g : Grant) (s : State) (m : Bool), (s.profileOf e c g = none ∨ g.orphan = true ∨ 48600 ≤ g.start) → stopCause s e c g m = some (4, 0)) ∧
  (∀ (e : Engine) (c : Ch) (g : Grant) (a0 : Alloc) (p : Profile) (s : State) (m : Bool), g.allocs = [a0] → s.profileOf e c g = some p → a0.grant * wordBytes p.rate < 8 + (if a0.ploamu then 48 else 0) + (if a0.dbru then 4 else 0) → stopCause s e c g m = some (4, 0)) ∧
  (∀ (e : Engine) (c : Ch) (s : State), (s.ch e c).bursts = [] → exec (.burstLaunch e c) s = .next s) ∧
  (∀ (e : Engine) (c : Ch) (b : Burst) (s : State), s.Ok → (s.ch e c).bursts = [b] → (s.ch e c).flying = none → (s.pm e = 0 ∨ s.pm e = 3) → s.inhibited e = false → (s.line e).inhFrom * 497664 ≤ b.launch → s.lightReady e c = true → s.locked e c = true → s.live e = true → b.kind = .traffic → b.shadow = false → ∃ t, exec (.burstLaunch e c) s = .next t ∧ (t.ch e c).gate = true ∧ (t.ch e c).flying = some b ∧ (t.ch e c).bursts = [] ∧ t.isSet ((PFE_STATUS_LIGHT e.n).bit c.val) = true ∧ t.count (BURST_CNT e.n c.val 0) = (s.count (BURST_CNT e.n c.val 0) + 1) % 2 ^ 48 ∧ t.count (BURST_CNT e.n c.val 1) = (s.count (BURST_CNT e.n c.val 1) + b.contentWords) % 2 ^ 48 ∧ t.count (BURST_CNT e.n c.val 2) = (s.count (BURST_CNT e.n c.val 2) + b.frames.length) % 2 ^ 48 ∧ t.count (BURST_CNT e.n c.val 3) = (s.count (BURST_CNT e.n c.val 3) + b.reports.length) % 2 ^ 48 ∧ t.tally = s.tally ∧ t.lines = s.lines) ∧
  (∀ (e : Engine) (c : Ch) (b : Burst) (s : State), (s.ch e c).bursts = [b] → (s.ch e c).flying = none → (s.pm e = 1 ∨ s.pm e = 2 ∨ s.pm e = 4) → exec (.burstLaunch e c) s = .next ((releaseBurst e c b (s.modCh e c (fun x => { x with bursts := [] }))).bump (BURST_CNT e.n c.val 7))) ∧
  (∀ (e : Engine) (c : Ch) (b : Burst) (s : State), (s.ch e c).bursts = [b] → (s.ch e c).flying = none → (s.pm e = 0 ∨ s.pm e = 3) → (s.inhibited e = true ∨ b.launch < (s.line e).inhFrom * 497664 ∨ s.locked e c = false ∨ s.lightReady e c = false) → exec (.burstLaunch e c) s = .next (burstFlag e 3 ((releaseBurst e c b (s.modCh e c (fun x => { x with bursts := [] }))).bump (BURST_CNT e.n c.val 8)))) ∧
  (∀ (e : Engine) (c : Ch) (b : Burst) (s : State), (s.ch e c).bursts = [b] → (s.ch e c).flying = none → (s.pm e = 0 ∨ s.pm e = 3) → s.inhibited e = false → (s.line e).inhFrom * 497664 ≤ b.launch → s.locked e c = true → s.lightReady e c = true → b.kind = .traffic → (b.shadow = true ∨ s.live e = false) → exec (.burstLaunch e c) s = .next ((releaseBurst e c b (s.modCh e c (fun x => { x with bursts := [] }))).bump (BURST_CNT e.n c.val 9))) ∧
  (∀ (e : Engine) (c : Ch) (b : Burst) (s : State), (b.shadow = true ∨ b.kind ≠ .traffic) → releaseBurst e c b s = s) ∧
  (∀ (e : Engine) (c : Ch) (b : Burst) (s : State), b.shadow = false → b.kind = .traffic → releaseBurst e c b s = returnPloam e c b.ploam (unplace e b.frames s)) ∧
  (∀ (e : Engine) (c : Ch) (b : Burst) (s : State), (s.ch e c).flying = some b → (s.ch e c).gate = true → exec (.burstEnd e c) s = .next (showRoom e (removeSent e b.frames (showPermit e ((s.modCh e c (fun x => { x with gate := false, flying := none, sent := some b, lastLight := some s.now })).putB ((PFE_STATUS_LIGHT e.n).bit c.val) false))))) ∧
  (∀ (e : Engine) (c : Ch) (s : State), ((s.ch e c).flying = none ∨ (s.ch e c).gate = false) → exec (.burstEnd e c) s = .next s)

/-- O24. Doze and watchful sleep: entering, Aware, wake events and the return to Active -/
def Obligations.PowerManagement : Prop :=
  (∀ (e : Engine) (s : State), (s.pm e = 0 ∨ s.pm e = 3) → (s.get (BURST_PM_CFG_MODE e.n) = 1 ∨ s.get (BURST_PM_CFG_MODE e.n) = 2 ∧ s.pair.mode = 0) → (s.pm e = 0 → (s.line e).pmActiveAt + s.get (BURST_PM_CFG_THOLD e.n) * 1000000 ≤ s.now) → s.act e 0 = 5 → (∀ c ∈ sideChannels, s.isSet ((TC_ACT_CTRL_CH_JOIN e.n).bit (c.val - 1)) = true → s.act e c = 5) → s.stopped.contains .carrier = false → exec (.pmEnter .carrier ⟨e, none⟩) s = .next (s.put (BURST_PM_STATUS_STATE e.n) (s.get (BURST_PM_CFG_MODE e.n)))) ∧
  (∀ (e : Engine) (s : State), (s.pm e = 0 ∨ s.pm e = 3) → (s.get (BURST_PM_CFG_MODE e.n) = 0 ∨ s.act e 0 ≠ 5 ∨ (s.get (BURST_PM_CFG_MODE e.n) = 2 ∧ s.pair.mode ≠ 0) ∨ (∃ c ∈ sideChannels, s.isSet ((TC_ACT_CTRL_CH_JOIN e.n).bit (c.val - 1)) = true ∧ s.act e c ≠ 5) ∨ (s.pm e = 0 ∧ s.now < (s.line e).pmActiveAt + s.get (BURST_PM_CFG_THOLD e.n) * 1000000)) → s.stopped.contains .carrier = false → exec (.pmEnter .carrier ⟨e, none⟩) s = .next (burstFlag e 5 s)) ∧
  (∀ (e : Engine) (s : State), s.pm e ≠ 0 → s.pm e ≠ 3 → exec (.pmEnter .carrier ⟨e, none⟩) s = .next s) ∧
  (∀ (e : Engine) (w : WakeCause) (s : State), s.stopped.contains .carrier = false → (w = .localFrame → s.isSet (BURST_PM_CFG_LOCAL_WAKE e.n) = true) → exec (.pmEnter .carrier ⟨e, some w⟩) s = .next (burstFlag e 5 s)) ∧
  (∀ (e : Engine) (s : State), s.isSet (BURST_PM_CFG_LOCAL_WAKE e.n) = false → exec (.pmEnter .carrier ⟨e, some .localFrame⟩) s = exec (.pmEnter .carrier ⟨e, none⟩) s) ∧
  (∀ (a : Agent) (e : Engine) (s : State), a ≠ .carrier → s.stopped.contains a = false → exec (.pmEnter a ⟨e, none⟩) s = .next (s.refuse a) ∧ exec (.pmExit a e) s = .next (s.refuse a)) ∧
  (∀ (e : Engine) (s : State), s.Ok → (s.pm e = 1 ∨ s.pm e = 2 ∨ s.pm e = 3) → s.stopped.contains .carrier = false → ∃ t, exec (.pmExit .carrier e) s = .next t ∧ t.pm e = 4 ∧ t.get (BURST_PM_STATUS_WAKE_CAUSE e.n) = 5 ∧ t.isSet (BURST_PM_CTRL_EXIT e.n) = true ∧ t.isSet ⟨BURST_FLAGS e.n, 6, 6⟩ = true) ∧
  (∀ (e : Engine) (s : State), (s.pm e = 1 ∨ s.pm e = 2) → exec (.tlowExpiry e) s = .next (s.put (BURST_PM_STATUS_STATE e.n) 3)) ∧
  (∀ (e : Engine) (s : State), s.pm e = 3 → exec (.tawareExpiry e) s = .next (s.put (BURST_PM_STATUS_STATE e.n) (if s.get (BURST_PM_CFG_MODE e.n) = 2 then 2 else 1))) ∧
  (∀ (e : Engine) (s : State), s.pm e = 0 → exec (.tlowExpiry e) s = .next s ∧ exec (.tawareExpiry e) s = .next s ∧ exec (.wakeComplete e) s = .next s ∧ (∀ w ∈ [WakeCause.fwi, .ploam, .localFrame, .lossOfLock], exec (.pmWake e w) s = .next s)) ∧
  (∀ (e : Engine) (w : WakeCause) (s : State), s.Ok → (s.pm e = 1 ∨ s.pm e = 2 ∨ s.pm e = 3) → (w = .localFrame → s.isSet (BURST_PM_CFG_LOCAL_WAKE e.n) = true) → ∃ t, exec (.pmWake e w) s = .next t ∧ t.pm e = 4 ∧ t.get (BURST_PM_STATUS_WAKE_CAUSE e.n) = wakeCode w) ∧
  (∀ (e : Engine) (s : State), s.isSet (BURST_PM_CFG_LOCAL_WAKE e.n) = false → exec (.pmWake e .localFrame) s = .next s) ∧
  (∀ (e : Engine) (s : State), s.Ok → s.pm e = 4 → ∃ t, exec (.wakeComplete e) s = .next t ∧ t.pm e = 0 ∧ t.isSet (BURST_PM_CTRL_EXIT e.n) = false ∧ (0 < s.now → (t.line e).pmActiveAt = s.now)) ∧
  (∀ (e : Engine) (q : Nat) (b : Bool) (s : State), 1 < s.act e 0 → exec (.sleepAllow e 0 ⟨1023, true, q⟩ b) s = .next ((sendUp e (.ploam 0 ⟨⟨1023, true, q⟩, .sleepAllow b⟩) s).modLine e (fun l => { l with sleepAllow := b })))

/-- O25. Tie headers: the header check, the claim, the referee's admission, and what reaches the slots and the controller -/
def Obligations.TieHeaders : Prop :=
  (∀ (e : Engine) (h : List Byte) (p : TiePayload) (s : State), headerGood h = false → exec (.tieFrameReceive e h p) s = .next ((s.modLine e (fun l => { l with toHub := l.toHub.tail })).bump (PX_HDR_DROP e.n))) ∧
  (∀ (e : Engine) (h : List Byte) (p : TiePayload) (s : State), headerGood h = false → (s.line e).markIn ≠ some 0 → exec (.lineTieFrameReceive e h p) s = .next ((s.modLine e (fun l => { l with toLine := l.toLine.tail, markIn := l.markIn.map (· - 1) })).bump (TC_HDR_DROP e.n))) ∧
  (∀ (e : Engine) (h : List Byte) (p : TiePayload) (s : State), s.Ok → headerGood h = true → hdrKind h = 0 → ∃ t, exec (.tieFrameReceive e h p) s = .next t ∧ t.get (claimF e) = hdrClaim h ∧ t.active = (if s.get (claimF e.peer) < hdrClaim h ∨ (s.get (claimF e.peer) = hdrClaim h ∧ s.active = e) then e else e.peer) ∧ (t.active = e → t.pair.admitted = s.pair.admitted ++ [(e, p.bytes)] ∧ t.count (PX_CNT (2 + e.n)) = s.count (PX_CNT (2 + e.n))) ∧ (t.active ≠ e → t.pair.admitted = s.pair.admitted ∧ t.count (PX_CNT (2 + e.n)) = (s.count (PX_CNT (2 + e.n)) + 1) % 2 ^ 48)) ∧
  (∀ (e : Engine) (h : List Byte) (p : TiePayload) (s : State), headerGood h = true → (hdrKind h = 1 ∨ hdrKind h = 2 ∨ hdrKind h = 4) → ∃ t, exec (.tieFrameReceive e h p) s = .next t ∧ t.pair.toController = s.pair.toController ++ [(e, hdrKind h, p.bytes)] ∧ t.pair.admitted = s.pair.admitted) ∧
  (∀ (e : Engine) (h : List Byte) (p : TiePayload) (s : State), headerGood h = true → hdrKind h = 3 → exec (.tieFrameReceive e h p) s = .next (receiveDigest e (numBE p.bytes) (receiveClaim e (hdrClaim h) (hubSeq e (hdrSeq h) (s.modLine e (fun l => { l with toHub := if (l.toHub.head?.map (·.1)) = some h then l.toHub.tail else l.toHub })))))) ∧
  (∀ (e : Engine) (n : Nat) (s : State), ((hubSeq e n s).line e).rxHub = some ((n + 1) % 65536) ∧ ((hubSeq e n s).line e).hubGap = ((s.line e).hubGap || (s.line e).rxHub.any (· ≠ n)) ∧ (hubSeq e n s).regs = s.regs) ∧
  (∀ (e : Engine) (h : List Byte) (p : TiePayload) (s : State), headerGood h = true → hdrKind h = 0 → (s.pair.mode ≠ 1 ∨ s.active = e) → s.isSet (BURST_QPORT_VALID e.n (hdrLq h)) = true → frameCells ⟨0, p.bytes, false⟩ ≤ s.slotRoom e (hdrLq h / 8) → ∃ t, exec (.lineTieFrameReceive e h p) s = .next t ∧ t.queue e (hdrLq h) = s.queue e (hdrLq h) ++ [⟨s.nextId, p.bytes, false⟩] ∧ (t.line e).rxLine = some ((hdrSeq h + 1) % 65536) ∧ t.nextId = s.nextId + 1) ∧
  (∀ (e : Engine) (h : List Byte) (p : TiePayload) (s : State), s.Ok → headerGood h = true → hdrKind h = 0 → (s.pair.mode ≠ 1 ∨ s.active = e) → (s.isSet (BURST_QPORT_VALID e.n (hdrLq h)) = false ∨ s.slotRoom e (hdrLq h / 8) < frameCells ⟨0, p.bytes, false⟩) → ∃ t, exec (.lineTieFrameReceive e h p) s = .next t ∧ t.queue e (hdrLq h) = s.queue e (hdrLq h) ∧ t.count (BURST_FLUSHED e.n) = (s.count (BURST_FLUSHED e.n) + 1) % 2 ^ 48 ∧ t.isSet ⟨BURST_FLAGS e.n, 4, 4⟩ = true) ∧
  (∀ (e : Engine) (h : List Byte) (p : TiePayload) (s : State), s.Ok → headerGood h = true → hdrKind h = 0 → s.pair.mode = 1 → s.active ≠ e → ∃ t, exec (.lineTieFrameReceive e h p) s = .next t ∧ (t.line e).lq = (s.line e).lq ∧ t.count (PX_CNT 5) = (s.count (PX_CNT 5) + 1) % 2 ^ 48) ∧
  (∀ (e : Engine) (h : List Byte) (p : TiePayload) (s : State), headerGood h = true → hdrKind h = 1 → ((s.line e).rxLine = none ∨ (s.line e).rxLine = some (hdrSeq h)) → ∃ t, exec (.lineTieFrameReceive e h p) s = .next t ∧ (t.line e).ctrl = (s.line e).ctrl ++ [⟨s.nextId, p.bytes, false⟩] ∧ t.regs = s.regs) ∧
  (∀ (e : Engine) (h : List Byte) (p : TiePayload) (s : State), headerGood h = true → hdrKind h = 2 → ((s.line e).rxLine = none ∨ (s.line e).rxLine = some (hdrSeq h)) → ∃ t, exec (.lineTieFrameReceive e h p) s = .next t ∧ (t.ch e (Fin.ofNat 4 (hdrChan h))).fwPloam = (s.ch e (Fin.ofNat 4 (hdrChan h))).fwPloam ++ [p.bytes] ∧ t.regs = s.regs) ∧
  (∀ (e : Engine) (s : State), s.Ok → (s.line e).claim < 65536 → (s.line e).toHub = [] → ∃ t, exec (.engineStatusMessage ⟨e, true⟩) s = .next t ∧ t.get (claimF e) = (s.line e).claim ∧ t.active = (if s.get (claimF e.peer) < (s.line e).claim ∨ (s.get (claimF e.peer) = (s.line e).claim ∧ s.active = e) then e else e.peer) ∧ (t.line e).hubRemoved = (s.line e).removed ∧ (t.line e).txHub = ((s.line e).txHub + 1) % 65536) ∧
  (∀ (e : Engine) (s : State), (s.line e).toHub = [] → exec (.engineStatusMessage ⟨e, false⟩) s = .next ((s.modLine e (fun l => { l with txHub := (l.txHub + 1) % 65536 })).bump (PX_HDR_DROP e.n))) ∧
  (∀ (e : Engine) (s : State), (s.line e).toLine = [] → exec (.hubStatusMessage ⟨e, false⟩) s = .next ((s.modLine e (fun l => { l with txLine := (l.txLine + 1) % 65536 })).bump (TC_HDR_DROP e.n))) ∧
  (∀ (e : Engine) (s : State), (s.line e).toLine = [] → ∃ t, exec (.hubStatusMessage ⟨e, true⟩) s = .next t ∧ (t.line e).claim = (if (s.line e).claim ≠ 0 ∧ (s.line e).claim < s.get (claimF e.peer) then 0 else (s.line e).claim) ∧ (t.line e).txLine = ((s.line e).txLine + 1) % 65536) ∧
  (∀ (e : Engine) (s : State), s.Ok → s.linkGood e = true → ∃ t, exec (.tieLinkClaimTimeout e) s = .next t ∧ t.get (claimF e) = 0 ∧ t.isSet ⟨PX_FLAGS, 5 + e.n, 5 + e.n⟩ = true ∧ t.active = (if s.get (claimF e.peer) = 0 then s.active else e.peer)) ∧
  (∀ (e : Engine) (s : State), s.linkGood e = false → exec (.tieLinkClaimTimeout e) s = .next s)

/-- O26. Keeping in step: the digests, the step mark and the return to step -/
def Obligations.KeepingInStep : Prop :=
  (∀ (s : State), s.Ok → (s.line .la).toHub = [] → (s.line .lb).toHub = [] → stepDigest s .la ≠ stepDigest s .lb → s.pair.mode = 2 → s.isSet PX_STATUS_STEP = true → ∃ t, exec .stepDigest s = .next t ∧ (recvHub .lb (recvHub .la t)).isSet PX_STATUS_STEP = false ∧ (recvHub .lb (recvHub .la t)).pair.digestDiff = true ∧ (recvHub .lb (recvHub .la t)).pair.step = .digestWait ∧ (recvHub .lb (recvHub .la t)).isSet ⟨PX_FLAGS, 4, 4⟩ = true) ∧
  (∀ (a : Nat) (b : Nat) (s : State), s.Ok → sget (fun _ => none) s.pair.digest 0 = some a → sget (fun _ => none) s.pair.digest 1 = some b → a ≠ b → s.pair.mode = 2 → s.isSet PX_STATUS_STEP = true → (compareDigests s).isSet PX_STATUS_STEP = false ∧ (compareDigests s).pair = { s.pair with digestDiff := true, step := .digestWait } ∧ (compareDigests s).isSet ⟨PX_FLAGS, 4, 4⟩ = true ∧ (compareDigests s).isSet ⟨PX_FLAGS, 2, 2⟩ = true ∧ (compareDigests s).count (PX_CNT 4) = (s.count (PX_CNT 4) + 1) % 2 ^ 48 ∧ regsKept [PX_STATUS, PX_FLAGS, PX_CNT 4, PX_CNT 4 + 4] s (compareDigests s)) ∧
  (∀ (e : Engine) (s : State), (s.line .la).toHub = [] → (s.line .lb).toHub = [] → ∃ t, exec .stepDigest s = .next t ∧ (t.line e).toHub = [(tieHeader e false (s.line e).claim 3 0 0 false 0 8 0 (s.line e).txHub, .digest (stepDigest s e))] ∧ (t.line e).txHub = ((s.line e).txHub + 1) % 65536 ∧ t.pair = { s.pair with digest := [] } ∧ t.regs = s.regs) ∧
  (∀ (s : State), (s.line .la).toHub = [] → (s.line .lb).toHub = [] → stepDigest s .la = stepDigest s .lb → ∃ t, exec .stepDigest s = .next t ∧ (recvHub .lb (recvHub .la t)).pair.digestDiff = false ∧ ((recvHub .lb (recvHub .la t)).pair.step = if s.pair.step = .digestWait then .markReady else s.pair.step)) ∧
  (∀ (s : State), s.stopped.contains .carrier = false → s.pair.mode = 2 → exec (.restep .carrier) s = .next ((s.putB PX_CTRL_RESTEP true).modPair (fun p => { p with step := .digestWait, digest := [] }))) ∧
  (∀ (a : Agent) (s : State), a ≠ .carrier → s.stopped.contains a = false → exec (.restep a) s = .next (s.refuse a)) ∧
  (∀ (s : State), s.pair.mode ≠ 2 → exec (.restep .carrier) s = .next s) ∧
  (∀ (s : State), s.pair.step = .markReady → exec .stepMarkSend s = .next (sendMark .lb (sendMark .la ((s.putB PX_CTRL_RESTEP false).modPair (fun p => { p with step := .marked, marksDue := [.la, .lb] }))))) ∧
  (∀ (e : Engine) (s : State), ((sendMark e s).line e).markIn = some (s.line e).toLine.length ∧ ((sendMark e s).line e).toLine = (s.line e).toLine ++ [(tieHeader e true (s.get (claimF e)) 4 0 0 false 0 0 0 (s.line e).txLine, [])] ∧ ((sendMark e s).line e).txLine = ((s.line e).txLine + 1) % 65536 ∧ (sendMark e s).regs = s.regs) ∧
  (∀ (e : Engine) (b : Bool) (s : State), s.pair.step = .idle → (s.line e).markIn = none → exec .stepMarkSend s = .next s ∧ exec (.stepMark ⟨e, b⟩) s = .next s ∧ exec .stepBack s = .next s) ∧
  (∀ (e : Engine) (h : List Byte) (bs : List Byte) (s : State), s.pair.step = .marked → s.isSet PX_STATUS_STEP = false → e ∈ s.pair.marksDue → s.active = e → (s.line e).markIn = some 0 → (s.line e).toLine = [(h, bs)] → ∃ t, exec (.stepMark ⟨e, true⟩) s = .next t ∧ (t.line e).removed = [] ∧ (t.line e).gap = false ∧ (t.line e).markAt = some (((s.line e).lq.filter (fun x => x.2 ≠ [])).map (fun x => (x.1, x.2.length))) ∧ (t.line e).lq = (s.line e).lq ∧ t.pair.marksDue = s.pair.marksDue.filter (fun x => x ≠ e) ∧ t.regs = s.regs) ∧
  (∀ (e : Engine) (h : List Byte) (bs : List Byte) (s : State), s.Ok → s.pair.step = .marked → e ∈ s.pair.marksDue → s.active ≠ e → (s.line e).markIn = some 0 → (s.line e).toLine = [(h, bs)] → ∃ t, exec (.stepMark ⟨e, true⟩) s = .next t ∧ (t.line e).removed = [] ∧ (t.line e).lq = [] ∧ (t.line e).markAt = some [] ∧ t.count (PX_CNT 5) = (s.count (PX_CNT 5) + ((s.line e).lq.map (fun x => x.2.length)).sum) % 2 ^ 48 ∧ t.pair.marksDue = s.pair.marksDue.filter (fun x => x ≠ e)) ∧
  (∀ (e : Engine) (h : List Byte) (bs : List Byte) (s : State), s.Ok → (s.line e).markIn = some 0 → (s.line e).toLine = [(h, bs)] → ∃ t, exec (.stepMark ⟨e, false⟩) s = .next t ∧ t.count (TC_HDR_DROP e.n) = (s.count (TC_HDR_DROP e.n) + 1) % 2 ^ 48 ∧ (t.line e).markIn = some 0 ∧ (t.line e).toLine.length = 1 ∧ (t.line e).lq = (s.line e).lq ∧ t.pair.marksDue = s.pair.marksDue) ∧
  (∀ (s : State), s.Ok → s.pair.mode = 2 → s.pair.step = .marked → s.pair.marksDue = [] → (s.line s.active).markAt = some [] → s.cleanStep = true → ∃ t, exec .stepBack s = .next t ∧ t.isSet PX_STATUS_STEP = true ∧ t.isSet ⟨PX_FLAGS, 3, 3⟩ = true ∧ t.pair.step = .idle ∧ regsKept [PX_STATUS, PX_FLAGS] s t) ∧
  (∀ (s : State), s.pair.mode = 2 → s.pair.step = .marked → s.pair.marksDue = [] → (s.line s.active).markAt = some [] → (s.pair.digestDiff = true ∨ (∃ e ∈ [Engine.la, .lb], (s.line e).gap = true ∨ (s.line e).discarded = true)) → exec .stepBack s = .next (s.modPair (fun p => { p with step := .digestWait, digest := [] })))

/-- O27. The switch-over: triggers, RAISE, SETTLE, the ready point, modes and their refusals -/
def Obligations.SwitchOver : Prop :=
  (∀ (n : Nat) (s : State), (n = 1 ∨ 5 ≤ n) → n ≤ 7 → s.pair.mode ≠ 0 → s.pair.sw = none → s.pair.judged = [] → s.meets s.active.peer n = true → exec (.switchoverTrigger [n]) s = .next (((s.put PX_STATUS_PHASE 1).put PX_STATUS_LAST_CAUSE n).modPair (fun p => { p with sw := some ⟨s.active.peer, n, false⟩, ready := false, gpioHeld := s.gapLevels }))) ∧
  (∀ (n : Nat) (s : State), (n = 1 ∨ 5 ≤ n) → n ≤ 7 → s.pair.sw = none → s.pair.judged = [] → (s.pair.mode = 0 ∨ s.meets s.active.peer n = false) → exec (.switchoverTrigger [n]) s = .next (pxFlag 1 ((s.putB PX_CTRL_SWITCH false).bump (PX_CNT 1)))) ∧
  (∀ (n : Nat) (w : SwitchOp) (s : State), 1 ≤ n → n ≤ 7 → s.pair.sw = some w → s.pair.judged = [] → exec (.switchoverTrigger [n]) s = .next (s.modPair (fun p => { p with waiting := p.waiting ++ [n].filter (fun k => !p.waiting.contains k) }))) ∧
  (∀ (s : State), s.pair.mode ≠ 0 → s.pair.sw = none → s.pair.judged = [] → s.meets s.active.peer 1 = true → exec (.switchoverTrigger [5, 1]) s = exec (.switchoverTrigger [1]) s) ∧
  (∀ (e : Engine) (s : State), (s.meets e 1 = s.linkGood e) ∧ (s.eligible e = (s.act e 0 = 5 && s.locked e 0 && s.linkGood e)) ∧ (∀ n ∈ [2, 3, 5, 6, 7], s.meets e n = s.eligible e)) ∧
  (∀ (s : State) (v : Nat), exec (.protectionSwitchCommand 1) s = exec (.switchoverTrigger [5]) s ∧ exec (.protectionSwitchCommand 2) s = exec (.switchoverTrigger [1]) s ∧ (v ≠ 1 → v ≠ 2 → exec (.protectionSwitchCommand v) s = .next s)) ∧
  (∀ (b : Bool) (s : State), s.stopped.contains .carrier = false → exec (.pxSwitch .carrier b) s = exec (.switchoverTrigger [if b then 1 else 6]) ((s.putB PX_CTRL_FORCE b).putB PX_CTRL_SWITCH true)) ∧
  (∀ (a : Agent) (e : Engine) (b : Bool) (m : Nat) (s : State), a ≠ .carrier → s.stopped.contains a = false → exec (.pxSwitch a b) s = .next (s.refuse a) ∧ exec (.pxModeWrite a m) s = .next (s.refuse a) ∧ exec (.pxPrimaryWrite a e) s = .next (s.refuse a)) ∧
  (∀ (e : Engine) (w : SwitchOp) (s : State), s.pair.sw = some w → exec (.raise e) s = .next (if w.target = e then s.modLine e (fun l => { l with claim := 2 }) else s)) ∧
  (∀ (s : State) (e : Engine), s.pair.sw = none → exec (.raise e) s = .next s) ∧
  (∀ (e : Engine) (w : SwitchOp) (s : State), s.Ok → s.pair.sw = some w → w.target = e → s.get PX_STATUS_PHASE = 2 → s.pair.waiting = [] → s.pair.undo = none → ∃ t, exec (.settle e) s = .next t ∧ (t.line e).claim = 1 ∧ t.pair.sw = none ∧ t.get PX_STATUS_PHASE = 0 ∧ t.isSet PX_CTRL_SWITCH = false ∧ t.count (PX_CNT 0) = (s.count (PX_CNT 0) + 1) % 2 ^ 48 ∧ t.pair.guard = decide (s.get PX_CFG_GUARD ≠ 0) ∧ t.pair.mode = s.get PX_CTRL_MODE) ∧
  (∀ (e : Engine) (s : State), s.pair.sw = none → exec (.settle e) s = .next (if s.unclaimed = true ∧ s.primary = e then s.modLine e (fun l => { l with claim := 1 }) else s)) ∧
  (∀ (m : Nat) (s : State), s.Ok → s.stopped.contains .carrier = false → s.unclaimed = true → m < 3 → ∃ t, exec (.pxModeWrite .carrier m) s = .next t ∧ t.get PX_CTRL_MODE = m ∧ t.pair.mode = m) ∧
  (∀ (m : Nat) (s : State), 3 ≤ m → s.stopped.contains .carrier = false → exec (.pxModeWrite .carrier m) s = .next s) ∧
  (∀ (e : Engine) (s : State), s.Ok → s.stopped.contains .carrier = false → s.unclaimed = true → ∃ t, exec (.pxPrimaryWrite .carrier e) s = .next t ∧ t.primary = e) ∧
  (∀ (e : Engine) (s : State), s.Ok → s.stopped.contains .carrier = false → s.get PX_CTRL_MODE = 0 → s.pair.sw = none → s.active ≠ e → (s.line s.active).claim ≠ 0 → s.eligible e = false → ∃ t, exec (.pxPrimaryWrite .carrier e) s = .next t ∧ t.primary = s.primary ∧ t.pair.sw = none ∧ t.pair.mode = s.pair.mode ∧ t.isSet ⟨PX_FLAGS, 1, 1⟩ = true ∧ t.count (PX_CNT 1) = (s.count (PX_CNT 1) + 1) % 2 ^ 48) ∧
  (∀ (e : Engine) (s : State), s.Ok → s.stopped.contains .carrier = false → s.get PX_CTRL_MODE = 0 → s.pair.sw = none → s.active ≠ e → (s.line s.active).claim ≠ 0 → s.eligible e = true → ∃ t, exec (.pxPrimaryWrite .carrier e) s = .next t ∧ t.primary = e ∧ t.pair.sw = some ⟨e, 6, false⟩ ∧ t.pair.mode = s.pair.mode ∧ t.get PX_STATUS_PHASE = 1 ∧ t.get PX_STATUS_LAST_CAUSE = 6) ∧
  (∀ (s : State), s.pair.sw = none → s.pair.guarded = [] → exec .guardExpiry s = .next (s.modPair (fun p => { p with guard := false }))) ∧
  (∀ (s : State), s.pair.sw = none → s.pair.guarded = [3] → s.holds 3 = false → exec .guardExpiry s = .next (s.modPair (fun p => { p with guard := false, guarded := [], judged := p.judged.filter (fun k => ! [3].contains k) }))) ∧
  (∀ (s : State), s.pair.arming = false → exec .readyPoint s = .next s) ∧
  (∀ (s : State), s.pair.arming = true → ∃ t, exec .readyPoint s = .next t ∧ t.pair.ready = true ∧ t.pair.arming = false ∧ (t.line s.active).rsDone = [] ∧ (∀ c ∈ channels, ∀ b ∈ (s.ch s.active c).bursts, b.shadow = false → b ∈ (t.ch s.active c).bursts)) ∧
  (∀ (s : State), exec .recoveryExpiry s = .next (s.putB PX_STATUS_PRACTICE false))

/-- O28. A change of the selected domain: the offset takes up the difference, house time does not step, and the offset slews to 0 -/
def Obligations.HouseSelection : Prop :=
  (∀ (d : Dom) (s : State), s.stopped.contains .tenant = false → d ≠ s.te.sel → -(2147483647 * 2 ^ 32) ≤ (s.house : Int) - s.domTime d → (s.house : Int) - s.domTime d ≤ 2147483647 * 2 ^ 32 → ∃ t, exec (.houseSelect .tenant d) s = .next t ∧ t.te.sel = d ∧ t.te.off = (s.house : Int) - s.domTime d ∧ t.house = s.house ∧ t.now = s.now ∧ t.te.dom0 = s.te.dom0 ∧ t.te.dom1 = s.te.dom1) ∧
  (∀ (s : State) (n : Nat), s.Ok → s.moduleHeld = false → s.offFrozen = false → n = s.get TE_HOUSE_CFG_SLEW * 4295 → (s.elapse 1).te.off = (if (n : Int) < s.te.off then s.te.off - n else if s.te.off < -(n : Int) then s.te.off + n else 0) ∧ (s.te.off ≠ 0 → (s.elapse 1).te.off = 0 → (s.elapse 1).isSet ⟨TE_FLAGS, 2, 2⟩ = true)) ∧
  (∀ (s : State), (s.view 0x00800014).getLsbD 1 = decide (s.te.off ≠ 0)) ∧
  (∀ (s : State), s.Ok → s.te.off ≠ 0 → 0 < s.get TE_HOUSE_CFG_SLEW → s.moduleHeld = false → s.offFrozen = false → ∃ t, exec .slewDone s = .next t ∧ t.te.off = 0 ∧ t.isSet ⟨TE_FLAGS, 2, 2⟩ = true ∧ t.now = s.now + (s.te.off.natAbs + s.get TE_HOUSE_CFG_SLEW * 4295 - 1) / (s.get TE_HOUSE_CFG_SLEW * 4295)) ∧
  (∀ (d : Dom) (s : State), d = s.te.sel → s.stopped.contains .tenant = false → exec (.houseSelect .tenant d) s = .next s) ∧
  (∀ (a : Agent) (d : Dom) (s : State), a ≠ .tenant → s.stopped.contains a = false → exec (.houseSelect a d) s = .next (s.refuse a)) ∧
  (∀ (s : State), (s.te.off = 0 ∨ s.offFrozen = true) → exec .slewDone s = .next s)

/-- O29. The servos of the two domains: samples, steps, Locked, Holdover, and writes of the domain time and of samples -/
def Obligations.Servos : Prop :=
  (∀ (d : Dom) (v : Int) (s : State), s.Ok → s.sampleOf d = some v → s.freshSample d = true → v.natAbs ≤ s.get (TE_DOM_CFG_STEP_THR d.val) * 100 * 2 ^ 32 → ∃ t, exec (.servoSample d) s = .next t ∧ t.domTime d = s.domTime d ∧ t.get (servoF d) = (if s.get (servoF d) = 0 ∨ s.get (servoF d) = 3 ∨ (s.get (servoF d) = 2 ∧ 500 * 2 ^ 32 < v.natAbs) then 1 else s.get (servoF d)) ∧ t.freshSample d = false ∧ t.integral d = (s.loopOf d v).1 ∧ t.reg (TE_DOM_ADJ d.val) = BitVec.ofNat 32 (toField 32 (max (-858993) (min 858993 ((s.loopOf d v).2)))) ∧ regsKept [TE_DOM_STATUS d.val, TE_DOM_ADJ d.val, TE_FLAGS] s t) ∧
  (∀ (d : Dom) (v : Int) (s : State), s.Ok → s.sampleOf d = some v → s.freshSample d = true → s.get (TE_DOM_CFG_STEP_THR d.val) * 100 * 2 ^ 32 < v.natAbs → d ≠ s.te.sel → ∃ t, exec (.servoSample d) s = .next t ∧ t.domTime d = ((s.domTime d : Int) + v).toNat ∧ t.get (servoF d) = 1 ∧ t.integral d = s.integral d ∧ t.isSet ⟨TE_FLAGS, 5 + d.val, 5 + d.val⟩ = true ∧ t.house = s.house) ∧
  (∀ (d : Dom) (s : State), (s.sampleOf d = none ∨ s.freshSample d = false) → exec (.servoSample d) s = .next s) ∧
  (∀ (d : Dom) (u : Nat) (s : State), s.get (servoF d) = 1 → s.calmSince d = some u → u + 10 ^ 10 ≤ s.now → exec (.servoLock d) s = .next (teFlag (3 + d.val) (s.put (servoF d) 2))) ∧
  (∀ (d : Dom) (s : State), (s.get (servoF d) ≠ 1 ∨ s.calmSince d = none) → exec (.servoLock d) s = .next s) ∧
  (∀ (d : Dom) (u : Nat) (s : State), s.Ok → s.get (servoF d) = 1 → s.calmSince d = some u → ∃ t, exec (.servoLock d) s = .next t ∧ t.get (servoF d) = 2 ∧ t.now = max s.now (u + 10 ^ 10)) ∧
  (∀ (d : Dom) (s : State), s.Ok → (s.get (servoF d) = 1 ∨ s.get (servoF d) = 2) → (s.source d = 1 ∨ s.source d = 2) → s.lineValid d = false → ∃ t, exec (.servoHoldover d) s = .next t ∧ t.get (servoF d) = 3 ∧ t.isSet ⟨TE_FLAGS, 3 + d.val, 3 + d.val⟩ = true ∧ t.reg (TE_DOM_ADJ d.val) = (if s.pair.ready then BitVec.ofNat 32 (toField 32 (max (-858993) (min 858993 (s.adjMean d)))) else s.reg (TE_DOM_ADJ d.val)) ∧ t.domTime d = s.domTime d) ∧
  (∀ (d : Dom) (u : Nat) (s : State), s.Ok → (s.get (servoF d) = 1 ∨ s.get (servoF d) = 2) → s.source d ≠ 1 → s.source d ≠ 2 → s.lastSample d = some u → ∃ t, exec (.servoHoldover d) s = .next t ∧ t.get (servoF d) = 3 ∧ t.now = max s.now (u + s.get (TE_DOM_CFG_HOLD_TO d.val) * 500000000)) ∧
  (∀ (d : Dom) (s : State), (s.get (servoF d) = 0 ∨ s.get (servoF d) = 3 ∨ s.lineValid d = true) → exec (.servoHoldover d) s = .next s) ∧
  (∀ (d : Dom) (i : Fin 4) (w : Word) (s : State), i.val < 3 → s.source d = 0 → s.stopped.contains .tenant = false → exec (.domainTimeWrite .tenant d i w) s = .next (holdWord .tenant (0x00800100 + 0x80 * d.val + 4 * i.val) w s)) ∧
  (∀ (d : Dom) (i : Fin 4) (w : Word) (s : State), s.source d ≠ 0 → s.stopped.contains .tenant = false → exec (.domainTimeWrite .tenant d i w) s = .next (s.refuse .tenant)) ∧
  (∀ (d : Dom) (w : Word) (ws : List Word) (s : State), s.Ok → s.source d = 0 → s.stopped.contains .tenant = false → ws = (List.range 3).map (fun i => (s.heldWord .tenant (0x00800100 + 0x80 * d.val + 4 * i)).getD ((timeWords (s.domTime d)).getD i 0)) → (ws.getD 2 0).toNat % 2 ^ 30 < 1000000000 → d ≠ s.te.sel → ∃ t, exec (.domainTimeWrite .tenant d 3 w) s = .next t ∧ t.domTime d = wordsTime (ws ++ [w]) ∧ t.isSet ⟨TE_FLAGS, 5 + d.val, 5 + d.val⟩ = true ∧ t.house = s.house) ∧
  (∀ (d : Dom) (w : Word) (s : State), s.source d = 0 → s.stopped.contains .tenant = false → 1000000000 ≤ ((s.heldWord .tenant (0x00800108 + 0x80 * d.val)).getD ((timeWords (s.domTime d)).getD 2 0)).toNat % 2 ^ 30 → exec (.domainTimeWrite .tenant d 3 w) s = .next ((clearHeld .tenant (0x00800100 + 0x80 * d.val) (0x00800110 + 0x80 * d.val) s).refuse .tenant)) ∧
  (∀ (d : Dom) (w : Word) (s : State), s.source d = 0 → s.stopped.contains .tenant = false → d = s.te.sel → s.isSet TE_HOUSE_CFG_STEP_EN = false → ((s.heldWord .tenant (0x00800108 + 0x80 * d.val)).getD ((timeWords (s.domTime d)).getD 2 0)).toNat % 2 ^ 30 < 1000000000 → ∃ t, exec (.domainTimeWrite .tenant d 3 w) s = .next t ∧ ((s.house : Int) - t.domTime d ≤ 2147483647 * 2 ^ 32 → -(2147483647 * 2 ^ 32) ≤ (s.house : Int) - t.domTime d → t.house = s.house ∧ t.te.off = (s.house : Int) - t.domTime d)) ∧
  (∀ (a : Agent) (d : Dom) (i : Fin 4) (b : Bool) (w : Word) (s : State), a ≠ .tenant → s.stopped.contains a = false → exec (.domainTimeWrite a d i w) s = .next (s.refuse a) ∧ exec (.ptpSampleWrite a d b w) s = .next (s.refuse a)) ∧
  (∀ (d : Dom) (w : Word) (s : State), s.stopped.contains .tenant = false → exec (.ptpSampleWrite .tenant d false w) s = .next (holdWord .tenant (TE_DOM_SAMPLE d.val) w s)) ∧
  (∀ (d : Dom) (w : Word) (s : State), s.stopped.contains .tenant = false → s.source d ≠ 3 → exec (.ptpSampleWrite .tenant d true w) s = .next ((clearHeld .tenant (TE_DOM_SAMPLE d.val) (TE_DOM_SAMPLE d.val + 8) s).refuse .tenant)) ∧
  (∀ (d : Dom) (w : Word) (v : Word) (s : State), s.Ok → s.stopped.contains .tenant = false → s.source d = 3 → s.heldWord .tenant (TE_DOM_SAMPLE d.val) = some v → sget (fun _ => none) s.te.ptpAt d.val = none → s.get (servoF d) = 0 → (signed 32 v.toNat * 2 ^ 32 + w.toNat).natAbs ≤ s.get (TE_DOM_CFG_STEP_THR d.val) * 100 * 2 ^ 32 → ∃ t, exec (.ptpSampleWrite .tenant d true w) s = .next t ∧ t.get (servoF d) = 1 ∧ t.domTime d = s.domTime d ∧ sget (fun _ => none) t.te.ptpAt d.val = some s.now ∧ t.get (TE_DOM_STATUS_LAST_OFF d.val) = toField 16 (max (-32767) (min 32767 ((signed 32 v.toNat * 2 ^ 32 + w.toNat) / 2 ^ 32))))

/-- O30. The time-of-day stream of an engine, and the loss and return of the frequency reference -/
def Obligations.TimeOfDay : Prop :=
  (∀ (e : Engine) (s : State), s.Ok → s.stopped.contains .carrier = false → 2 ^ 31 ≤ ((s.reg (TC_SFC e.n 0)).toNat + 2 ^ 32 - (s.reg (TC_TOD_SFC e.n)).toNat) % 2 ^ 32 → ∃ t, exec (.todArm .carrier e) s = .next t ∧ t.isSet (TC_TOD_CTRL_ARM e.n) = true ∧ t.isSet (TC_TOD_CTRL_VALID e.n) = false ∧ t.isSet (TC_TOD_CTRL_STALE e.n) = s.isSet (TC_TOD_CTRL_STALE e.n) ∧ regsKept [TC_TOD_CTRL e.n] s t) ∧
  (∀ (e : Engine) (s : State), s.Ok → s.stopped.contains .carrier = false → ((s.reg (TC_SFC e.n 0)).toNat + 2 ^ 32 - (s.reg (TC_TOD_SFC e.n)).toNat) % 2 ^ 32 < 2 ^ 31 → ∃ t, exec (.todArm .carrier e) s = .next t ∧ t.isSet (TC_TOD_CTRL_ARM e.n) = false ∧ t.isSet (TC_TOD_CTRL_VALID e.n) = false ∧ t.isSet (TC_TOD_CTRL_STALE e.n) = true ∧ regsKept [TC_TOD_CTRL e.n] s t) ∧
  (∀ (a : Agent) (e : Engine) (s : State), a ≠ .carrier → s.stopped.contains a = false → exec (.todArm a e) s = .next (s.refuse a)) ∧
  (∀ (e : Engine) (s : State), s.Ok → s.isSet (TC_TOD_CTRL_ARM e.n) = true → s.reg (TC_SFC e.n 0) = s.reg (TC_TOD_SFC e.n) → ∃ t, exec (.todAnnouncedFrame e) s = .next t ∧ t.isSet (TC_TOD_CTRL_ARM e.n) = false ∧ t.isSet (TC_TOD_CTRL_VALID e.n) = true ∧ (t.line e).todOut = some (todTime s e 0) ∧ (t.line e).todK = 0 ∧ regsKept [TC_TOD_CTRL e.n] s t) ∧
  (∀ (e : Engine) (s : State), (s.isSet (TC_TOD_CTRL_ARM e.n) = false ∨ s.reg (TC_SFC e.n 0) ≠ s.reg (TC_TOD_SFC e.n)) → exec (.todAnnouncedFrame e) s = .next s) ∧
  (∀ (e : Engine) (s : State), exec (.todStop e) s = .next ((s.putB (TC_TOD_CTRL_VALID e.n) false).modLine e (fun l => { l with todOut := none, todK := 0 }))) ∧
  (∀ (s : State), s.get TE_FREQ_CFG_FSRC ≠ 0 → s.te.freqHold = false → exec .freqLost s = .next (teFlag 7 { s with te := { s.te with freqHold := true } })) ∧
  (∀ (s : State), (s.get TE_FREQ_CFG_FSRC = 0 ∨ s.te.freqHold = true) → exec .freqLost s = .next s) ∧
  (∀ (s : State), exec .freqRefReturn s = .next { s with te := { s.te with freqHold := false } })

/-- O31. Stamp queues, capture inputs, time outputs and the at-time action list -/
def Obligations.StampsOutputsActions : Prop :=
  (∀ (a : Agent) (p : Port) (x : TxStamp) (xs : List TxStamp) (s : State), (a = .tenant ∨ a = .host) → s.stopped.contains a = false → s.stampQueue p.val = x :: xs → exec (.tsTxPop a p) s = .next (snapshot a (0x01400810 + 0x1000 * p.val) [(timeWords x.time).getD 0 0, (timeWords x.time).getD 1 0, ((timeWords x.time).getD 2 0).withField 31 31 1, BitVec.ofNat 32 (x.seqId % 2 ^ 16 * 2 ^ 16 + x.domain % 256 * 256 + x.msgType % 16 * 16)] (setStampQueue p.val xs s))) ∧
  (∀ (a : Agent) (p : Port) (s : State), (a = .tenant ∨ a = .host) → s.stopped.contains a = false → s.stampQueue p.val = [] → exec (.tsTxPop a p) s = .next (snapshot a (0x01400810 + 0x1000 * p.val) [0, 0, 0, 0] s)) ∧
  (∀ (n : Fin 8) (b : Bool) (ph : Fin 8) (s : State), (s.get (TE_TIN_CFG_EDGE n.val) = 3 ∨ s.get (TE_TIN_CFG_EDGE n.val) = (if b then 1 else 2)) → (∀ t, sget (fun _ => none) s.te.tinAt n.val = some t → t + 64 ≤ 8 * s.now + ph.val) → (s.tinQueue n.val).length < 8 → (s.get (TE_TIN_CFG_REF n.val) = 0 ∨ s.get (TE_TIN_CFG_REF n.val) = 1 ∨ s.get (TE_TIN_CFG_REF n.val) = 2) → ∃ t, exec (.tinEdgeCapture n b ph) s = .next t ∧ t.tinQueue n.val = s.tinQueue n.val ++ [⟨(if s.get (TE_TIN_CFG_REF n.val) = 1 then s.te.dom0 else if s.get (TE_TIN_CFG_REF n.val) = 2 then s.te.dom1 else s.house) + ph.val * 2 ^ 29, b⟩] ∧ t.regs = s.regs) ∧
  (∀ (n : Fin 8) (b : Bool) (ph : Fin 8) (s : State), s.Ok → s.get (TE_TIN_CFG_EDGE n.val) = 3 → sget (fun _ => none) s.te.tinAt n.val = none → 8 ≤ (s.tinQueue n.val).length → ∃ t, exec (.tinEdgeCapture n b ph) s = .next t ∧ t.tinQueue n.val = s.tinQueue n.val ∧ t.isSet ⟨TE_FLAGS, 12, 12⟩ = true) ∧
  (∀ (n : Fin 8) (b : Bool) (ph : Fin 8) (s : State), (s.get (TE_TIN_CFG_EDGE n.val) = 0 ∨ s.get (TE_TIN_CFG_EDGE n.val) = (if b then 2 else 1)) → exec (.tinEdgeCapture n b ph) s = .next s) ∧
  (∀ (n : Fin 8) (x : TinStamp) (xs : List TinStamp) (s : State), s.stopped.contains .tenant = false → s.tinQueue n.val = x :: xs → exec (.tinStampPop .tenant n) s = .next (snapshot .tenant (0x00800700 + 0x10 * n.val) [(timeWords x.time).getD 0 0, (timeWords x.time).getD 1 0, (((timeWords x.time).getD 2 0).withField 31 31 1).withField 30 30 x.rise.toNat, (timeWords x.time).getD 3 0] { s with te := { s.te with tin := sset (fun _ => []) s.te.tin n.val xs } })) ∧
  (∀ (a : Agent) (n : Fin 8) (s : State), a ≠ .tenant → s.stopped.contains a = false → exec (.tinStampPop a n) s = .next (s.refuse a)) ∧
  (∀ (n : Fin 4) (u : Nat) (s : State), s.toutFalls n.val = none → sget (fun _ => none) s.te.toutNext n.val = some u → ((u : Int) + s.toutComp n.val).toNat ≤ s.house → exec (.toutPulse n) s = .next (setFall n.val (some (u + (s.reg (TE_TOUT_WIDTH n.val)).toNat * 2 ^ 32)) (setTout n.val true s))) ∧
  (∀ (n : Fin 4) (u : Nat) (s : State), s.toutFalls n.val = none → sget (fun _ => none) s.te.toutNext n.val = some u → ∃ t, exec (.toutPulse n) s = .next t ∧ t.toutLevel n.val = true) ∧
  (∀ (n : Fin 4) (u : Nat) (s : State), s.toutFalls n.val = some u → ((u : Int) + s.toutComp n.val).toNat ≤ s.house → exec (.toutPulse n) s = .next (placeRise n.val 1 (setFall n.val none (setTout n.val false s)))) ∧
  (∀ (n : Fin 4) (u : Nat) (s : State), s.toutFalls n.val = some u → ∃ t, exec (.toutPulse n) s = .next t ∧ t.toutLevel n.val = false ∧ t.toutFalls n.val = none) ∧
  (∀ (n : Fin 4) (s : State), s.toutFalls n.val = none → sget (fun _ => none) s.te.toutNext n.val = none → exec (.toutPulse n) s = .next s) ∧
  (∀ (a : Agent) (i : Fin 64) (w : Word) (s : State), a ∈ actAgents i.val → s.stopped.contains a = false → (a = .host → s.hostMay = true) → kindOk i.val (w.field 19 16) = true → (w.field 31 31 = 0 → s.armed i.val = false ∨ s.house < s.timeAt (actTime i.val)) → (w.field 31 31 = 0 ∨ s.house + micro ≤ (((s.put ⟨actCtrl i.val, 19, 16⟩ (w.field 19 16)).put ⟨actCtrl i.val, 15, 0⟩ (w.field 15 0)).put ⟨actCtrl i.val, 31, 31⟩ (w.field 31 31)).timeAt (actTime i.val)) → exec (.actionArm a i w) s = .next (((s.put ⟨actCtrl i.val, 19, 16⟩ (w.field 19 16)).put ⟨actCtrl i.val, 15, 0⟩ (w.field 15 0)).put ⟨actCtrl i.val, 31, 31⟩ (w.field 31 31))) ∧
  (∀ (a : Agent) (i : Fin 64) (w : Word) (s : State), a ∉ actAgents i.val → s.stopped.contains a = false → exec (.actionArm a i w) s = .next (s.refuse a)) ∧
  (∀ (i : Fin 64) (w : Word) (s : State), s.Ok → s.stopped.contains .tenant = false → i.val < 48 → kindOk i.val (w.field 19 16) = false → w.field 31 31 = 0 → (s.armed i.val = false ∨ s.house < s.timeAt (actTime i.val)) → ∃ t, exec (.actionArm .tenant i w) s = .next t ∧ t.get ⟨actCtrl i.val, 19, 16⟩ = s.get ⟨actCtrl i.val, 19, 16⟩ ∧ t.get ⟨actCtrl i.val, 15, 0⟩ = w.field 15 0 ∧ t.armed i.val = false) ∧
  (∀ (i : Fin 64) (w : Word) (s : State), s.Ok → s.stopped.contains .tenant = false → i.val < 48 → (w.field 19 16 = 0 ∨ w.field 19 16 = 5) → w.field 31 31 = 1 → s.timeAt (actTime i.val) < s.house + micro → s.actPeriod i.val = 0 → ∃ t, exec (.actionArm .tenant i w) s = .next t ∧ t.armed i.val = false ∧ t.isSet ⟨actCtrl i.val, 30, 30⟩ = true ∧ t.isSet ⟨TE_FLAGS, 8, 8⟩ = true ∧ t.isSet ⟨TE_FLAGS, 9, 9⟩ = true ∧ regsKept [actCtrl i.val, TE_FLAGS] s t) ∧
  (∀ (i : Fin 64) (s : State), s.Ok → s.armed i.val = true → s.timeAt (actTime i.val) ≤ s.house → (s.get ⟨actCtrl i.val, 19, 16⟩ = 0 ∨ s.get ⟨actCtrl i.val, 19, 16⟩ = 5) → ∃ t, exec (.actionFire i) s = .next t ∧ t.isSet ⟨TE_FLAGS, 8, 8⟩ = true ∧ t.isSet ⟨actCtrl i.val, 30, 30⟩ = false ∧ t.armed i.val = decide (s.actPeriod i.val ≠ 0) ∧ (s.timeAt (actTime i.val) + s.actPeriod i.val < 2 ^ 64 * second → t.timeAt (actTime i.val) = s.timeAt (actTime i.val) + s.actPeriod i.val)) ∧
  (∀ (i : Fin 64) (w : Word) (s : State), s.Ok → s.stopped.contains .tenant = false → i.val < 48 → w.field 31 31 = 0 → s.armed i.val = true → s.timeAt (actTime i.val) ≤ s.house → (s.get ⟨actCtrl i.val, 19, 16⟩ = 0 ∨ s.get ⟨actCtrl i.val, 19, 16⟩ = 5) → ∃ t, exec (.actionArm .tenant i w) s = .next t ∧ t.armed i.val = false ∧ t.isSet ⟨TE_FLAGS, 8, 8⟩ = true ∧ t.isSet ⟨actCtrl i.val, 30, 30⟩ = false) ∧
  (∀ (i : Fin 64) (s : State), s.armed i.val = false → exec (.actionFire i) s = .next s)

/-- O32. A lane's mode, its quad's PORT100, its enable, its restore and its patterns, as firmware writes them -/
def Obligations.LaneSettings : Prop :=
  (∀ (l : Lane) (m : Nat) (s : State), s.Ok → knownMode m = true → modeRefused s l.val m = false → s.quad100 l.val = false → s.isSet (CL_CFG_EN l.val) = true → s.isSet (CL_PRBS_GEN_EN l.val) = false → s.isSet (CL_PRBS_CHK_EN l.val) = false → s.stage l.val ≠ 0 → s.stage l.val ≠ 7 → s.stage l.val ≠ 8 → (s.lane l.val).retired = false → s.stopped.contains .tenant = false → ∃ t, exec (.laneModeWrite .tenant l m) s = .next t ∧ t.laneMode l.val = m ∧ t.stage l.val = (if cbrMode m then 9 else 1) ∧ t.get (CL_STATUS_STRIKES l.val) = s.get (CL_STATUS_STRIKES l.val) ∧ (s.stage l.val = 6 → t.isSet ⟨CL_FLAGS l.val, 0, 0⟩ = true) ∧ regsKept ([CL_CFG l.val, CM_MM l.val, CL_STATUS l.val, CL_FLAGS l.val, CL_PRBS_CNT l.val 0, CL_PRBS_CNT l.val 0 + 4] ++ ((List.range 32).map (fun f => [CF_BIN_FLAGS f 0, CF_BIN_FLAGS f 17])).flatten) s t ∧ talliesKept [768 + l.val] s t) ∧
  (∀ (l : Lane) (m : Nat) (s : State), knownMode m = true → modeRefused s l.val m = true → s.stopped.contains .tenant = false → exec (.laneModeWrite .tenant l m) s = .next (clFlag l.val 3 s)) ∧
  (∀ (l : Lane) (m : Nat) (s : State), knownMode m = false → s.stopped.contains .tenant = false → exec (.laneModeWrite .tenant l m) s = .next s) ∧
  (∀ (q : Quad) (s : State), (∃ i ∈ [0, 1, 2, 3], cbrMode (s.laneMode (4 * q.val + i)) = true) → s.stopped.contains .tenant = false → exec (.port100Write .tenant q true) s = .next (clFlag (4 * q.val) 3 s)) ∧
  (∀ (q : Quad) (v : Bool) (i : Fin 4) (s : State), s.Ok → (∀ i ∈ [0, 1, 2, 3], cbrMode (s.laneMode (4 * q.val + i)) = false ∧ s.isSet (CL_PRBS_GEN_EN (4 * q.val + i)) = false ∧ s.isSet (CL_PRBS_CHK_EN (4 * q.val + i)) = false) → (∀ i ∈ [0, 1, 2, 3], (s.lane (4 * q.val + i)).retired = false) → s.isSet (CL_QUAD_CFG_PORT100 q.val) ≠ v → s.stopped.contains .tenant = false → ∃ t, exec (.port100Write .tenant q v) s = .next t ∧ t.isSet (CL_QUAD_CFG_PORT100 q.val) = v ∧ t.isSet (CL_QUAD_STATUS_ALIGNED q.val) = false ∧ t.stage (4 * q.val + i.val) = (if s.stage (4 * q.val + i.val) = 0 ∨ s.stage (4 * q.val + i.val) = 7 ∨ s.stage (4 * q.val + i.val) = 8 then s.stage (4 * q.val + i.val) else if s.isSet (CL_CFG_EN (4 * q.val + i.val)) then 1 else 0) ∧ t.get (CL_STATUS_STRIKES (4 * q.val + i.val)) = s.get (CL_STATUS_STRIKES (4 * q.val + i.val))) ∧
  (∀ (l : Lane) (s : State), s.Ok → s.stage l.val = 0 → (s.lane l.val).retired = false → s.isSet (CL_PRBS_GEN_EN l.val) = false → s.isSet (CL_PRBS_CHK_EN l.val) = false → s.stopped.contains .tenant = false → ∃ t, exec (.laneEnable .tenant l true) s = .next t ∧ t.stage l.val = (if !s.quad100 l.val && cbrMode (s.laneMode l.val) then 9 else 1) ∧ t.isSet (CL_CFG_EN l.val) = true ∧ regsKept [CL_CFG l.val, CL_STATUS l.val, CL_FLAGS l.val, CL_PRBS_CNT l.val 0, CL_PRBS_CNT l.val 0 + 4] s t) ∧
  (∀ (l : Lane) (s : State), s.Ok → s.stage l.val = 0 → (s.lane l.val).retired = true → s.stopped.contains .tenant = false → ∃ t, exec (.laneEnable .tenant l true) s = .next t ∧ t.stage l.val = 7 ∧ t.get (CL_STATUS_STRIKES l.val) = s.get (CL_STATUS_STRIKES l.val)) ∧
  (∀ (l : Lane) (s : State), s.Ok → s.stopped.contains .tenant = false → ∃ t, exec (.laneEnable .tenant l false) s = .next t ∧ t.stage l.val = 0 ∧ t.isSet (CL_CFG_EN l.val) = false ∧ (t.lane l.val).retired = (s.lane l.val).retired ∧ regsKept (((s.laneGroup l.val).map (fun i => [CL_STATUS i, CL_FLAGS i, CL_PRBS_CNT i 0, CL_PRBS_CNT i 0 + 4])).flatten ++ [CL_CFG l.val, CM_MM (s.portOfLane l.val), CL_QUAD_STATUS (l.val / 4)]) s t) ∧
  (∀ (l : Lane) (s : State), s.Ok → s.stopped.contains .tenant = false → ∃ t, exec (.laneRestore .tenant l) s = .next t ∧ t.get (CL_STATUS_STRIKES l.val) = 0 ∧ t.stage l.val = (if s.stage l.val = 7 then s.firstStage l.val else s.stage l.val) ∧ (t.lane l.val).retired = false ∧ (s.stage l.val = 7 → s.isSet (CL_PRBS_INJ_ONE l.val) = false → (s.isSet (CL_STATUS_LPI_TX l.val) = false → s.isSet (CL_STATUS_LPI_RX l.val) = false → s.isSet (CL_STATUS_CHK_LOCK l.val) = false → regsKept [CL_STATUS l.val] s t ∧ t.tally = s.tally))) ∧
  (∀ (l : Lane) (g : Bool) (k : Bool) (s : State), s.Ok → (g || k) = true → (s.lane l.val).retired = false → s.stopped.contains .tenant = false → ∃ t, exec (.prbsEnable .tenant l g k) s = .next t ∧ t.stage l.val = 8 ∧ t.isSet (CL_PRBS_GEN_EN l.val) = g ∧ t.isSet (CL_PRBS_CHK_EN l.val) = k ∧ (k = true → t.count (CL_PRBS_CNT l.val 0) = 0 ∧ t.count (CL_PRBS_CNT l.val 1) = 0) ∧ t.get (CL_STATUS_STRIKES l.val) = s.get (CL_STATUS_STRIKES l.val)) ∧
  (∀ (l : Lane) (s : State), s.Ok → s.stage l.val = 8 → (s.lane l.val).retired = false → s.stopped.contains .tenant = false → ∃ t, exec (.prbsEnable .tenant l false false) s = .next t ∧ t.stage l.val = (if s.isSet (CL_CFG_EN l.val) = false then 0 else if !s.quad100 l.val && cbrMode (s.laneMode l.val) then 9 else 1) ∧ t.isSet (CL_STATUS_CHK_LOCK l.val) = false) ∧
  (∀ (l : Lane) (b : Bool) (s : State), (s.stage l.val = 6 ∨ s.stage l.val = 8) → s.isSet (CL_CFG_TX_EN l.val) = true → exec (.injOne l b) s = .next ((s.putB (CL_PRBS_INJ_ONE l.val) false).modLane l.val (fun x => { x with injected := x.injected + 1 + b.toNat }))) ∧
  (∀ (l : Lane) (b : Bool) (s : State), (s.stage l.val ≠ 6 ∧ s.stage l.val ≠ 8 ∨ s.isSet (CL_CFG_TX_EN l.val) = false) → exec (.injOne l b) s = .next (s.putB (CL_PRBS_INJ_ONE l.val) true)) ∧
  (∀ (a : Agent) (l : Lane) (q : Quad) (m : Nat) (v : Bool) (w : Bool) (s : State), a ≠ .tenant → a ≠ .host → s.stopped.contains a = false → exec (.laneModeWrite a l m) s = .next (s.refuse a) ∧ exec (.port100Write a q v) s = .next (s.refuse a) ∧ exec (.laneEnable a l v) s = .next (s.refuse a) ∧ exec (.laneRestore a l) s = .next (s.refuse a) ∧ exec (.prbsEnable a l v w) s = .next (s.refuse a))

/-- O33. A lane's way through the stages, the losses that end it, and its strikes -/
def Obligations.LaneBringUp : Prop :=
  (∀ (l : Lane) (s : State), s.Ok → s.stage l.val = 1 → ∃ t, exec (.signalDetect l) s = .next t ∧ t.stage l.val = 2 ∧ t.isSet (CL_STATUS_SIG l.val) = true ∧ regsKept [CL_STATUS l.val, CL_FLAGS l.val, CL_PRBS_CNT l.val 0, CL_PRBS_CNT l.val 0 + 4] s t ∧ (s.isSet (CL_STATUS_LPI_TX l.val) = false → s.isSet (CL_STATUS_LPI_RX l.val) = false → s.isSet (CL_STATUS_CHK_LOCK l.val) = false → onlyRegs [CL_STATUS l.val] { s with lanes := t.lanes } t)) ∧
  (∀ (l : Lane) (s : State), s.stage l.val ≠ 1 → exec (.signalDetect l) s = .next (s.putB (CL_STATUS_SIG l.val) true)) ∧
  (∀ (l : Lane) (s : State), s.Ok → s.stage l.val = 2 → ∃ t, exec (.cdrLock l) s = .next t ∧ t.stage l.val = (if s.trains l.val then 3 else 4) ∧ t.isSet (CL_STATUS_CDR l.val) = true ∧ regsKept [CL_STATUS l.val, CL_FLAGS l.val, CL_PRBS_CNT l.val 0, CL_PRBS_CNT l.val 0 + 4] s t ∧ (s.isSet (CL_STATUS_LPI_TX l.val) = false → s.isSet (CL_STATUS_LPI_RX l.val) = false → s.isSet (CL_STATUS_CHK_LOCK l.val) = false → onlyRegs [CL_STATUS l.val] { s with lanes := t.lanes } t)) ∧
  (∀ (l : Lane) (s : State), s.stage l.val = 6 → exec (.cdrLock l) s = .next (s.putB (CL_STATUS_CDR l.val) true)) ∧
  (∀ (l : Lane) (s : State), s.Ok → s.stage l.val = 3 → ∃ t, exec (.trainingComplete l) s = .next t ∧ t.stage l.val = 4 ∧ regsKept [CL_STATUS l.val, CL_FLAGS l.val, CL_PRBS_CNT l.val 0, CL_PRBS_CNT l.val 0 + 4] s t ∧ (s.isSet (CL_STATUS_LPI_TX l.val) = false → s.isSet (CL_STATUS_LPI_RX l.val) = false → s.isSet (CL_STATUS_CHK_LOCK l.val) = false → onlyRegs [CL_STATUS l.val] { s with lanes := t.lanes } t)) ∧
  (∀ (l : Lane) (s : State), s.stage l.val = 4 → s.isSet (CL_CFG_POL_AUTO l.val) = true → exec (.polarityTry l) s = .next (s.modLane l.val (fun x => { x with tryInv := !x.tryInv }))) ∧
  (∀ (l : Lane) (s : State), s.Ok → s.stage l.val = 4 → ∃ t, exec (.wordLock l) s = .next t ∧ t.stage l.val = (if s.aligns l.val then 5 else 6) ∧ t.isSet (CL_STATUS_RX_INV l.val) = (if s.isSet (CL_CFG_POL_AUTO l.val) then (s.lane l.val).tryInv else s.isSet (CL_CFG_RX_POL l.val)) ∧ t.isSet ⟨CL_FLAGS l.val, 0, 0⟩ = (!s.aligns l.val || s.isSet ⟨CL_FLAGS l.val, 0, 0⟩) ∧ regsKept [CL_PRBS l.val, CL_STATUS l.val, CL_FLAGS l.val, CL_PRBS_CNT l.val 0, CL_PRBS_CNT l.val 0 + 4] s t) ∧
  (∀ (l : Lane) (m : BitVec 8) (k : Nat) (s : State), s.Ok → s.quad100 l.val = false → s.stage l.val = 5 → ∃ t, exec (.alignmentLock l m k) s = .next t ∧ t.stage l.val = 6 ∧ t.isSet ⟨CL_FLAGS l.val, 0, 0⟩ = true ∧ regsKept [CL_PRBS l.val, CL_STATUS l.val, CL_FLAGS l.val, CL_PRBS_CNT l.val 0, CL_PRBS_CNT l.val 0 + 4] s t) ∧
  (∀ (l : Lane) (m : BitVec 8) (k : Nat) (s : State), s.Ok → s.quad100 l.val = true → (∀ i ∈ s.laneGroup l.val, s.stage i = 5) → mapGood m.toNat = true → k ≤ 180 → ∃ t, exec (.alignmentLock l m k) s = .next t ∧ (∀ i ∈ s.laneGroup l.val, t.stage i = 6 ∧ t.isSet ⟨CL_FLAGS i, 0, 0⟩ = true) ∧ t.get (CL_QUAD_STATUS_RX_MAP (l.val / 4)) = m.toNat ∧ t.isSet (CL_QUAD_STATUS_REVERSED (l.val / 4)) = decide (m = 0x1B) ∧ t.isSet (CL_QUAD_STATUS_ALIGNED (l.val / 4)) = true ∧ t.get (CL_QUAD_STATUS_SKEW (l.val / 4)) = k) ∧
  (∀ (l : Lane) (m : BitVec 8) (k : Nat) (s : State), s.Ok → s.quad100 l.val = true → (∀ i ∈ s.laneGroup l.val, s.stage i = 5) → mapGood m.toNat = true → 180 < k → ∃ t, exec (.alignmentLock l m k) s = .next t ∧ (∀ i ∈ s.laneGroup l.val, t.stage i = 1 ∧ t.get (CL_STATUS_CAUSE i) = 4) ∧ ((∀ i ∈ s.laneGroup l.val, s.isSet (CL_STATUS_LPI_TX i) = false ∧ s.isSet (CL_STATUS_LPI_RX i) = false) → t.tally = s.tally)) ∧
  (∀ (l : Lane) (s : State), s.Ok → (s.stage l.val = 2 ∨ s.stage l.val = 4 ∨ s.stage l.val = 5) → ∃ t, exec (.stageTimeout l) s = .next t ∧ t.stage l.val = 1 ∧ t.get (CL_STATUS_CAUSE l.val) = 8 ∧ t.get (CL_STATUS_STRIKES l.val) = s.get (CL_STATUS_STRIKES l.val) ∧ (s.isSet (CL_STATUS_LPI_TX l.val) = false → s.isSet (CL_STATUS_LPI_RX l.val) = false → s.isSet (CL_STATUS_CHK_LOCK l.val) = false → onlyRegs [CL_STATUS l.val] { s with lanes := t.lanes } t)) ∧
  (∀ (l : Lane) (s : State), s.Ok → s.stage l.val = 3 → ∃ t, exec (.stageTimeout l) s = .next t ∧ (if (s.lane l.val).attempts < 2 then t = s.modLane l.val (fun x => { x with attempts := x.attempts + 1 }) else t.stage l.val = 1 ∧ t.get (CL_STATUS_CAUSE l.val) = 5)) ∧
  (∀ (l : Lane) (m : BitVec 8) (k : Nat) (s : State), s.stage l.val = 0 → exec (.cdrLock l) s = .next s ∧ exec (.trainingComplete l) s = .next s ∧ exec (.polarityTry l) s = .next s ∧ exec (.wordLock l) s = .next s ∧ exec (.stageTimeout l) s = .next s ∧ exec (.alignmentLock l m k) s = .next s) ∧
  (∀ (l : Lane) (w : LaneLoss) (s : State), s.Ok → s.stage l.val = 6 → (s.isSet (CL_STATUS_LPI_RX l.val) = false ∨ w = .highErrors) → s.get (CL_STATUS_STRIKES l.val) < 2 → ∃ t, exec (.laneDown l w true) s = .next t ∧ t.stage l.val = 1 ∧ t.get (CL_STATUS_CAUSE l.val) = lossCause w ∧ t.get (CL_STATUS_STRIKES l.val) = s.get (CL_STATUS_STRIKES l.val) + 1 ∧ t.isSet ⟨CL_FLAGS l.val, 0, 0⟩ = true ∧ t.isSet ⟨CL_FLAGS l.val, 1, 1⟩ = true ∧ (∀ i ∈ s.laneGroup l.val, i ≠ l.val → s.stage i = 6 → t.stage i = 5 ∧ t.get (CL_STATUS_STRIKES i) = s.get (CL_STATUS_STRIKES i))) ∧
  (∀ (l : Lane) (w : LaneLoss) (s : State), s.Ok → s.stage l.val = 6 → (s.isSet (CL_STATUS_LPI_RX l.val) = false ∨ w = .highErrors) → 2 ≤ s.get (CL_STATUS_STRIKES l.val) → ∃ t, exec (.laneDown l w true) s = .next t ∧ t.stage l.val = 7 ∧ (t.lane l.val).retired = true ∧ t.get (CL_STATUS_CAUSE l.val) = 7 ∧ t.isSet ⟨CL_FLAGS l.val, 1, 1⟩ = true ∧ t.isSet ⟨CL_FLAGS l.val, 2, 2⟩ = true) ∧
  (∀ (l : Lane) (w : LaneLoss) (s : State), s.Ok → s.stage l.val = 6 → ∃ t, exec (.laneDown l w false) s = .next t ∧ t.stage l.val = 1 ∧ t.get (CL_STATUS_CAUSE l.val) = 1 ∧ t.isSet (CL_STATUS_SIG l.val) = false ∧ t.get (CL_STATUS_STRIKES l.val) = s.get (CL_STATUS_STRIKES l.val)) ∧
  (∀ (l : Lane) (w : LaneLoss) (s : State), s.stage l.val = 6 → s.isSet (CL_STATUS_LPI_RX l.val) = true → w ≠ .highErrors → exec (.laneDown l w true) s = .next (if w = .cdr then (s.putB (CL_STATUS_SIG l.val) true).putB (CL_STATUS_CDR l.val) false else s.putB (CL_STATUS_SIG l.val) true)) ∧
  (∀ (l : Lane) (w : LaneLoss) (b : Bool) (s : State), s.stage l.val ≠ 6 → exec (.laneDown l w b) s = .next (s.putB (CL_STATUS_SIG l.val) b)) ∧
  (∀ (l : Lane) (s : State), s.Ok → ∃ t, exec (.laneStrikeExpiry l) s = .next t ∧ t.get (CL_STATUS_STRIKES l.val) = s.get (CL_STATUS_STRIKES l.val) - 1 ∧ t.stage l.val = s.stage l.val ∧ onlyRegs [CL_STATUS l.val] s t) ∧
  (∀ (l : Lane) (n : Nat) (s : State), s.Ok → s.stage l.val = 8 → s.isSet (CL_PRBS_CHK_EN l.val) = true → s.isSet (CL_STATUS_CHK_LOCK l.val) = false → ∃ t, exec (.checkerLock l ⟨true, n⟩) s = .next t ∧ t.isSet (CL_STATUS_CHK_LOCK l.val) = true ∧ (t.lane l.val).bitsAt = some s.now ∧ t.count (CL_PRBS_CNT l.val 1) = s.count (CL_PRBS_CNT l.val 1) ∧ regsKept [CL_STATUS l.val, CL_PRBS_CNT l.val 0, CL_PRBS_CNT l.val 0 + 4] s t) ∧
  (∀ (l : Lane) (n : Nat) (b : Bool) (s : State), (s.stage l.val ≠ 8 ∨ s.isSet (CL_PRBS_CHK_EN l.val) = false ∨ (s.isSet (CL_STATUS_CHK_LOCK l.val) = false ∧ b = false)) → exec (.checkerLock l ⟨b, n⟩) s = .next s) ∧
  (∀ (l : Lane) (n : Nat) (b : Bool) (s : State), s.Ok → s.stage l.val = 8 → s.isSet (CL_PRBS_CHK_EN l.val) = true → s.isSet (CL_STATUS_CHK_LOCK l.val) = true → ∃ t, exec (.checkerLock l ⟨b, n⟩) s = .next t ∧ t.isSet (CL_STATUS_CHK_LOCK l.val) = (b || decide (n ≤ 32)) ∧ t.count (CL_PRBS_CNT l.val 1) = (s.count (CL_PRBS_CNT l.val 1) + n) % 2 ^ 48 ∧ t.count (CL_PRBS_CNT l.val 0) = (s.count (CL_PRBS_CNT l.val 0) + if b || decide (n ≤ 32) then 0 else s.checkedBits l.val) % 2 ^ 48 ∧ t.isSet ⟨CL_FLAGS l.val, 5, 5⟩ = (decide (0 < n) || s.isSet ⟨CL_FLAGS l.val, 5, 5⟩) ∧ t.get (CL_STATUS_STRIKES l.val) = s.get (CL_STATUS_STRIKES l.val))

/-- O34. Tie links: training, flits, strikes, spares, loss and restore -/
def Obligations.TieLinks : Prop :=
  (∀ (e : Engine) (fh : BitVec 20) (fl : BitVec 20) (lh : Nat) (ll : Nat) (s : State), s.Ok → (needSpare (s.get (PX_TIE_HUB_RETIRED e.n 0)) fh).length ≤ 2 → (needSpare (s.get (PX_TIE_HUB_RETIRED e.n 1)) fl).length ≤ 2 → lh < 65536 → ll < 65536 → ∃ t, exec (.tieLinkTrain e fh fl lh ll) s = .next t ∧ t.isSet (PX_TIE_STATUS_UP e.n) = true ∧ t.isSet (PX_TIE_STATUS_CHK_HUB e.n) = (!t.noCheck e) ∧ t.isSet (PX_TIE_STATUS_CHK_LINE e.n) = (!t.noCheck e) ∧ t.isSet (PX_TIE_HUB_S0_USED e.n 0) = decide ((needSpare (s.get (PX_TIE_HUB_RETIRED e.n 0)) fh).length = 2) ∧ t.isSet (PX_TIE_HUB_S1_USED e.n 0) = decide (1 ≤ (needSpare (s.get (PX_TIE_HUB_RETIRED e.n 0)) fh).length) ∧ t.get (PX_TIE_LAT_LAT_HUB e.n) = lh ∧ t.get (PX_TIE_LAT_LAT_LINE e.n) = ll ∧ t.get (PX_TIE_STATUS_TRAINS e.n) = min (s.get (PX_TIE_STATUS_TRAINS e.n) + 1) 255 ∧ (∀ d, (t.tieDir e d).next = none ∧ (t.tieDir e d).kept = []) ∧ (t.tieDir e false).onS1 = (needSpare (s.get (PX_TIE_HUB_RETIRED e.n 0)) fh)[0]? ∧ (t.tieDir e false).onS0 = (needSpare (s.get (PX_TIE_HUB_RETIRED e.n 0)) fh)[1]?) ∧
  (∀ (e : Engine) (fh : BitVec 20) (fl : BitVec 20) (lh : Nat) (ll : Nat) (s : State), s.Ok → (2 < (needSpare (s.get (PX_TIE_HUB_RETIRED e.n 0)) fh).length ∨ 2 < (needSpare (s.get (PX_TIE_HUB_RETIRED e.n 1)) fl).length) → ∃ t, exec (.tieLinkTrain e fh fl lh ll) s = .next t ∧ t.isSet (PX_TIE_STATUS_UP e.n) = false) ∧
  (∀ (e : Engine) (d : Bool) (f : Flit) (s : State), s.isSet (PX_TIE_STATUS_UP e.n) = true → s.noCheck e = false → f.badLanes = 0 → f.fcrcOk = true → (s.tieDir e d).next = some f.seq → (s.tieDir e d).nak = false → ∃ t, exec (.flitReceive e d f) s = .next t ∧ t.tieDir e d = { s.tieDir e d with next := some ((f.seq + 1) % 256), nak := false, fails := 0, got := f.data, repair := none, kept := (s.tieDir e d).keeps f } ∧ t.tieDir e (!d) = s.tieDir e (!d) ∧ { t with ties := s.ties } = s) ∧
  (∀ (e : Engine) (d : Bool) (f : Flit) (s : State), s.isSet (PX_TIE_STATUS_UP e.n) = true → s.noCheck e = false → f.badLanes = 0 → f.fcrcOk = true → (s.tieDir e d).next ≠ none → (s.tieDir e d).next ≠ some f.seq → (s.tieDir e d).nak = true → ∃ t, exec (.flitReceive e d f) s = .next t ∧ t.tieDir e d = { s.tieDir e d with kept := (s.tieDir e d).keeps f } ∧ { t with ties := s.ties } = s) ∧
  (∀ (e : Engine) (d : Bool) (f : Flit) (n : Nat) (s : State), s.isSet (PX_TIE_STATUS_UP e.n) = true → s.noCheck e = false → f.badLanes = 0 → f.fcrcOk = true → (s.tieDir e d).next = some n → f.seq ≠ n → (f.seq + 256 - n) % 256 < 128 → (s.tieDir e d).nak = false → ∃ t, exec (.flitReceive e d f) s = .next t ∧ (t.tieDir e d).next = some n ∧ (t.tieDir e d).nak = true ∧ (t.tieDir e d).got = (s.tieDir e d).got ∧ { t with ties := s.ties } = s) ∧
  (∀ (e : Engine) (d : Bool) (f : Flit) (s : State), s.Ok → s.isSet (PX_TIE_STATUS_UP e.n) = true → s.noCheck e = false → f.badLanes = 0 → f.fcrcOk = true → (s.tieDir e d).next = some f.seq → (s.tieDir e d).nak = true → ∃ t, exec (.flitReceive e d f) s = .next t ∧ (t.tieDir e d).next = some ((f.seq + 1) % 256) ∧ (t.tieDir e d).nak = false ∧ (t.tieDir e d).got = f.data ∧ t.count (PX_FLIT e.n 1) = (s.count (PX_FLIT e.n 1) + ((s.tieDir e d).again f.seq).length) % 2 ^ 48) ∧
  (∀ (e : Engine) (d : Bool) (f : Flit) (s : State), s.isSet (PX_TIE_STATUS_UP e.n) = true → s.noCheck e = false → f.badLanes = 0 → f.fcrcOk = false → (s.tieDir e d).next = some f.seq → (s.tieDir e d).fails < 2 → ∃ t, exec (.flitReceive e d f) s = .next t ∧ t.tieDir e d = { s.tieDir e d with next := some f.seq, nak := true, fails := (s.tieDir e d).fails + 1, kept := (s.tieDir e d).keeps f } ∧ { t with ties := s.ties } = tieFlag e 0 (s.bump (PX_FLIT e.n 0))) ∧
  (∀ (e : Engine) (d : Bool) (f : Flit) (i : Nat) (s : State), s.Ok → s.isSet (PX_TIE_STATUS_UP e.n) = true → s.noCheck e = false → f.badLanes = BitVec.ofNat 20 (2 ^ i) → i < 20 → (s.tieDir e d).next = some f.seq → (s.tieDir e d).fails < 2 → sget (fun _ => 0) (s.tieDir e d).strikes i < 2 → ∃ t, exec (.flitReceive e d f) s = .next t ∧ sget (fun _ => 0) (t.tieDir e d).strikes i = sget (fun _ => 0) (s.tieDir e d).strikes i + 1 ∧ (t.tieDir e d).nak = true ∧ (t.tieDir e d).next = some f.seq ∧ t.isSet ⟨PX_TIE_FLAGS, 8 * e.n + 1, 8 * e.n + 1⟩ = true ∧ t.count (PX_FLIT e.n 0) = (s.count (PX_FLIT e.n 0) + 1) % 2 ^ 48 ∧ t.isSet (PX_TIE_STATUS_UP e.n) = true) ∧
  (∀ (e : Engine) (d : Bool) (f : Flit) (s : State), s.Ok → s.isSet (PX_TIE_STATUS_UP e.n) = true → s.noCheck e = false → f.badLanes = 0 → f.fcrcOk = false → (s.tieDir e d).next = some f.seq → 2 ≤ (s.tieDir e d).fails → ∃ t, exec (.flitReceive e d f) s = .next t ∧ t.isSet (PX_TIE_STATUS_UP e.n) = false ∧ t.isSet ⟨PX_TIE_FLAGS, 8 * e.n + 4, 8 * e.n + 4⟩ = true) ∧
  (∀ (e : Engine) (d : Bool) (f : Flit) (s : State), s.isSet (PX_TIE_STATUS_UP e.n) = true → s.noCheck e = true → ∃ t, exec (.flitReceive e d f) s = .next t ∧ (t.tieDir e d).got = f.data ∧ (t.tieDir e d).next = some (((s.tieDir e d).next.getD f.seq + 1) % 256) ∧ { t with ties := s.ties } = s) ∧
  (∀ (e : Engine) (d : Bool) (i : Fin 20) (s : State), s.isSet (PX_TIE_STATUS_UP e.n) = true → s.noCheck e = false → exec (.tieLaneLockLoss e d (some i)) s = .next (tieStrike e d i.val s)) ∧
  (∀ (e : Engine) (d : Bool) (i : Fin 20) (s : State), s.Ok → s.isSet (PX_TIE_STATUS_UP e.n) = true → s.noCheck e = true → ∃ t, exec (.tieLaneLockLoss e d (some i)) s = .next t ∧ t.isSet (PX_TIE_STATUS_UP e.n) = false) ∧
  (∀ (e : Engine) (d : Bool) (s : State), s.Ok → ∃ t, exec (.tieLaneLockLoss e d none) s = .next t ∧ t.isSet (PX_TIE_STATUS_UP e.n) = false ∧ t.isSet (PX_TIE_STATUS_CHK_HUB e.n) = (s.isSet (PX_TIE_STATUS_CHK_HUB e.n) && !s.isSet (PX_TIE_STATUS_UP e.n))) ∧
  (∀ (e : Engine) (d : Bool) (i : Nat) (s : State), 2 ≤ sget (fun _ => 0) (s.tieDir e d).strikes i → ∃ u, tieStrike e d i s = retireTieLane e d i u ∧ u.regs = (tieFlag e 1 s).regs) ∧
  (∀ (e : Engine) (d : Bool) (i : Nat) (s : State), s.Ok → i < 20 → (retireTieLane e d i s).isSet ((PX_TIE_HUB_RETIRED e.n d.toNat).bit i) = true ∧ (s.isSet (PX_TIE_HUB_S1_USED e.n d.toNat) = false → (retireTieLane e d i s).isSet (PX_TIE_HUB_S1_USED e.n d.toNat) = true ∧ (retireTieLane e d i s).isSet (PX_TIE_HUB_S0_USED e.n d.toNat) = s.isSet (PX_TIE_HUB_S0_USED e.n d.toNat) ∧ (retireTieLane e d i s).isSet (PX_TIE_STATUS_UP e.n) = s.isSet (PX_TIE_STATUS_UP e.n)) ∧ (s.isSet (PX_TIE_HUB_S1_USED e.n d.toNat) = true → s.isSet (PX_TIE_HUB_S0_USED e.n d.toNat) = false → (retireTieLane e d i s).noCheck e = true ∧ (retireTieLane e d i s).isSet (PX_TIE_STATUS_CHK_HUB e.n) = false ∧ (retireTieLane e d i s).isSet (PX_TIE_STATUS_CHK_LINE e.n) = false) ∧ (s.isSet (PX_TIE_HUB_S1_USED e.n d.toNat) = true → s.isSet (PX_TIE_HUB_S0_USED e.n d.toNat) = true → (retireTieLane e d i s).isSet (PX_TIE_STATUS_UP e.n) = false)) ∧
  (∀ (e : Engine) (d : Bool) (i : Fin 20) (s : State), exec (.tieStrikeExpiry e d i) s = .next (s.modTie e d (fun x => { x with strikes := sset (fun _ => 0) x.strikes i.val (sget (fun _ => 0) x.strikes i.val - 1) }))) ∧
  (∀ (e : Engine) (s : State), s.Ok → s.stopped.contains .carrier = false → ∃ t, exec (.tieRetrain .carrier e) s = .next t ∧ t.isSet (PX_TIE_STATUS_UP e.n) = false ∧ (∀ d, t.get (PX_TIE_HUB_RETIRED e.n d) = s.get (PX_TIE_HUB_RETIRED e.n d)) ∧ t.ties = s.ties) ∧
  (∀ (e : Engine) (s : State), s.Ok → s.stopped.contains .carrier = false → ∃ t, exec (.tieRestore .carrier e) s = .next t ∧ t.isSet (PX_TIE_STATUS_UP e.n) = false ∧ t.get (PX_TIE_HUB_RETIRED e.n 0) = 0 ∧ t.get (PX_TIE_HUB_RETIRED e.n 1) = 0 ∧ (t.tieDir e true).strikes = [] ∧ (t.tieDir e false).strikes = []) ∧
  (∀ (a : Agent) (e : Engine) (s : State), a ≠ .carrier → s.stopped.contains a = false → exec (.tieRetrain a e) s = .next (s.refuse a) ∧ exec (.tieRestore a e) s = .next (s.refuse a))

/-- O35. Client MACs: frames in and out, low power idle, pause and verification -/
def Obligations.ClientMac : Prop :=
  (∀ (p : Port) (f : RxFrame) (s : State), s.macRuns p.val = false → exec (.clientFrameReceive p f) s = .next s) ∧
  (∀ (p : Port) (f : RxFrame) (s : State), s.macRuns p.val = true → s.openFrame p.val f.bytes = none → RxFrame.fragOk f = false → exec (.clientFrameReceive p f) s = .next (cmFlag p.val 4 (s.bump (CM_CNT p.val 7)))) ∧
  (∀ (p : Port) (f : RxFrame) (s : State), s.macRuns p.val = true → s.openFrame p.val f.bytes = none → RxFrame.fragOk f = true → f.bytes.length < 64 → exec (.clientFrameReceive p f) s = .next (cmFlag p.val 1 (s.bump (CM_CNT p.val 3)))) ∧
  (∀ (p : Port) (f : RxFrame) (s : State), s.macRuns p.val = true → s.openFrame p.val f.bytes = none → RxFrame.fragOk f = true → 64 ≤ f.bytes.length → s.maxFrameAt p.val (s.now - f.cycles) < f.bytes.length → exec (.clientFrameReceive p f) s = .next (cmFlag p.val 2 (s.bump (CM_CNT p.val 4)))) ∧
  (∀ (p : Port) (f : RxFrame) (s : State), s.macRuns p.val = true → s.openFrame p.val f.bytes = none → RxFrame.fragOk f = true → 64 ≤ f.bytes.length → f.bytes.length ≤ s.maxFrameAt p.val (s.now - f.cycles) → fcsGood f.bytes = false → exec (.clientFrameReceive p f) s = .next (cmFlag p.val 0 (s.bump (CM_CNT p.val 2)))) ∧
  (∀ (p : Port) (f : RxFrame) (s : State), s.macRuns p.val = true → s.openFrame p.val f.bytes = none → RxFrame.fragOk f = true → 64 ≤ f.bytes.length → f.bytes.length ≤ s.maxFrameAt p.val (s.now - f.cycles) → fcsGood f.bytes = true → sliceNum f.bytes 12 2 = 0x8808 → exec (.clientFrameReceive p f) s = exec (.pauseFrameReceive p (controlOf f.bytes)) s) ∧
  (∀ (p : Port) (f : RxFrame) (s : State), s.Ok → s.macRuns p.val = true → s.openFrame p.val f.bytes = none → RxFrame.fragOk f = true → 64 ≤ f.bytes.length → f.bytes.length ≤ s.maxFrameAt p.val (s.now - f.cycles) → fcsGood f.bytes = true → sliceNum f.bytes 12 2 ≠ 0x8808 → ∃ t, exec (.clientFrameReceive p f) s = .next t ∧ t.count (CM_CNT p.val 0) = (s.count (CM_CNT p.val 0) + 1) % 2 ^ 48 ∧ t.count (CM_CNT p.val 1) = (s.count (CM_CNT p.val 1) + f.bytes.length) % 2 ^ 48 ∧ t.reg (CM_FLAGS p.val) = s.reg (CM_FLAGS p.val)) ∧
  (∀ (p : Port) (f : Nat) (x : Frame) (s : State), s.Ok → s.macRuns p.val = true → s.isSet (CL_STATUS_LPI_TX p.val) = false → (s.port p.val).wakeHold = false → s.portSends p.val = true → s.nextOut p.val = some f → s.underWay p.val f = none → s.frame f = some x → x.mark = .plain → ∃ t, exec (.clientFrameTransmit p) s = .next t ∧ (t.port p.val).wire = freshFcs x.bytes ∧ t.count (CM_CNT p.val 8) = (s.count (CM_CNT p.val 8) + 1) % 2 ^ 48 ∧ t.count (CM_CNT p.val 9) = (s.count (CM_CNT p.val 9) + (freshFcs x.bytes).length) % 2 ^ 48) ∧
  (∀ (p : Port) (f : Nat) (g : Nat) (n : Nat) (s : State), s.Ok → s.macRuns p.val = true → s.isSet (CL_STATUS_LPI_TX p.val) = false → (s.port p.val).wakeHold = false → s.portSends p.val = true → s.nextOut p.val = some f → s.underWay p.val f = some (g, n) → s.frame f ≠ none → ∃ t, exec (.clientFrameTransmit p) s = .next t ∧ t.count (CM_CNT p.val 8) = (s.count (CM_CNT p.val 8) + 1) % 2 ^ 48) ∧
  (∀ (p : Port) (s : State), (s.macRuns p.val = false ∨ s.portSends p.val = false ∨ s.isSet (CL_STATUS_LPI_TX p.val) = true ∨ (s.port p.val).wakeHold = true ∨ s.nextOut p.val = none) → exec (.clientFrameTransmit p) s = .next s) ∧
  (∀ (p : Port) (s : State), s.Ok → s.isSet (CM_LPI_TX_EN p.val) = true → s.portUp p.val = true → s.eeeMode p.val = true → s.portIdle p.val = true → s.isSet (CL_STATUS_LPI_TX p.val) = false → (s.lane p.val).upAt + 1000000000 ≤ s.now → ∃ t, exec (.lpiTxEnter p false) s = .next t ∧ t.isSet (CL_STATUS_LPI_TX p.val) = true ∧ t.isSet ⟨CL_FLAGS p.val, 4, 4⟩ = true ∧ t.count (CM_CNT p.val 12) = (s.count (CM_CNT p.val 12) + 1) % 2 ^ 48 ∧ t.now = s.now) ∧
  (∀ (p : Port) (s : State), (s.isSet (CM_LPI_TX_EN p.val) = false ∨ s.eeeMode p.val = false ∨ s.portIdle p.val = false) → exec (.lpiTxEnter p false) s = .next s ∧ exec (.lpiTxEnter p true) s = .next s) ∧
  (∀ (p : Port) (s : State), s.Ok → s.isSet (CL_STATUS_LPI_TX p.val) = true → ∃ t, exec (.lpiTxWake p) s = .next t ∧ t.isSet (CL_STATUS_LPI_TX p.val) = false ∧ (t.port p.val).wakeHold = true ∧ t.isSet ⟨CL_FLAGS p.val, 4, 4⟩ = true) ∧
  (∀ (p : Port) (s : State), exec (.wakeHoldExpiry p) s = .next (s.modPort p.val (fun x => { x with wakeHold := false }))) ∧
  (∀ (l : Lane) (s : State), s.Ok → s.stage l.val = 6 → s.eeeMode l.val = true → s.isSet (CL_STATUS_LPI_RX l.val) = false → ∃ t, exec (.lpiRxChange l true) s = .next t ∧ t.isSet (CL_STATUS_LPI_RX l.val) = true ∧ t.isSet ⟨CL_FLAGS l.val, 4, 4⟩ = true ∧ t.count (CM_CNT l.val 13) = (s.count (CM_CNT l.val 13) + 1) % 2 ^ 48 ∧ t.stage l.val = 6) ∧
  (∀ (p : Port) (q : Nat) (s : State), s.macRuns p.val = true → s.isSet (CM_CFG_PAUSE_RX p.val) = true → exec (.pauseFrameReceive p (.pause q)) s = .next (cmFlag p.val 3 ((s.bump (CM_CNT p.val 5)).modPort p.val (fun x => { x with pauseUntil := if q = 0 then none else some (s.now + s.quantaNs p.val q) })))) ∧
  (∀ (p : Port) (q : Nat) (cs : List (Fin 8 × Nat)) (o : Nat) (s : State), s.macRuns p.val = true → s.isSet (CM_CFG_PAUSE_RX p.val) = false → exec (.pauseFrameReceive p (.pause q)) s = .next (s.bump (CM_CNT p.val 5)) ∧ exec (.pauseFrameReceive p (.pfc cs)) s = .next (s.bump (CM_CNT p.val 5)) ∧ exec (.pauseFrameReceive p (.other o)) s = .next (s.bump (CM_CNT p.val 6))) ∧
  (∀ (p : Port) (k : Fin 8) (q : Nat) (s : State), s.Ok → s.macRuns p.val = true → s.isSet (CM_CFG_PAUSE_RX p.val) = true → 0 < q → ∃ t, exec (.pauseFrameReceive p (.pfc [(k, q)])) s = .next t ∧ (t.port p.val).classPause = (k.val, t.now + t.quantaNs p.val q) :: (s.port p.val).classPause.filter (fun y => y.1 ≠ k.val) ∧ (t.port p.val).pauseUntil = (s.port p.val).pauseUntil) ∧
  (∀ (p : Port) (e0 : Nat) (s : State), (s.port p.val).pauseUntil = some e0 → exec (.pauseExpiry p) s = .next (s.modPort p.val (fun x => { x with pauseUntil := none }))) ∧
  (∀ (p : Port) (s : State), s.get (CM_CFG_PAUSE_MODE p.val) ≠ 0 → s.macRuns p.val = true → s.portSends p.val = true → s.isSet (CL_STATUS_LPI_TX p.val) = false → (s.port p.val).wakeHold = false → s.isSet (BM_BAG_FREE_XOFF_ST (s.get (BM_SRCMAP_BAG p.val))) = false → exec (.pauseSend p) s = .next (if (s.port p.val).pauseSent.isSome then sendPause p.val 0 s else s)) ∧
  (∀ (p : Port) (s : State), s.Ok → s.get (CM_CFG_PAUSE_MODE p.val) ≠ 0 → s.macRuns p.val = true → s.portSends p.val = true → s.isSet (CL_STATUS_LPI_TX p.val) = false → (s.port p.val).wakeHold = false → s.isSet (BM_BAG_FREE_XOFF_ST (s.get (BM_SRCMAP_BAG p.val))) = true → ∃ t, exec (.pauseSend p) s = .next t ∧ t.now = max s.now (s.pauseAgain p.val) ∧ (t.port p.val).pauseSent = (if s.get (CM_QUANTA_QUANTA p.val) = 0 then none else some (s.get (CM_QUANTA_QUANTA p.val))) ∧ (t.port p.val).pauseAt = t.now ∧ t.count (CM_CNT p.val 10) = (s.count (CM_CNT p.val 10) + 1) % 2 ^ 48) ∧
  (∀ (p : Port) (q : Nat) (s : State), s.Ok → ((sendPause p.val q s).port p.val).wire = pauseFrame p.val q (s.get (CM_CFG_PAUSE_MODE p.val) = 2) (s.drawn 256) ∧ (sendPause p.val q s).count (CM_CNT p.val 10) = (s.count (CM_CNT p.val 10) + 1) % 2 ^ 48 ∧ ((sendPause p.val q s).port p.val).pauseSent = (if q = 0 then none else some q)) ∧
  (∀ (p : Nat) (q : Nat) (c : Nat), q < 65536 → (pauseFrame p q false c).length = 64 ∧ controlOf (pauseFrame p q false c) = .pause q ∧ sliceNum (pauseFrame p q false c) 12 2 = 0x8808 ∧ sliceNum (pauseFrame p q true c) 14 2 = 0x101) ∧
  (∀ (p : Port) (f : MacControl) (s : State), s.macRuns p.val = false → exec (.pauseFrameReceive p f) s = .next s) ∧
  (∀ (p : Port) (s : State), (s.macRuns p.val = false ∨ s.portSends p.val = false ∨ s.get (CM_CFG_PAUSE_MODE p.val) = 0 ∨ s.isSet (CL_STATUS_LPI_TX p.val) = true ∨ (s.port p.val).wakeHold = true) → exec (.pauseSend p) s = .next s) ∧
  (∀ (p : Port) (b : Bool) (s : State), (s.get (CM_MM_MM_STATE p.val) ≠ 1 ∨ s.portUp p.val = false) → exec (.mmVerify p b) s = .next s) ∧
  (∀ (p : Port) (s : State), s.get (CM_MM_MM_STATE p.val) = 1 → s.portUp p.val = true → exec (.mmVerify p true) s = .next (s.put (CM_MM_MM_STATE p.val) 2) ∧ exec (.mmVerify p false) s = .next (if (s.port p.val).verifyTries < 2 then s.modPort p.val (fun x => { x with verifyTries := x.verifyTries + 1 }) else cmFlag p.val 5 (s.put (CM_MM_MM_STATE p.val) 3)))

/-- O36. The parse instructions that compute, load and branch: the register each writes, and the next address -/
def Obligations.ParseArithmetic : Prop :=
  (∀ (p : Pipe) (u : ParseUnit) (w : Word) (r : ParseRun) (s : State), s.fetches p u 0 w r → exec (.parseNop p u) s = .next (setUnit p.val u.val (some r.stepped) s)) ∧
  (∀ (p : Pipe) (u : ParseUnit) (w : Word) (r : ParseRun) (s : State), s.fetches p u 2 w r → exec (.parseLdi p u) s = .next (setUnit p.val u.val (some (r.stepped.wr (w.field 25 22) (BitVec.ofNat 32 (w.field 15 0)))) s)) ∧
  (∀ (p : Pipe) (u : ParseUnit) (w : Word) (r : ParseRun) (s : State), s.fetches p u 3 w r → ∃ v : Word, exec (.parseLdih p u) s = .next (setUnit p.val u.val (some (r.stepped.wr (w.field 25 22) v)) s) ∧ v.toNat = (w.field 15 0) * 2 ^ 16 + (r.rd (w.field 25 22)).toNat % 2 ^ 16) ∧
  (∀ (p : Pipe) (u : ParseUnit) (w : Word) (r : ParseRun) (s : State), s.fetches p u 4 w r → exec (.parseAdd p u) s = .next (setUnit p.val u.val (some (r.stepped.wr (w.field 25 22) ((r.rd (w.field 21 18)) + (r.rd (w.field 17 14))))) s)) ∧
  (∀ (p : Pipe) (u : ParseUnit) (w : Word) (r : ParseRun) (s : State), s.fetches p u 5 w r → exec (.parseSub p u) s = .next (setUnit p.val u.val (some (r.stepped.wr (w.field 25 22) ((r.rd (w.field 21 18)) - (r.rd (w.field 17 14))))) s)) ∧
  (∀ (p : Pipe) (u : ParseUnit) (w : Word) (r : ParseRun) (s : State), s.fetches p u 6 w r → exec (.parseAnd p u) s = .next (setUnit p.val u.val (some (r.stepped.wr (w.field 25 22) ((r.rd (w.field 21 18)) &&& (r.rd (w.field 17 14))))) s)) ∧
  (∀ (p : Pipe) (u : ParseUnit) (w : Word) (r : ParseRun) (s : State), s.fetches p u 7 w r → exec (.parseOr p u) s = .next (setUnit p.val u.val (some (r.stepped.wr (w.field 25 22) ((r.rd (w.field 21 18)) ||| (r.rd (w.field 17 14))))) s)) ∧
  (∀ (p : Pipe) (u : ParseUnit) (w : Word) (r : ParseRun) (s : State), s.fetches p u 8 w r → exec (.parseXor p u) s = .next (setUnit p.val u.val (some (r.stepped.wr (w.field 25 22) ((r.rd (w.field 21 18)) ^^^ (r.rd (w.field 17 14))))) s)) ∧
  (∀ (p : Pipe) (u : ParseUnit) (w : Word) (r : ParseRun) (s : State), s.fetches p u 9 w r → ∃ v : Word, exec (.parseAddi p u) s = .next (setUnit p.val u.val (some (r.stepped.wr (w.field 25 22) v)) s) ∧ v = (r.rd (w.field 21 18)) + ((w.extractLsb' 0 16).signExtend 32)) ∧
  (∀ (p : Pipe) (u : ParseUnit) (w : Word) (r : ParseRun) (s : State), s.fetches p u 10 w r → exec (.parseAndi p u) s = .next (setUnit p.val u.val (some (r.stepped.wr (w.field 25 22) ((r.rd (w.field 21 18)) &&& BitVec.ofNat 32 (w.field 15 0)))) s)) ∧
  (∀ (p : Pipe) (u : ParseUnit) (w : Word) (r : ParseRun) (s : State), s.fetches p u 11 w r → exec (.parseShli p u) s = .next (setUnit p.val u.val (some (r.stepped.wr (w.field 25 22) ((r.rd (w.field 21 18)) <<< (w.field 4 0)))) s)) ∧
  (∀ (p : Pipe) (u : ParseUnit) (w : Word) (r : ParseRun) (s : State), s.fetches p u 12 w r → exec (.parseShri p u) s = .next (setUnit p.val u.val (some (r.stepped.wr (w.field 25 22) ((r.rd (w.field 21 18)) >>> (w.field 4 0)))) s)) ∧
  (∀ (p : Pipe) (u : ParseUnit) (w : Word) (r : ParseRun) (s : State) (n : Nat) (b : Nat), s.fetches p u 1 w r → n = w.field 10 6 + 1 → b = (r.cursor + (r.rd (w.field 5 2)).toNat + w.field 21 14) % 2 ^ 32 → b + (w.field 13 11 + n - 1) / 8 < 256 → (∀ e, r.pass.scopeEnd = some e → b + (w.field 13 11 + n - 1) / 8 < e) → r.pass.scopeEnd ≠ none → ∃ v : Word, exec (.parseLdf p u) s = .next (setUnit p.val u.val (some (r.stepped.wr (w.field 25 22) v)) s) ∧ (∀ i, i < n → v.getLsbD (n - 1 - i) = (r.pass.window.getD (b + (w.field 13 11 + i) / 8) 0).getLsbD (7 - (w.field 13 11 + i) % 8)) ∧ (∀ i, n ≤ i → v.getLsbD i = false)) ∧
  (∀ (p : Pipe) (u : ParseUnit) (w : Word) (r : ParseRun) (s : State) (b : Nat), s.fetches p u 1 w r → b = (r.cursor + (r.rd (w.field 5 2)).toNat + w.field 21 14) % 2 ^ 32 → 256 ≤ b + (w.field 13 11 + w.field 10 6) / 8 → exec (.parseLdf p u) s = .next (endPass p.val r.stepped 2 2 (setUnit p.val u.val none s))) ∧
  (∀ (p : Pipe) (u : ParseUnit) (w : Word) (r : ParseRun) (s : State) (b : Nat) (e : Nat), s.fetches p u 1 w r → b = (r.cursor + (r.rd (w.field 5 2)).toNat + w.field 21 14) % 2 ^ 32 → b + (w.field 13 11 + w.field 10 6) / 8 < 256 → r.pass.scopeEnd = some e → e ≤ b + (w.field 13 11 + w.field 10 6) / 8 → exec (.parseLdf p u) s = .next (endPass p.val r.stepped 2 3 (setUnit p.val u.val none s))) ∧
  (∀ (p : Pipe) (u : ParseUnit) (w : Word) (r : ParseRun) (s : State) (v : Nat), s.fetches p u 13 w r → (v = match w.field 3 0 with | 0 => r.cursor | 1 => (match r.scopes ++ r.pass.scopeEnd.toList with | e :: _ => e - r.cursor | [] => 0xFFFFFFFF) | 2 => r.pass.source | 3 => (if r.pass.second then 2 else 1) | 4 => r.depth | _ => r.steps) → w.field 3 0 ≤ 5 → exec (.parseGet p u) s = .next (setUnit p.val u.val (some (r.stepped.wr (w.field 25 22) (BitVec.ofNat 32 v))) s)) ∧
  (∀ (p : Pipe) (u : ParseUnit) (w : Word) (r : ParseRun) (s : State), s.fetches p u 13 w r → 5 < w.field 3 0 → exec (.parseGet p u) s = .next (endPass p.val r.stepped 1 1 (setUnit p.val u.val none s))) ∧
  (∀ (p : Pipe) (u : ParseUnit) (w : Word) (r : ParseRun) (s : State), s.fetches p u 0x10 w r → exec (.parseBr p u) s = .next (setUnit p.val u.val (some { r.stepped with pc := if condHolds (w.field 25 23) (r.rd (w.field 22 19)).toNat (r.rd (w.field 18 15)).toNat then w.field 10 0 else r.pc + 1 }) s)) ∧
  (∀ (p : Pipe) (u : ParseUnit) (w : Word) (r : ParseRun) (s : State), s.fetches p u 0x11 w r → exec (.parseBri p u) s = .next (setUnit p.val u.val (some { r.stepped with pc := if condHolds (w.field 25 23) (r.rd (w.field 22 19)).toNat (w.field 18 11) then w.field 10 0 else r.pc + 1 }) s)) ∧
  (∀ (r : ParseRun) (i : Nat) (v : Word), (r.wr 0 v).rd i = r.rd i ∧ (0 < i → v ≠ 0 → (r.wr i v).rd i = v) ∧ r.rd 0 = 0) ∧
  (∀ (p : Pipe) (u : ParseUnit) (r : ParseRun) (s : State) (c : Instr), s.unitRun p.val u.val = some r → 64 ≤ r.steps → c ∈ [Instr.parseNop p u, .parseLdf p u, .parseAdd p u, .parseMove p u, .parseDone p u, .parseLen p u] → exec c s = .next (endPass p.val r 2 4 (setUnit p.val u.val none s))) ∧
  (∀ (p : Pipe) (u : ParseUnit) (r : ParseRun) (s : State) (c : Instr), s.unitRun p.val u.val = some r → r.steps < 64 → r.pc ≤ 2047 → s.copiesBad r.pass.parity (parseBase p.val + 4 * r.pc) = 2 → c ∈ [Instr.parseNop p u, .parseLdf p u, .parseAdd p u, .parseMove p u, .parseDone p u, .parseLen p u] → exec c s = .next (endPass p.val { r with steps := r.steps + 1 } 1 6 (setUnit p.val u.val none s))) ∧
  (∀ (p : Pipe) (u : ParseUnit) (w : Word) (r : ParseRun) (s : State), s.unitRun p.val u.val = some r → r.steps < 64 → r.pc ≤ 2047 → s.parseWord r.pass.parity (parseBase p.val + 4 * r.pc) = w → w.field 31 26 = 0 → parseReserved 0 w = true → s.copiesBad r.pass.parity (parseBase p.val + 4 * r.pc) = 1 → exec (.parseNop p u) s = .next (setUnit p.val u.val (some r.stepped) (bankStrike p.val (paFlag 8 s)))) ∧
  (∀ (p : Pipe) (u : ParseUnit) (s : State), s.unitRun p.val u.val = none → exec (.parseNop p u) s = .next s ∧ exec (.parseLdf p u) s = .next s ∧ exec (.parseMove p u) s = .next s)

/-- O37. The parse instructions of the graph, the field vector and the scopes, and how a pass stops -/
def Obligations.ParseGraphAndScopes : Prop :=
  (∀ (p : Pipe) (u : ParseUnit) (w : Word) (r : ParseRun) (s : State) (n : Nat), s.fetches p u 0x13 w r → n = (r.cursor + w.field 20 12 + (if w.field 25 25 = 1 then (r.rd (w.field 24 21)).toNat else 0)) % 2 ^ 32 → 256 < n ∨ (∃ e ∈ r.pass.scopeEnd, e < n) ∨ (∃ e ∈ r.scopes.head?, e < n) → exec (.parseMove p u) s = .next (endPass p.val r.stepped (if 256 < n then 2 else if (∃ e ∈ r.pass.scopeEnd, e < n) then 2 else 4) (if 256 < n then 2 else if (∃ e ∈ r.pass.scopeEnd, e < n) then 3 else 0) (setUnit p.val u.val none s))) ∧
  (∀ (p : Pipe) (u : ParseUnit) (w : Word) (r : ParseRun) (s : State) (n : Nat), s.fetches p u 0x13 w r → n = (r.cursor + w.field 20 12 + (if w.field 25 25 = 1 then (r.rd (w.field 24 21)).toNat else 0)) % 2 ^ 32 → n ≤ 256 → (∀ e ∈ r.pass.scopeEnd, n ≤ e) → (∀ e ∈ r.scopes.head?, n ≤ e) → r.pass.scopeEnd ≠ none → (w.field 2 2 = 1 ∨ (w.field 11 11 = 0 ∧ r.nsq = none)) → exec (.parseMove p u) s = .next (endPass p.val { r.stepped with cursor := n } 0 0 (setUnit p.val u.val none s))) ∧
  (∀ (p : Pipe) (u : ParseUnit) (w : Word) (r : ParseRun) (s : State) (n : Nat) (q : Nat) (r2 : ParseRun), s.fetches p u 0x13 w r → n = (r.cursor + w.field 20 12 + (if w.field 25 25 = 1 then (r.rd (w.field 24 21)).toNat else 0)) % 2 ^ 32 → n ≤ 256 → (∀ e ∈ r.pass.scopeEnd, n ≤ e) → (∀ e ∈ r.scopes.head?, n ≤ e) → r.pass.scopeEnd ≠ none → w.field 2 2 = 0 → (if w.field 11 11 = 1 then q = w.field 10 3 else r.nsq = some q) → enterSquare s p.val q { r.stepped with cursor := n } = (r2, none) → (∀ a ∈ squareWords p.val q, s.copiesBad r.pass.parity a = 0) → exec (.parseMove p u) s = .next (setUnit p.val u.val (some r2) s)) ∧
  (∀ (p : Pipe) (u : ParseUnit) (w : Word) (r : ParseRun) (s : State), s.fetches p u 0x13 w r → (∃ a ∈ squareReads p.val w r.stepped, s.copiesBad r.pass.parity a = 2) → exec (.parseMove p u) s = .next (endPass p.val r.stepped 1 6 (setUnit p.val u.val none (readTwice p.val r.pass.parity (squareReads p.val w r.stepped) s).2))) ∧
  (∀ (p : Pipe) (q : Nat) (r : ParseRun) (a : Word) (b : Word) (s : State), a = s.parseWord r.pass.parity (parseBase p.val + 0x2000 + 8 * q) → r.depth < 16 → a.field 31 31 = 1 → b = s.parseWord r.pass.parity (parseBase p.val + 0x2000 + 8 * q + 4) → enterSquare s p.val q r = ({ r with depth := r.depth + 1, sq := q, pc := a.field 20 10, layers := if b.field 22 22 = 1 then sset (fun _ => none) r.layers (b.field 21 19) (some r.cursor) else r.layers, nsq := if b.field 23 23 = 1 then none else some (b.field 31 24) }, none)) ∧
  (∀ (p : Pipe) (q : Nat) (r : ParseRun) (s : State), (16 ≤ r.depth → enterSquare s p.val q r = (r, some (2, 1))) ∧ (r.depth < 16 → (s.parseWord r.pass.parity (parseBase p.val + 0x2000 + 8 * q)).field 31 31 = 0 → enterSquare s p.val q r = (r, some (1, 5)))) ∧
  (∀ (p : Pipe) (u : ParseUnit) (w : Word) (r : ParseRun) (s : State) (a : Word) (b : Word) (m : Nat), s.fetches p u 0x12 w r → (s.parseWord r.pass.parity (parseBase p.val + 0x2000 + 8 * r.sq)).field 30 30 = 1 → m = (s.parseWord r.pass.parity (parseBase p.val + 0x2000 + 8 * r.sq)).field 9 0 → a = s.parseWord r.pass.parity (parseBase p.val + 0x3000 + 8 * m) → b = s.parseWord r.pass.parity (parseBase p.val + 0x3000 + 8 * m + 4) → (r.rd (w.field 25 22)).field 15 0 &&& a.field 15 0 = a.field 31 16 &&& a.field 15 0 → (∀ a ∈ selReads s p.val w r.stepped, s.copiesBad r.pass.parity a = 0) → exec (.parseSel p u) s = .next (setUnit p.val u.val (some { r.stepped with nsq := if b.field 8 8 = 1 then none else some (b.field 7 0) }) s)) ∧
  (∀ (p : Pipe) (u : ParseUnit) (w : Word) (r : ParseRun) (s : State), s.fetches p u 0x12 w r → (s.parseWord r.pass.parity (parseBase p.val + 0x2000 + 8 * r.sq)).field 30 30 = 0 → s.copiesBad r.pass.parity (parseBase p.val + 0x2000 + 8 * r.sq) = 0 → exec (.parseSel p u) s = .next (setUnit p.val u.val (some r.stepped) s)) ∧
  (∀ (p : Pipe) (u : ParseUnit) (w : Word) (r : ParseRun) (s : State), s.fetches p u 0x14 w r → exec (.parseDone p u) s = .next (endPass p.val r.stepped 0 0 (setUnit p.val u.val none s))) ∧
  (∀ (p : Pipe) (u : ParseUnit) (w : Word) (r : ParseRun) (s : State), s.fetches p u 0x15 w r → exec (.parseExc p u) s = .next (endPass p.val r.stepped 5 (w.field 25 22) (setUnit p.val u.val none s))) ∧
  (∀ (p : Pipe) (u : ParseUnit) (w : Word) (r : ParseRun) (s : State) (n : Nat) (k : Nat), s.fetches p u 0x18 w r → k = w.field 21 16 → n = w.field 15 14 + 1 → k + n ≤ 64 → exec (.parseKey p u) s = .next (setUnit p.val u.val (some (putFields k (bytesBE n (r.rd (w.field 25 22)).toNat) r.stepped)) s)) ∧
  (∀ (p : Pipe) (u : ParseUnit) (w : Word) (r : ParseRun) (s : State), s.fetches p u 0x18 w r → 64 < w.field 21 16 + (w.field 15 14 + 1) → exec (.parseKey p u) s = .next (endPass p.val r.stepped 1 3 (setUnit p.val u.val none s))) ∧
  (∀ (p : Pipe) (u : ParseUnit) (w : Word) (r : ParseRun) (s : State) (n : Nat) (k : Nat) (b : Nat), s.fetches p u 0x19 w r → k = w.field 17 12 → n = w.field 11 8 + 1 → b = (r.cursor + (r.rd (w.field 7 4)).toNat + w.field 25 18) % 2 ^ 32 → k + n ≤ 64 → b + n ≤ 256 → (∀ e ∈ r.pass.scopeEnd, b + n ≤ e) → r.pass.scopeEnd ≠ none → r.pass.window.length = 256 → exec (.parseKcpy p u) s = .next (setUnit p.val u.val (some (putFields k ((r.pass.window.drop b).take n) r.stepped)) s)) ∧
  (∀ (p : Pipe) (u : ParseUnit) (w : Word) (r : ParseRun) (s : State), s.fetches p u 0x19 w r → 64 < w.field 17 12 + (w.field 11 8 + 1) → exec (.parseKcpy p u) s = .next (endPass p.val r.stepped 1 3 (setUnit p.val u.val none s))) ∧
  (∀ (p : Pipe) (u : ParseUnit) (w : Word) (r : ParseRun) (s : State), s.fetches p u 0x1B w r → exec (.parseFlag p u) s = .next (setUnit p.val u.val (some { r.stepped with uflags := r.uflags ||| 2 ^ (w.field 25 22) }) s)) ∧
  (∀ (p : Pipe) (u : ParseUnit) (w : Word) (r : ParseRun) (s : State) (d : Nat) (e : Nat), s.fetches p u 0x1C w r → d = (r.cursor + w.field 11 4 + (r.rd (w.field 25 22)).toNat * 2 ^ w.field 13 12) % 2 ^ 32 → r.scopes.length < 4 → (r.scopes ++ r.pass.scopeEnd.toList).head? = some e → w.field 21 21 = 0 → d ≤ e → (w.field 15 15 = 0 ∨ d = e) → exec (.parseLen p u) s = .next (setUnit p.val u.val (some { r.stepped with scopes := d :: r.scopes }) s)) ∧
  (∀ (p : Pipe) (u : ParseUnit) (w : Word) (r : ParseRun) (s : State) (d : Nat) (e : Nat), s.fetches p u 0x1C w r → d = (r.cursor + w.field 11 4 + (r.rd (w.field 25 22)).toNat * 2 ^ w.field 13 12) % 2 ^ 32 → r.scopes.length < 4 → (r.scopes ++ r.pass.scopeEnd.toList).head? = some e → e < d → exec (.parseLen p u) s = .next (if w.field 14 14 = 1 then setUnit p.val u.val (some { r.stepped with trunc := true, scopes := e :: r.scopes }) s else endPass p.val r.stepped 3 0 (setUnit p.val u.val none s))) ∧
  (∀ (p : Pipe) (u : ParseUnit) (w : Word) (r : ParseRun) (s : State) (d : Nat) (e : Nat), s.fetches p u 0x1C w r → d = (r.cursor + w.field 11 4 + (r.rd (w.field 25 22)).toNat * 2 ^ w.field 13 12) % 2 ^ 32 → r.scopes.length < 4 → (r.scopes ++ r.pass.scopeEnd.toList).head? = some e → w.field 21 21 = 0 → d < e → w.field 15 15 = 1 → exec (.parseLen p u) s = .next (endPass p.val r.stepped 4 0 (setUnit p.val u.val none s))) ∧
  (∀ (p : Pipe) (u : ParseUnit) (w : Word) (r : ParseRun) (s : State), s.fetches p u 0x1C w r → 4 ≤ r.scopes.length → exec (.parseLen p u) s = .next (endPass p.val r.stepped 2 5 (setUnit p.val u.val none s))) ∧
  (∀ (p : Pipe) (u : ParseUnit) (w : Word) (r : ParseRun) (s : State) (d : Nat), s.fetches p u 0x1C w r → d = (r.cursor + w.field 11 4 + (r.rd (w.field 25 22)).toNat * 2 ^ w.field 13 12) % 2 ^ 32 → r.scopes = [] → r.pass.scopeEnd = none → r.deferred = none → exec (.parseLen p u) s = .next (setUnit p.val u.val (some { r.stepped with deferred := some (d, decide (w.field 15 15 = 1), decide (w.field 14 14 = 1)), scopes := [d] }) s)) ∧
  (∀ (p : Pipe) (u : ParseUnit) (w : Word) (r : ParseRun) (s : State), s.fetches p u 0x1D w r → exec (.parseLchk p u) s = .next (if (r.rd (w.field 21 18)) = (r.rd (w.field 17 14)) then setUnit p.val u.val (some r.stepped) s else endPass p.val r.stepped 4 0 (setUnit p.val u.val none s))) ∧
  (∀ (p : Pipe) (u : ParseUnit) (w : Word) (r : ParseRun) (s : State) (e : Nat) (es : List Nat), s.fetches p u 0x1E w r → r.scopes = e :: es → exec (.parsePopl p u) s = .next (setUnit p.val u.val (some { r.stepped with scopes := es }) s)) ∧
  (∀ (p : Pipe) (u : ParseUnit) (w : Word) (r : ParseRun) (s : State), s.fetches p u 0x1E w r → r.scopes = [] → exec (.parsePopl p u) s = .next (endPass p.val r.stepped 1 4 (setUnit p.val u.val none s))) ∧
  (∀ (p : Pipe) (u : ParseUnit) (w : Word) (r : ParseRun) (s : State), s.unitRun p.val u.val = some r → r.steps < 64 → r.pc ≤ 2047 → s.parseWord r.pass.parity (parseBase p.val + 4 * r.pc) = w → s.copiesBad r.pass.parity (parseBase p.val + 4 * r.pc) = 0 → (parseOps.contains (w.field 31 26) = false ∨ parseReserved (w.field 31 26) w = false) → exec (.parseNop p u) s = .next (endPass p.val { r with steps := r.steps + 1 } 1 1 (setUnit p.val u.val none s)))

/-- O38. Passes: readiness, dispatch, release in order, unit parity, strikes, retirement and restore -/
def Obligations.ParsePasses : Prop :=
  (∀ (p : Port) (f : Nat) (x : Frame) (b : List Byte) (d : Bool) (s : State), s.oldest p.val (fun y => !y.passed) = some f → s.frame f = some x → x.origin = p.val → s.queueOpen (pipeOf p.val) = true → x.bytes ≠ [] → ∃ t q, exec (.passReady p.val b d) s = .next t ∧ (t.pipe (pipeOf p.val)).queue = (s.pipe (pipeOf p.val)).queue ++ [q] ∧ q.num = (s.pipe (pipeOf p.val)).nextNum ∧ q.frame = f ∧ q.second = false ∧ q.parity = s.curParity ∧ q.window = x.bytes.take 256 ∧ q.scopeEnd = (if x.whole then some (x.bytes.length - 4) else none) ∧ (t.pipe (pipeOf p.val)).nextNum = q.num + 1) ∧
  (∀ (p : Port) (f : Nat) (b : List Byte) (d : Bool) (s : State), s.oldest p.val (fun y => !y.passed) = some f → s.frame f ≠ none → (∀ x ∈ s.frame f, x.origin = p.val) → s.queueOpen (pipeOf p.val) = false → exec (.passReady p.val b d) s = .next (paFlag 10 s)) ∧
  (∀ (n : Nat) (b : List Byte) (d : Bool) (s : State), n < 128 → s.macRuns n = false → s.oldest n (fun y => !y.passed) = none → exec (.passReady n b d) s = .next s) ∧
  (∀ (b : List Byte) (d : Bool) (s : State), s.pair.admitted = [] → s.recirc = [] → s.ctlSend = [] → exec (.passReady 128 b d) s = .next s ∧ exec (.passReady 129 b d) s = .next s ∧ exec (.passReady 130 b d) s = .next s) ∧
  (∀ (n : Nat) (i : Nat) (b : List Byte) (d : Bool) (s : State), 128 ≤ n → s.turnInput = some i → exec (.passReady n b d) s = .next (if inputSource i = n then serveInput i s else s)) ∧
  (∀ (f : Nat) (fs : List Nat) (x : Frame) (s : State), s.ctlSend = f :: fs → s.queueOpen 2 = true → s.frame f = some x → ∃ q, ((serveInput 3 s).pipe 2).queue = (s.pipe 2).queue ++ [q] ∧ q.frame = f ∧ q.num = (s.pipe 2).nextNum ∧ (serveInput 3 s).ctlSend = fs ∧ ((serveInput 3 s).pipe 2).lastInput = 3) ∧
  (∀ (i : Nat) (s : State), i < 4 → s.inputWaits i = true → (s.pipe 2).lastInput % 4 = (i + 3) % 4 → s.turnInput = some i) ∧
  (∀ (p : Pipe) (u : Nat) (x : Pass) (xs : List Pass) (q : Nat) (r : ParseRun) (s : State), (s.pipe p.val).queue = x :: xs → s.idleUnit p.val = some u → (s.pipe p.val).reruns = [] → (∀ a ∈ startReads s p.val x, s.copiesBad x.parity a = 0) → startSquare s p.val x = some q → enterSquare s p.val q { pass := x } = (r, none) → ∃ t, exec (.passDispatch p []) s = .next t ∧ t.unitRun p.val u = some r ∧ (t.pipe p.val).queue = xs ∧ t.frames = s.frames ∧ regsKept [PA_QUEUE p.val] s t) ∧
  (∀ (p : Pipe) (u : Nat) (x : Pass) (xs : List Pass) (s : State), (s.pipe p.val).queue = x :: xs → s.idleUnit p.val = some u → (s.pipe p.val).reruns = [] → (∀ a ∈ startReads s p.val x, s.copiesBad x.parity a = 0) → startSquare s p.val x = none → exec (.passDispatch p []) s = .next (endPass p.val { pass := x } 2 7 ((showQueue p.val (s.modPipe p.val (fun y => { y with queue := xs }))).modPipe p.val (fun y => { y with lastUnit := u })))) ∧
  (∀ (p : Pipe) (u : Nat) (x : Pass) (xs : List Pass) (us : List (Nat × Bool)) (s : State), (s.pipe p.val).queue = x :: xs → s.idleUnit p.val = some u → (s.pipe p.val).reruns = [] → exec (.passDispatch p us) s = .next (startPass p.val u x (noteUpsets x.parity (us.filter (fun a => inWindows (parseWindows p.val) a.1)) (showQueue p.val (s.modPipe p.val (fun y => { y with queue := xs })))))) ∧
  (∀ (p : Pipe) (u : Nat) (x : Pass) (xs : List Pass) (s : State), (s.pipe p.val).reruns = x :: xs → s.idleUnit p.val = some u → exec (.passDispatch p []) s = .next (startPass p.val u x (s.modPipe p.val (fun y => { y with reruns := xs })))) ∧
  (∀ (p : Pipe) (u : Nat) (x : Pass) (n : Nat) (s : State), n ∈ startReads s p.val x → s.copiesBad x.parity n = 2 → startPass p.val u x s = endPass p.val { pass := x } 1 6 (readTwice p.val x.parity (startReads s p.val x) (s.modPipe p.val (fun y => { y with lastUnit := u }))).2) ∧
  (∀ (p : Pipe) (q : Bool) (n : Nat) (s : State), s.copiesBad q n = 1 → readTwice p.val q [n] s = (false, bankStrike p.val (paFlag 8 s))) ∧
  (∀ (p : Pipe) (o : List (Nat × Bool)) (s : State), (((s.pipe p.val).queue = [] ∧ (s.pipe p.val).reruns = []) ∨ s.idleUnit p.val = none) → exec (.passDispatch p o) s = .next s) ∧
  (∀ (p : Pipe) (r : ParseResult) (s : State), (s.pipe p.val).results.find? (fun y => y.num = (s.pipe p.val).relNum) = some r → ∃ t, exec (.parseResultRelease p) s = .next t ∧ (t.pipe p.val).released = (s.pipe p.val).released ++ [r] ∧ (t.pipe p.val).relNum = (s.pipe p.val).relNum + 1 ∧ (∀ y ∈ (t.pipe p.val).results, y.num ≠ r.num)) ∧
  (∀ (p : Pipe) (s : State), (∀ y ∈ (s.pipe p.val).results, y.num ≠ (s.pipe p.val).relNum) → exec (.parseResultRelease p) s = .next s) ∧
  (∀ (p : Pipe) (u : ParseUnit) (s : State), s.unitRun p.val u.val = none → exec (.parseUnitParity p u) s = .next (unitStrike p.val u.val s)) ∧
  (∀ (p : Pipe) (u : ParseUnit) (r : ParseRun) (v : Nat) (s : State), s.unitRun p.val u.val = some r → r.pass.rerun = false → s.unitStrike p.val u.val < 2 → (setUnit p.val u.val none s).idleUnit p.val = some v → exec (.parseUnitParity p u) s = .next (startPass p.val v { r.pass with rerun := true } (paFlag 4 ((setUnitStrike p.val u.val (s.unitStrike p.val u.val + 1) (paFlag 5 (setUnit p.val u.val none s))).bump (PA_CNT p.val 8))))) ∧
  (∀ (p : Pipe) (u : ParseUnit) (r : ParseRun) (s : State), s.unitRun p.val u.val = some r → r.pass.rerun = true → exec (.parseUnitParity p u) s = .next (endPass p.val r 1 7 (unitStrike p.val u.val (setUnit p.val u.val none s)))) ∧
  (∀ (p : Pipe) (u : ParseUnit) (r : ParseRun) (s : State), s.unitRun p.val u.val = some r → r.pass.rerun = false → s.unitStrike p.val u.val < 2 → (setUnit p.val u.val none s).idleUnit p.val = none → ∃ t, exec (.parseUnitParity p u) s = .next t ∧ (t.pipe p.val).reruns = (s.pipe p.val).reruns ++ [{ r.pass with rerun := true }] ∧ (t.pipe p.val).queue = (s.pipe p.val).queue ∧ t.unitRun p.val u.val = none) ∧
  (∀ (p : Pipe) (u : ParseUnit) (s : State), 2 ≤ s.unitStrike p.val u.val → unitStrike p.val u.val s = if (∃ v ∈ List.range 16, v ≠ u.val ∧ s.inService p.val v = true) then paFlag 6 (setUnitStrike p.val u.val 0 ((paFlag 5 s).putB ((PA_UNITS_IN_SERVICE p.val).bit u.val) false)) else paFlag 7 (setUnitStrike p.val u.val (s.unitStrike p.val u.val + 1) (paFlag 5 s))) ∧
  (∀ (p : Pipe) (u : ParseUnit) (s : State), exec (.parseStrikeExpiry p u) s = .next (setUnitStrike p.val u.val (s.unitStrike p.val u.val - 1) s)) ∧
  (∀ (p : Pipe) (m : BitVec 16) (u : ParseUnit) (s : State), s.Ok → s.stopped.contains .tenant = false → ∃ t, exec (.parseUnitRestore .tenant p m) s = .next t ∧ t.inService p.val u.val = (s.inService p.val u.val || m.getLsbD u.val) ∧ t.unitStrike p.val u.val = (if m.getLsbD u.val then 0 else s.unitStrike p.val u.val)) ∧
  (∀ (a : Agent) (p : Pipe) (m : BitVec 16) (s : State), a ≠ .tenant → a ≠ .host → s.stopped.contains a = false → exec (.parseUnitRestore a p m) s = .next (s.refuse a))

/-- O39. Staging marks, commits, drains, sweeps and forced retirement of rounds -/
def Obligations.RoundsAndCommits : Prop :=
  (∀ (n : Nat) (s : State), s.isCtl n = true → s.stageOpen = true → s.stopped.contains .tenant = false → ∃ t, exec (.tableAdd .tenant n) s = .next t ∧ t.slotIn (!s.curParity) n = true ∧ t.slotIn s.curParity n = s.slotIn s.curParity n ∧ t.slotBad n = s.slotBad n ∧ t.regs = s.regs ∧ t.curParity = s.curParity) ∧
  (∀ (n : Nat) (s : State), s.isCtl n = true → s.stageOpen = true → s.stopped.contains .tenant = false → ∃ t, exec (.tableRemove .tenant n) s = .next t ∧ t.slotIn (!s.curParity) n = false ∧ t.slotIn s.curParity n = s.slotIn s.curParity n ∧ t.slotBad n = s.slotBad n ∧ t.regs = s.regs) ∧
  (∀ (n : Nat) (s : State), s.isCtl n = true → s.stageOpen = false → s.stopped.contains .tenant = false → exec (.tableAdd .tenant n) s = .next (cxFlag 4 s) ∧ exec (.tableRemove .tenant n) s = .next (cxFlag 4 s)) ∧
  (∀ (a : Agent) (n : Nat) (b : Bank) (s : State), a ≠ .tenant → a ≠ .host → s.stopped.contains a = false → exec (.tableAdd a n) s = .next (s.refuse a) ∧ exec (.tableRemove a n) s = .next (s.refuse a) ∧ exec (.commitNow a) s = .next (s.refuse a) ∧ exec (.repairDone a b true) s = .next (s.refuse a) ∧ exec (.bankRestore a b) s = .next (s.refuse a)) ∧
  (∀ (s : State), s.Ok → s.cx.request = none → s.staging = true → s.stopped.contains .tenant = false → ∃ t, exec (.commitNow .tenant) s = .next t ∧ t.cx.request = some s.house ∧ t.isSet CX_COMMIT_NOW = true ∧ t.isSet CX_STATE_HELD = s.isSet CX_STATE_HELD ∧ regsKept [CX_COMMIT] s t ∧ t.tally = s.tally) ∧
  (∀ (s : State), s.Ok → s.cx.request = none → s.staging = false → s.stopped.contains .tenant = false → ∃ t, exec (.commitNow .tenant) s = .next t ∧ t.cx.request = some s.house ∧ t.isSet CX_STATE_HELD = true ∧ t.isSet ⟨CX_FLAGS, 1, 1⟩ = true ∧ t.count (CX_CNT 1) = s.count (CX_CNT 1)) ∧
  (∀ (r : Nat) (s : State), s.Ok → s.cx.request = some r → s.stopped.contains .tenant = false → ∃ t, exec (.commitNow .tenant) s = .next t ∧ t.cx.request = some r ∧ t.isSet ⟨CX_FLAGS, 1, 1⟩ = true ∧ t.count (CX_CNT 1) = (s.count (CX_CNT 1) + 1) % 2 ^ 48) ∧
  (∀ (n : Fin 8) (r : Nat) (s : State), s.isSet CX_COMMIT_EDGE_ARM = true → s.get CX_COMMIT_EDGE_TIN = n.val → s.cx.edgeTaken = false → s.cx.edgeAt = some r → s.cx.request = none → s.staging = true → exec (.commitEdge n) s = .next { s with cx := { s.cx with edgeTaken := true, request := some r, requestAt := s.now } }) ∧
  (∀ (n : Fin 8) (r : Nat) (s : State), (s.isSet CX_COMMIT_EDGE_ARM = true → s.get CX_COMMIT_EDGE_TIN = n.val → s.cx.edgeAt = none → commitStamp n.val r s = { s with cx := { s.cx with edgeAt := some r } }) ∧ ((s.isSet CX_COMMIT_EDGE_ARM = false ∨ s.get CX_COMMIT_EDGE_TIN ≠ n.val ∨ s.cx.edgeAt ≠ none) → commitStamp n.val r s = s)) ∧
  (∀ (n : Fin 8) (s : State), (s.isSet CX_COMMIT_EDGE_ARM = false ∨ s.get CX_COMMIT_EDGE_TIN ≠ n.val ∨ s.cx.edgeAt = none ∨ s.cx.edgeTaken = true) → exec (.commitEdge n) s = .next s) ∧
  (∀ (r : Nat) (s : State), s.Ok → s.cx.request = some r → s.staging = true → s.isSet CX_COMMIT_CHECK_EN = false → ∃ t, exec .roundCommit s = .next t ∧ t.curParity = !s.curParity ∧ t.reg CX_ROUND = s.reg CX_ROUND + 1 ∧ t.staging = false ∧ t.isSet CX_STATE_DRAINING = true ∧ t.get CX_STATE_LAST_RESULT = 1 ∧ t.count (CX_CNT 0) = (s.count (CX_CNT 0) + 1) % 2 ^ 48 ∧ t.isSet ⟨CX_FLAGS, 0, 0⟩ = true ∧ t.cx.request = none ∧ t.isSet CX_COMMIT_NOW = false ∧ t.isSet CX_COMMIT_EDGE_ARM = (s.isSet CX_COMMIT_EDGE_ARM && !s.cx.edgeTaken) ∧ t.isSet CX_STATE_HELD = false ∧ t.cx.marks = s.cx.marks ∧ t.cx.ctl = s.cx.ctl ∧ t.cx.golden = [] ∧ t.cx.drainFrom = some s.now ∧ t.isSet PA_STAGE_BUSY = true ∧ t.isSet PA_STAGE_READY = false) ∧
  (∀ (r : Nat) (s : State), s.Ok → s.cx.request = some r → s.staging = true → s.isSet CX_COMMIT_CHECK_EN = true → s.roundDigest s.stageParity ≠ (s.reg CX_COMMIT_DIGEST).toNat + (s.reg (CX_COMMIT_DIGEST + 4)).toNat * 2 ^ 32 → ∃ t, exec .roundCommit s = .next t ∧ t.curParity = s.curParity ∧ t.reg CX_ROUND = s.reg CX_ROUND ∧ t.staging = true ∧ t.get CX_STATE_LAST_RESULT = 2 ∧ t.count (CX_CNT 2) = (s.count (CX_CNT 2) + 1) % 2 ^ 48 ∧ t.isSet ⟨CX_FLAGS, 2, 2⟩ = true ∧ t.cx.request = none ∧ t.cx.marks = s.cx.marks) ∧
  (∀ (s : State), (s.cx.request = none ∨ s.staging = false) → exec .roundCommit s = .next s) ∧
  (∀ (s : State), s.Ok → s.isSet CX_STATE_DRAINING = true → s.waits s.stageParity = false → ∃ t, exec .drainEnd s = .next t ∧ t.isSet CX_STATE_DRAINING = false ∧ t.isSet CX_STATE_SWEEP = true ∧ t.isSet PA_STAGE_BUSY = false ∧ t.get CX_STATE_DRAIN_HWM = min 4095 (max (s.get CX_STATE_DRAIN_HWM) s.drainSteps) ∧ t.cx.drainFrom = none) ∧
  (∀ (s : State), (s.isSet CX_STATE_DRAINING = false ∨ s.waits s.stageParity = true) → exec .drainEnd s = .next s) ∧
  (∀ (n : Nat) (s : State), s.Ok → s.isSet CX_STATE_SWEEP = true → (s.cx.request = none ∨ s.isSet CX_STATE_HELD = false) → ∃ t, exec .sweepDone s = .next t ∧ t.isSet CX_STATE_SWEEP = false ∧ t.staging = true ∧ t.isSet ⟨CX_FLAGS, 5, 5⟩ = true ∧ t.slotIn s.curParity n = s.slotIn s.curParity n ∧ t.slotIn (!s.curParity) n = s.slotIn s.curParity n ∧ t.slotBad n = s.slotBad n) ∧
  (∀ (s : State), s.isSet CX_STATE_SWEEP = false → exec .sweepDone s = .next s) ∧
  (∀ (p : Pipe) (s : State), s.Ok → s.isSet CX_STATE_DRAINING = true → s.frames = [] → s.recirc = [] → ∃ t, exec .forcedRetire s = .next t ∧ t.count (CX_CNT 3) = (s.count (CX_CNT 3) + 1) % 2 ^ 48 ∧ t.isSet ⟨CX_FLAGS, 3, 3⟩ = true ∧ (t.pipe p.val).queue = (s.pipe p.val).queue.filter (fun x => x.parity ≠ s.stageParity) ∧ (t.pipe p.val).results = (s.pipe p.val).results ++ ((s.pipe p.val).queue.filter (fun x => x.parity = s.stageParity)).map (fun x => resultOf { pass := x } 6 0)) ∧
  (∀ (s : State), s.isSet CX_STATE_DRAINING = false → exec .forcedRetire s = .next s)

/-- O40. Classification of a released pass, and the upkeep of the table banks -/
def Obligations.ClassifyAndBanks : Prop :=
  (∀ (p : Pipe) (r : ParseResult) (rs : List ParseResult) (x : Frame) (k : Nat) (s : State) (s2 : State), (s.pipe p.val).released = r :: rs → s.frame r.frame = some x → x.trunc = false → (∀ a ∈ (classify s r x.origin x.carry).reads, s.copiesBad r.parity a = 0) → (classify s r x.origin x.carry).word = .inr k → k ≠ 9 → s2 = (s.modPipe p.val (fun y => { y with released := rs })).bump (CX_CNT 4) (classify s r x.origin x.carry).made → exec (.passClassify p []) s = .next (settle r.frame (setFrame r.frame (some { x with result := some r, action := some (takeDefault r.parity x.origin k s2).1, meter := (actMeter (takeDefault r.parity x.origin k s2).1).or (classify s r x.origin x.carry).meter, trunc := r.trunc }) (takeDefault r.parity x.origin k s2).2))) ∧
  (∀ (p : Pipe) (r : ParseResult) (rs : List ParseResult) (x : Frame) (w : Nat) (s : State), (s.pipe p.val).released = r :: rs → s.frame r.frame = some x → x.trunc = false → (∀ a ∈ (classify s r x.origin x.carry).reads, s.copiesBad r.parity a = 0) → (classify s r x.origin x.carry).word = .inl w → exec (.passClassify p []) s = .next (settle r.frame (setFrame r.frame (some { x with result := some r, action := some w, meter := (actMeter w).or (classify s r x.origin x.carry).meter, trunc := r.trunc }) ((s.modPipe p.val (fun y => { y with released := rs })).bump (CX_CNT 4) (classify s r x.origin x.carry).made)))) ∧
  (∀ (r : ParseResult) (o : Nat) (c : Nat) (s : State), (r.status ≠ 0 → classify s r o c = ⟨.inr r.status, none, 0, []⟩) ∧ (r.status = 0 → (s.ctlWord r.parity (0x02410400 + 4 * r.lastSq)).field 31 31 = 0 → classify s r o c = ⟨.inr 0, none, 0, [0x02410400 + 4 * r.lastSq]⟩)) ∧
  (∀ (r : ParseResult) (x : Frame) (s : State), r.status = 0 → s.copiesBad r.parity (0x02410400 + 4 * r.lastSq) = 2 → (chainOf r x s).1.word = .inr 1 ∧ (chainOf r x s).1.meter = none) ∧
  (∀ (q : Bool) (o : Nat) (k : Nat) (s : State), s.Ok → s.cx.badCopy = [] → k < 11 → (takeDefault q o k s).2.count (CX_DEFCNT k) = (s.count (CX_DEFCNT k) + 1) % 2 ^ 48 ∧ actKind (takeDefault q o k s).1 ≤ 1 ∧ actionOk (takeDefault q o k s).1 = true ∧ (k ≠ 6 → defaultOk (s.defaultWord q o k) = true → (takeDefault q o k s).1 = s.defaultWord q o k)) ∧
  (∀ (q : Bool) (o : Nat) (k : Nat) (n : Nat) (s : State), n = 0x02412000 + 0x80 * o + 8 * k → (s.copiesBad q n = 2 ∨ s.copiesBad q (n + 4) = 2) → (readDefault q o k s).1 = none) ∧
  (∀ (p : Pipe) (b : List (Nat × Bool)) (s : State), (s.pipe p.val).released = [] → exec (.passClassify p b) s = .next s) ∧
  (∀ (b : Bank) (s : State), s.crcHolds b.val = true → exec (.scrubBank b [] false) s = .next (s.bump (CX_CNT 5))) ∧
  (∀ (b : Bank) (s : State), s.Ok → s.bankStrikes b.val < 2 → s.isSet (CX_BANK_ERR b.val) = false → ∃ t, exec (.scrubBank b [] true) s = .next t ∧ t.isSet (CX_BANK_ERR b.val) = true ∧ t.get (CX_BANK_FIRST_BAD b.val) = 0x1FFFF ∧ t.isSet ⟨CX_FLAGS, 7, 7⟩ = true ∧ t.isSet ⟨CX_FLAGS, 8, 8⟩ = true ∧ t.bankStrikes b.val = s.bankStrikes b.val + 1 ∧ t.get (CX_BANK_STRIKES b.val) = s.bankStrikes b.val + 1 ∧ t.count (CX_CNT 5) = (s.count (CX_CNT 5) + 1) % 2 ^ 48) ∧
  (∀ (b : Bank) (i : Nat) (n : Nat) (q : Bool) (s : State), s.Ok → 4 ≤ b.val → s.bankOfWord n = some (b.val, i) → i < 131071 → s.bankStrikes b.val < 2 → s.isSet (CX_BANK_ERR b.val) = false → ∃ t, exec (.scrubBank b [(n, q)] false) s = .next t ∧ t.isSet (CX_BANK_ERR b.val) = true ∧ t.get (CX_BANK_FIRST_BAD b.val) = i ∧ t.isSet ⟨CX_FLAGS, 6, 6⟩ = true ∧ t.slotBad (s.ctlOf n) = true ∧ t.bankStrikes b.val = s.bankStrikes b.val + 1) ∧
  (∀ (b : Bank) (i : Nat) (j : Nat) (n : Nat) (m : Nat) (q : Bool) (s : State), 4 ≤ b.val → s.bankOfWord n = some (b.val, i) → s.bankOfWord m = some (b.val, j) → ∃ t, exec (.scrubBank b [(n, q), (m, q)] false) s = .next t ∧ n ∈ t.cx.badWords ∧ m ∈ t.cx.badWords) ∧
  (∀ (b : Bank) (i : Nat) (n : Nat) (s : State), s.Ok → b.val < 4 → s.bankOfWord n = some (b.val, i) → s.bankStrikes b.val < 2 → s.isSet (CX_BANK_ERR b.val) = false → ∃ t, exec (.scrubBank b [(n, false)] false) s = .next t ∧ t.copiesBad s.curParity n = 1 ∧ t.isSet (CX_BANK_ERR b.val) = true ∧ t.get (CX_BANK_FIRST_BAD b.val) = i ∧ t.isSet ⟨PA_FLAGS, 8, 8⟩ = true ∧ t.bankStrikes b.val = s.bankStrikes b.val + 1 ∧ t.cx.badWords = s.cx.badWords) ∧
  (∀ (b : Bank) (s : State), 2 ≤ s.bankStrikes b.val → s.cx.retiring.contains b.val = false → bankKin b.val ≠ [] → (∀ k ∈ bankKin b.val, s.isSet (CX_BANK_RETIRED k) = false ∧ s.cx.retiring.contains k = false) → 4 ≤ b.val → (bankStrike b.val s).cx.retiring = s.cx.retiring ++ [b.val] ∧ (bankStrike b.val s).regs = (cxFlag 8 s).regs) ∧
  (∀ (b : Bank) (s : State), 2 ≤ s.bankStrikes b.val → s.cx.retiring.contains b.val = false → bankKin b.val = [] → bankStrike b.val s = cxFlag 10 (cxFlag 8 s)) ∧
  (∀ (b : Bank) (s : State), s.Ok → s.cx.retiring.contains b.val = true → ∃ t, exec (.bankRetired b) s = .next t ∧ t.isSet (CX_BANK_RETIRED b.val) = true ∧ t.bankStrikes b.val = 0 ∧ t.get (CX_BANK_STRIKES b.val) = 0 ∧ t.isSet ⟨CX_FLAGS, 9, 9⟩ = true ∧ t.cx.retiring.contains b.val = false ∧ t.cx.marks = s.cx.marks) ∧
  (∀ (b : Bank) (s : State), s.cx.retiring.contains b.val = false → exec (.bankRetired b) s = .next s) ∧
  (∀ (b : Bank) (s : State), exec (.bankStrikeExpiry b) s = .next (setBankStrikes b.val (s.bankStrikes b.val - 1) s)) ∧
  (∀ (b : Bank) (s : State), s.Ok → s.isSet (CX_BANK_ERR b.val) = true → s.crcHolds b.val = true → s.stopped.contains .tenant = false → ∃ t, exec (.repairDone .tenant b true) s = .next t ∧ t.isSet (CX_BANK_ERR b.val) = false ∧ t.get (CX_BANK_FIRST_BAD b.val) = 0x1FFFF ∧ t.isSet (CX_BANK_REPAIR_DONE b.val) = false ∧ t.tally = s.tally ∧ regsKept [CX_BANK b.val] s t) ∧
  (∀ (b : Bank) (s : State), s.Ok → s.isSet (CX_BANK_ERR b.val) = true → s.bankStrikes b.val < 2 → s.stopped.contains .tenant = false → ∃ t, exec (.repairDone .tenant b false) s = .next t ∧ t.isSet (CX_BANK_ERR b.val) = true ∧ t.isSet ⟨CX_FLAGS, 11, 11⟩ = true ∧ t.bankStrikes b.val = s.bankStrikes b.val + 1 ∧ t.isSet (CX_BANK_REPAIR_DONE b.val) = false) ∧
  (∀ (b : Bank) (s : State), s.Ok → s.isSet (CX_BANK_RETIRED b.val) = true → s.stopped.contains .tenant = false → ∃ t, exec (.bankRestore .tenant b) s = .next t ∧ t.isSet (CX_BANK_RETIRED b.val) = false ∧ t.bankStrikes b.val = 0 ∧ t.get (CX_BANK_STRIKES b.val) = 0 ∧ t.cx.marks = s.cx.marks ∧ t.cx.mem = s.cx.mem) ∧
  (∀ (b : Bank) (s : State), s.isSet (CX_BANK_RETIRED b.val) = false → s.stopped.contains .tenant = false → exec (.bankRestore .tenant b) s = .next s)

/-- O41. Allocating, sharing and freeing tiles by tenant firmware, and what each rejection records -/
def Obligations.TilesAndHandles : Prop :=
  (∀ (b : Nat) (i : Nat) (s : State), s.Ok → b = s.get BM_ALLOC_BAG_ALLOC_BAG → s.bagServes b = true → s.nextTile b = some i → i < 2 ^ 19 → s.stopped.contains .tenant = false → ∃ t, exec (.bmAlloc .tenant .good) s = .next t ∧ t.tile i = ⟨1, ((s.tile i).gen + 1) % 16, 2, 1, true, none⟩ ∧ sget (fun _ => 0) t.rdata (agentNum .tenant) = BitVec.ofNat 32 (handleOf i (((s.tile i).gen + 1) % 16)) ∧ t.count (BM_CNT 0) = (s.count (BM_CNT 0) + 1) % 2 ^ 48 ∧ t.frames = s.frames) ∧
  (∀ (b : Nat) (s : State), s.Ok → b = s.get BM_ALLOC_BAG_ALLOC_BAG → (s.bagServes b = false ∨ s.nextTile b = none) → s.stopped.contains .tenant = false → ∃ t, exec (.bmAlloc .tenant .good) s = .next t ∧ sget (fun _ => 0) t.rdata (agentNum .tenant) = 0 ∧ t.count (BM_NO_TILE b) = (s.count (BM_NO_TILE b) + 1) % 2 ^ 48 ∧ t.isSet ⟨BM_FLAGS, 1, 1⟩ = true ∧ t.bm = s.bm) ∧
  (∀ (b : Nat) (i : Nat) (s : State), b = s.get BM_ALLOC_BAG_ALLOC_BAG → s.bagServes b = true → s.nextTile b = some i → s.stopped.contains .tenant = false → exec (.bmAlloc .tenant .oneBad) s = exec (.bmAlloc .tenant .good) (bmFlag 6 s) ∧ exec (.bmAlloc .tenant .bothBad) s = exec (.bmAlloc .tenant .good) (quarantineFree i s)) ∧
  (∀ (h : Word) (s : State), (387071 < handleTile h.toNat ∨ (s.tile (handleTile h.toNat)).gen ≠ handleGen h.toNat ∨ (s.tile (handleTile h.toNat)).head = false) → s.stopped.contains .tenant = false → exec (.bmFree .tenant h .good) s = .next (rejectFree h.toNat 2 130 1 s)) ∧
  (∀ (h : Word) (s : State), handleTile h.toNat ≤ 387071 → (s.tile (handleTile h.toNat)).gen = handleGen h.toNat → (s.tile (handleTile h.toNat)).head = true → (s.tile (handleTile h.toNat)).count = 0 → s.stopped.contains .tenant = false → exec (.bmFree .tenant h .good) s = .next (rejectFree h.toNat 2 130 2 s)) ∧
  (∀ (h : Word) (s : State), handleTile h.toNat ≤ 387071 → (s.tile (handleTile h.toNat)).gen = handleGen h.toNat → (s.tile (handleTile h.toNat)).head = true → (s.tile (handleTile h.toNat)).count ≠ 0 → (s.tile (handleTile h.toNat)).owner ≠ 2 → s.stopped.contains .tenant = false → exec (.bmFree .tenant h .good) s = .next (rejectFree h.toNat 2 130 3 s)) ∧
  (∀ (h : Nat) (k : Fin 3) (s : State), s.Ok → h < 2 ^ 32 → (rejectFree h 2 130 (k.val + 1) s).count (BM_CNT (k.val + 2)) = (s.count (BM_CNT (k.val + 2)) + 1) % 2 ^ 48 ∧ (rejectFree h 2 130 (k.val + 1) s).isSet ⟨BM_FLAGS, k.val + 2, k.val + 2⟩ = true ∧ (rejectFree h 2 130 (k.val + 1) s).reg BM_LAST_REJECT = BitVec.ofNat 32 h ∧ (rejectFree h 2 130 (k.val + 1) s).reg (BM_LAST_REJECT + 4) = BitVec.ofNat 32 (130 * 2 ^ 8 + 2 * 2 ^ 4 + (k.val + 1)) ∧ (rejectFree h 2 130 (k.val + 1) s).bm = s.bm) ∧
  (∀ (h : Word) (r : TileRec) (s : State), handleTile h.toNat ≤ 387071 → s.tile (handleTile h.toNat) = r → r.gen = handleGen h.toNat → r.head = true → 1 < r.count → r.owner = 2 → s.stopped.contains .tenant = false → exec (.bmFree .tenant h .good) s = .next (setTile (handleTile h.toNat) { r with count := r.count - 1 } (s.bump (BM_CNT 1)))) ∧
  (∀ (h : Word) (r : TileRec) (s : State), handleTile h.toNat ≤ 387071 → s.tile (handleTile h.toNat) = r → r.gen = handleGen h.toNat → r.head = true → r.count = 1 → r.owner = 2 → s.stopped.contains .tenant = false → exec (.bmFree .tenant h .good) s = .next ((s.bump (BM_CNT 1)).each (s.chain 49 (handleTile h.toNat)) returnTile)) ∧
  (∀ (i : Nat) (s : State), s.Ok → s.bm.recount ≠ some (s.bagOf i) → s.bagFree (s.bagOf i) < 387072 → (returnTile i s).tile i = { s.tile i with state := 0, count := 0, next := none } ∧ (returnTile i s).bagFree (s.bagOf i) = s.bagFree (s.bagOf i) + 1 ∧ (returnTile i s).get (BM_BAG_FREE_FREE (s.bagOf i)) = s.bagFree (s.bagOf i) + 1) ∧
  (∀ (h : Word) (s : State), handleTile h.toNat ≤ 387071 → s.stopped.contains .tenant = false → exec (.bmFree .tenant h .oneBad) s = exec (.bmFree .tenant h .good) (bmFlag 6 s) ∧ exec (.bmFree .tenant h .bothBad) s = .next (loseTile (handleTile h.toNat) s)) ∧
  (∀ (h : Word) (r : TileRec) (s : State), handleTile h.toNat ≤ 387071 → s.tile (handleTile h.toNat) = r → r.gen = handleGen h.toNat → r.head = true → 0 < r.count → s.stopped.contains .tenant = false → exec (.bmShare .tenant h) s = .next (if r.count = 255 then bmFlag 5 (s.bump (BM_CNT 5)) else setTile (handleTile h.toNat) { r with count := r.count + 1 } s)) ∧
  (∀ (h : Word) (s : State), (387071 < handleTile h.toNat ∨ (s.tile (handleTile h.toNat)).gen ≠ handleGen h.toNat ∨ (s.tile (handleTile h.toNat)).head = false ∨ (s.tile (handleTile h.toNat)).count = 0) → s.stopped.contains .tenant = false → exec (.bmShare .tenant h) s = .next s) ∧
  (∀ (h : Word) (n : Nat) (bs : List Byte) (x : List Byte) (m : SendMark) (r : TileRec) (s : State), handleTile h.toNat ≤ 387071 → s.tile (handleTile h.toNat) = r → r.gen = handleGen h.toNat → r.head = true → 0 < r.count → r.owner = 2 → x = bs.take n → tilesFor x.length ≤ (s.chain 49 (handleTile h.toNat)).length → fcsGood x = true → s.stopped.contains .tenant = false → ∃ t, exec (.controllerPortSend h n bs m) s = .next t ∧ t.ctlSend = s.ctlSend ++ [s.nextId] ∧ (t.frame s.nextId).map (fun y => (y.origin, y.bytes, y.head)) = some (130, x, some h.toNat) ∧ (t.tile (handleTile h.toNat)) = { r with owner := 1 } ∧ t.regs = s.regs) ∧
  (∀ (h : Word) (n : Nat) (bs : List Byte) (m : SendMark) (r : TileRec) (s : State), r = s.tile (handleTile h.toNat) → (s.stopped.contains .tenant = true ∨ 387071 < handleTile h.toNat ∨ r.gen ≠ handleGen h.toNat ∨ r.head = false ∨ r.count = 0 ∨ r.owner ≠ 2 ∨ (s.chain 49 (handleTile h.toNat)).length < tilesFor (bs.take n).length) → exec (.controllerPortSend h n bs m) s = .next s) ∧
  (∀ (a : Agent) (h : Word) (o : RecordRead) (s : State), a ≠ .tenant → s.stopped.contains a = false → exec (.bmAlloc a o) s = .next ((s.refuse a).answer a 0) ∧ exec (.bmFree a h o) s = .next (s.refuse a) ∧ exec (.bmShare a h) s = .next (s.refuse a))

/-- O42. Bags: refilling a hand, INIT, recount, tile tests, parity, and the end of a reset's INIT -/
def Obligations.BagsAndQuarantine : Prop :=
  (∀ (b : Bag) (s : State), (s.bagX b.val).hand.length ≤ 16 → ∃ t, exec (.handRefill b) s = .next t ∧ (t.bagX b.val).hand = (s.bagX b.val).hand ++ (ringTake (s.bagX b.val).ring 16).1 ∧ (t.bagX b.val).ring = (ringTake (s.bagX b.val).ring 16).2 ∧ t.bagFree b.val = s.bagFree b.val ∧ t.regs = s.regs) ∧
  (∀ (b : Bag) (s : State), 48 ≤ (s.bagX b.val).hand.length → ∃ t, exec (.handRefill b) s = .next t ∧ (t.bagX b.val).hand = (s.bagX b.val).hand.take ((s.bagX b.val).hand.length - 16) ∧ t.bagFree b.val = s.bagFree b.val ∧ t.regs = s.regs) ∧
  (∀ (b : Bag) (s : State), 16 < (s.bagX b.val).hand.length → (s.bagX b.val).hand.length < 48 → exec (.handRefill b) s = .next s) ∧
  (∀ (i : Nat) (r : TileRec) (s : State), (i, some r) ∈ s.bm.tiles → r.state = 1 → s.stopped.contains .tenant = false → exec (.bmInit .tenant) s = .next (bmFlag 11 s)) ∧
  (∀ (s : State), (∀ x ∈ s.bm.tiles, ∀ r ∈ x.2, r.state ≠ 1) → 387072 < ((List.range 64).map (fun b => s.get (BM_BAG_TILES_TILES b))).foldl (· + ·) 0 → s.stopped.contains .tenant = false → exec (.bmInit .tenant) s = .next (bmFlag 11 s)) ∧
  (∀ (b : Bag) (s : State), s.Ok → s.bm.tiles = [] → ((List.range 64).map (fun b => s.get (BM_BAG_TILES_TILES b))).foldl (· + ·) 0 ≤ 387072 → s.stopped.contains .tenant = false → ∃ t, exec (.bmInit .tenant) s = .next t ∧ t.isSet BM_STATUS_READY = true ∧ t.isSet BM_STATUS_BUSY = false ∧ t.bagRange b.val = (((List.range b.val).map (fun j => s.get (BM_BAG_TILES_TILES j))).foldl (· + ·) 0, s.get (BM_BAG_TILES_TILES b.val)) ∧ t.bagFree b.val = s.get (BM_BAG_TILES_TILES b.val) ∧ (t.bagX b.val).hand = [] ∧ t.bm.tiles = [] ∧ t.bm.recount = none) ∧
  (∀ (b : Bag) (s : State), s.Ok → s.bm.recount = none → s.stopped.contains .tenant = false → ∃ t, exec (.bmRecount .tenant b) s = .next t ∧ t.bm.recount = some b.val ∧ t.bagX b.val = {} ∧ t.isSet BM_STATUS_BUSY = true ∧ t.bagServes b.val = false ∧ t.bm.tiles = s.bm.tiles) ∧
  (∀ (b : Bag) (d : Nat) (s : State), s.bm.recount = some d → s.bm.waiting.contains b.val = false → s.stopped.contains .tenant = false → exec (.bmRecount .tenant b) s = .next { (s.put BM_CTRL_RECOUNT_BAG b.val) with bm := { s.bm with waiting := s.bm.waiting ++ [b.val] } }) ∧
  (∀ (b : Bag) (s : State), s.Ok → s.bm.recount = some b.val → s.bm.waiting = [] → ∃ t, exec (.recountDone b) s = .next t ∧ t.bm.recount = none ∧ t.isSet ⟨BM_FLAGS, 10, 10⟩ = true ∧ t.isSet BM_STATUS_BUSY = false ∧ t.count (BM_CNT 8) = (s.count (BM_CNT 8) + 1) % 2 ^ 48 ∧ t.get (BM_BAG_FREE_FREE b.val) = t.bagFree b.val % 2 ^ 19) ∧
  (∀ (b : Bag) (s : State), s.bm.recount ≠ some b.val → exec (.recountDone b) s = .next s) ∧
  (∀ (b : Bag) (s : State), exec (.ringParity b) s = .next (recountBag b.val (bmFlag 9 s))) ∧
  (∀ (i : Nat) (s : State), s.Ok → (s.tile i).state = 2 → ∃ t, exec (.tileTestDone i false) s = .next t ∧ (t.tile i).state = 3 ∧ t.get BM_STATUS_HELD = min (s.get BM_STATUS_HELD + 1) 4095 ∧ t.isSet ⟨BM_FLAGS, 8, 8⟩ = true ∧ t.bm.bags = s.bm.bags) ∧
  (∀ (i : Nat) (s : State), (s.tile i).state = 2 → s.bm.recount ≠ some (s.bagOf i) → exec (.tileTestDone i true) s = .next (showBag (s.bagOf i) (setBagX (s.bagOf i) ⟨(s.bagX (s.bagOf i)).hand, ringPut i (s.bagX (s.bagOf i)).ring⟩ (setTile i { s.tile i with state := 0 } s)))) ∧
  (∀ (i : Nat) (k : Bool) (s : State), (s.tile i).state ≠ 2 → exec (.tileTestDone i k) s = .next s) ∧
  (∀ (i : Nat) (s : State), s.Ok → (s.tile i).state = 3 → s.stopped.contains .tenant = false → ∃ t, exec (.bmUnhold .tenant) s = .next t ∧ (t.tile i).state = 2 ∧ t.get BM_STATUS_HELD = 0 ∧ t.bm.bags = s.bm.bags) ∧
  (∀ (f : Nat) (i : Nat) (s : State), s.frame f = none → s.segHead i = none → exec (.dataParity f i) s = .next s) ∧
  (∀ (f : Nat) (i : Nat) (x : Frame) (s : State), s.Ok → s.frames = [(f, some x)] → x.head = some (handleOf i (s.tile i).gen - 2 ^ 31) → i < 2 ^ 19 → (s.tile i).gen < 16 → (s.tile i).next = none → x.queue = none → s.qs.egress = [] → ∃ t, exec (.dataParity f i) s = .next t ∧ t.frame f = none ∧ (t.tile i).state = 2 ∧ t.count (BM_CNT 6) = (s.count (BM_CNT 6) + 1) % 2 ^ 48 ∧ t.count (BM_CNT 7) = (s.count (BM_CNT 7) + 1) % 2 ^ 48 ∧ t.isSet ⟨BM_FLAGS, 7, 7⟩ = true) ∧
  (∀ (a : Agent) (b : Bag) (s : State), a ≠ .tenant → a ≠ .host → s.stopped.contains a = false → exec (.bmInit a) s = .next (s.refuse a) ∧ exec (.bmRecount a b) s = .next (s.refuse a) ∧ exec (.bmUnhold a) s = .next (s.refuse a)) ∧
  (∀ (n : Nat) (s : State), s.Ok → s.tenantHeld = false → (s.elapse n).isSet BM_STATUS_READY = true)

/-- O43. Enqueueing, selection by the tree, shapers, meters and flushing -/
def Obligations.QueuesAndShapers : Prop :=
  (∀ (f : Nat) (x : Frame) (q : Nat) (s : State), s.frame f = some x → x.enqueueable = true → s.overtakes f x = false → q = actQueue x.act → s.queueValid q = false → exec (.frameEnqueue f) s = .next (observe (dropAtQueue q f (qsFlag 1 (s.bump (QS_CNT 2)))))) ∧
  (∀ (f : Nat) (x : Frame) (q : Nat) (s : State), s.frame f = some x → x.enqueueable = true → s.overtakes f x = false → q = actQueue x.act → s.queueValid q = true → s.egressOf q = none → exec (.frameEnqueue f) s = .next (observe (dropFrame f (qsFlag 2 (s.bump (QS_CNT 3)))))) ∧
  (∀ (f : Nat) (x : Frame) (q : Nat) (n : Nat) (s : State), s.frame f = some x → x.enqueueable = true → s.overtakes f x = false → q = actQueue x.act → s.queueValid q = true → s.egressOf q = some n → (if x.yellow || x.red then s.get (QS_QMAX_YMAX q) else s.get (QS_QMAX_MAX q)) * 16 < s.get (QS_QTILES_TILES q) + (x.bytes.length + 255) / 256 → exec (.frameEnqueue f) s = .next (observe (dropAtQueue q f (qsFlag 0 (s.bump (QS_CNT (if x.yellow || x.red then 1 else 0))))))) ∧
  (∀ (f : Nat) (x : Frame) (q : Nat) (n : Nat) (s : State), s.Ok → s.frame f = some x → x.enqueueable = true → s.overtakes f x = false → q = actQueue x.act → s.queueValid q = true → s.egressOf q = some n → s.isLine q = false → s.get (QS_QTILES_TILES q) + (x.bytes.length + 255) / 256 ≤ (if x.yellow || x.red then s.get (QS_QMAX_YMAX q) else s.get (QS_QMAX_MAX q)) * 16 → ∃ t, exec (.frameEnqueue f) s = .next t ∧ t.qlist q = s.qlist q ++ [f] ∧ t.frame f = some { x with queue := some q } ∧ t.count (QS_QCNT q 0) = (s.count (QS_QCNT q 0) + 1) % 2 ^ 48 ∧ t.get (QS_QFRAMES_FRAMES q) = ((s.qlist q).length + 1) % 2 ^ 20 ∧ regsKept [QS_QCNT q 0, QS_QCNT q 0 + 4, QS_QTILES q, QS_QFRAMES q] s t ∧ t.tally = s.tally) ∧
  (∀ (f : Nat) (x : Frame) (q : Nat) (n : Nat) (e : Engine) (s : State), s.Ok → s.frame f = some x → x.enqueueable = true → s.overtakes f x = false → q = actQueue x.act → s.queueValid q = true → s.egressOf q = some n → s.isLine q = true → s.isSet (BURST_PM_CFG_LOCAL_WAKE e.n) = true → s.isSet (BURST_SLOT_VALID e.n (s.get (QS_QGATE_LQ q) / 8)) = true → (s.pm e = 1 ∨ s.pm e = 2 ∨ s.pm e = 3) → s.get (QS_QTILES_TILES q) + (x.bytes.length + 255) / 256 ≤ (if x.yellow || x.red then s.get (QS_QMAX_YMAX q) else s.get (QS_QMAX_MAX q)) * 16 → ∃ t, exec (.frameEnqueue f) s = .next t ∧ t.qlist q = s.qlist q ++ [f] ∧ t.frame f = some { x with queue := some q } ∧ t.pm e = 4 ∧ t.get (BURST_PM_STATUS_WAKE_CAUSE e.n) = 3) ∧
  (∀ (f : Nat) (g : Nat) (x : Frame) (y : Frame) (s : State), s.frame f = some x → (g, some y) ∈ s.frames → g < f → y.origin = x.origin → y.queue = none → y.action = x.action → x.enqueueable = true → exec (.frameEnqueue f) s = .next s) ∧
  (∀ (f : Nat) (s : State), (∀ x ∈ s.frame f, x.enqueueable = false) → exec (.frameEnqueue f) s = .next s) ∧
  (∀ (n : L0Node) (s : State), n.val ≠ 133 → s.shaperOk n.val = false → exec (.frameSelect n) s = .next (observe s)) ∧
  (∀ (n : L0Node) (s : State), n.val ≠ 133 → s.busyQueues = [] → ∃ t, exec (.frameSelect n) s = .next t ∧ t.frames = s.frames ∧ t.qs.queues = s.qs.queues ∧ t.qs.egress = s.qs.egress ∧ t.regs = s.regs ∧ t.tally = s.tally) ∧
  (∀ (n : L0Node) (q : Nat) (f : Nat) (fs : List Nat) (x : Frame) (s : State), s.Ok → n.val < 128 → s.busyQueues = [q] → s.qlist q = f :: fs → f ∉ fs → s.frame f = some x → s.chainOf q = some (s.parentOf (1472 + q), s.parentOf (s.parentOf (1472 + q)), n.val) → s.queueEligible q = true → s.shaperOk (s.parentOf (1472 + q)) = true → s.shaperOk (s.parentOf (s.parentOf (1472 + q))) = true → s.shaperOk n.val = true → s.egressOpen n.val (s.frameExpress n.val f) = true → q < 8192 → ∃ t, exec (.frameSelect n) s = .next t ∧ t.qlist q = fs ∧ t.stageOf n.val = s.stageOf n.val ++ [f] ∧ t.frame f = some x ∧ t.count (QS_QCNT q 1) = (s.count (QS_QCNT q 1) + 1) % 2 ^ 48 ∧ t.bucket n.val = min (s.bucketCap n.val) (s.bucket n.val - s.charged n.val x * 8000)) ∧
  (∀ (i : Nat) (w : Word) (s : State), i < 9664 → s.stopped.contains .tenant = false → ∃ t, exec (.shaperWrite .tenant i w) s = .next t ∧ t.bucket i = t.bucketCap i ∧ t.shaperOk i = true ∧ t.reg (QS_SHAPER i) = (writeFields .tenant (QS_SHAPER i) w s).reg (QS_SHAPER i) ∧ regsKept [QS_SHAPER i] s t) ∧
  (∀ (m : Nat) (w : Word) (v : Word) (z : Word) (s : State), s.Ok → m < 65536 → s.heldWord .tenant (QS_METER m) = some v → s.heldWord .tenant (QS_METER m + 4) = some z → s.stopped.contains .tenant = false → ∃ t, exec (.meterInstall .tenant m w) s = .next t ∧ t.get (QS_METER_CBS m) = w.field 15 0 ∧ t.get (QS_METER_EBS m) = w.field 31 16 ∧ t.get (QS_METER_CIR m) = v.field 23 0 ∧ t.get (QS_METER_MODE m) = v.field 31 30 ∧ t.get (QS_METER_EIR m) = z.field 23 0 ∧ t.meterNow m = (w.field 15 0 * 64 * 125000, w.field 31 16 * 64 * 125000) ∧ t.heldWord .tenant (QS_METER m) = none) ∧
  (∀ (c : Nat) (e : Nat) (l : Nat) (i : Nat), judgeColour 0 i c e l = (if i = 2 ∨ e < l then (2, c, e) else if i = 1 ∨ c < l then (1, c, e - l) else (0, c - l, e - l)) ∧ (∀ m, m = 1 ∨ m = 2 → judgeColour m i c e l = (if i = 0 ∧ l ≤ c then (0, c - l, e) else if i ≠ 2 ∧ l ≤ e then (1, c, e - l) else (2, c, e)))) ∧
  (∀ (m : Nat) (i : Nat) (l : Nat) (s : State), s.Ok → m < 65536 → (s.meterNow m).2 < l * 125000 → s.get (QS_METER_MODE m) = 0 → s.cfgBad (QS_METER m) = false → s.practiceAll = false → s.isSet (QS_METER_PRACTICE m) = false → (meterFrame m i l s).1 = 2 ∧ (meterFrame m i l s).2.1 = true ∧ (meterFrame m i l s).2.2.count (QS_MCNT m 2) = (s.count (QS_MCNT m 2) + 1) % 2 ^ 48 ∧ (meterFrame m i l s).2.2.count (QS_CNT 4) = (s.count (QS_CNT 4) + 1) % 2 ^ 48) ∧
  (∀ (q : Nat) (f : Nat) (s : State), s.Ok → q < 8192 → s.qlist q = [f] → s.frame f ≠ none → s.stopped.contains .tenant = false → ∃ t, exec (.queueFlush .tenant q) s = .next t ∧ t.qlist q = [] ∧ t.frame f = none ∧ t.count (QS_QCNT q 2) = (s.count (QS_QCNT q 2) + 1) % 2 ^ 48 ∧ t.get (QS_QTILES_TILES q) = 0 ∧ t.get (QS_QFRAMES_FRAMES q) = 0) ∧
  (∀ (a : Agent) (q : Nat) (m : Nat) (i : Nat) (w : Word) (l : TList) (s : State), a ≠ .tenant → a ≠ .host → s.stopped.contains a = false → exec (.queueFlush a q) s = .next (s.refuse a) ∧ exec (.meterInstall a m w) s = .next (s.refuse a) ∧ exec (.shaperWrite a i w) s = .next (s.refuse a) ∧ exec (.tlApply a l) s = .next (s.refuse a) ∧ exec (.tlCancel a l) s = .next (s.refuse a))

/-- O44. Turn lists: applying, cancelling, changing and running them; upsets of configuration and running state -/
def Obligations.TurnLists : Prop :=
  (∀ (l : TList) (c : Nat) (b : Bool) (s : State), s.Ok → s.isSet (QS_TL_CTRL_PENDING l.val) = false → s.get (QS_TL_CTRL_LEN l.val) ≠ 0 → (c, b) = s.changeTime l.val s.house → s.stopped.contains .tenant = false → ∃ t, exec (.tlApply .tenant l) s = .next t ∧ t.isSet (QS_TL_CTRL_PENDING l.val) = true ∧ t.words (QS_TL_CHANGE l.val) 3 = (timeWords c).take 3 ∧ t.isSet ⟨QS_FLAGS, 6, 6⟩ = (b || s.isSet ⟨QS_FLAGS, 6, 6⟩) ∧ t.isSet (QS_TL_CTRL_OPER l.val) = s.isSet (QS_TL_CTRL_OPER l.val) ∧ (0 < c → t.pendingAt l.val = some c)) ∧
  (∀ (l : TList) (n : Nat) (b : Nat) (y : Nat) (g : Nat) (s : State), b = wordsTime (s.words (QS_TL_BASE l.val) 3) → y = (s.reg (QS_TL_CYCLE l.val)).toNat * 2 ^ 32 → g = n + s.get QS_CFG_LEAD * 100 * 2 ^ 32 → 0 < y → (g ≤ b → s.changeTime l.val n = (b, false)) ∧ (b < g → (s.changeTime l.val n).2 = true ∧ g ≤ (s.changeTime l.val n).1 ∧ (s.changeTime l.val n).1 < g + y ∧ ∃ k, (s.changeTime l.val n).1 = b + k * y)) ∧
  (∀ (l : TList) (s : State), (s.isSet (QS_TL_CTRL_PENDING l.val) = true ∨ s.get (QS_TL_CTRL_LEN l.val) = 0) → s.stopped.contains .tenant = false → exec (.tlApply .tenant l) s = .next (qsFlag 7 s)) ∧
  (∀ (l : TList) (c : Nat) (s : State), s.pendingAt l.val = some c → s.house < c → s.stopped.contains .tenant = false → exec (.tlCancel .tenant l) s = .next (s.putB (QS_TL_CTRL_PENDING l.val) false)) ∧
  (∀ (l : TList) (s : State), s.isSet (QS_TL_CTRL_PENDING l.val) = false → s.stopped.contains .tenant = false → exec (.tlCancel .tenant l) s = .next s ∧ exec (.tlChange l) s = .next s) ∧
  (∀ (l : TList) (c : Nat) (s : State), s.Ok → s.pendingAt l.val = some c → c ≤ s.house → 0 < s.get (QS_TL_CTRL_LEN l.val) → ∃ t, exec (.tlChange l) s = .next t ∧ t.operList l.val = some ⟨c, (s.reg (QS_TL_CYCLE l.val)).toNat, s.get (QS_TL_CTRL_LEN l.val), s.get (QS_TL_CTRL_PORT l.val)⟩ ∧ t.isSet (QS_TL_CTRL_PENDING l.val) = false ∧ t.isSet (QS_TL_CTRL_OPER l.val) = true ∧ t.isSet ⟨QS_FLAGS, 5, 5⟩ = true ∧ t.count (QS_CNT 9) = (s.count (QS_CNT 9) + 1) % 2 ^ 48 ∧ t.reg (QS_TL_OPER l.val 0) = s.reg (QS_TL_TURN l.val 0) ∧ t.reg (QS_TL_OCYCLE l.val) = s.reg (QS_TL_CYCLE l.val)) ∧
  (∀ (l : TList) (o : OperList) (k : Nat) (w : Word) (s : State), s.Ok → s.operList l.val = some o → (turnAt (listPos o.base o.cycle s.house) (s.turnsAt (QS_TL_OPER l.val 0) o.len o.cycle) 0).map (fun x => (x.1, x.2.1)) = some (k, w) → k < 256 → s.merged o.port = true → w.field 31 30 = 1 → ∃ t, exec (.turnStart l) s = .next t ∧ t.get (QS_TL_CUR_CUR_TURN l.val) = k ∧ (t.port o.port).held = true ∧ t.qs.oper = s.qs.oper) ∧
  (∀ (l : TList) (s : State), s.operList l.val = none → exec (.turnStart l) s = .next (observe s)) ∧
  (∀ (n : Nat) (s : State), cfgAddr n = true → exec (.cfgParity n false) s = .next (observe (qsFlag 9 s))) ∧
  (∀ (q : Nat) (s : State), q < 8192 → ∃ t, exec (.cfgParity (QS_Q q) true) s = .next t ∧ t.queueValid q = false ∧ t.isSet ⟨QS_FLAGS, 9, 9⟩ = true) ∧
  (∀ (l : TList) (i : Fin 256) (s : State), s.Ok → ∃ t, exec (.cfgParity (QS_TL_TURN l.val i.val) true) s = .next t ∧ t.operList l.val = none ∧ t.isSet (QS_TL_CTRL_OPER l.val) = false ∧ t.isSet ⟨QS_FLAGS, 9, 9⟩ = true) ∧
  (∀ (n : Nat) (b : Bool) (s : State), cfgAddr n = false → exec (.cfgParity n b) s = .next s) ∧
  (∀ (i : Nat) (s : State), ∃ t, exec (.stateParity (.shaperBucket i)) s = .next t ∧ t.bucket i = t.bucketCap i ∧ t.isSet ⟨QS_FLAGS, 10, 10⟩ = true ∧ t.frames = s.frames ∧ t.qs.queues = s.qs.queues) ∧
  (∀ (m : Nat) (s : State), m < 65536 → ∃ t, exec (.stateParity (.meterBucket m)) s = .next t ∧ t.meterNow m = (s.get (QS_METER_CBS m) * 64 * 125000, s.get (QS_METER_EBS m) * 64 * 125000) ∧ t.isSet ⟨QS_FLAGS, 10, 10⟩ = true) ∧
  (∀ (c : Nat) (q : Nat) (s : State), exec (.stateParity (.tag c)) s = .next (observe { qsFlag 10 s with qs := { (qsFlag 10 s).qs with tags := sset (fun _ => 0) s.qs.tags c (s.vOf (s.parentOf c) (s.bandOf c)) } }) ∧ exec (.stateParity (.depth q)) s = .next (observe (putQueue q (s.qlist q) (qsFlag 10 s)))) ∧
  (∀ (q : Nat) (i : Nat) (f : Nat) (s : State), s.Ok → (s.qlist q).drop i = [f] → ∃ t, exec (.stateParity (.link q i)) s = .next t ∧ t.qlist q = (s.qlist q).take i ∧ t.frame f = none ∧ t.count (QS_CNT 7) = (s.count (QS_CNT 7) + 1) % 2 ^ 48 ∧ t.isSet ⟨QS_FLAGS, 11, 11⟩ = true ∧ t.bm.bags = s.bm.bags)

/-- O45. Bulk MACsec: encryption with its packet number, the receive checks in order, and writes of NEXT_PN -/
def Obligations.SecureChannels : Prop :=
  (∀ (sc : ScId) (f : Nat) (n : Nat) (x : Frame) (s : State), s.frame f = some x → s.stageWith f = some n → (s.stageOf n).find? (fun g => s.frameExpress n g = s.frameExpress n f) = some f → actScOp x.act = 2 → x.secured = false → actSc x.act = sc.val → s.bulkOpen (s.servingEngine sc.val) (decide (n < 128) && s.merged n && s.frameExpress n f) = true → (s.isSet (CE_SC_VALID sc.val) = false ∨ s.isSet (CE_SC_DIR sc.val) = true ∨ (s.saOf sc.val (s.get (CE_SC_ENC_AN sc.val))).bind (s.saKey sc.val) = none) → exec (.cipherBulkEncrypt sc f) s = .next (dropTx n f (ceFlag 3 (s.bump (CE_GCNT 0))))) ∧
  (∀ (sc : ScId) (f : Nat) (n : Nat) (m : Nat) (q : CeKey) (x : Frame) (s : State), s.frame f = some x → s.stageWith f = some n → (s.stageOf n).find? (fun g => s.frameExpress n g = s.frameExpress n f) = some f → actScOp x.act = 2 → x.secured = false → actSc x.act = sc.val → s.bulkOpen (s.servingEngine sc.val) (decide (n < 128) && s.merged n && s.frameExpress n f) = true → s.isSet (CE_SC_VALID sc.val) = true → s.isSet (CE_SC_DIR sc.val) = false → s.saOf sc.val (s.get (CE_SC_ENC_AN sc.val)) = some m → s.saKey sc.val m = some q → (s.isSet (CE_SA_EXHAUSTED m) = true ∨ (s.get (CE_SC_SUITE sc.val) < 2 ∧ 2 ^ 32 ≤ s.nextPn m)) → exec (.cipherBulkEncrypt sc f) s = .next (dropTx n f (ceFlag 5 ((s.putB (CE_SA_EXHAUSTED m) true).bump (CE_GCNT 1))))) ∧
  (∀ (sc : ScId) (f : Nat) (n : Nat) (m : Nat) (q : CeKey) (x : Frame) (s : State), s.Ok → m < 8192 → n < 128 → s.frame f = some x → s.stageWith f = some n → (s.stageOf n).find? (fun g => s.frameExpress n g = s.frameExpress n f) = some f → actScOp x.act = 2 → x.secured = false → actSc x.act = sc.val → s.bulkOpen (s.servingEngine sc.val) (decide (n < 128) && s.merged n && s.frameExpress n f) = true → s.isSet (CE_SC_VALID sc.val) = true → s.isSet (CE_SC_DIR sc.val) = false → s.saOf sc.val (s.get (CE_SC_ENC_AN sc.val)) = some m → s.saKey sc.val m = some q → s.isSet (CE_SA_EXHAUSTED m) = false → s.nextPn m < 2 ^ 32 - 1 → ∃ t, exec (.cipherBulkEncrypt sc f) s = .next t ∧ t.frame f = some { x with bytes := protect s sc.val q (s.nextPn m) x.bytes, secured := true } ∧ t.nextPn m = s.nextPn m + 1 ∧ sget (fun _ => none) t.ce.checks m = some (keyCheck q.key) ∧ t.count (CE_SACNT m 0) = (s.count (CE_SACNT m 0) + 1) % 2 ^ 48 ∧ t.count (CE_CNT (s.servingEngine sc.val) 0) = (s.count (CE_CNT (s.servingEngine sc.val) 0) + 1) % 2 ^ 48 ∧ t.isSet (CE_SA_NEAR m) = (s.isSet (CE_SA_NEAR m) || decide ((s.reg (CE_SC_THRESH sc.val)).toNat + (s.reg (CE_SC_THRESH sc.val + 4)).toNat * 2 ^ 32 ≤ s.nextPn m + 1)) ∧ t.qs.queues = s.qs.queues) ∧
  (∀ (q : CeKey) (sc : Nat) (pn : Nat) (bs : List Byte) (s : State), 12 ≤ bs.length → (protect s sc q pn bs).take 14 = bs.take 12 ++ [0x88, 0xE5]) ∧
  (∀ (sc : ScId) (f : Nat) (x : Frame) (s : State), s.frame f = some x → x.checked = true → x.verifySc = some sc.val → x.result = none → x.queue = none → s.bulkOpen (s.servingEngine sc.val) false = true → exec (.cipherBulkVerify sc f) s = .next (verifyFrame sc.val f x s)) ∧
  (∀ (sc : Nat) (f : Nat) (x : Frame) (s : State), (judgeRx s sc x.bytes).deliver = none → ∃ u, verifyFrame sc f x s = dropFrame f u ∧ u.frames = s.frames ∧ u.ce.seen = s.ce.seen) ∧
  (∀ (sc : Nat) (f : Nat) (bs : List Byte) (x : Frame) (s : State), (judgeRx s sc x.bytes).deliver = some bs → actKind x.act ≠ 3 → (verifyFrame sc f x s).frame f = some { x with bytes := bs, verified := true } ∧ ((judgeRx s sc x.bytes).accept = none → (verifyFrame sc f x s).ce.seen = s.ce.seen)) ∧
  (∀ (sc : ScId) (f : Nat) (s : State), s.frame f = none → exec (.cipherBulkVerify sc f) s = .next s ∧ exec (.cipherBulkEncrypt sc f) s = .next s) ∧
  (∀ (sc : Nat) (bs : List Byte) (s : State), (s.isSet (CE_SC_VALID sc) = false ∨ s.isSet (CE_SC_DIR sc) = false) → judgeRx s sc bs = ⟨none, some (CE_SCCNT sc 0), some 0, none⟩) ∧
  (∀ (sc : Nat) (bs : List Byte) (s : State), s.isSet (CE_SC_VALID sc) = true → s.isSet (CE_SC_DIR sc) = true → sliceNum bs 12 2 ≠ 0x88E5 → judgeRx s sc bs = ⟨if s.get (CE_SC_VALIDATE sc) = 1 then some bs else none, some (CE_SCCNT sc 1), some 0, none⟩) ∧
  (∀ (sc : Nat) (bs : List Byte) (s : State), s.isSet (CE_SC_VALID sc) = true → s.isSet (CE_SC_DIR sc) = true → (readTag (s.xpn sc) bs = some none ∨ ∃ g, readTag (s.xpn sc) bs = some (some g) ∧ g.sci ≠ none ∧ g.sci ≠ some (s.sciOf sc)) → judgeRx s sc bs = ⟨none, some (CE_SCCNT sc 2), some 0, none⟩) ∧
  (∀ (sc : Nat) (bs : List Byte) (g : SecTag) (s : State), s.isSet (CE_SC_VALID sc) = true → s.isSet (CE_SC_DIR sc) = true → readTag (s.xpn sc) bs = some (some g) → g.sci = none → (s.saOf sc g.an).bind (s.saKey sc) = none → (judgeRx s sc bs).count = some (CE_SCCNT sc 3) ∧ (judgeRx s sc bs).flag = some 0 ∧ (judgeRx s sc bs).accept = none ∧ ((judgeRx s sc bs).deliver ≠ none ↔ (s.get (CE_SC_VALIDATE sc) = 1 ∧ g.enc = false))) ∧
  (∀ (sc : Nat) (bs : List Byte) (g : SecTag) (m : Nat) (q : CeKey) (s : State), s.isSet (CE_SC_VALID sc) = true → s.isSet (CE_SC_DIR sc) = true → readTag (s.xpn sc) bs = some (some g) → g.sci = none → s.saOf sc g.an = some m → s.saKey sc m = some q → s.isSet (CE_SC_RP_EN sc) = true → recoverPn (s.xpn sc) (s.nextPn m) g.pn + s.get (CE_SC_WINDOW_WINDOW sc) < s.nextPn m → judgeRx s sc bs = ⟨none, some (CE_SACNT m 2), some 1, none⟩) ∧
  (∀ (sc : Nat) (bs : List Byte) (g : SecTag) (m : Nat) (q : CeKey) (z : Bool) (s : State), s.isSet (CE_SC_VALID sc) = true → s.isSet (CE_SC_DIR sc) = true → readTag (s.xpn sc) bs = some (some g) → g.sci = none → s.saOf sc g.an = some m → s.saKey sc m = some q → s.nextPn m ≤ recoverPn (s.xpn sc) (s.nextPn m) g.pn + s.get (CE_SC_WINDOW_WINDOW sc) → g.enc = false → z = (gcmDecrypt q.key (nonceOf (s.xpn sc) (s.sciOf sc) q (recoverPn (s.xpn sc) (s.nextPn m) g.pn)) (bs.take (bs.length - 20)) [] ((bs.take (bs.length - 4)).drop (bs.length - 20))).2 → 12 + g.len ≤ bs.length - 20 → (judgeRx s sc bs).count = some (CE_SACNT m (if z then (if (sget (fun _ => []) s.ce.seen m).contains (recoverPn (s.xpn sc) (s.nextPn m) g.pn) then 5 else 0) else if s.get (CE_SC_VALIDATE sc) = 1 then 4 else 3)) ∧ ((judgeRx s sc bs).accept = some (m, recoverPn (s.xpn sc) (s.nextPn m) g.pn) ↔ (z = true ∧ (sget (fun _ => []) s.ce.seen m).contains (recoverPn (s.xpn sc) (s.nextPn m) g.pn) = false))) ∧
  (∀ (m : Nat) (pn : Nat) (o : Nat) (s : State), s.Ok → m < 8192 → pn + 1 < 2 ^ 64 → s.nextPn m < 2 ^ 64 → (acceptPn m pn o s).nextPn m = max (s.nextPn m) (pn + 1) ∧ pn ∈ sget (fun _ => []) (acceptPn m pn o s).ce.seen m ∨ (acceptPn m pn o s).nextPn m = s.nextPn m ∧ pn + 64 < s.nextPn m) ∧
  (∀ (a : Agent) (m : SaId) (w : Word) (s : State), s.stopped.contains a = false → a = .tenant ∨ a = .host → exec (.nextPnWrite a m false w) s = .next (holdWord a (CE_SA_PN m.val) w s)) ∧
  (∀ (a : Agent) (m : SaId) (w : Word) (v : Word) (s : State), s.Ok → s.heldWord a (CE_SA_PN m.val) = some v → (s.nextPn m.val ≤ v.toNat + w.toNat * 2 ^ 32 ∨ sget (fun _ => none) s.ce.checks m.val = none) → s.stopped.contains a = false → a = .tenant ∨ a = .host → ∃ t, exec (.nextPnWrite a m true w) s = .next t ∧ t.nextPn m.val = v.toNat + w.toNat * 2 ^ 32 ∧ regsKept [CE_SA_PN m.val, CE_SA_PN m.val + 4] s t ∧ t.tally = s.tally) ∧
  (∀ (a : Agent) (m : SaId) (w : Word) (v : Word) (q : CeKey) (s : State), s.heldWord a (CE_SA_PN m.val) = some v → v.toNat + w.toNat * 2 ^ 32 < s.nextPn m.val → s.keySlot m.val = some q → sget (fun _ => none) s.ce.checks m.val = some (keyCheck q.key) → s.stopped.contains a = false → a = .tenant ∨ a = .host → exec (.nextPnWrite a m true w) s = .next (ceFlag 6 (clearHeld a (CE_SA_PN m.val) (CE_SA_PN m.val + 8) s)))

/-- O46. Service jobs: GO, what each job computes and where its result goes, deadlines and completion -/
def Obligations.ServiceJobs : Prop :=
  (∀ (e : CeId) (s : State), s.isSet (CE_JOB_BUSY e.val) = true → goJob e.val s = ceFlag 9 (s.put (CE_JOB_RESULT e.val) 4)) ∧
  (∀ (e : CeId) (s : State), s.isSet (CE_JOB_BUSY e.val) = false → (s.isSet (CE_STATUS_IN_SERVICE.bit e.val) = false → goJob e.val s = endJob e.val 7 s) ∧ (s.isSet (CE_STATUS_IN_SERVICE.bit e.val) = true → (s.get (CE_OP_OP e.val) = 0 ∨ 9 < s.get (CE_OP_OP e.val) ∨ (s.isSet (CE_OP_URGENT e.val) = true ∧ 2048 < s.get (CE_LEN_LEN e.val))) → goJob e.val s = endJob e.val 4 s)) ∧
  (∀ (e : CeId) (s : State), s.isSet (CE_JOB_BUSY e.val) = false → s.isSet (CE_STATUS_IN_SERVICE.bit e.val) = true → 0 < s.get (CE_OP_OP e.val) → s.get (CE_OP_OP e.val) < 10 → s.isSet (CE_OP_URGENT e.val) = false → (s.jobRange e.val (s.get (CE_PAWN_HOLDER e.val)) = false → goJob e.val s = endJob e.val 3 s) ∧ (s.jobRange e.val (s.get (CE_PAWN_HOLDER e.val)) = true → ((goJob e.val s).engine e.val).go = some s.now ∧ ((goJob e.val s).engine e.val).agent = s.get (CE_PAWN_HOLDER e.val))) ∧
  (∀ (e : CeId) (q : CeKey) (s : State), s.Ok → (s.engine e.val).go ≠ none → (s.engine e.val).work = none → (s.engine e.val).slot = none → s.isSet (CE_STATUS_IN_SERVICE.bit e.val) = true → s.pastDeadline e.val = false → s.get (CE_OP_OP e.val) = 1 → s.jobKey e.val (s.engine e.val).agent 1 = some q → ∃ t, exec (.cmacGen e) s = .next t ∧ t.words (CE_DATA e.val 0) ((aesCmac q.key (s.jobSrc e.val (s.engine e.val).agent)).length / 4) = bytesWords ((aesCmac q.key (s.jobSrc e.val (s.engine e.val).agent)).length / 4) (aesCmac q.key (s.jobSrc e.val (s.engine e.val).agent)) ∧ (t.engine e.val).result = some 0 ∧ (t.engine e.val).work = some .service ∧ t.count (CE_CNT e.val 2) = (s.count (CE_CNT e.val 2) + 1) % 2 ^ 48 ∧ t.isSet (CE_OP_GO e.val) = false) ∧
  (∀ (e : CeId) (q : CeKey) (s : State), s.Ok → (s.engine e.val).go ≠ none → (s.engine e.val).work = none → (s.engine e.val).slot = none → s.isSet (CE_STATUS_IN_SERVICE.bit e.val) = true → s.pastDeadline e.val = false → s.get (CE_OP_OP e.val) = 2 → s.jobKey e.val (s.engine e.val).agent 2 = some q → ∃ t, exec (.cmacVer e) s = .next t ∧ (t.engine e.val).result = some (if aesCmac q.key (s.jobSrc e.val (s.engine e.val).agent) = s.jobTag e.val then 0 else 1) ∧ (t.engine e.val).work = some .service ∧ t.count (CE_CNT e.val 2) = (s.count (CE_CNT e.val 2) + 1) % 2 ^ 48 ∧ t.isSet (CE_OP_GO e.val) = false ∧ t.sram = s.sram) ∧
  (∀ (e : CeId) (q : CeKey) (n : Nat) (x : (List Byte × List Byte)) (s : State), s.Ok → (s.engine e.val).go ≠ none → (s.engine e.val).work = none → (s.engine e.val).slot = none → s.isSet (CE_STATUS_IN_SERVICE.bit e.val) = true → s.pastDeadline e.val = false → s.get (CE_OP_OP e.val) = 3 → s.jobKey e.val (s.engine e.val).agent 3 = some q → n = s.get (CE_AADLEN_AADLEN e.val) → x = gcmEncrypt q.key (s.jobIv e.val) ((s.jobSrc e.val (s.engine e.val).agent).take n) ((s.jobSrc e.val (s.engine e.val).agent).drop n) → ∃ t, exec (.gcmEnc e) s = .next t ∧ t.sram = (putMem ((jobMemory (s.engine e.val).agent).1 + (s.reg (CE_DST e.val)).toNat) ((s.jobSrc e.val (s.engine e.val).agent).take n ++ x.1) s).sram ∧ t.words (CE_DATA e.val 0) (x.2.length / 4) = bytesWords (x.2.length / 4) x.2 ∧ (t.engine e.val).result = some 0 ∧ (t.engine e.val).work = some .service ∧ t.count (CE_CNT e.val 2) = (s.count (CE_CNT e.val 2) + 1) % 2 ^ 48 ∧ t.isSet (CE_OP_GO e.val) = false) ∧
  (∀ (e : CeId) (q : CeKey) (n : Nat) (x : (List Byte × Bool)) (s : State), s.Ok → (s.engine e.val).go ≠ none → (s.engine e.val).work = none → (s.engine e.val).slot = none → s.isSet (CE_STATUS_IN_SERVICE.bit e.val) = true → s.pastDeadline e.val = false → s.get (CE_OP_OP e.val) = 4 → s.jobKey e.val (s.engine e.val).agent 4 = some q → n = s.get (CE_AADLEN_AADLEN e.val) → x = gcmDecrypt q.key (s.jobIv e.val) ((s.jobSrc e.val (s.engine e.val).agent).take n) ((s.jobSrc e.val (s.engine e.val).agent).drop n) (s.jobTag e.val) → ∃ t, exec (.gcmDec e) s = .next t ∧ t.sram = (putMem ((jobMemory (s.engine e.val).agent).1 + (s.reg (CE_DST e.val)).toNat) (if x.2 then x.1 else List.replicate x.1.length 0) s).sram ∧ (t.engine e.val).result = some (if x.2 then 0 else 1) ∧ (t.engine e.val).work = some .service ∧ t.count (CE_CNT e.val 2) = (s.count (CE_CNT e.val 2) + 1) % 2 ^ 48 ∧ t.isSet (CE_OP_GO e.val) = false) ∧
  (∀ (b : Nat) (bs : List Byte) (s : State), s.memOk → (putMem b bs s).memBytes b bs.length = bs ∧ (∀ j, j < b ∨ b + bs.length ≤ j → sget (fun _ => 0) (putMem b bs s).sram j = sget (fun _ => 0) s.sram j)) ∧
  (∀ (e : CeId) (q : CeKey) (w : CeKey) (s : State), s.Ok → (s.engine e.val).go ≠ none → (s.engine e.val).work = none → (s.engine e.val).slot = none → s.isSet (CE_STATUS_IN_SERVICE.bit e.val) = true → s.pastDeadline e.val = false → s.get (CE_OP_OP e.val) = 5 → s.jobKey e.val (s.engine e.val).agent 5 = some q → s.jobWrap e.val (s.engine e.val).agent 5 = some w → (aesWrap w.key q.key).length ≤ 40 → ∃ t, exec (.wrap e) s = .next t ∧ t.words (CE_DATA e.val 0) ((aesWrap w.key q.key).length / 4) = bytesWords ((aesWrap w.key q.key).length / 4) (aesWrap w.key q.key) ∧ (t.engine e.val).result = some 0 ∧ (t.engine e.val).work = some .service ∧ t.count (CE_CNT e.val 2) = (s.count (CE_CNT e.val 2) + 1) % 2 ^ 48 ∧ t.isSet (CE_OP_GO e.val) = false) ∧
  (∀ (e : CeId) (w : CeKey) (d : Nat) (s : State), s.Ok → (s.engine e.val).go ≠ none → (s.engine e.val).work = none → (s.engine e.val).slot = none → s.isSet (CE_STATUS_IN_SERVICE.bit e.val) = true → s.pastDeadline e.val = false → s.get (CE_OP_OP e.val) = 6 → s.jobWrap e.val (s.engine e.val).agent 6 = some w → s.jobDest e.val (s.engine e.val).agent = some d → ∃ t, exec (.unwrap e) s = .next t ∧ (t.engine e.val).dest = ((aesUnwrap w.key ((wordsOctets (s.words (CE_DATA e.val 0) 10)).take (if s.get (CE_LEN_LEN e.val) = 40 then 40 else 24))).map (fun q => (d, 1, q))).or (s.engine e.val).dest ∧ (t.engine e.val).result = some (if (aesUnwrap w.key ((wordsOctets (s.words (CE_DATA e.val 0) 10)).take (if s.get (CE_LEN_LEN e.val) = 40 then 40 else 24))).isSome then 0 else 1) ∧ (t.engine e.val).work = some .service ∧ t.count (CE_CNT e.val 2) = (s.count (CE_CNT e.val 2) + 1) % 2 ^ 48 ∧ t.isSet (CE_OP_GO e.val) = false ∧ t.ce.keys = s.ce.keys) ∧
  (∀ (e : CeId) (q : CeKey) (d : Nat) (s : State), s.Ok → (s.engine e.val).go ≠ none → (s.engine e.val).work = none → (s.engine e.val).slot = none → s.isSet (CE_STATUS_IN_SERVICE.bit e.val) = true → s.pastDeadline e.val = false → s.get (CE_OP_OP e.val) = 7 → s.jobKey e.val (s.engine e.val).agent 7 = some q → s.jobDest e.val (s.engine e.val).agent = some d → ∃ t, exec (.kdf e) s = .next t ∧ (t.engine e.val).dest = some (d, 3, padTo (s.dsize e.val) (Config.kdf q.key (s.jobSrc e.val (s.engine e.val).agent) (s.dsize e.val))) ∧ (t.engine e.val).result = some 0 ∧ (t.engine e.val).work = some .service ∧ t.count (CE_CNT e.val 2) = (s.count (CE_CNT e.val 2) + 1) % 2 ^ 48 ∧ t.isSet (CE_OP_GO e.val) = false ∧ t.ce.keys = s.ce.keys) ∧
  (∀ (e : CeId) (d : Nat) (s : State), s.Ok → (s.engine e.val).go ≠ none → (s.engine e.val).work = none → (s.engine e.val).slot = none → s.isSet (CE_STATUS_IN_SERVICE.bit e.val) = true → s.pastDeadline e.val = false → s.get (CE_OP_OP e.val) = 8 → s.jobDest e.val (s.engine e.val).agent = some d → ∃ t, exec (.gen e) s = .next t ∧ (t.engine e.val).dest = some (d, 2, padTo (s.dsize e.val) (Config.randomBytes s.freeCtr)) ∧ (t.engine e.val).result = some 0 ∧ (t.engine e.val).work = some .service ∧ t.count (CE_CNT e.val 2) = (s.count (CE_CNT e.val 2) + 1) % 2 ^ 48 ∧ t.isSet (CE_OP_GO e.val) = false ∧ t.ce.keys = s.ce.keys) ∧
  (∀ (e : CeId) (q : CeKey) (z : CeKey) (x : Engine) (s : State), s.Ok → (s.engine e.val).go ≠ none → (s.engine e.val).work = none → (s.engine e.val).slot = none → s.isSet (CE_STATUS_IN_SERVICE.bit e.val) = true → s.pastDeadline e.val = false → s.get (CE_OP_OP e.val) = 9 → (s.engine e.val).agent = 1 → s.get (CE_KW_K e.val) ≤ 31 → s.isSet (CE_OP_KSA e.val) = false → s.keySlot (8192 + s.get (CE_KW_K e.val)) = some q → s.keySlot 8446 = some z → ∃ t, exec (.sendLine e) s = .next t ∧ (t.line x).masterKey = (if s.get (CE_OP_ARG e.val) / 2 ^ x.n % 2 = 1 then some (aesWrap z.key q.key) else (s.line x).masterKey) ∧ (t.engine e.val).result = some 0 ∧ (t.engine e.val).work = some .service ∧ t.count (CE_CNT e.val 2) = (s.count (CE_CNT e.val 2) + 1) % 2 ^ 48 ∧ t.isSet (CE_OP_GO e.val) = false) ∧
  (∀ (e : CeId) (s : State), s.Ok → (s.engine e.val).go ≠ none → (s.engine e.val).work = none → (s.engine e.val).slot = none → s.isSet (CE_STATUS_IN_SERVICE.bit e.val) = true → s.pastDeadline e.val = false → s.get (CE_OP_OP e.val) = 9 → ((s.engine e.val).agent ≠ 1 ∨ 31 < s.get (CE_KW_K e.val)) → ∃ t, exec (.sendLine e) s = .next t ∧ t.ce.keys = s.ce.keys ∧ (t.engine e.val).result = some 2 ∧ (t.engine e.val).work = some .service ∧ t.count (CE_CNT e.val 2) = (s.count (CE_CNT e.val 2) + 1) % 2 ^ 48 ∧ t.isSet (CE_OP_GO e.val) = false) ∧
  (∀ (e : CeId) (s : State), s.Ok → (s.engine e.val).go ≠ none → (s.engine e.val).work = none → (s.engine e.val).slot = none → s.isSet (CE_STATUS_IN_SERVICE.bit e.val) = true → s.pastDeadline e.val = false → s.get (CE_OP_OP e.val) = 1 → s.jobKey e.val (s.engine e.val).agent 1 = none → ∃ t, exec (.cmacGen e) s = .next t ∧ (t.engine e.val).result = some 2 ∧ (t.engine e.val).work = some .service ∧ t.count (CE_CNT e.val 2) = (s.count (CE_CNT e.val 2) + 1) % 2 ^ 48 ∧ t.isSet (CE_OP_GO e.val) = false) ∧
  (∀ (c : Nat) (k : Nat), slotAllowed c k = true ↔ ((c = 1 ∧ k ≤ 31) ∨ (c = 2 ∧ 32 ≤ k ∧ k ≤ 239) ∨ (c = 4 ∧ 128 ≤ k ∧ k ≤ 239) ∨ (c = 3 ∧ 240 ≤ k ∧ k ≤ 247))) ∧
  (∀ (e : CeId) (s : State), s.get (CE_OP_OP e.val) = 1 → exec (.cmacVer e) s = .next s ∧ exec (.gcmEnc e) s = .next s ∧ exec (.gcmDec e) s = .next s ∧ exec (.wrap e) s = .next s ∧ exec (.unwrap e) s = .next s ∧ exec (.kdf e) s = .next s ∧ exec (.gen e) s = .next s ∧ exec (.sendLine e) s = .next s) ∧
  (∀ (e : CeId) (r : Nat) (d : Nat) (o : Nat) (q : List Byte) (s : State), s.Ok → (s.engine e.val).result = some r → r < 16 → (s.engine e.val).work = some .service → (s.engine e.val).dest = some (d, o, q) → ∃ t, exec (.jobDone e) s = .next t ∧ (t.keySlot d).map (·.key) = some q ∧ t.get (CE_JOB_RESULT e.val) = r ∧ t.isSet (CE_JOB_DONE e.val) = true ∧ t.isSet (CE_JOB_BUSY e.val) = false ∧ t.isSet ⟨CE_FLAGS, 8, 8⟩ = true ∧ (r ≠ 0 → t.isSet ⟨CE_FLAGS, 9, 9⟩ = true) ∧ (t.engine e.val).work = none) ∧
  (∀ (e : CeId) (s : State), s.Ok → s.pastDeadline e.val = true → ∃ t, exec (.deadline e) s = .next t ∧ t.get (CE_JOB_RESULT e.val) = 5 ∧ t.isSet (CE_JOB_DONE e.val) = true ∧ (t.engine e.val).go = none ∧ t.sram = s.sram ∧ t.ce.keys = s.ce.keys ∧ t.isSet ⟨CE_FLAGS, 10, 10⟩ = true) ∧
  (∀ (e : CeId) (s : State), s.pastDeadline e.val = false → (s.engine e.val).result = none → exec (.deadline e) s = .next s ∧ exec (.jobDone e) s = .next s)

/-- O47. The pawn, key slots, suspension, and the strikes and retirement of a cipher engine -/
def Obligations.PawnKeysAndUpsets : Prop :=
  (∀ (a : Agent) (e : CeId) (v : Nat) (s : State), s.stopped.contains a = false → s.get (CE_PAWN_HOLDER e.val) = 0 → v = pawnCode a → exec (.pawnWrite a e v) s = .next (s.put (CE_PAWN_HOLDER e.val) v)) ∧
  (∀ (a : Agent) (e : CeId) (s : State), s.stopped.contains a = false → s.get (CE_PAWN_HOLDER e.val) = pawnCode a → exec (.pawnWrite a e 0) s = .next (s.put (CE_PAWN_HOLDER e.val) 0)) ∧
  (∀ (a : Agent) (e : CeId) (v : Nat) (s : State), s.stopped.contains a = false → (s.get (CE_PAWN_HOLDER e.val) ≠ 0 ∨ v ≠ pawnCode a) → (s.get (CE_PAWN_HOLDER e.val) ≠ pawnCode a ∨ v ≠ 0) → exec (.pawnWrite a e v) s = .next (ceFlag 7 s)) ∧
  (∀ (n : Nat) (w : Word) (s : State), s.Ok → 32 ≤ n → n ≤ 239 → (∀ i, i < 8 → s.heldWord .tenant (0x04A00000 + 0x40 * n + 4 * i) ≠ none) → s.stopped.contains .tenant = false → ∃ t, exec (.keySlotInstall .tenant false n w) s = .next t ∧ t.keySlot (8192 + n) = some { key := ((List.range (if w.field 31 31 = 1 then 8 else 4)).map (fun i => wordOctets ((s.heldWord .tenant (0x04A00000 + 0x40 * n + 4 * i)).getD 0))).flatten } ∧ t.isSet (CE_KEYSTAT_LOADED n) = true ∧ t.get (CE_KEYSTAT_SIZE n) = w.field 31 31 ∧ t.get (CE_KEYSTAT_ORIGIN n) = 0 ∧ regsKept [CE_KEYSTAT n] s t ∧ t.ce.engines = s.ce.engines) ∧
  (∀ (n : SaId) (w : Word) (s : State), s.Ok → s.stopped.contains .tenant = false → ∃ t, exec (.keySlotInstall .tenant true n.val w) s = .next t ∧ t.isSet (CE_SA_KEYED n.val) = true ∧ t.isSet (CE_SA_NEAR n.val) = false ∧ t.isSet (CE_SA_EXHAUSTED n.val) = false ∧ t.get (CE_SA_KSIZE n.val) = w.field 31 31 ∧ t.nextPn n.val = s.nextPn n.val ∧ t.ce.checks = s.ce.checks ∧ (t.keySlot n.val).isSome = true) ∧
  (∀ (a : Agent) (n : Nat) (w : Word) (s : State), s.stopped.contains a = false → a ≠ .host → n < 256 → slotWriter n ≠ some a → exec (.keySlotInstall a false n w) s = .next (ceFlag 17 s)) ∧
  (∀ (b : Bool) (n : Nat) (s : State), n < (if b then 8192 else 256) → exec (.keyParity b n false) s = .next (ceFlag 15 s) ∧ ∃ t, exec (.keyParity b n true) s = .next t ∧ t.keySlot (if b then n else 8192 + n) = none ∧ t.isSet ⟨CE_FLAGS, 16, 16⟩ = true) ∧
  (∀ (e : CeId) (s : State), s.Ok → (s.engine e.val).slot = none → s.suspendable e.val = true → ∃ t, exec (.cipherSuspend e) s = .next t ∧ (t.engine e.val).slot ≠ none ∧ (t.engine e.val).work = none ∧ t.isSet (CE_STATUS_SUSP.bit e.val) = true ∧ t.count (CE_CNT e.val 3) = (s.count (CE_CNT e.val 3) + 1) % 2 ^ 48 ∧ t.isSet ⟨CE_FLAGS, 11, 11⟩ = true ∧ t.frames = s.frames) ∧
  (∀ (e : CeId) (s : State), ((s.engine e.val).slot ≠ none ∨ s.suspendable e.val = false) → exec (.cipherSuspend e) s = .next s) ∧
  (∀ (e : CeId) (f : Nat) (m : Nat) (b : Bool) (s : State), s.Ok → (s.engine e.val).slot = some (.bulk f b m) → (s.engine e.val).work = none → ∃ t, exec (.cipherResume e) s = .next t ∧ (t.engine e.val).work = some (.bulk f b (s.now + m)) ∧ (t.engine e.val).slot = none ∧ t.isSet (CE_STATUS_SUSP.bit e.val) = false ∧ t.frames = s.frames) ∧
  (∀ (e : CeId) (s : State), (s.engine e.val).slot = none → exec (.cipherResume e) s = .next s) ∧
  (∀ (e : CeId) (s : State), s.Ok → (s.engine e.val).work = none → (s.engine e.val).slot = none → s.get (CE_STATUS_STRIKES.part 2 e.val) < 2 → ∃ t, exec (.cipherEngineParity e) s = .next t ∧ t.get (CE_STATUS_STRIKES.part 2 e.val) = s.get (CE_STATUS_STRIKES.part 2 e.val) + 1 ∧ t.get CE_STATUS_IN_SERVICE = s.get CE_STATUS_IN_SERVICE ∧ t.isSet ⟨CE_FLAGS, 12, 12⟩ = true ∧ regsKept [CE_STATUS_SUSP.addr, CE_FLAGS] s t) ∧
  (∀ (e : CeId) (o : CeId) (s : State), s.Ok → (s.engine e.val).work = none → (s.engine e.val).slot = none → s.get (CE_STATUS_STRIKES.part 2 e.val) = 2 → o ≠ e → s.isSet (CE_STATUS_IN_SERVICE.bit o.val) = true → ∃ t, exec (.cipherEngineParity e) s = .next t ∧ t.isSet (CE_STATUS_IN_SERVICE.bit e.val) = false ∧ t.isSet (CE_STATUS_IN_SERVICE.bit o.val) = true ∧ t.isSet ⟨CE_FLAGS, 13, 13⟩ = true ∧ t.isSet (CE_STATUS_IN_SERVICE.bit (t.get (CE_STATUS_STAND_IN.part 2 e.val))) = true ∧ t.get (CE_STATUS_STAND_IN.part 2 o.val) = o.val) ∧
  (∀ (e : CeId) (s : State), (s.engine e.val).work = none → (s.engine e.val).slot = none → s.get (CE_STATUS_STRIKES.part 2 e.val) = 2 → s.get CE_STATUS_IN_SERVICE = 2 ^ e.val → exec (.cipherEngineParity e) s = .next (ceFlag 14 (ceFlag 12 s))) ∧
  (∀ (e : CeId) (f : Nat) (m : Nat) (b : Bool) (x : Frame) (s : State), s.Ok → (s.engine e.val).work = some (.bulk f b m) → s.now < m → s.frame f = some x → ∃ t, exec (.cipherEngineParity e) s = .next t ∧ t.frame f = none ∧ (t.engine e.val).work = none ∧ t.count (CE_CNT e.val 5) = (s.count (CE_CNT e.val 5) + 1) % 2 ^ 48 ∧ t.ce.checks = s.ce.checks) ∧
  (∀ (e : CeId) (s : State), s.Ok → (s.engine e.val).work = some .service → s.get (CE_STATUS_STRIKES.part 2 e.val) < 2 → s.isSet (CE_STATUS_IN_SERVICE.bit e.val) = true → ((s.engine e.val).rerun = false → ∃ t, exec (.cipherEngineParity e) s = .next t ∧ (t.engine e.val).go = some s.now ∧ (t.engine e.val).rerun = true ∧ (t.engine e.val).work = none ∧ t.count (CE_CNT e.val 4) = (s.count (CE_CNT e.val 4) + 1) % 2 ^ 48) ∧ ((s.engine e.val).rerun = true → ∃ t, exec (.cipherEngineParity e) s = .next t ∧ t.get (CE_JOB_RESULT e.val) = 7 ∧ t.isSet (CE_JOB_DONE e.val) = true)) ∧
  (∀ (e : CeId) (s : State), exec (.cipherStrikeExpiry e) s = .next (s.put (CE_STATUS_STRIKES.part 2 e.val) (s.get (CE_STATUS_STRIKES.part 2 e.val) - 1))) ∧
  (∀ (a : Agent) (e : CeId) (m : (BitVec 4)) (s : State), s.Ok → s.stopped.contains a = false → a = .tenant ∨ a = .host → ∃ t, exec (.cipherRestore a m) s = .next t ∧ t.isSet (CE_STATUS_IN_SERVICE.bit e.val) = (m.getLsbD e.val || s.isSet (CE_STATUS_IN_SERVICE.bit e.val)) ∧ t.get (CE_STATUS_STRIKES.part 2 e.val) = (if m.getLsbD e.val then 0 else s.get (CE_STATUS_STRIKES.part 2 e.val)) ∧ (t.isSet (CE_STATUS_IN_SERVICE.bit e.val) = true → t.get (CE_STATUS_STAND_IN.part 2 e.val) = e.val)) ∧
  (∀ (a : Agent) (m : (BitVec 4)) (n : SaId) (b : Bool) (w : Word) (s : State), a ≠ .tenant → a ≠ .host → s.stopped.contains a = false → exec (.cipherRestore a m) s = .next (s.refuse a) ∧ exec (.nextPnWrite a n b w) s = .next (s.refuse a) ∧ exec (.keySlotInstall a true n.val w) s = .next (s.refuse a))

/-- O48. CBR framers: enabling, cutting, alignment, defects, traces and failures -/
def Obligations.CbrFramers : Prop :=
  (∀ (f : Framer) (a : Agent) (s : State), s.cfOn f.val = false → (s.laneCbr (s.get (CF_CFG_LANE f.val)) = false ∨ (s.framerOf (s.get (CF_CFG_LANE f.val))).isSome = true) → s.stopped.contains a = false → a = .tenant ∨ a = .host → exec (.framerEnable a f true) s = .next (cfFlag f.val 25 s)) ∧
  (∀ (f : Framer) (a : Agent) (s : State), s.Ok → s.cfOn f.val = false → s.laneCbr (s.get (CF_CFG_LANE f.val)) = true → s.framerOf (s.get (CF_CFG_LANE f.val)) = none → s.stopped.contains a = false → a = .tenant ∨ a = .host → ∃ t, exec (.framerEnable a f true) s = .next t ∧ t.cfOn f.val = true ∧ t.isSet (CF_BIN_FLAGS_VALID f.val 0) = true ∧ t.isSet (CF_BIN_FLAGS_SUSPECT f.val 0) = true ∧ t.isSet (CF_BIN_FLAGS_SUSPECT f.val 17) = true ∧ (t.cf f.val).next = none ∧ (t.cf f.val).buf = s.get (CF_RXBUF_BUF f.val) ∧ t.tally = s.tally) ∧
  (∀ (f : Framer) (a : Agent) (g : HeldSeg) (s : State), s.Ok → s.cfOn f.val = true → (s.cf f.val).held = [g] → g.head = none → s.stopped.contains a = false → a = .tenant ∨ a = .host → ∃ t, exec (.framerEnable a f false) s = .next t ∧ t.cfOn f.val = false ∧ (t.cf f.val).held = [] ∧ (t.cf f.val).next = none ∧ t.get (CF_HELD_HELD f.val) = 0 ∧ t.get (CF_CLK_STATE f.val) = 0 ∧ (s.get (CF_CLK_STATE f.val) ≠ 0 → t.isSet ⟨CF_FLAGS f.val, 22, 22⟩ = true)) ∧
  (∀ (f : Framer) (a : Agent) (v : Bool) (s : State), a ≠ .tenant → a ≠ .host → s.stopped.contains a = false → exec (.framerEnable a f v) s = .next (s.refuse a)) ∧
  (∀ (f : Framer) (p : List Byte) (s : State), s.cfOn f.val = true → p.length = 1024 → ∃ t, exec (.segmentCut f p) s = .next t ∧ (t.cf f.val).seq = ((s.cf f.val).seq + 1) % 65536 ∧ (t.cf f.val).segStart = s.house ∧ (t.cf f.val).held = (s.cf f.val).held) ∧
  (∀ (f : Framer) (p : List Byte) (s : State), (s.cfOn f.val = false ∨ p.length ≠ 1024) → exec (.segmentCut f p) s = .next s) ∧
  (∀ (g : Nat) (q : Nat) (n : Nat) (d : Nat) (l : Bool) (o : Bool) (i : Bool) (u : Bool), g < 16 → q < 65536 → d < 65536 → (segHeader g l o i u q n d).length = 16 ∧ sliceNum (segHeader g l o i u q n d) 0 1 = 16 + g ∧ sliceNum (segHeader g l o i u q n d) 1 1 = l.toNat * 128 + o.toNat * 64 + i.toNat * 32 + u.toNat * 16 ∧ sliceNum (segHeader g l o i u q n d) 2 2 = q ∧ sliceNum (segHeader g l o i u q n d) 4 4 = n / second % 2 ^ 32 ∧ sliceNum (segHeader g l o i u q n d) 12 2 = d ∧ sliceNum (segHeader g l o i u q n d) 14 2 = crc16 ((segHeader g l o i u q n d).take 14)) ∧
  (∀ (f : Framer) (m : Nat) (s : State), s.Ok → s.cfOn f.val = true → (s.cf f.val).aligned = false → s.alignNeed f.val ≤ m → ∃ t, exec (.inFrame f m) s = .next t ∧ (t.cf f.val).aligned = true ∧ t.isSet ((CF_STATUS_DEFECT f.val).bit 1) = false ∧ t.reg (CF_FAIL f.val) = s.reg (CF_FAIL f.val) ∧ regsKept [CF_STATUS f.val] s t ∧ t.tally = s.tally) ∧
  (∀ (f : Framer) (m : Nat) (s : State), s.Ok → s.cfOn f.val = true → (s.cf f.val).aligned = true → (if s.get (CF_ALIGN_LOSS_M f.val) = 0 then (if 4 ≤ s.cfSig f.val then 5 else 4) else s.get (CF_ALIGN_LOSS_M f.val)) ≤ m → ∃ t, exec (.oof f m) s = .next t ∧ (t.cf f.val).aligned = false ∧ t.isSet ((CF_STATUS_DEFECT f.val).bit 1) = true ∧ t.count (CF_CNT f.val 10) = (s.count (CF_CNT f.val 10) + 1) % 2 ^ 48 ∧ t.reg (CF_FAIL f.val) = s.reg (CF_FAIL f.val)) ∧
  (∀ (f : Framer) (m : Nat) (s : State), (s.cfOn f.val = false ∨ ((s.cf f.val).aligned = false ∧ m < s.alignNeed f.val)) → exec (.inFrame f m) s = .next s ∧ exec (.oof f m) s = .next s) ∧
  (∀ (f : Framer) (v : Bool) (s : State), s.cfOn f.val = true → ((s.cf f.val).aligned ≠ v → exec (.dlof f v) s = .next (setDefect f.val 2 v s)) ∧ ((s.cf f.val).aligned = v → exec (.dlof f v) s = .next s)) ∧
  (∀ (f : Framer) (v : Bool) (s : State), s.Ok → s.cfOn f.val = true → ∃ t, exec (.dlos f v) s = .next t ∧ t.isSet ((CF_STATUS_DEFECT f.val).bit 0) = v ∧ (s.isSet ((CF_STATUS_DEFECT f.val).bit 0) = s.isSet ((CF_FAIL_FAILURE f.val).bit 0) → t.isSet ((CF_FAIL_FAILURE f.val).bit 0) = v) ∧ (v = false → (t.cf f.val).segStart = s.house) ∧ (s.isSet ((CF_FAIL_FAILURE f.val).bit 0) ≠ t.isSet ((CF_FAIL_FAILURE f.val).bit 0) → t.isSet ⟨CF_FLAGS f.val, 0, 0⟩ = true)) ∧
  (∀ (f : Nat) (n : Nat) (v : Bool) (s : State), s.Ok → n < 15 → 0 < n → s.isSet ((CF_STATUS_DEFECT f).bit n) ≠ v → (if v then s.get (CF_INTEG_SET f) else s.get (CF_INTEG_CLEAR f)) ≠ 0 → (setDefect f n v s).isSet ((CF_STATUS_DEFECT f).bit n) = v ∧ (setDefect f n v s).reg (CF_FAIL f) = s.reg (CF_FAIL f) ∧ (setDefect f n v s).tally = s.tally) ∧
  (∀ (f : Framer) (n : (Fin 15)) (s : State), s.Ok → 1 < n.val → s.isSet ((CF_FAIL_FAILURE f.val).bit n.val) ≠ s.isSet ((CF_STATUS_DEFECT f.val).bit n.val) → ∃ t, exec (.failureChange f n) s = .next t ∧ t.isSet ((CF_FAIL_FAILURE f.val).bit n.val) = s.isSet ((CF_STATUS_DEFECT f.val).bit n.val) ∧ t.isSet ⟨CF_FLAGS f.val, n.val, n.val⟩ = true ∧ t.reg (CF_STATUS f.val) = s.reg (CF_STATUS f.val) ∧ regsKept [CF_FAIL f.val, CF_FLAGS f.val] s t) ∧
  (∀ (f : Framer) (n : (Fin 15)) (s : State), (n.val = 1 ∨ s.isSet ((CF_FAIL_FAILURE f.val).bit n.val) = s.isSet ((CF_STATUS_DEFECT f.val).bit n.val)) → n.val ≠ 0 → exec (.failureChange f n) s = .next s) ∧
  (∀ (f : Framer) (o : CbrOverhead) (s : State), s.Ok → s.cfOn f.val = true → (s.cf f.val).aligned = true → s.anyDefect f.val [0, 1, 2] = false → 2 ≤ sget (fun _ => 0) (s.cf f.val).runs 3 → o.code = 7 → s.otn f.val = false → o.trace0 = none → s.get (CF_INTEG_SET f.val) ≠ 0 → ∃ t, exec (.cbrFrameMonitor f o) s = .next t ∧ t.isSet ((CF_STATUS_DEFECT f.val).bit 3) = true ∧ (t.cf f.val).blocks = (s.cf f.val).blocks + 1 ∧ sget (fun _ => 0) (t.cf f.val).errored 0 = sget (fun _ => 0) (s.cf f.val).errored 0 + (o.errs.getD 0 false).toNat) ∧
  (∀ (f : Framer) (o : CbrOverhead) (s : State), (s.cfOn f.val = false ∨ (s.cf f.val).aligned = false) → exec (.cbrFrameMonitor f o) s = .next s) ∧
  (∀ (f : Nat) (d : Nat) (m : TraceMsg) (s : State), s.Ok → d < 2 → m.bytes.length = s.traceLen f d → (s.otn f = true ∨ m.bytes.length ≠ 16 ∨ m.crcOk = true) → sget (fun _ => ([], 0)) (s.cf f).cand d = (m.bytes, 2) → sget (fun _ => none) (s.cf f).accepted d ≠ some m.bytes → (if d = 0 then s.get (CF_MON_TMODE0 f) else s.get (CF_MON_TMODE1 f)) = 0 → sget (fun _ => none) ((judgeTrace f d m s).cf f).accepted d = some m.bytes ∧ (judgeTrace f d m s).isSet ⟨CF_FLAGS f, 23, 23⟩ = true ∧ (judgeTrace f d m s).words (CF_ACC_TRACE f d 0) 16 = bytesWords 16 m.bytes)

/-- O49. Received segments, playout, the recovery loop, resynchronisation, and seconds in their bins -/
def Obligations.CbrPlayoutAndBins : Prop :=
  (∀ (n : Nat) (q : Nat), n < 65536 → q < 65536 → segBehind (some n) q = true ↔ 32768 ≤ (q + 65536 - n) % 65536) ∧
  (∀ (f : Nat) (o : Nat) (x : Frame) (s : State), segOffset s f x.bytes = some o → segBehind (s.cf f).next (sliceNum ((x.bytes.drop o).take 16) 2 2) = true → judgeSeg s f x = (if (s.cf f).played.contains (sliceNum ((x.bytes.drop o).take 16) 2 2) then (9, none, none) else (4, some 18, none))) ∧
  (∀ (f : Nat) (o : Nat) (x : Frame) (s : State), segOffset s f x.bytes = some o → segBehind (s.cf f).next (sliceNum ((x.bytes.drop o).take 16) 2 2) = false → (s.cf f).held.any (fun g => g.seq = sliceNum ((x.bytes.drop o).take 16) 2 2) = false → (s.house + 1000000 * 2 ^ 32 < fullTime s.house (((x.bytes.drop o).take 16).drop 4) ∨ 8192 ≤ (s.cf f).held.length → judgeSeg s f x = (5, some 19, none)) ∧ (¬ (s.house + 1000000 * 2 ^ 32 < fullTime s.house (((x.bytes.drop o).take 16).drop 4) ∨ 8192 ≤ (s.cf f).held.length) → (judgeSeg s f x).1 = 1 ∧ ∃ g, (judgeSeg s f x).2.2 = some g ∧ g.seq = sliceNum ((x.bytes.drop o).take 16) 2 2 ∧ g.time = fullTime s.house (((x.bytes.drop o).take 16).drop 4) ∧ g.payload = (x.bytes.drop (o + 16)).take 1024 ∧ g.arrived = s.house)) ∧
  (∀ (f : Framer) (i : Nat) (n : Nat) (x : Frame) (s : State), s.Ok → n = s.get (CF_CFG_LANE f.val) → s.cfOn f.val = true → s.laneCbr n = true → s.stageOf n = [i] → s.frame i = some x → x.ready = true → segOffset s f.val x.bytes = none → ∃ t, exec (.segmentReceive f) s = .next t ∧ t.frame i = none ∧ t.count (CF_CNT f.val 6) = (s.count (CF_CNT f.val 6) + 1) % 2 ^ 48 ∧ t.isSet ⟨CF_FLAGS f.val, 20, 20⟩ = true ∧ (t.cf f.val).held = (s.cf f.val).held ∧ (t.cf f.val).next = (s.cf f.val).next) ∧
  (∀ (f : Framer) (i : Nat) (n : Nat) (x : Frame) (g : HeldSeg) (s : State), s.Ok → n = s.get (CF_CFG_LANE f.val) → s.cfOn f.val = true → s.laneCbr n = true → s.stageOf n = [i] → s.frame i = some x → x.ready = true → judgeSeg s f.val x = (1, none, some g) → (s.cf f.val).next ≠ none → ∃ t, exec (.segmentReceive f) s = .next t ∧ (t.cf f.val).held = (s.cf f.val).held ++ [g] ∧ t.get (CF_HELD_HELD f.val) = ((s.cf f.val).held.length + 1) % 2 ^ 14 ∧ t.count (CF_CNT f.val 1) = (s.count (CF_CNT f.val 1) + 1) % 2 ^ 48 ∧ t.bm = s.bm ∧ t.tally = s.tally) ∧
  (∀ (f : Framer) (z : Int) (s : State), s.cfOn f.val = false → exec (.segmentReceive f) s = .next s ∧ exec (.segmentPlayout f z) s = .next s ∧ exec (.pmSecond f) s = .next s ∧ exec (.clkChg f .firstSample) s = .next s ∧ exec (.resync f .drift) s = .next s ∧ exec (.resync f .farStep) s = .next s) ∧
  (∀ (f : Framer) (z : Int) (n : Nat) (s : State), s.Ok → s.cfOn f.val = true → (s.cf f.val).next = some n → n < 65536 → (s.cf f.val).held.find? (fun g => g.seq = n) = none → ∃ t, exec (.segmentPlayout f z) s = .next t ∧ (t.cf f.val).next = some ((n + 1) % 65536) ∧ t.count (CF_CNT f.val 3) = (s.count (CF_CNT f.val 3) + 1) % 2 ^ 48 ∧ t.isSet ⟨CF_FLAGS f.val, 17, 17⟩ = true ∧ (t.cf f.val).held = (s.cf f.val).held ∧ (t.cf f.val).sample = (s.cf f.val).sample) ∧
  (∀ (f : Framer) (z : Int) (g : HeldSeg) (n : Nat) (s : State), s.Ok → s.cfOn f.val = true → (s.cf f.val).next = some n → (s.cf f.val).held = [g] → g.seq = n → g.head = none → g.los = false → g.lof = false → g.tunl = false → (s.cf f.val).sample = none → ∃ t, exec (.segmentPlayout f z) s = .next t ∧ (t.cf f.val).next = some ((n + 1) % 65536) ∧ (t.cf f.val).held = [] ∧ t.get (CF_HELD_HELD f.val) = 0 ∧ n ∈ (t.cf f.val).played ∧ t.count (CF_CNT f.val 2) = (s.count (CF_CNT f.val 2) + 1) % 2 ^ 48 ∧ (t.cf f.val).sample = some (z - (s.cf f.val).buildOut) ∧ t.get (CF_DCO_DCO f.val) = toField 32 (max (-1000000) (min 1000000 (Config.cbrDco s.freeCtr)))) ∧
  (∀ (f : Framer) (z : Int) (g : HeldSeg) (n : Nat) (s : State), s.cfOn f.val = true → (s.cf f.val).next = some n → (s.cf f.val).held = [g] → g.seq = n → g.head = none → (g.los = true ∨ g.lof = true) → ∃ t, exec (.segmentPlayout f z) s = .next t ∧ (t.cf f.val).next = some ((n + 1) % 65536) ∧ (t.cf f.val).held = [] ∧ (t.cf f.val).sample = (s.cf f.val).sample ∧ t.tally = s.tally ∧ regsKept [(CF_HELD_HELD f.val).addr] s t) ∧
  (∀ (f : Nat) (z : Int) (p : Int) (s : State), s.Ok → (s.cf f).sample = some p → ((z - (s.cf f).buildOut) - p > 1000 * 2 ^ 32 ∨ p - (z - (s.cf f).buildOut) > 1000 * 2 ^ 32) → ((takeSample f z s).cf f).buildOut = (s.cf f).buildOut + ((z - (s.cf f).buildOut) - p) ∧ ((takeSample f z s).cf f).sample = some p ∧ (takeSample f z s).count (CF_CNT f 8) = (s.count (CF_CNT f 8) + 1) % 2 ^ 48 ∧ (takeSample f z s).get (CF_DCO_DCO f) = s.get (CF_DCO_DCO f)) ∧
  (∀ (f : Framer) (s : State), s.Ok → s.cfOn f.val = true → (s.cf f.val).sample ≠ none → (s.get (CF_CLK_STATE f.val) = 0 ∨ s.get (CF_CLK_STATE f.val) = 3) → ∃ t, exec (.clkChg f .firstSample) s = .next t ∧ t.get (CF_CLK_STATE f.val) = 1 ∧ t.isSet ⟨CF_FLAGS f.val, 22, 22⟩ = true ∧ (t.cf f.val).goodSince = none) ∧
  (∀ (f : Framer) (m : Nat) (s : State), s.Ok → s.cfOn f.val = true → (s.cf f.val).goodSince = some m → s.get (CF_CLK_STATE f.val) = 1 → s.now ≤ m + 10000000000 → ∃ t, exec (.clkChg f .settled) s = .next t ∧ t.get (CF_CLK_STATE f.val) = 2 ∧ t.isSet ⟨CF_FLAGS f.val, 22, 22⟩ = true ∧ m + 10000000000 ≤ t.now) ∧
  (∀ (f : Framer) (v : Int) (s : State), s.Ok → s.cfOn f.val = true → (s.cf f.val).sample = some v → s.get (CF_CLK_STATE f.val) = 2 → (v > 1000 * 2 ^ 32 ∨ v < -(1000 * 2 ^ 32) → ∃ t, exec (.clkChg f .farSample) s = .next t ∧ t.get (CF_CLK_STATE f.val) = 1) ∧ (¬ (v > 1000 * 2 ^ 32 ∨ v < -(1000 * 2 ^ 32)) → exec (.clkChg f .farSample) s = .next s)) ∧
  (∀ (f : Framer) (s : State), s.Ok → s.cfOn f.val = true → (s.get (CF_CLK_STATE f.val) = 1 ∨ s.get (CF_CLK_STATE f.val) = 2) → ∃ t, exec (.clkChg f .noSample) s = .next t ∧ t.get (CF_CLK_STATE f.val) = 3 ∧ (t.cf f.val).sample = none ∧ t.isSet ⟨CF_FLAGS f.val, 22, 22⟩ = true) ∧
  (∀ (f : Framer) (y : ResyncCause) (s : State), s.Ok → s.cfOn f.val = true → (y = .farStep ∨ (y = .drift ∧ 16 ≤ (s.cf f.val).farOff)) → (s.cf f.val).held = [] → ∃ t, exec (.resync f y) s = .next t ∧ (t.cf f.val).next = none ∧ (t.cf f.val).buildOut = 0 ∧ (t.cf f.val).buf = s.get (CF_RXBUF_BUF f.val) ∧ t.count (CF_CNT f.val 7) = (s.count (CF_CNT f.val 7) + 1) % 2 ^ 48 ∧ t.isSet ⟨CF_FLAGS f.val, 21, 21⟩ = true) ∧
  (∀ (f : Framer) (a : Agent) (s : State), s.cfOn f.val = true → s.stopped.contains a = false → a = .tenant ∨ a = .host → exec (.resync f (.command a)) s = .next (resyncFramer f.val (s.putB (CF_CFG_RESYNC f.val) true))) ∧
  (∀ (f : Nat) (l : Nat) (s : State), s.usedLayer f l = true → ((judgeLayer s f l).ses = true ↔ ((∃ i, i ∈ layerDefects (s.otn f) l ∧ (s.cf f).seen / 2 ^ i % 2 = 1) ∨ (0 < (s.cf f).blocks ∧ 3 * (s.cf f).blocks ≤ 10 * sget (fun _ => 0) (s.cf f).errored l))) ∧ (judgeLayer s f l).bbe = (if (judgeLayer s f l).ses = true then 0 else sget (fun _ => 0) (s.cf f).errored l)) ∧
  (∀ (f : Framer) (s : State), s.cfOn f.val = true → ∃ t, exec (.pmSecond f) s = .next t ∧ (t.cf f.val).seconds.length = (s.cf f.val).seconds.length + 1 ∧ (t.cf f.val).blocks = 0 ∧ (t.cf f.val).errored = [] ∧ (t.cf f.val).seen = t.get (CF_STATUS_DEFECT f.val)) ∧
  (∀ (f : Framer) (y : PmSecond) (ys : List PmSecond) (s : State), s.Ok → (s.cf f.val).seconds = y :: ys → 9 ≤ ys.length → y.gen15 = (s.cf f.val).gen15 → y.gen24 = (s.cf f.val).gen24 → ∃ t, exec (.pmSecondEntry f) s = .next t ∧ (t.cf f.val).seconds = ys ∧ t.reg (CF_BIN_LEN f.val 0) = s.reg (CF_BIN_LEN f.val 0) + 1 ∧ t.reg (CF_BIN_LEN f.val 17) = s.reg (CF_BIN_LEN f.val 17) + 1 ∧ ((y.layers.getD 0 {}).uas = true → t.reg (CF_BIN_COUNT f.val 0 3) = s.reg (CF_BIN_COUNT f.val 0 3) + 1 ∧ t.reg (CF_BIN_COUNT f.val 0 0) = s.reg (CF_BIN_COUNT f.val 0 0)) ∧ ((y.layers.getD 0 {}).uas = false → t.reg (CF_BIN_COUNT f.val 0 0) = s.reg (CF_BIN_COUNT f.val 0 0) + BitVec.ofNat 32 (y.layers.getD 0 {}).es.toNat ∧ t.reg (CF_BIN_COUNT f.val 0 3) = s.reg (CF_BIN_COUNT f.val 0 3))) ∧
  (∀ (f : Framer) (s : State), ((s.cf f.val).seconds = [] ∨ ((s.cf f.val).seconds.length < 10 ∧ s.cfOn f.val = true)) → exec (.pmSecondEntry f) s = .next s)

/-- O50. The DSP arithmetic instructions: what each writes, its flags, and what it leaves -/
def Obligations.DspArithmetic : Prop :=
  (∀ (k : Core) (w : Word) (r : (Nat × Option Bool × Option Bool)) (s : State), s.dspAt k 0x18 w → w.field 7 0 = 0 → w.field 13 12 = 0 → w.field 11 8 ≤ 0xC → r = aluFn (w.field 11 8) 32 ((s.core k).d (w.field 21 18)) ((s.core k).d (w.field 17 14)) (Config.freeWord s.freeCtr) → ∃ t, exec (.dspAlu k) s = .next t ∧ (t.core k).d (w.field 25 22) = (if w.field 11 8 = 0xC then (s.core k).d (w.field 25 22) else r.1) ∧ (t.core k).hw 0x35 % 4 = (if r.1 = 0 then 1 else 0) + (if 2 ^ 31 ≤ r.1 then 2 else 0) ∧ (r.2.1.isSome = true → (t.core k).hw 0x35 / 4 % 2 = (r.2.1.getD false).toNat) ∧ (r.2.2.isSome = true → (t.core k).hw 0x35 / 8 % 2 = (r.2.2.getD false).toNat) ∧ (t.core k).hw 0x35 / 32 = (s.core k).hw 0x35 / 32 ∧ dspNext [w.field 25 22, 0x35] k s t) ∧
  (∀ (k : Core) (w : Word) (r : (Nat × Option Bool × Option Bool)) (s : State), s.dspAt k 0x18 w → w.field 7 0 = 0 → (w.field 13 12 = 1 ∨ w.field 13 12 = 2) → w.field 11 8 ≤ 0xB → r = aluFn (w.field 11 8) 16 (partOf (w.field 13 12) ((s.core k).d (w.field 21 18))) (partOf (w.field 13 12) ((s.core k).d (w.field 17 14))) (Config.freeWord s.freeCtr) → ∃ t, exec (.dspAlu k) s = .next t ∧ (t.core k).d (w.field 25 22) = withPart (w.field 13 12) ((s.core k).d (w.field 25 22)) r.1 ∧ (t.core k).hw 0x35 % 4 = (if r.1 = 0 then 1 else 0) + (if 2 ^ 15 ≤ r.1 then 2 else 0) ∧ dspNext [w.field 25 22, 0x35] k s t) ∧
  (∀ (k : Core) (w : Word) (r : (Nat × Option Bool × Option Bool)) (s : State), s.dspAt k 0x19 w → w.field 17 14 ≤ 0xB → r = aluFn (w.field 17 14) 32 ((s.core k).d (w.field 21 18)) (toField 32 (signed 14 (w.field 13 0))) (Config.freeWord s.freeCtr) → ∃ t, exec (.dspAlui k) s = .next t ∧ (t.core k).d (w.field 25 22) = r.1 ∧ (t.core k).hw 0x35 % 4 = (if r.1 = 0 then 1 else 0) + (if 2 ^ 31 ≤ r.1 then 2 else 0) ∧ (t.core k).hw 0x35 / 32 = (s.core k).hw 0x35 / 32 ∧ dspNext [w.field 25 22, 0x35] k s t) ∧
  (∀ (n : Fin 33) (a : Nat) (b : Nat) (f : Nat), a < 2 ^ n.val → b < 2 ^ n.val → (n.val = 16 ∨ n.val = 32) → aluFn 0 n.val a b f = ((a + b) % 2 ^ n.val, some (decide (2 ^ n.val ≤ a + b)), some (!fits n.val (signed n.val a + signed n.val b))) ∧ (∀ g, g = 1 ∨ g = 0xC → aluFn g n.val a b f = ((a + 2 ^ n.val - b) % 2 ^ n.val, some (decide (b ≤ a)), some (!fits n.val (signed n.val a - signed n.val b)))) ∧ aluFn 5 n.val a b f = (a * 2 ^ (b % 32) % 2 ^ n.val, none, none) ∧ aluFn 6 n.val a b f = (a / 2 ^ (b % 32), none, none) ∧ signed n.val (aluFn 8 n.val a b f).1 = min (signed n.val a) (signed n.val b) ∧ signed n.val (aluFn 9 n.val a b f).1 = max (signed n.val a) (signed n.val b) ∧ (a ≠ 2 ^ (n.val - 1) → signed n.val (aluFn 0xA n.val a b f).1 = (if 0 ≤ signed n.val a then signed n.val a else -signed n.val a) ∧ signed n.val (aluFn 0xB n.val a b f).1 = -signed n.val a)) ∧
  (∀ (k : Core) (w : Word) (v : Int) (s : State), s.dspAt k 0x20 w → w.field 13 13 = 0 → w.field 6 6 = 0 → v = (s.core k).ac (w.field 25 24) + (s.core k).half' (w.field 23 20) (w.field 15 15) * (s.core k).half' (w.field 19 16) (w.field 14 14) → ∃ t, exec (.dspMac k) s = .next t ∧ (t.core k).hw (0x10 + w.field 25 24) = toField 40 v ∧ (t.core k).hw 0x35 % 4 = (if toField 40 v = 0 then 1 else 0) + (if 2 ^ 39 ≤ toField 40 v then 2 else 0) ∧ (t.core k).hw 0x35 / 8 % 2 = (!fits 40 v).toNat ∧ dspNext [0x10 + w.field 25 24, 0x35] k s t) ∧
  (∀ (k : Core) (w : Word) (v : Int) (s : State), s.dspAt k 0x21 w → w.field 13 13 = 0 → w.field 6 6 = 0 → v = (s.core k).ac (w.field 25 24) - (s.core k).half' (w.field 23 20) (w.field 15 15) * (s.core k).half' (w.field 19 16) (w.field 14 14) → ∃ t, exec (.dspMsu k) s = .next t ∧ (t.core k).hw (0x10 + w.field 25 24) = toField 40 v ∧ (t.core k).hw 0x35 % 4 = (if toField 40 v = 0 then 1 else 0) + (if 2 ^ 39 ≤ toField 40 v then 2 else 0) ∧ (t.core k).hw 0x35 / 8 % 2 = (!fits 40 v).toNat ∧ dspNext [0x10 + w.field 25 24, 0x35] k s t) ∧
  (∀ (k : Core) (w : Word) (v : Int) (s : State), s.dspAt k 0x22 w → w.field 13 13 = 0 → w.field 6 6 = 0 → v = (s.core k).half' (w.field 23 20) (w.field 15 15) * (s.core k).half' (w.field 19 16) (w.field 14 14) → ∃ t, exec (.dspMpy k) s = .next t ∧ (t.core k).hw (0x10 + w.field 25 24) = toField 40 v ∧ (t.core k).hw 0x35 % 4 = (if toField 40 v = 0 then 1 else 0) + (if 2 ^ 39 ≤ toField 40 v then 2 else 0) ∧ (t.core k).hw 0x35 / 8 % 2 = (!fits 40 v).toNat ∧ dspNext [0x10 + w.field 25 24, 0x35] k s t) ∧
  (∀ (k : Core) (w : Word) (s : State), s.dspAt k 0x23 w → w.field 13 13 = 0 → w.field 6 6 = 0 → (w.field 25 24 = 0 ∨ w.field 25 24 = 2) → ∃ t, exec (.dspDmac k) s = .next t ∧ (t.core k).hw (0x10 + w.field 25 24) = toField 40 ((s.core k).ac (w.field 25 24) + (s.core k).half' (w.field 23 20) 1 * (s.core k).half' (w.field 19 16) 1) ∧ (t.core k).hw (0x11 + w.field 25 24) = toField 40 ((s.core k).ac (w.field 25 24 + 1) + (s.core k).half' (w.field 23 20) 0 * (s.core k).half' (w.field 19 16) 0) ∧ dspNext [0x10 + w.field 25 24, 0x11 + w.field 25 24, 0x35] k s t) ∧
  (∀ (k : Core) (w : Word) (b : Int) (v : Int) (s : State), s.dspAt k 0x24 w → w.field 13 0 = 0 → b = (if 0 ≤ signed 6 (w.field 19 14) then (s.core k).ac (w.field 23 22) * (2 ^ (signed 6 (w.field 19 14)).toNat : Int) else (s.core k).ac (w.field 23 22) / (2 ^ (-signed 6 (w.field 19 14)).toNat : Int)) → v = (if w.field 21 20 = 0 then (s.core k).ac (w.field 25 24) + b else if w.field 21 20 = 1 then (s.core k).ac (w.field 25 24) - b else if w.field 21 20 = 2 then b else 0) → ∃ t, exec (.dspAcop k) s = .next t ∧ (t.core k).hw (0x10 + w.field 25 24) = toField 40 v ∧ (t.core k).hw 0x35 / 8 % 2 = (!fits 40 v).toNat ∧ dspNext [0x10 + w.field 25 24, 0x35] k s t) ∧
  (∀ (k : Core) (w : Word) (s : State), s.dspAt k 0x25 w → w.field 19 18 ≤ 2 → w.field 17 0 = 0 → ∃ t, exec (.dspAcld k) s = .next t ∧ (t.core k).hw (0x10 + w.field 25 24) = toField 40 (if w.field 19 18 = 0 then signed 32 ((s.core k).d (w.field 23 20)) else signed 16 (partOf (w.field 19 18) ((s.core k).d (w.field 23 20))) * 65536) ∧ dspNext [0x10 + w.field 25 24] k s t) ∧
  (∀ (k : Core) (w : Word) (v : Int) (s : State), s.dspAt k 0x26 w → w.field 19 18 ≤ 2 → w.field 17 12 ≤ 39 → w.field 11 0 = 0 → v = roundEven ((s.core k).ac (w.field 21 20)) (w.field 17 12) → ∃ t, exec (.dspExt k) s = .next t ∧ (t.core k).hw 0x35 / 8 % 2 = (!fits (partBits (w.field 19 18)) v).toNat ∧ (fits (partBits (w.field 19 18)) v = true → (t.core k).d (w.field 25 22) = withPart (w.field 19 18) ((s.core k).d (w.field 25 22)) (toField (partBits (w.field 19 18)) v)) ∧ (2 ^ (partBits (w.field 19 18) - 1) ≤ v → 32 ≤ (s.core k).hw 0x35 % 64 → (t.core k).d (w.field 25 22) = withPart (w.field 19 18) ((s.core k).d (w.field 25 22)) (2 ^ (partBits (w.field 19 18) - 1) - 1)) ∧ dspNext [w.field 25 22, 0x35] k s t) ∧
  (∀ (v : Int) (n : Nat), 0 < n → (2 * (v - roundEven v n * 2 ^ n) ≤ 2 ^ n ∧ -(2 ^ n : Int) ≤ 2 * (v - roundEven v n * 2 ^ n)) ∧ ((2 * (v - roundEven v n * 2 ^ n) = 2 ^ n ∨ 2 * (v - roundEven v n * 2 ^ n) = -(2 ^ n : Int)) → roundEven v n % 2 = 0)) ∧
  (∀ (k : Core) (w : Word) (v : Int) (s : State), s.dspAt k 0x28 w → w.field 19 18 ≤ 2 → w.field 11 0 = 0 → v = signed (partBits (w.field 19 18)) (partOf (w.field 19 18) ((s.core k).d (w.field 23 20))) → ∃ t, exec (.dspMaxx k) s = .next t ∧ ((s.core k).ac (w.field 25 24) < v → (t.core k).hw (0x10 + w.field 25 24) = toField 40 v ∧ (t.core k).d (w.field 15 12) = (if w.field 17 16 < (s.core k).hw 0x34 then (s.core k).hw (0x28 + w.field 17 16) else 0) ∧ (t.core k).hw 0x35 / 4 % 2 = 1) ∧ (¬ (s.core k).ac (w.field 25 24) < v → (t.core k).hw (0x10 + w.field 25 24) = (s.core k).hw (0x10 + w.field 25 24) ∧ (t.core k).d (w.field 15 12) = (s.core k).d (w.field 15 12) ∧ (t.core k).hw 0x35 / 4 % 2 = 0) ∧ dspNext [0x10 + w.field 25 24, w.field 15 12, 0x35] k s t) ∧
  (∀ (k : Core) (w : Word) (v : Int) (s : State), s.dspAt k 0x29 w → w.field 19 18 ≤ 2 → w.field 11 0 = 0 → v = signed (partBits (w.field 19 18)) (partOf (w.field 19 18) ((s.core k).d (w.field 23 20))) → ∃ t, exec (.dspMinx k) s = .next t ∧ (v < (s.core k).ac (w.field 25 24) → (t.core k).hw (0x10 + w.field 25 24) = toField 40 v ∧ (t.core k).d (w.field 15 12) = (if w.field 17 16 < (s.core k).hw 0x34 then (s.core k).hw (0x28 + w.field 17 16) else 0) ∧ (t.core k).hw 0x35 / 4 % 2 = 1) ∧ (¬ v < (s.core k).ac (w.field 25 24) → (t.core k).hw (0x10 + w.field 25 24) = (s.core k).hw (0x10 + w.field 25 24) ∧ (t.core k).d (w.field 15 12) = (s.core k).d (w.field 15 12) ∧ (t.core k).hw 0x35 / 4 % 2 = 0) ∧ dspNext [0x10 + w.field 25 24, w.field 15 12, 0x35] k s t)

/-- O51. The DSP moves, loads and stores, with their delays and access faults -/
def Obligations.DspMovesAndMemory : Prop :=
  (∀ (k : Core) (w : Word) (s : State), s.dspAt k 0 w → w.field 25 0 = 0 → ∃ t, exec (.dspNop k) s = .next t ∧ dspNext [] k s t) ∧
  (∀ (k : Core) (w : Word) (s : State), s.dspAt k 8 w → w.field 24 8 = 0 → (s.core k).hw 0x35 < 256 → w.field 7 0 < 128 → ∃ t, exec (.dspSwop k) s = .next t ∧ (t.core k).hw 0x35 = (if w.field 25 25 = 1 then ((s.core k).hw 0x35 ||| w.field 7 0) else ((s.core k).hw 0x35 &&& (255 - w.field 7 0))) ∧ dspNext [0x35] k s t) ∧
  (∀ (k : Core) (w : Word) (s : State), s.dspAt k 10 w → w.field 25 20 < 16 → w.field 19 14 < 0x35 → w.field 13 0 = 0 → ∃ t, exec (.dspMov k) s = .next t ∧ (t.core k).d (w.field 25 20) = (s.core k).movRead (w.field 19 14) ∧ dspNext [w.field 25 20] k s t) ∧
  (∀ (c : Nat) (v : Nat) (x : DspCore), v < 2 ^ 32 → (c < 4 → (x.movWrite (0x10 + c) v).hw (0x10 + c) = toField 40 (signed 32 v) ∧ (x.movWrite (0x14 + c) v).hw (0x10 + c) = x.hw (0x10 + c) % 2 ^ 32 + v % 256 * 2 ^ 32) ∧ (c < 16 → (x.movWrite (0x18 + c) v).hw (0x18 + c) = v % 2 ^ 20 ∧ (x.movWrite (0x18 + c) v).seen (0x18 + c) = x.hw (0x18 + c)) ∧ (c < 13 → (x.movWrite (0x28 + c) v).hw (0x28 + c) = x.hw (0x28 + c)) ∧ (x.movWrite 0x36 v).hw 0x36 = v % 2 ^ 15 ∧ (x.movWrite 0x37 v).hw 0x37 = v % 256) ∧
  (∀ (k : Core) (w : Word) (s : State), s.dspAt k 11 w → w.field 25 20 < 16 → w.field 18 16 = 0 → ∃ t, exec (.dspLdi k) s = .next t ∧ (t.core k).d (w.field 25 20) = (if w.field 19 19 = 1 then w.field 15 0 * 2 ^ 16 + (s.core k).d (w.field 25 20) % 2 ^ 16 else toField 32 (signed 16 (w.field 15 0))) ∧ dspNext [w.field 25 20] k s t) ∧
  (∀ (k : Core) (w : Word) (v : Nat) (y : DspCore) (m : Nat) (s : State), s.dspAt k 0x10 w → w.field 17 15 ≤ 4 → w.field 14 13 ≠ 3 → (m, y) = addrM (s.core k) w → s.dspRead k (w.field 21 21 = 1) m (sizeBytes (w.field 17 15)) = .ok v → ∃ t, exec (.dspLd k) s = .next t ∧ (t.core k).loads = [(w.field 25 22, extend (w.field 17 15) v)] ∧ (t.core k).hw (0x18 + w.field 20 18) = y.hw (0x18 + w.field 20 18) ∧ dspNext [0x18 + w.field 20 18] k s t) ∧
  (∀ (k : Core) (d : Nat) (v : Nat) (w : Word) (s : State), s.issues k = true → (s.core k).fetch = w → w = 0 → (s.core k).loads = [(d, v)] → (s.core k).late = [] → (s.core k).judge = none → (s.core k).slots = 0 → (s.core k).atEnd (s.core k).next = none → ∃ t, exec (.dspNop k) s = .next t ∧ (t.core k).hw d = v ∧ (t.core k).loads = []) ∧
  (∀ (k : Core) (w : Word) (q : Nat) (m : Nat) (s : State), s.dspAt k 0x10 w → w.field 17 15 ≤ 4 → w.field 14 13 = 0 → m = (addrM (s.core k) w).1 → s.dspRead k (w.field 21 21 = 1) m (sizeBytes (w.field 17 15)) = .error q → (s.core k).entered = false → ∃ t, exec (.dspLd k) s = .next t ∧ dspVector 2 k s t ∧ (t.core k).causeAddr = m ∧ (t.core k).causeKind = q) ∧
  (∀ (k : Core) (w : Word) (m : Nat) (n : Nat) (s : State), s.dspAt k 0x11 w → (w.field 17 15 = 0 ∨ w.field 17 15 = 1 ∨ w.field 17 15 = 3) → w.field 14 13 ≠ 3 → w.field 21 21 = 1 → m = (addrM (s.core k) w).1 → n = sizeBytes (w.field 17 15) → m < 0x10000 → m % n = 0 → ∃ t, exec (.dspSt k) s = .next t ∧ (t.core k).y = storeWrite (s.core k).y m ((s.core k).d (w.field 25 22)) n ∧ (t.core k).x = (s.core k).x ∧ (t.core k).prog = (s.core k).prog ∧ (t.core k).next = ((s.core k).next + 1) % 2 ^ 15 ∧ (∀ c, c ≠ 0x18 + w.field 20 18 → (t.core k).hw c = (s.core k).hw c)) ∧
  (∀ (b : Store Byte) (m : Nat) (n : Nat) (v : Nat) (j : Nat), storeRead (storeWrite b m v n) m n = v % 256 ^ n ∧ (j < m ∨ m + n ≤ j → sget (fun _ => 0) (storeWrite b m v n) j = sget (fun _ => 0) b j)) ∧
  (∀ (k : Core) (y : Bool) (m : Nat) (n : Nat) (v : Nat) (s : State), n = 1 ∨ n = 2 ∨ n = 4 → ((if y then 0x10000 ≤ m else 0x52100 ≤ m) → s.dspRead k y m n = .error 1 ∧ s.dspWrite k y m n v = .error 1) ∧ (m < 0x10000 → m % n ≠ 0 → s.dspRead k y m n = .error 2 ∧ s.dspWrite k y m n v = .error 2) ∧ (y = false → 0x10000 ≤ m → m < 0x52000 → s.dspWrite k y m n v = .error 1) ∧ (m < 0x10000 → m % n = 0 → s.dspRead k y m n = .ok (storeRead (if y then (s.core k).y else (s.core k).x) m n))) ∧
  (∀ (k : Core) (w : Word) (m : Nat) (s : State), s.dspAt k 0x12 w → w.field 21 21 = 0 → w.field 17 13 = 0 → m = (addrM (s.core k) w).1 → m < 0x20000 → m % 4 = 0 → (s.core k).cached (s.core k).next = false → ∃ t, exec (.dspLdp k) s = .next t ∧ (t.core k).loads = [(w.field 25 22, (sget (fun _ => 0) (s.core k).prog (m / 4)).toNat)] ∧ t.count (DSP_CNT k.engine.n k.idx.val 4) = (s.count (DSP_CNT k.engine.n k.idx.val 4) + 1) % 2 ^ 48 ∧ dspNext [] k s t) ∧
  (∀ (k : Core) (s : State), s.issues k = false → exec (.dspNop k) s = .next s ∧ exec (.dspBr k) s = .next s ∧ exec (.dspCall k) s = .next s ∧ exec (.dspJr k) s = .next s ∧ exec (.dspLoop k) s = .next s ∧ exec (.loopEnd k) s = .next s ∧ exec (.dspRti k) s = .next s ∧ exec (.dspTrap k) s = .next s ∧ exec (.dspHalt k) s = .next s ∧ exec (.dspSwop k) s = .next s ∧ exec (.dspMov k) s = .next s ∧ exec (.dspLdi k) s = .next s ∧ exec (.dspLd k) s = .next s ∧ exec (.dspSt k) s = .next s ∧ exec (.dspLdp k) s = .next s ∧ exec (.dspAlu k) s = .next s ∧ exec (.dspAlui k) s = .next s ∧ exec (.dspMac k) s = .next s ∧ exec (.dspMsu k) s = .next s ∧ exec (.dspMpy k) s = .next s ∧ exec (.dspDmac k) s = .next s ∧ exec (.dspAcop k) s = .next s ∧ exec (.dspAcld k) s = .next s ∧ exec (.dspExt k) s = .next s ∧ exec (.dspMaxx k) s = .next s ∧ exec (.dspMinx k) s = .next s ∧ exec (.interruptEntry k) s = .next s ∧ exec (.kick k) s = .next s ∧ exec (.bell k) s = .next s ∧ exec (.dspMboxAck k) s = .next s ∧ exec (.dspMboxOut k) s = .next s)

/-- O52. DSP branches, hardware loops, traps, interrupts and vector entry -/
def Obligations.DspControl : Prop :=
  (∀ (k : Core) (w : Word) (s : State), s.dspAt k 1 w → w.field 25 22 ≤ 12 → w.field 21 15 = 0 → (s.core k).nearEnd (s.core k).next = false → ∃ t, exec (.dspBr k) s = .next t ∧ (t.core k).slots = 2 ∧ (t.core k).target = (if (s.core k).cond (w.field 25 22) then some (w.field 14 0) else none) ∧ dspNext [] k s t) ∧
  (∀ (k : Core) (w : Word) (s : State), s.dspAt k 2 w → w.field 25 22 ≤ 12 → w.field 21 15 = 0 → (s.core k).nearEnd (s.core k).next = false → ∃ t, exec (.dspCall k) s = .next t ∧ (t.core k).slots = 2 ∧ (t.core k).target = (if (s.core k).cond (w.field 25 22) then some (w.field 14 0) else none) ∧ dspNext [15] k s t ∧ (t.core k).hw 15 = (if (s.core k).cond (w.field 25 22) then ((s.core k).next + 3) % 2 ^ 15 else (s.core k).hw 15)) ∧
  (∀ (k : Core) (w : Word) (s : State), s.dspAt k 3 w → w.field 25 22 ≤ 12 → w.field 17 0 = 0 → (s.core k).nearEnd (s.core k).next = false → ∃ t, exec (.dspJr k) s = .next t ∧ (t.core k).slots = 2 ∧ (t.core k).target = (if (s.core k).cond (w.field 25 22) then some ((s.core k).d (w.field 21 18) % 2 ^ 15) else none) ∧ dspNext [] k s t) ∧
  (∀ (k : Core) (w : Word) (s : State), s.dspAt k 5 w → w.field 25 0 = 0 → (s.core k).nearEnd (s.core k).next = false → ∃ t, exec (.dspRti k) s = .next t ∧ (t.core k).slots = 2 ∧ (t.core k).rti = true ∧ dspNext [] k s t) ∧
  (∀ (x : DspCore), x.slots = 1 → (x.rti = false → x.useSlot.next = x.target.getD x.next ∧ x.useSlot.slots = 0 ∧ x.useSlot.r = x.r) ∧ (x.rti = true → x.useSlot.next = x.hw 0x36 ∧ x.useSlot.slots = 0 ∧ x.useSlot.entered = false)) ∧
  (∀ (k : Core) (w : Word) (s : State), s.issues k = true → (s.core k).fetch = w → w.field 31 26 = 1 → s.regsOk → (s.core k).slots = 2 → (s.core k).judge = none → (s.core k).late = [] → (s.core k).loads = [] → (s.core k).entered = false → ∃ t, exec (.dspBr k) s = .next t ∧ (t.core k).next = 4 ∧ (t.core k).causeKind = 4 ∧ (t.core k).hw 0x37 = (s.core k).hw 0x35) ∧
  (∀ (k : Core) (w : Word) (s : State), s.dspAt k 1 w → w.field 25 22 ≤ 12 → w.field 21 15 = 0 → (s.core k).nearEnd (s.core k).next = true → (s.core k).entered = false → ∃ t, exec (.dspBr k) s = .next t ∧ dspVector 1 k s t ∧ (t.core k).causeKind = 5 ∧ (t.core k).causeAddr = (s.core k).next) ∧
  (∀ (k : Core) (w : Word) (n : Nat) (d : Nat) (s : State), s.dspAt k 4 w → (w.field 25 25 = 0 ∨ w.field 24 13 = 0) → n = (if w.field 25 25 = 1 then (s.core k).d (w.field 12 9) % 2 ^ 16 else w.field 24 9) → d = (s.core k).hw 0x34 → 128 ≤ (s.core k).hw 0x35 → d < 4 → 0 < n → ∃ t, exec (.dspLoop k) s = .next t ∧ (t.core k).hw (0x28 + d) = n ∧ (t.core k).hw (0x2C + d) = ((s.core k).next + 1) % 2 ^ 15 ∧ (t.core k).hw (0x30 + d) = ((s.core k).next + w.field 8 0 + 1) % 2 ^ 15 ∧ (t.core k).hw 0x34 = d + 1 ∧ dspNext [0x28 + d, 0x2C + d, 0x30 + d, 0x34] k s t) ∧
  (∀ (k : Core) (w : Word) (s : State), s.dspAt k 4 w → w.field 25 25 = 0 → w.field 24 9 = 0 → 128 ≤ (s.core k).hw 0x35 → (s.core k).hw 0x34 < 4 → ∃ t, exec (.dspLoop k) s = .next t ∧ (t.core k).next = ((s.core k).next + w.field 8 0 + 2) % 2 ^ 15 ∧ (∀ c : Fin 64, (t.core k).hw c.val = (s.core k).hw c.val)) ∧
  (∀ (k : Core) (w : Word) (s : State), s.dspAt k 4 w → w.field 25 25 = 0 → ((s.core k).hw 0x35 < 128 ∨ 4 ≤ (s.core k).hw 0x34) → (s.core k).entered = false → ∃ t, exec (.dspLoop k) s = .next t ∧ dspVector 1 k s t ∧ (t.core k).causeKind = 5) ∧
  (∀ (k : Core) (d : Nat) (s : State), s.issues k = true → (s.core k).judge = some d → d < 4 → 1 < (s.core k).hw (0x28 + d) → ∃ t, exec (.loopEnd k) s = .next t ∧ (t.core k).hw (0x28 + d) = (s.core k).hw (0x28 + d) - 1 ∧ (t.core k).next = (s.core k).hw (0x2C + d) ∧ (t.core k).judge = none ∧ (t.core k).hw 0x34 = (s.core k).hw 0x34) ∧
  (∀ (k : Core) (d : Nat) (s : State), s.issues k = true → (s.core k).judge = some (d + 1) → d < 3 → (s.core k).hw (0x28 + d + 1) ≤ 1 → 1 < (s.core k).hw (0x28 + d) → ∃ t, exec (.loopEnd k) s = .next t ∧ (t.core k).hw 0x34 = d + 1 ∧ ((s.core k).hw (0x30 + d) = (s.core k).hw (0x30 + (d + 1)) → (t.core k).next = (s.core k).hw (0x2C + d) ∧ (t.core k).hw (0x28 + d) = (s.core k).hw (0x28 + d) - 1) ∧ ((s.core k).hw (0x30 + d) ≠ (s.core k).hw (0x30 + (d + 1)) → (t.core k).next = (s.core k).next)) ∧
  (∀ (k : Core) (w : Word) (s : State), s.dspAt k 6 w → w.field 25 8 = 0 → (s.core k).entered = false → ∃ t, exec (.dspTrap k) s = .next t ∧ dspVector 3 k s t ∧ (t.core k).code = w.field 7 0) ∧
  (∀ (k : Core) (w : Word) (s : State), s.dspAt k 6 w → w.field 25 8 = 0 → (s.core k).entered = true → (s.core k).hw 0x35 / 64 % 2 = 0 → ∃ t, exec (.dspTrap k) s = .next t ∧ t.get (DSP_STATUS_CAUSE k.engine.n k.idx.val) = 2 ∧ t.issues k = false ∧ t.isSet (DSP_CTRL_RUN k.engine.n k.idx.val) = false) ∧
  (∀ (k : Core) (w : Word) (s : State), s.dspAt k 7 w → w.field 25 0 = 0 → (s.core k).retired = false → ∃ t, exec (.dspHalt k) s = .next t ∧ t.get (DSP_STATUS_CAUSE k.engine.n k.idx.val) = 1 ∧ t.get (dspStateF k) = 0 ∧ t.isSet (DSP_CTRL_RUN k.engine.n k.idx.val) = false ∧ t.isSet ⟨DSP_FLAGS k.engine.n, k.idx.val, k.idx.val⟩ = true) ∧
  (∀ (k : Core) (v : Nat) (s : State), s.issues k = true → (s.core k).judge = none → (s.core k).loads = [] → (s.core k).late = [] → (s.core k).slots = 0 → (s.core k).vector = some v → ∃ t, exec (.interruptEntry k) s = .next t ∧ (t.core k).next = 4 * v ∧ (t.core k).hw 0x36 = (s.core k).next ∧ (t.core k).hw 0x37 = (s.core k).hw 0x35 ∧ (t.core k).hw 0x35 = ((s.core k).hw 0x35 &&& 0x3F) ∧ t.count (DSP_CNT k.engine.n k.idx.val 2) = (s.count (DSP_CNT k.engine.n k.idx.val 2) + 1) % 2 ^ 48) ∧
  (∀ (x : DspCore) (v : Nat), x.vector = some v → (x.hw 0x35).testBit 6 = true ∧ (x.ien &&& x.ipend).testBit v = true ∧ 4 ≤ v ∧ v < 15 ∧ (∀ u, 4 ≤ u → u < v → (x.ien &&& x.ipend).testBit u = false)) ∧
  (∀ (k : Core) (w : Word) (s : State), s.dspAt k 63 w → (s.core k).vector = none → (s.core k).entered = false → ∃ t, exec (.interruptEntry k) s = .next t ∧ dspVector 1 k s t ∧ (t.core k).causeKind = 4 ∧ (t.core k).causeAddr = (s.core k).next)

/-- O53. Starting and halting a DSP core, timers, watchdog, mailboxes, captures, strikes and retirement -/
def Obligations.DspCoresAndCaptures : Prop :=
  (∀ (k : Core) (s : State), s.Ok → s.isSet (DSP_CTRL_RUN k.engine.n k.idx.val) = false → (s.core k).retired = false → (s.core ⟨k.engine, 0⟩).retired = false → s.stopped.contains .carrier = false → ∃ t, exec (.dspRun .carrier k) s = .next t ∧ t.isSet (DSP_CTRL_RUN k.engine.n k.idx.val) = true ∧ t.get (dspStateF k) = 1 ∧ t.get (DSP_STATUS_CAUSE k.engine.n k.idx.val) = 0 ∧ (t.core k).next = 0 ∧ (t.core k).entered = false ∧ (t.core k).prog = (s.core k).prog ∧ (t.core k).x = (s.core k).x ∧ (t.core k).y = (s.core k).y ∧ t.tally = s.tally) ∧
  (∀ (k : Core) (s : State), s.isSet (DSP_CTRL_RUN k.engine.n k.idx.val) = true → s.stopped.contains .carrier = false → exec (.dspStop .carrier k) s = .next (haltCore k 5 s) ∧ exec (.dspRun .carrier k) s = .next s) ∧
  (∀ (k : Core) (s : State), (s.isSet (DSP_CTRL_RUN k.engine.n k.idx.val) = false) → s.stopped.contains .carrier = false → exec (.dspStop .carrier k) s = .next s) ∧
  (∀ (k : Core) (z : Nat) (s : State), s.Ok → z < 16 → (haltCore k z s).get (DSP_STATUS_CAUSE k.engine.n k.idx.val) = z ∧ (haltCore k z s).isSet (DSP_CTRL_RUN k.engine.n k.idx.val) = false ∧ (haltCore k z s).get (dspStateF k) = (if (s.core k).retired then 2 else 0) ∧ ((haltCore k z s).core k).prog = (s.core k).prog ∧ (z = 5 → (haltCore k z s).tally = s.tally)) ∧
  (∀ (k : Core) (i : (Fin 2)) (s : State), s.retained k = false → (sget (fun _ => 0) (s.core k).reload i.val ≠ 0 → exec (.dspTimerExpiry k i) s = .next (pendVector k (5 + i.val) s)) ∧ (sget (fun _ => 0) (s.core k).reload i.val = 0 → exec (.dspTimerExpiry k i) s = .next s)) ∧
  (∀ (k : Core) (s : State), s.issues k = true → ∃ t, exec (.kick k) s = .next t ∧ (t.core k).half = false ∧ t.regs = s.regs ∧ (t.core k).ipend = (s.core k).ipend) ∧
  (∀ (k : Core) (s : State), s.watched k = true → ((s.core k).half = false → ∃ t, exec (.watchdogHalf k) s = .next t ∧ (t.core k).half = true ∧ (t.core k).ipend = ((s.core k).ipend ||| 2 ^ 14) ∧ t.regs = s.regs) ∧ ((s.core k).half = true → exec (.watchdogHalf k) s = .next s ∧ exec (.watchdogHalt k) s = .next (dspFlag k.engine 10 (haltCore k 4 s)))) ∧
  (∀ (k : Core) (s : State), (s.watched k = false ∨ (s.core k).half = false) → exec (.watchdogHalt k) s = .next s) ∧
  (∀ (k : Core) (s : State), s.issues k = true → exec (.bell k) s = .next (pendVector (otherCore k) 13 s) ∧ exec (.dspMboxAck k) s = .next (s.putB (DSP_MBOX_IN_FULL k.engine.n k.idx.val) false) ∧ (s.isSet (DSP_MBOX_OUT_FULL k.engine.n k.idx.val) = true → exec (.dspMboxOut k) s = .next s) ∧ (s.isSet (DSP_MBOX_OUT_FULL k.engine.n k.idx.val) = false → exec (.dspMboxOut k) s = .next (dspFlag k.engine (6 + k.idx.val) (s.putB (DSP_MBOX_OUT_FULL k.engine.n k.idx.val) true)))) ∧
  (∀ (k : Core) (s : State), s.stopped.contains .carrier = false → (s.isSet (DSP_MBOX_IN_FULL k.engine.n k.idx.val) = false → exec (.dspMboxIn .carrier k) s = .next (pendVector k 4 (s.putB (DSP_MBOX_IN_FULL k.engine.n k.idx.val) true))) ∧ (s.isSet (DSP_MBOX_IN_FULL k.engine.n k.idx.val) = true → exec (.dspMboxIn .carrier k) s = .next s) ∧ exec (.dspMboxOutClear .carrier k) s = .next (s.putB (DSP_MBOX_OUT_FULL k.engine.n k.idx.val) false)) ∧
  (∀ (k : Core) (v : Nat) (s : State), ((pendVector k v s).core k).ipend = ((s.core k).ipend ||| 2 ^ v) ∧ (pendVector k v s).regs = s.regs ∧ (pendVector k v s).tally = s.tally) ∧
  (∀ (k : Core) (c : Ch) (m : Nat) (q : Nat) (s : State), s.issues k = true → ((k.idx = 1 ∧ (s.capBuf k.engine c).owner = 1) ∨ s.isSet ((PFE_CTRL_RX_EN k.engine.n).bit c.val) = false) → m ≤ 2 → q ≤ 1 → ∃ t, exec (.capGo k c m q) s = .next t ∧ ((t.core k).cap c.val).fin = 3 ∧ t.capBufs = s.capBufs ∧ ((t.core k).cap c.val).mode = m ∧ t.regs = s.regs) ∧
  (∀ (k : Core) (c : Ch) (m : Nat) (q : Nat) (s : State), s.issues k = true → s.isSet ((PFE_CTRL_RX_EN k.engine.n).bit c.val) = true → ((s.capBuf k.engine c).owner = 0 ∨ (s.capBuf k.engine c).owner = k.idx.val + 1) → m ≤ 2 → q ≤ 1 → ∃ t, exec (.capGo k c m q) s = .next t ∧ (t.capBuf k.engine c).owner = k.idx.val + 1 ∧ (t.capBuf k.engine c).st = (if q = 1 then 1 else 2) ∧ (t.capBuf k.engine c).count = 0 ∧ ((t.core k).cap c.val).fin = 0 ∧ ((t.core k).cap c.val).trig = q ∧ t.regs = s.regs) ∧
  (∀ (e : Engine) (c : Ch) (m : Nat) (q : Nat) (s : State), s.Ok → s.issues ⟨e, 0⟩ = true → s.isSet ((PFE_CTRL_RX_EN e.n).bit c.val) = true → (s.capBuf e c).owner = 2 → m ≤ 2 → q ≤ 1 → ∃ t, exec (.capGo ⟨e, 0⟩ c m q) s = .next t ∧ (t.capBuf e c).owner = 1 ∧ ((t.core ⟨e, 1⟩).cap c.val).fin = 2 ∧ (t.core ⟨e, 1⟩).ipend = ((s.core ⟨e, 1⟩).ipend ||| 2 ^ (8 + c.val)) ∧ t.isSet ⟨DSP_FLAGS e.n, 9, 9⟩ = true ∧ (t.capBuf e c).samples = (s.capBuf e c).samples) ∧
  (∀ (k : Core) (c : Ch) (s : State), s.issues k = true → ∃ t, exec (.capRelease k c) s = .next t ∧ (t.capBuf k.engine c).owner = (if (s.capBuf k.engine c).owner = k.idx.val + 1 then 0 else (s.capBuf k.engine c).owner) ∧ (t.capBuf k.engine c).samples = (s.capBuf k.engine c).samples ∧ t.dsp = s.dsp ∧ t.regs = s.regs) ∧
  (∀ (e : Engine) (c : Ch) (bs : List Byte) (ns : List Nat) (n : Nat) (u : Nat) (s : State), (s.capBuf e c).st = 2 → (s.capBuf e c).owner = 2 → ∃ t, exec (.captureComplete e c bs ns n u) s = .next t ∧ (t.capBuf e c).st = 3 ∧ (t.capBuf e c).count = 65536 ∧ (t.capBuf e c).bad = ns ∧ (t.capBuf e c).owner = 2 ∧ ((t.core ⟨e, 1⟩).cap c.val).fin = 1 ∧ (t.core ⟨e, 1⟩).ipend = ((s.core ⟨e, 1⟩).ipend ||| 2 ^ (8 + c.val)) ∧ ((s.capBuf e c).atPsync = false → (t.capBuf e c).sfc = n % 2 ^ 32 ∧ (t.capBuf e c).ui = u % 2 ^ 32) ∧ ((s.capBuf e c).atPsync = true → (t.capBuf e c).sfc = (s.capBuf e c).sfc ∧ (t.capBuf e c).ui = (s.capBuf e c).ui)) ∧
  (∀ (e : Engine) (c : Ch) (bs : List Byte) (ns : List Nat) (n : Nat) (u : Nat) (s : State), (s.capBuf e c).st ≠ 2 → exec (.captureComplete e c bs ns n u) s = .next s) ∧
  (∀ (k : Core) (s : State), s.Ok → (s.core k).retired = false → s.get (DSP_STATUS_STRIKES k.engine.n k.idx.val) < 2 → ∃ t, exec (.dspParity k) s = .next t ∧ t.get (DSP_STATUS_STRIKES k.engine.n k.idx.val) = s.get (DSP_STATUS_STRIKES k.engine.n k.idx.val) + 1 ∧ t.get (DSP_STATUS_CAUSE k.engine.n k.idx.val) = 3 ∧ t.get (dspStateF k) = 0 ∧ t.isSet ⟨DSP_FLAGS k.engine.n, 2, 2⟩ = true ∧ (t.core k).prog = (s.core k).prog) ∧
  (∀ (k : Core) (s : State), s.Ok → (s.core k).retired = false → s.get (DSP_STATUS_STRIKES k.engine.n k.idx.val) = 2 → k.idx = 1 → (s.core ⟨k.engine, 0⟩).retired = false → ∃ t, exec (.dspParity k) s = .next t ∧ (t.core k).retired = true ∧ t.get (DSP_STATUS_CAUSE k.engine.n k.idx.val) = 7 ∧ t.get (dspStateF k) = 2 ∧ t.isSet ⟨DSP_FLAGS k.engine.n, 3, 3⟩ = true) ∧
  (∀ (e : Engine) (s : State), s.Ok → (s.core ⟨e, 0⟩).retired = false → s.get (DSP_STATUS_STRIKES e.n 0) = 2 → (s.core ⟨e, 1⟩).retired = false → ∃ t, exec (.dspParity ⟨e, 0⟩) s = .next t ∧ (t.core ⟨e, 0⟩).retired = true ∧ (t.core ⟨e, 1⟩).retired = false ∧ t.get (DSP_STATUS_CAUSE e.n 1) = 8 ∧ t.get (DSP_STATUS_STATE e.n 1) = 0 ∧ t.isSet ⟨DSP_FLAGS e.n, 4, 4⟩ = true) ∧
  (∀ (e : Engine) (s : State), s.Ok → (s.core ⟨e, 1⟩).retired = false → s.get (DSP_STATUS_STRIKES e.n 1) = 2 → (s.core ⟨e, 0⟩).retired = true → ∃ t, exec (.dspParity ⟨e, 1⟩) s = .next t ∧ (t.core ⟨e, 1⟩).retired = false ∧ t.get (DSP_STATUS_CAUSE e.n 1) = 3 ∧ t.isSet ⟨DSP_FLAGS e.n, 5, 5⟩ = true) ∧
  (∀ (k : Core) (s : State), exec (.dspStrikeExpiry k) s = .next (s.put (DSP_STATUS_STRIKES k.engine.n k.idx.val) (s.get (DSP_STATUS_STRIKES k.engine.n k.idx.val) - 1))) ∧
  (∀ (k : Core) (s : State), s.Ok → s.stopped.contains .carrier = false → ∃ t, exec (.coreRestore .carrier k) s = .next t ∧ t.get (DSP_STATUS_STRIKES k.engine.n k.idx.val) = 0 ∧ (t.core k).retired = false ∧ ((s.core k).retired = true → t.get (dspStateF k) = 0) ∧ (t.core k).prog = (s.core k).prog) ∧
  (∀ (k : Core) (a : Agent) (s : State), a ≠ .carrier → s.stopped.contains a = false → exec (.dspRun a k) s = .next (s.refuse a) ∧ exec (.dspStop a k) s = .next (s.refuse a) ∧ exec (.dspMboxIn a k) s = .next (s.refuse a) ∧ exec (.dspMboxOutClear a k) s = .next (s.refuse a) ∧ exec (.coreRestore a k) s = .next (s.refuse a))

/-- O54. Start-up from the option bytes, the settings windows, the journal and the write floor -/
def Obligations.BootAndSettings : Prop :=
  (∀ (s : State), (s.kp.booted = true ∨ s.moduleHeld = true) → exec .boot s = .next s) ∧
  (∀ (s : State) (u : State), s.kp.booted = false → s.moduleHeld = false → u = (loadOptions s).modKp (fun k => { k with booted := true }) → u.options.imgB = none → (u.imageOk u.options.imgA = true → exec .boot s = .next (startImage u.options.imgA 0 u)) ∧ (u.imageOk u.options.imgA = false → u.options.imgA = 0x00010000 → ∃ t, exec .boot s = .next t ∧ t.get KP_BOOT_STAGE = 7 ∧ t.get KP_BOOT_IMAGE = 2 ∧ t.isSet ⟨KP_START_FLAGS, 1, 1⟩ = true ∧ t.isSet ⟨KP_START_FLAGS, 2, 2⟩ = true ∧ t.stopped.contains .carrier = true ∧ t.stopped.contains .tenant = true ∧ t.kp.booted = true)) ∧
  (∀ (o : OptBytes) (s : State), s.Ok → s.readOptions 0 = some o → o.flags.testBit 0 = false → o.pfail.testBit 7 = false → o.wiThr < 65536 → (loadOptions s).kp.opt = some o ∧ (loadOptions s).get KP_BOOT_OPT = 0 ∧ (loadOptions s).get KP_SUPPLY_WI_THR = o.wiThr ∧ (loadOptions s).get KP_SUPPLY_DG_THR = o.dgThr % 65536 ∧ (loadOptions s).tally = s.tally) ∧
  (∀ (s : State), s.Ok → s.readOptions 0 = none → s.readOptions 0x1000 = none → (loadOptions s).kp.opt = some safeOptions ∧ (loadOptions s).get KP_BOOT_OPT = 2 ∧ (loadOptions s).get KP_SUPPLY_WI_THR = 435 ∧ (loadOptions s).get KP_SUPPLY_DG_THR = 420 ∧ (loadOptions s).isSet ⟨KP_START_FLAGS, 0, 0⟩ = true) ∧
  (∀ (n : Nat) (i : Nat) (s : State), s.Ok → s.optFlag 0 = false → s.carrierHeld = false → s.tenantHeld = false → s.sections n = [] → i < 4 → s.get KP_BOOT_STAGE < 6 → (startImage n i s).get KP_BOOT_IMAGE = i ∧ (startImage n i s).get KP_BOOT_C_STAGE = 4 ∧ (startImage n i s).get KP_BOOT_T_STAGE = 3 ∧ (startImage n i s).get KP_BOOT_STAGE = 3 ∧ (startImage n i s).kp.unreleased = false ∧ (startImage n i s).reg KP_SVN = BitVec.ofNat 32 (sliceNum (s.flashBytes n 128) 8 4)) ∧
  (∀ (d : SetDomain) (s : State), s.Ok → s.kp.storeValid = true → s.get KP_BOOT_STAGE < 6 → ∃ t, exec (.settingsRestore d) s = .next t ∧ t.get KP_BOOT_RESTORE = (if s.get KP_BOOT_RESTORE = 0 then 1 else s.get KP_BOOT_RESTORE) ∧ t.kp.recs = s.kp.recs ∧ t.get KP_BOOT_T_STAGE = (if d = .tenant ∧ s.get KP_BOOT_T_STAGE = 4 then 5 else s.get KP_BOOT_T_STAGE) ∧ t.tally = s.tally) ∧
  (∀ (d : SetDomain) (s : State), s.Ok → s.kp.storeValid = false → s.bestArea = none → ∃ t, exec (.settingsRestore d) s = .next t ∧ t.isSet ⟨KP_START_FLAGS, 4, 4⟩ = true ∧ t.kp.recs = s.kp.recs ∧ t.get KP_BOOT_RESTORE = s.get KP_BOOT_RESTORE) ∧
  (∀ (d : SetDomain) (r : SetRec) (s : State), s.Ok → s.stopped.contains (setAgent d) = false → s.record (setNum d) (s.setKey (setNum d)) = some r → r.value.length ≤ 1024 → ∃ t, exec (.settingsGet (setAgent d) d) s = .next t ∧ t.setLen (setNum d) = r.value.length ∧ t.setValue (setNum d) = r.value ∧ t.get ⟨setBase (setNum d) + 4, 3, 0⟩ = 0 ∧ t.isSet ⟨setBase (setNum d), 31, 31⟩ = false ∧ t.kp = s.kp) ∧
  (∀ (d : SetDomain) (s : State), s.Ok → s.stopped.contains (setAgent d) = false → s.record (setNum d) (s.setKey (setNum d)) = none → ∃ t u, exec (.settingsGet (setAgent d) d) s = .next t ∧ t.get ⟨setBase (setNum d) + 4, 3, 0⟩ = 1 ∧ t.kp = s.kp ∧ exec (.settingsDelete (setAgent d) d) s = .next u ∧ u.get ⟨setBase (setNum d) + 4, 3, 0⟩ = 1 ∧ u.kp = s.kp) ∧
  (∀ (d : SetDomain) (s : State), s.Ok → s.stopped.contains (setAgent d) = false → 1024 < s.setLen (setNum d) → ∃ t, exec (.settingsPut (setAgent d) d) s = .next t ∧ t.get ⟨setBase (setNum d) + 4, 3, 0⟩ = 3 ∧ t.kp = s.kp) ∧
  (∀ (d : SetDomain) (v : List Byte) (s : State), s.Ok → s.stopped.contains (setAgent d) = false → s.setLen (setNum d) ≤ 1024 → v = s.setValue (setNum d) → (domFits (setNum d) (s.recsWith (setNum d) (s.setKey (setNum d)) (some v)) = true → s.journalFits v.length (s.recsWith (setNum d) (s.setKey (setNum d)) (some v)) = true → ∃ t, exec (.settingsPut (setAgent d) d) s = .next t ∧ t.get ⟨setBase (setNum d) + 4, 3, 0⟩ = 0 ∧ t.record (setNum d) (s.setKey (setNum d)) = some ⟨setNum d, s.setKey (setNum d), v⟩ ∧ (∀ e k, (e ≠ setNum d ∨ k ≠ s.setKey (setNum d)) → t.record e k = s.record e k) ∧ t.isSet ⟨setBase (setNum d) + 4, 30, 30⟩ = false ∧ t.kp.journal = s.kp.journal ++ [⟨setNum d, s.setKey (setNum d), some v, !s.isSet KP_VIN_WI_ACTIVE⟩] ∧ t.kp.flash = s.kp.flash) ∧ (domFits (setNum d) (s.recsWith (setNum d) (s.setKey (setNum d)) (some v)) = false ∨ s.journalFits v.length (s.recsWith (setNum d) (s.setKey (setNum d)) (some v)) = false → ∃ t, exec (.settingsPut (setAgent d) d) s = .next t ∧ t.get ⟨setBase (setNum d) + 4, 3, 0⟩ = 2 ∧ t.kp = s.kp)) ∧
  (∀ (d : SetDomain) (r : SetRec) (s : State), s.Ok → s.stopped.contains (setAgent d) = false → s.record (setNum d) (s.setKey (setNum d)) = some r → s.journalFits 0 (s.recsWith (setNum d) (s.setKey (setNum d)) none) = true → ∃ t, exec (.settingsDelete (setAgent d) d) s = .next t ∧ t.get ⟨setBase (setNum d) + 4, 3, 0⟩ = 0 ∧ t.record (setNum d) (s.setKey (setNum d)) = none ∧ t.kp.journal = s.kp.journal ++ [⟨setNum d, s.setKey (setNum d), none, !s.isSet KP_VIN_WI_ACTIVE⟩]) ∧
  (∀ (d : SetDomain) (a : Agent) (s : State), a ≠ setAgent d → s.stopped.contains a = false → exec (.settingsGet a d) s = .next (s.refuse a) ∧ exec (.settingsPut a d) s = .next (s.refuse a) ∧ exec (.settingsDelete a d) s = .next (s.refuse a)) ∧
  (∀ (j : JournalItem) (js : List JournalItem) (n : Nat) (z : Nat) (s : State), s.Ok → s.kp.journal = j :: js → j.begun = true → s.kp.area = some 0 → s.areaAt 0 = some (n, z) → s.kp.jPos + recSize (j.value.getD []).length ≤ z → ∃ t, exec .journaled s = .next t ∧ t.kp.journal = js ∧ t.kp.jSeq = s.kp.jSeq + 1 ∧ t.kp.flash = (programFlash (n + s.kp.jPos) (journalBytes ⟨j.dom, j.key, j.value, s.kp.jSeq + 1⟩) s).kp.flash ∧ (j.value.isSome = true → j.dom < 2 → js = [] → t.isSet ⟨setBase j.dom + 4, 30, 30⟩ = true) ∧ t.kp.recs = s.kp.recs) ∧
  (∀ (s : State), (s.kp.journal = [] ∨ s.areaAt 0 = none) → exec .journaled s = .next s) ∧
  (∀ (v : Nat) (s : State), s.Ok → v < 65536 → v < s.get KP_SUPPLY_WI_THR → s.isSet KP_VIN_WI_ACTIVE = false → ∃ t, exec (.writeInhibit v) s = .next t ∧ t.isSet KP_VIN_WI_ACTIVE = true ∧ t.get KP_VIN_VIN = v ∧ t.isSet ⟨KP_START_FLAGS, 5, 5⟩ = true ∧ t.kp = s.kp) ∧
  (∀ (v : Nat) (s : State), s.Ok → v < 65536 → s.get KP_SUPPLY_WI_THR + 10 < v → s.isSet KP_VIN_WI_ACTIVE = true → ∃ t, exec (.journalResume v) s = .next t ∧ t.isSet KP_VIN_WI_ACTIVE = false ∧ t.kp.journal = s.kp.journal.map (fun j => { j with begun := true }) ∧ t.kp.recs = s.kp.recs) ∧
  (∀ (w : Word) (g : Nat) (i : Nat) (s : State), s.stopped.contains .keeper = false → g = (if 420 ≤ w.field 31 16 then w.field 31 16 else s.get KP_SUPPLY_DG_THR) → i = (if 420 ≤ w.field 15 0 ∧ w.field 15 0 ≤ 1600 then w.field 15 0 else s.get KP_SUPPLY_WI_THR) → (i < g → exec (.supplyWrite .keeper w) s = .next s) ∧ (g ≤ i → exec (.supplyWrite .keeper w) s = .next ((s.put KP_SUPPLY_DG_THR g).put KP_SUPPLY_WI_THR i))) ∧
  (∀ (a : Agent) (w : Word) (s : State), a ≠ .keeper → s.stopped.contains a = false → exec (.supplyWrite a w) s = .next (s.refuse a))

/-- O55. The message gate, HOSTLINK transactions, the recovery service and the host's register accesses -/
def Obligations.GateAndHostlink : Prop :=
  (∀ (m : MgBlock) (n : Nat) (z : Nat) (s : State), s.Ok → s.stopped.contains (gateAgent m.val) = false → n = s.get (MG_TX_KIND m.val) → z = s.get (MG_TX_LEN m.val) → kindSent m.val n = true → kindLenOk m.val n z = true → s.gateCount (txQueue m.val) < 16 → n ≠ 0x16 → n ≠ 0x2F → ∃ t, exec (.mgSend (gateAgent m.val) m) s = .next t ∧ t.gateQ (txQueue m.val) = s.gateQ (txQueue m.val) ++ [⟨n, (wordsOctets (s.words (MG_TX_DATA m.val 0) 16)).take z⟩] ∧ t.get (MG_TX_TX_RESULT m.val) = 1 ∧ t.isSet (MG_TX_SEND m.val) = false ∧ (m.val < 2 → t.isSet ⟨MG_FLAGS (1 - m.val), 0, 0⟩ = true) ∧ t.kp.recs = s.kp.recs) ∧
  (∀ (m : MgBlock) (n : Nat) (s : State), s.stopped.contains (gateAgent m.val) = false → n = s.get (MG_TX_KIND m.val) → kindSent m.val n = false → exec (.mgSend (gateAgent m.val) m) s = .next (txResult m.val 3 (mgFlag m.val 1 (s.bump (MG_CNT m.val 2))))) ∧
  (∀ (m : MgBlock) (n : Nat) (s : State), s.stopped.contains (gateAgent m.val) = false → n = s.get (MG_TX_KIND m.val) → kindSent m.val n = true → kindLenOk m.val n (s.get (MG_TX_LEN m.val)) = false → exec (.mgSend (gateAgent m.val) m) s = .next (txResult m.val 4 (mgFlag m.val 2 (s.bump (MG_CNT m.val 3))))) ∧
  (∀ (m : MgBlock) (n : Nat) (s : State), s.stopped.contains (gateAgent m.val) = false → n = s.get (MG_TX_KIND m.val) → kindSent m.val n = true → kindLenOk m.val n (s.get (MG_TX_LEN m.val)) = true → 16 ≤ s.gateCount (txQueue m.val) → exec (.mgSend (gateAgent m.val) m) s = .next (txResult m.val 2 (mgFlag m.val 3 s))) ∧
  (∀ (n : Nat), (kindSent 0 n = true ↔ (n < 0x20 ∧ n ≠ 0x01)) ∧ (kindSent 1 n = true ↔ (0x20 ≤ n ∧ n < 0x40 ∧ n ≠ 0x21))) ∧
  (∀ (m : MgBlock) (g : GateMsg) (gs : List GateMsg) (s : State), s.gateQ (rxQueue m.val) = g :: gs → s.stopped.contains (gateAgent m.val) = false → ∃ t, exec (.mgPop (gateAgent m.val) m) s = .next t ∧ t.gateQ (rxQueue m.val) = gs ∧ t.regs = s.regs ∧ t.tally = s.tally) ∧
  (∀ (a : Agent) (m : MgBlock) (s : State), a ≠ gateAgent m.val → s.stopped.contains a = false → exec (.mgSend a m) s = .next (s.refuse a) ∧ exec (.mgPop a m) s = .next (s.refuse a)) ∧
  (∀ (bs : List Byte) (w : Word) (n : Nat) (i : Nat) (s : State), exec (.hostlinkStatus false) s = .next (hostEnd 1 [] s) ∧ exec (.hostlinkPut false bs) s = .next (hostEnd 1 [] s) ∧ exec (.hostlinkGet false) s = .next (hostEnd 1 [] s) ∧ exec (.hostlinkReset false w) s = .next (hostEnd 1 [] s) ∧ exec (.flashRead false n i) s = .next (hostEnd 1 [] s) ∧ exec (.flashWrite false n bs) s = .next (hostEnd 1 [] s) ∧ exec (.flashErase false n i) s = .next (hostEnd 1 [] s) ∧ exec (.reboot false) s = .next (hostEnd 1 [] s)) ∧
  (∀ (r : Nat) (bs : List Byte) (s : State), (hostEnd r bs s).kp.hostResult = r ∧ (hostEnd r bs s).kp.hostReply = bs ∧ (hostEnd r bs s).regs = s.regs ∧ (hostEnd r bs s).kp.gate = s.kp.gate) ∧
  (∀ (s : State), ∃ t, exec (.hostlinkStatus true) s = .next t ∧ t.kp.hostResult = 0 ∧ t.kp.hostReply.take 4 = wordOctets (s.reg KP_BOOT) ∧ t.regs = s.regs ∧ t.kp.gate = s.kp.gate) ∧
  (∀ (bs : List Byte) (s : State), s.Ok → 8 ≤ bs.length → bs.length ≤ 64 → 1 ≤ (bs.getD 0 0).toNat → (bs.getD 0 0).toNat ≤ 5 → s.gateCount 3 < 16 → ∃ t, exec (.hostlinkPut true bs) s = .next t ∧ t.gateQ 3 = s.gateQ 3 ++ [⟨(bs.getD 0 0).toNat, bs⟩] ∧ t.kp.hostResult = 0 ∧ t.isSet ⟨MG_FLAGS 2, 0, 0⟩ = true ∧ t.gateQ 2 = s.gateQ 2) ∧
  (∀ (bs : List Byte) (s : State), 8 ≤ bs.length → bs.length ≤ 64 → 1 ≤ (bs.getD 0 0).toNat → (bs.getD 0 0).toNat ≤ 5 → 16 ≤ s.gateCount 3 → exec (.hostlinkPut true bs) s = .next (hostEnd 2 [] s)) ∧
  (∀ (g : GateMsg) (gs : List GateMsg) (s : State), s.gateQ 2 = g :: gs → s.output 3 = false → ∃ t, exec (.hostlinkGet true) s = .next t ∧ t.gateQ 2 = gs ∧ t.kp.hostResult = 0 ∧ t.kp.hostReply = withCrc (bytesBE 2 g.bytes.length ++ g.bytes) ∧ t.regs = s.regs) ∧
  (∀ (s : State), s.gateQ 2 = [] → exec (.hostlinkGet true) s = .next (hostEnd 0 (withCrc [0, 0]) s)) ∧
  (∀ (w : Word) (s : State), (s.optFlag 3 = false ∨ w ≠ 0x52535421) → exec (.hostlinkReset true w) s = .next (hostEnd 4 [] s)) ∧
  (∀ (s : State), s.optFlag 3 = true → s.kp.asserted.testBit 7 = false → s.Ok → s.moduleHeld = false → ∃ t, exec (.hostlinkReset true 0x52535421) s = .next t ∧ t.kp.asserted.testBit 7 = true ∧ t.isSet ⟨KP_RST_CAUSE, 7, 7⟩ = true ∧ t.stopped.contains .tenant = true ∧ t.kp.hostResult = 0) ∧
  (∀ (n : Nat) (i : Nat) (bs : List Byte) (s : State), s.get KP_BOOT_STAGE = 7 → ∃ t u v, exec (.flashRead true n i) s = .next t ∧ t.kp.hostReply = withCrc (s.flashBytes n (i % 65536)) ∧ t.kp.flash = s.kp.flash ∧ exec (.flashWrite true n bs) s = .next u ∧ u.flashBytes n bs.length = (List.zipWith (· &&& ·) bs (s.flashBytes n bs.length)) ∧ exec (.flashErase true n i) s = .next v ∧ v.flashBytes n i = List.replicate i 0xFF) ∧
  (∀ (n : Nat) (i : Nat) (bs : List Byte) (s : State), s.get KP_BOOT_STAGE ≠ 7 → exec (.flashRead true n i) s = .next (hostEnd 4 [] s) ∧ exec (.flashWrite true n bs) s = .next (hostEnd 4 [] s) ∧ exec (.flashErase true n i) s = .next (hostEnd 4 [] s) ∧ exec (.reboot true) s = .next (hostEnd 4 [] s)) ∧
  (∀ (s : State), s.get KP_BOOT_STAGE = 7 → exec (.reboot true) s = .next (hostEnd 0 [] (bootSteps ((s.put KP_BOOT_STAGE 0).put KP_BOOT_OPT 0)))) ∧
  (∀ (n : Nat) (s : State), [1, 2, 3, 4, 0x10, 0x11, 0x12, 0x13].contains n = false → exec (.unknownOpcode n) s = .next (hostEnd 3 [] s)) ∧
  (∀ (n : Nat) (i : Nat) (y : Byte) (s : State), s.stopped.contains .host = false → 1 ≤ n → n ≤ 14 → ∃ t, exec (.hostRead n i y) s = .next t ∧ t.gateQ 2 = (readWords n i (takeRequest 1 y s)).2.gateQ 2 ++ [⟨1, bytesBE 1 1 ++ [y] ++ bytesBE 1 n ++ [Config.hostStatus (decide ((readWords n i (takeRequest 1 y s)).2.hostRefusals = (takeRequest 1 y s).hostRefusals))] ++ bytesBE 4 i ++ wordsOctets (readWords n i (takeRequest 1 y s)).1⟩]) ∧
  (∀ (i : Nat) (ws : List Word) (y : Byte) (s : State), s.stopped.contains .host = false → (s.hostMay = false ∨ ws = [] ∨ 14 < ws.length) → exec (.hostWrite i ws y) s = .next (hostReply 2 y ws.length i false [] ((takeRequest 2 y s).refuse .host))) ∧
  (∀ (i : Nat) (ws : List Word) (y : Byte) (s : State), s.stopped.contains .host = false → s.hostMay = true → 0 < ws.length → ws.length ≤ 14 → ∃ t u, exec (.hostWrite i ws y) s = .next t ∧ u = (takeRequest 2 y s).each ws.zipIdx (fun x s => writeAccess .host (i + 4 * x.2) 4 x.1 s) ∧ t = hostReply 2 y ws.length i (decide (u.hostRefusals = (takeRequest 2 y s).hostRefusals)) [] u)

/-- O56. The event fabric: deltas, counters, banks, the host event message, software sources, the permit -/
def Obligations.EventsAndPermits : Prop :=
  (∀ (n : Nat) (g : Nat) (r : Source) (s : State), s.Ok → g = r.val / 32 → n = s.tallyOf r.val → n ≠ 0 → s.mgmtStopped = false → sget (fun _ => 0) s.kp.counts r.val + n < 2 ^ 48 → ∃ t, exec (.tallyDeltaArrive r) s = .next t ∧ sget (fun _ => 0) t.kp.counts r.val = sget (fun _ => 0) s.kp.counts r.val + n ∧ t.tallyOf r.val = 0 ∧ (∀ b : Fin 5, t.pend b.val g = (if bankSees b.val g then s.pend b.val g ||| BitVec.ofNat 32 (2 ^ (r.val % 32)) else s.pend b.val g)) ∧ t.regs = s.regs ∧ t.kp.enab = s.kp.enab ∧ t.kp.wraps = s.kp.wraps) ∧
  (∀ (r : Source) (n : Nat) (s : State), s.Ok → n = s.tallyOf r.val → n ≠ 0 → n < 65536 → s.mgmtStopped = false → sget (fun _ => 0) s.kp.counts r.val < 2 ^ 48 → 2 ^ 48 ≤ sget (fun _ => 0) s.kp.counts r.val + n → ∃ t, exec (.tallyDeltaArrive r) s = .next t ∧ sget (fun _ => 0) t.kp.counts r.val = sget (fun _ => 0) s.kp.counts r.val + n - 2 ^ 48 ∧ (sget (fun _ => 0) t.kp.wraps (r.val / 32)).toNat.testBit (r.val % 32) = true ∧ t.isSet ⟨EV_FLAGS, 0, 0⟩ = true) ∧
  (∀ (r : Source) (s : State), (s.tallyOf r.val = 0 ∨ s.mgmtStopped = true) → exec (.tallyDeltaArrive r) s = .next s) ∧
  (∀ (r : Source) (d : Nat) (s : State), s.output 3 = false → (arrive r.val d s).output 3 = true → (s.gateQ 2).all (fun m => decide (m.kind ≠ 3)) = true → s.gateCount 2 < 16 → (arrive r.val d s).gateQ 2 = s.gateQ 2 ++ [⟨3, [3, 0, 0, 0, 0, 0, 0, 0] ++ bytesBE 6 ((arrive r.val d s).summary 3)⟩]) ∧
  (∀ (a : Agent) (g : Nat) (w : Word) (i : Fin 32) (s : State), s.stopped.contains a = false → s.served (swsetAgents g) a = true → ∃ t, exec (.swset a g w) s = .next t ∧ sget (fun _ => 0) t.kp.counts (32 * g + i.val) = (if w.toNat.testBit i.val then (sget (fun _ => 0) s.kp.counts (32 * g + i.val) + 1) % 2 ^ 48 else sget (fun _ => 0) s.kp.counts (32 * g + i.val)) ∧ (∀ b : Fin 5, bankSees b.val g = true → t.pend b.val g = s.pend b.val g ||| w)) ∧
  (∀ (a : Agent) (g : Nat) (w : Word) (s : State), s.stopped.contains a = false → s.served (swsetAgents g) a = false → exec (.swset a g w) s = .next (s.refuse a)) ∧
  (∀ (g : Nat) (a : Agent) (s : State), 4 ≤ g → g < 12 → (s.served (swsetAgents g) a = true ↔ (a = if g < 8 then .carrier else .tenant)) ∧ (∀ h, (h < 4 ∨ 12 ≤ h) → s.served (swsetAgents h) a = false)) ∧
  (∀ (w : Word) (s : State), s.stopped.contains .carrier = false → ∃ t, exec (.permitWrite .carrier false w) s = .next t ∧ t.heldWord .carrier 0x00605000 = some w ∧ t.kp = s.kp ∧ t.regs = s.regs ∧ t.tally = s.tally) ∧
  (∀ (w : Word) (lo : Nat) (v : Nat) (s : State), s.Ok → s.stopped.contains .carrier = false → lo = ((s.heldWord .carrier 0x00605000).map (fun x => x.toNat)).getD (s.kp.permit % 2 ^ 32) → v = (lo + w.toNat % 2 ^ 16 * 2 ^ 32) &&& carrierMask → ∃ t, exec (.permitWrite .carrier true w) s = .next t ∧ t.kp.permit = v ∧ t.heldWord .carrier 0x00605000 = none ∧ (v ≠ s.kp.permit → t.isSet ⟨EV_FLAGS, 1, 1⟩ = true) ∧ (v = s.kp.permit → t.reg EV_FLAGS = s.reg EV_FLAGS) ∧ (∀ x ∈ t.snaps, (x.agent = .tenant ∨ x.agent = .host) → 0x00600000 ≤ x.addr → x.addr < 0x00603000 → s.kp.permit.testBit ((x.addr - 0x00600000) / 256) = true → v.testBit ((x.addr - 0x00600000) / 256) = true) ∧ t.kp.counts = s.kp.counts) ∧
  (∀ (a : Agent) (h : Bool) (w : Word) (s : State), a ≠ .carrier → s.stopped.contains a = false → exec (.permitWrite a h w) s = .next (s.refuse a))

/-- O57. REST: the request and its refusals, the asked domains, wake events, exit and replay -/
def Obligations.RestEntryAndExit : Prop :=
  (∀ (a : Agent) (o : Option WakeEvent) (u : State) (s : State), s.stopped.contains a = false → a ≠ .host → u = restRequest o s → exec (.restRequest a o) s = .next (match o with | some w => (if u.get KP_PWR_STATUS_PHASE = 0 then wakeTarget w (restLatch w u) else restLatch w u) | none => u)) ∧
  (∀ (o : Option WakeEvent) (s : State), s.Ok → s.get KP_PWR_STATUS_PHASE ≠ 0 → (restRequest o s).get KP_PWR_REFUSE_DOMAIN = 0 ∧ (restRequest o s).get KP_PWR_REFUSE_REASON = 6 ∧ (restRequest o s).isSet ⟨KP_PWR_FLAGS, 2, 2⟩ = true ∧ (restRequest o s).kp = s.kp ∧ (restRequest o s).reg KP_PWR_STATUS = s.reg KP_PWR_STATUS) ∧
  (∀ (o : Option WakeEvent) (s : State), s.Ok → s.get KP_PWR_STATUS_PHASE = 0 → (s.isSet KP_PWR_CTRL_C_ALLOW = false ∨ s.isSet KP_PWR_CTRL_T_ALLOW = false) → (restRequest o s).get KP_PWR_REFUSE_DOMAIN = (if s.isSet KP_PWR_CTRL_C_ALLOW then 2 else 1) ∧ (restRequest o s).get KP_PWR_REFUSE_REASON = 5 ∧ (restRequest o s).isSet ⟨KP_PWR_FLAGS, 2, 2⟩ = true ∧ (restRequest o s).kp = s.kp ∧ (restRequest o s).reg KP_PWR_STATUS = s.reg KP_PWR_STATUS) ∧
  (∀ (o : Option WakeEvent) (w : WakeEvent) (s : State), s.Ok → s.get KP_PWR_STATUS_PHASE = 0 → s.isSet KP_PWR_CTRL_C_ALLOW = true → s.isSet KP_PWR_CTRL_T_ALLOW = true → o = some w → s.wakes w = true → (restRequest o s).get KP_PWR_REFUSE_DOMAIN = 0x3F ∧ (restRequest o s).get KP_PWR_REFUSE_REASON = 3 ∧ (restRequest o s).isSet ⟨KP_PWR_FLAGS, 2, 2⟩ = true ∧ (restRequest o s).kp = s.kp ∧ (restRequest o s).reg KP_PWR_STATUS = s.reg KP_PWR_STATUS ∧ (restRequest o s).isSet ⟨KP_PWR_FLAGS, 3, 3⟩ = true) ∧
  (∀ (a : Agent) (s : State), s.stopped.contains a = false → a ≠ .host → s.Ok → s.get KP_PWR_STATUS_PHASE = 0 → s.isSet KP_PWR_CTRL_C_ALLOW = true → s.isSet KP_PWR_CTRL_T_ALLOW = true → ∃ t, exec (.restRequest a none) s = .next t ∧ t.get KP_PWR_STATUS_PHASE = 1 ∧ t.get KP_PWR_STATUS_STEP = 11 ∧ t.isSet KP_PWR_CTRL_REQ = true ∧ t.kp.restStep = 1 ∧ t.kp.askedAt = s.now ∧ t.stopped = s.stopped ∧ t.tally = s.tally) ∧
  (∀ (s : State), s.get KP_PWR_STATUS_PHASE ≠ 1 → exec .restDomainAnswer s = .next s) ∧
  (∀ (n : Nat) (s : State), n = s.kp.restStep → s.get KP_PWR_STATUS_PHASE = 1 → s.Ok → n < 32 → s.restAnswer n = .refuse → ∃ t, exec .restDomainAnswer s = .next t ∧ t.get KP_PWR_STATUS_PHASE = 3 ∧ t.isSet KP_PWR_CTRL_REQ = false ∧ t.get KP_PWR_REFUSE_DOMAIN = restDomain n ∧ t.get KP_PWR_REFUSE_REASON = 1 ∧ t.get KP_PWR_REFUSE_STEP = n ∧ t.isSet ⟨KP_PWR_FLAGS, 2, 2⟩ = true ∧ t.kp = s.kp ∧ t.stopped = s.stopped) ∧
  (∀ (n : Nat) (s : State), n = s.kp.restStep → s.get KP_PWR_STATUS_PHASE = 1 → s.restAnswer n = .delay → exec .restDomainAnswer s = .next s) ∧
  (∀ (n : Nat) (s : State), n = s.kp.restStep → s.get KP_PWR_STATUS_PHASE = 1 → s.Ok → n < 20 → s.restAnswer n = .agree → ∃ t, exec .restDomainAnswer s = .next t ∧ t.get KP_PWR_STATUS_PHASE = 1 ∧ t.kp.restStep = n + 1 ∧ t.get KP_PWR_STATUS_STEP = restDomain (n + 1) ∧ t.kp.askedAt = s.now ∧ t.kp.stopSteps = n :: s.kp.stopSteps ∧ t.stopped = t.heldAgents ∧ t.kp.recs = s.kp.recs) ∧
  (∀ (s : State), s.kp.restStep = 20 → s.get KP_PWR_STATUS_PHASE = 1 → s.Ok → ∃ t, exec .restDomainAnswer s = .next t ∧ t.get KP_PWR_STATUS_PHASE = 2 ∧ t.isSet KP_PWR_CTRL_REQ = false ∧ t.isSet ⟨KP_PWR_FLAGS, 0, 0⟩ = true ∧ t.kp.stopSteps = 20 :: s.kp.stopSteps ∧ t.powerState = 3) ∧
  (∀ (n : Nat) (s : State), (n = 18 ∨ n = 19) → s.restAnswer n = (if s.isSet (if n = 18 then KP_PWR_CTRL_T_ALLOW else KP_PWR_CTRL_C_ALLOW) then .agree else .refuse) ∧ s.restAnswer 1 = (if (∀ f : Framer, s.isSet (CF_CFG_EN f.val) = false) then .agree else .refuse)) ∧
  (∀ (s : State), s.get KP_PWR_STATUS_PHASE = 1 → s.restAnswer s.kp.restStep = .delay → exec .restDelayExpiry s = .next (refuseEntry (restDomain s.kp.restStep) 2 (s.until (s.kp.askedAt + 1000000)))) ∧
  (∀ (s : State), (s.get KP_PWR_STATUS_PHASE ≠ 1 ∨ s.restAnswer s.kp.restStep ≠ .delay) → exec .restDelayExpiry s = .next s) ∧
  (∀ (w : WakeEvent) (s : State), (∀ e c, w ≠ .line e c) → (∀ l, w ≠ .lane l) → exec (.restWake w) s = .next (restLatch w s)) ∧
  (∀ (e : Engine) (c : WakeCause) (l : Lane) (s : State), exec (.restWake (.line e c)) s = .next (wakeEvent e (wakeCode c) s) ∧ exec (.restWake (.lane l)) s = .next (if s.isSet (CL_CFG_WAKE_EN l.val) then (if s.get KP_PWR_STATUS_PHASE = 0 then wakeTarget (.lane l) (restLatch (.lane l) s) else restLatch (.lane l) s) else s)) ∧
  (∀ (w : WakeEvent) (s : State), s.wakes w = false → restLatch w s = s) ∧
  (∀ (w : WakeEvent) (s : State), s.Ok → s.kp.restStep < 32 → s.wakes w = true → s.get KP_PWR_STATUS_PHASE = 1 → (restLatch w s).get KP_WAKE_LAST_SOURCE = (wakeCoding w).1 ∧ (restLatch w s).get KP_WAKE_LAST_INDEX = (wakeCoding w).2 % 256 ∧ (restLatch w s).isSet KP_WAKE_LAST_AFTER_PNR = false ∧ (restLatch w s).get KP_PWR_STATUS_PHASE = 3 ∧ (restLatch w s).isSet KP_PWR_CTRL_REQ = false ∧ (restLatch w s).get KP_PWR_REFUSE_REASON = 4 ∧ (restLatch w s).get KP_PWR_REFUSE_DOMAIN = 0x3F ∧ (restLatch w s).get KP_PWR_REFUSE_STEP = s.kp.restStep ∧ (restLatch w s).isSet ⟨KP_PWR_FLAGS, 2, 2⟩ = true ∧ (restLatch w s).kp.wake = some (s.kp.wake.getD w)) ∧
  (∀ (w : WakeEvent) (s : State), s.Ok → s.wakes w = true → s.get KP_PWR_STATUS_PHASE = 2 → (restLatch w s).get KP_WAKE_LAST_SOURCE = (wakeCoding w).1 ∧ (restLatch w s).get KP_WAKE_LAST_INDEX = (wakeCoding w).2 % 256 ∧ (restLatch w s).isSet KP_WAKE_LAST_AFTER_PNR = true ∧ (restLatch w s).get KP_PWR_STATUS_PHASE = 3 ∧ (restLatch w s).kp.wake = some (s.kp.wake.getD w) ∧ (restLatch w s).tally = s.tally) ∧
  (∀ (w : WakeEvent) (s : State), s.Ok → s.wakes w = true → s.get KP_PWR_STATUS_PHASE = 0 → (restLatch w s).get KP_WAKE_LAST_SOURCE = (wakeCoding w).1 ∧ (restLatch w s).get KP_WAKE_LAST_INDEX = (wakeCoding w).2 % 256 ∧ (restLatch w s).kp = s.kp ∧ (restLatch w s).reg KP_PWR_STATUS = s.reg KP_PWR_STATUS ∧ (restLatch w s).tally = s.tally) ∧
  (∀ (s : State), s.wakes .exit = true ∧ s.wakes .powerFail = true ∧ s.wakes .therm = true ∧ (∀ d, s.wakes (.access d) = true) ∧ (∀ r, s.wakes (.tally r) = (s.mgmtStopped && decide (32768 ≤ s.tallyOf r.val)))) ∧
  (∀ (s : State), s.get KP_PWR_STATUS_PHASE ≠ 3 → exec .restExitDone s = .next s) ∧
  (∀ (s : State), s.Ok → s.get KP_PWR_STATUS_PHASE = 3 → ∃ t, exec .restExitDone s = .next t ∧ t.get KP_PWR_STATUS_PHASE = 0 ∧ t.get KP_PWR_STATUS_STEP = 0 ∧ t.kp.stopSteps = [] ∧ t.kp.wake = none ∧ t.stopped = t.heldAgents ∧ (s.kp.stopSteps.contains 20 = true → t.isSet ⟨KP_PWR_FLAGS, 1, 1⟩ = true) ∧ (s.kp.wake.isSome = true → t.isSet KP_WAKE_LAST_REPLAYED = true ∧ t.isSet ⟨KP_PWR_FLAGS, 4, 4⟩ = true)) ∧
  (∀ (l : Lane) (s : State), s.Ok → s.get KP_PWR_STATUS_PHASE = 3 → s.kp.wake = none → s.kp.stopSteps.contains (2 + l.val / 16) = true → s.isSet (CL_CFG_EN l.val) = true → 2 ≤ s.stage l.val → s.stage l.val ≤ 6 → ∃ t, exec .restExitDone s = .next t ∧ t.stage l.val = s.startStage l.val ∧ t.get (CL_STATUS_STRIKES l.val) = s.get (CL_STATUS_STRIKES l.val)) ∧
  (∀ (a : Agent) (s : State), s.stopped.contains a = false → a ≠ .host → exec (.pwrExit a) s = .next (restLatch .exit s)) ∧
  (∀ (a : Agent) (o : Option WakeEvent) (s : State), a = .host → s.stopped.contains a = false → exec (.pwrExit a) s = .next (s.refuse a) ∧ exec (.restRequest a o) s = .next (s.refuse a)) ∧
  (∀ (n : Nat) (s : State), s.earliestArmed = some n → exec .actionLeadWake s = .next (restLatch .action (s.reachHouse (n - 3000 * micro)))) ∧
  (∀ (s : State), s.earliestArmed = none → exec .actionLeadWake s = .next s)

/-- O58. Gating and its wake, the power-fail event, stopped clocks and access watchdogs, GPIO, THERM_N -/
def Obligations.GatingPowerFailAndHangs : Prop :=
  (∀ (a : Agent) (h : Bool) (w : Word) (d : PowerDom) (s : State), s.Ok → s.stopped.contains a = false → a ≠ .host → h = decide (32 ≤ d.val) → ∃ t, exec (.powerGateWrite a h w) s = .next t ∧ t.gated d.val = (if gateOwner d.val = some a then (w.toNat.testBit (d.val % 32) && (s.gated d.val || (!s.domainBusy d.val && decide (s.powerState = 0)))) else s.gated d.val) ∧ (gateOwner d.val = some a → w.toNat.testBit (d.val % 32) = true → s.gated d.val = false → (s.domainBusy d.val = true ∨ s.powerState ≠ 0) → t.isSet ⟨KP_PWR_FLAGS, 6, 6⟩ = true) ∧ t.kp = s.kp) ∧
  (∀ (d : PowerDom), (11 ≤ d.val ∧ d.val ≤ 19) → gateOwner d.val = some .tenant ∧ (∀ e : PowerDom, (e.val ≤ 10 ∨ e.val = 20 ∨ (26 ≤ e.val ∧ e.val ≤ 28) ∨ 34 ≤ e.val) → gateOwner e.val = none) ∧ (∀ e : PowerDom, ((21 ≤ e.val ∧ e.val ≤ 25) ∨ (29 ≤ e.val ∧ e.val ≤ 33)) → gateOwner e.val = some .carrier)) ∧
  (∀ (d : PowerDom) (s : State), s.Ok → s.gated d.val = true → s.get KP_PWR_STATUS_PHASE = 0 → ∃ t, exec (.accessWake d) s = .next t ∧ t.gated d.val = false ∧ t.isSet ⟨KP_PWR_FLAGS, 5, 5⟩ = true ∧ t.get KP_WAKE_LAST_SOURCE = 10 ∧ t.get KP_WAKE_LAST_INDEX = d.val ∧ t.kp = s.kp) ∧
  (∀ (d : PowerDom) (s : State), s.gated d.val = false → exec (.accessWake d) s = .next (if s.get KP_PWR_STATUS_PHASE = 2 ∧ (∃ n ∈ s.kp.stopSteps, restDomain n = d.val) then restLatch (.access d) s else s)) ∧
  (∀ (v : Nat) (s : State), s.Ok → v < 65536 → ∃ t, exec (.pfailMonitorArm v) s = .next t ∧ t.get KP_VIN_VIN = v ∧ t.kp.armed = (s.kp.armed || (decide (s.get KP_SUPPLY_WI_THR < v) && !s.moduleHeld)) ∧ t.tally = s.tally ∧ t.kp.recs = s.kp.recs) ∧
  (∀ (p : Bool) (v : Nat) (s : State), s.Ok → v < 65536 → (s.kp.armed = false ∨ ¬ (p = true ∧ s.pfailEnabled = true ∨ v < s.get KP_SUPPLY_DG_THR)) → exec (.powerFailEvent p v) s = .next (if p = true ∧ s.pfailEnabled = true then (s.put KP_VIN_VIN v).putB KP_VIN_PFAIL true else s.put KP_VIN_VIN v)) ∧
  (∀ (p : Bool) (v : Nat) (l : Lane) (e : Engine) (c : Ch) (s : State), s.Ok → v < 65536 → s.kp.armed = true → (p = true ∧ s.pfailEnabled = true ∨ v < s.get KP_SUPPLY_DG_THR) → s.kp.shed = false → s.get KP_PWR_STATUS_PHASE = 0 → (e ≠ s.active ∨ c ≠ 0) → ∃ t, exec (.powerFailEvent p v) s = .next t ∧ t.isSet KP_VIN_DG_ACTIVE = true ∧ t.isSet ⟨KP_START_FLAGS, 6, 6⟩ = true ∧ t.get KP_WAKE_LAST_SOURCE = 7 ∧ t.kp.shed = true ∧ t.stopped = t.heldAgents ∧ t.stopped.contains .tenant = true ∧ t.stage l.val = (if s.stage l.val = 7 then 7 else 0) ∧ t.act e c = 0 ∧ t.act s.active 0 = s.act s.active 0 ∧ t.isSet (PFE_CTRL_COOL_EN e.n) = false ∧ t.kp.recs = s.kp.recs) ∧
  (∀ (p : Bool) (v : Nat) (s : State), v < 65536 → s.kp.armed = true → (p = true ∧ s.pfailEnabled = true ∨ v < s.get KP_SUPPLY_DG_THR) → s.kp.shed = true → s.stopped = s.heldAgents → s.stopped.contains .carrier = false → s.gateCount 1 < 16 → s.Ok → ∃ t, exec (.powerFailEvent p v) s = .next t ∧ (t.gateQ 1).map (fun m => (m.kind, m.bytes.length)) = (s.gateQ 1).map (fun m => (m.kind, m.bytes.length)) ++ [(0x0D, 4)] ∧ t.isSet ⟨MG_FLAGS 1, 0, 0⟩ = true) ∧
  (∀ (v : Nat) (s : State), s.isSet KP_VIN_DG_ACTIVE = true → s.get KP_SUPPLY_WI_THR < v → exec (.gaspRecoveryReset v) s = .next (assertSource 2 (s.put KP_VIN_VIN v))) ∧
  (∀ (v : Nat) (s : State), s.Ok → v < 65536 → (s.isSet KP_VIN_DG_ACTIVE = false ∨ v ≤ s.get KP_SUPPLY_WI_THR) → exec (.gaspRecoveryReset v) s = .next (s.put KP_VIN_VIN v)) ∧
  (∀ (k : Fin 10) (s : State), s.Ok → s.clockGated k.val = false → ∃ t, exec (.clockFail k) s = .next t ∧ t.isSet (KP_CLK_STATUS_FAILED.bit k.val) = true ∧ (∀ j : Fin 10, j ≠ k → t.isSet (KP_CLK_STATUS_FAILED.bit j.val) = s.isSet (KP_CLK_STATUS_FAILED.bit j.val)) ∧ t.isSet ⟨KP_PWR_FLAGS, 7, 7⟩ = true ∧ t.kp = s.kp ∧ t.stopped = s.stopped) ∧
  (∀ (k : Fin 10) (s : State), s.clockGated k.val = true → exec (.clockFail k) s = .next s) ∧
  (∀ (a : Agent) (s : State), s.stopped.contains a = false → exec (.accessTimeout a) s = .next (assertSource (match a with | .carrier => 16 | .tenant => 17 | .keeper => 18 | .host => 19) (pwrFlag 8 s))) ∧
  (∀ (a : Agent) (s : State), s.stopped.contains a = true → exec (.accessTimeout a) s = .next s) ∧
  (∀ (n : Fin 16) (b : Bool) (z : Nat) (s : State), z < 40 → exec (.gpioEdge n b z) s = .next s) ∧
  (∀ (n : Fin 16) (b : Bool) (z : Nat) (s : State), 40 ≤ z → z < 80 → (Config.band s.freeCtr = true → exec (.gpioEdge n b z) s = .next (gpioSeen n b { s with freeCtr := s.freeCtr + 1 })) ∧ (Config.band s.freeCtr = false → exec (.gpioEdge n b z) s = .next { s with freeCtr := s.freeCtr + 1 })) ∧
  (∀ (n : Fin 16) (b : Bool) (z : Nat) (s : State), 80 ≤ z → s.isSet (gpioF n.val 31 31) = b → exec (.gpioEdge n b z) s = .next s) ∧
  (∀ (n : Fin 16) (b : Bool) (z : Nat) (s : State), 80 ≤ z → s.Ok → s.isSet (gpioF n.val 31 31) = (!b) → (s.gpioMode n.val = 0 ∧ (if b = true then s.get (gpioF n.val 13 12) % 2 = 1 else s.get (gpioF n.val 13 12) / 2 = 1)) → s.tallyOf (64 + n.val) < 65535 → ∃ t, exec (.gpioEdge n b z) s = .next t ∧ t.isSet (gpioF n.val 31 31) = b ∧ t.tallyOf (64 + n.val) = s.tallyOf (64 + n.val) + 1 ∧ (s.isSet (KP_WAKE_EN_GPIO.bit n.val) = true → t.get KP_WAKE_LAST_SOURCE = 4 ∧ t.get KP_WAKE_LAST_INDEX = n.val) ∧ (s.isSet (KP_WAKE_EN_GPIO.bit n.val) = false → t.reg KP_WAKE_LAST = s.reg KP_WAKE_LAST) ∧ (s.isPfail n.val = true → t.isSet KP_VIN_PFAIL = (!b))) ∧
  (∀ (n : Fin 16) (b : Bool) (z : Nat) (s : State), 80 ≤ z → s.Ok → s.isSet (gpioF n.val 31 31) = (!b) → ¬ (s.gpioMode n.val = 0 ∧ (if b = true then s.get (gpioF n.val 13 12) % 2 = 1 else s.get (gpioF n.val 13 12) / 2 = 1)) → ∃ t, exec (.gpioEdge n b z) s = .next t ∧ t.isSet (gpioF n.val 31 31) = b ∧ t.tally = s.tally ∧ t.kp = s.kp ∧ regsKept [0x300 + 4 * n.val, KP_VIN] s t) ∧
  (∀ (i : Int) (s : State), 105 ≤ i → s.kp.hot = false → s.tallyOf 80 < 65535 → s.Ok → ∃ t, exec (.thermNChange i) s = .next t ∧ t.thermN = true ∧ t.tallyOf 80 = s.tallyOf 80 + 1 ∧ t.get KP_WAKE_LAST_SOURCE = 8) ∧
  (∀ (i : Int) (s : State), (105 ≤ i ∧ s.kp.hot = true ∨ 100 ≤ i ∧ i < 105) → exec (.thermNChange i) s = .next s) ∧
  (∀ (i : Int) (s : State), i < 100 → ∃ t, exec (.thermNChange i) s = .next t ∧ t.thermN = false ∧ t.regs = s.regs ∧ t.tally = s.tally) ∧
  (∀ (a : Agent) (h : Bool) (w : Word) (s : State), a = .host → s.stopped.contains a = false → exec (.powerGateWrite a h w) s = .next (s.refuse a))

/-- O59. The reset sources: their reaches, assertion, release, holds, watchdogs and software resets -/
def Obligations.ResetSources : Prop :=
  (∀ (n : Fin 20) (s : State), s.Ok → s.kp.asserted.testBit n.val = false → (assertSource n.val s).kp.asserted.testBit n.val = true ∧ (assertSource n.val s).isSet ⟨KP_RST_CAUSE, n.val, n.val⟩ = true ∧ (assertSource n.val s).stopped = (assertSource n.val s).heldAgents ∧ (assertSource n.val s).nvmCsN = true ∧ ((sourceReach n.val = .full ∨ sourceReach n.val = .module) → (assertSource n.val s).moduleHeld = true ∧ (assertSource n.val s).kp.driving = true)) ∧
  (∀ (n : Fin 20) (s : State), s.kp.asserted.testBit n.val = true → (assertSource n.val s) = s) ∧
  (∀ (n : Fin 20) (m : Fin 20) (s : State), s.Ok → s.kp.asserted.testBit n.val = false → m ≠ n → sourceReach n.val ≠ .full → (assertSource n.val s).kp.asserted.testBit m.val = s.kp.asserted.testBit m.val ∧ (assertSource n.val s).isSet ⟨KP_RST_CAUSE, m.val, m.val⟩ = s.isSet ⟨KP_RST_CAUSE, m.val, m.val⟩) ∧
  ((∀ n : Fin 20, (sourceReach n.val = .full ↔ n.val ∈ [0, 3, 9, 18]) ∧ (sourceReach n.val = .module ↔ n.val ∈ [1, 2, 6, 8, 10]) ∧ (sourceReach n.val = .carrier ↔ n.val ∈ [4, 11, 16]) ∧ (sourceReach n.val = .tenant ↔ n.val ∈ [5, 7, 12, 17]) ∧ (sourceReach n.val = .engine .la ↔ n.val = 13) ∧ (sourceReach n.val = .engine .lb ↔ n.val = 14) ∧ (sourceReach n.val = .block ↔ n.val = 15) ∧ (sourceReach n.val = .proxy ↔ n.val = 19))) ∧
  (∀ (s : State), exec .por s = .next (assertSource 0 s)) ∧
  (∀ (v : Nat) (s : State), exec (.brownout v) s = .next (if v < 405 then assertSource 2 (s.put KP_VIN_VIN v) else s.put KP_VIN_VIN v)) ∧
  (∀ (i : Int) (s : State), exec (.thermalReset i) s = .next (if 115 ≤ i then assertSource 8 (thermLevel i s) else thermLevel i s)) ∧
  (∀ (n : Nat) (s : State), (s.kp.driving = true ∨ n < 2000) → exec (.resetNLow n) s = .next s) ∧
  (∀ (n : Nat) (s : State), s.kp.driving = false → 10000 ≤ n → exec (.resetNLow n) s = .next (assertSource 1 s)) ∧
  (∀ (n : Nat) (s : State), s.kp.driving = false → 2000 ≤ n → n < 10000 → (Config.band s.freeCtr = true → exec (.resetNLow n) s = .next (assertSource 1 { s with freeCtr := s.freeCtr + 1 })) ∧ (Config.band s.freeCtr = false → exec (.resetNLow n) s = .next { s with freeCtr := s.freeCtr + 1 })) ∧
  (∀ (s : State), s.kp.driving = true → (∀ n ∈ [0, 2, 3, 6, 8, 9, 10, 18], s.kp.asserted.testBit n = false) → s.Ok → ∃ t, exec .resetNDriveEnd s = .next t ∧ t.kp.driving = false ∧ t.kp.asserted = s.kp.asserted ∧ t.stopped = t.heldAgents ∧ t.moduleHeld = s.kp.asserted.testBit 1) ∧
  (∀ (s : State), (s.kp.driving = false ∨ ¬ (∀ n ∈ [0, 2, 3, 6, 8, 9, 10, 18], s.kp.asserted.testBit n = false)) → exec .resetNDriveEnd s = .next s) ∧
  (∀ (x : Fin 3) (s : State), exec (.watchdogExpiry x) s = .next (if s.stopped.contains ([Agent.keeper, .carrier, .tenant].getD x.val .keeper) then s else assertSource (3 + x.val) (s.until (sget (fun _ => 0) s.kp.kicked x.val + s.get ⟨KP_WDOG0 + 4 * x.val, 7, 0⟩ * 10000000)))) ∧
  (∀ (x : Fin 3) (a : Agent) (s : State), s.Ok → s.stopped.contains a = false → a = [Agent.keeper, .carrier, .tenant].getD x.val .keeper → ∃ t, exec (.wdogKick a x) s = .next t ∧ sget (fun _ => 0) t.kp.kicked x.val = s.now ∧ t.isSet ⟨KP_WDOG0 + 4 * x.val, 31, 31⟩ = false ∧ t.kp.asserted = s.kp.asserted ∧ t.tally = s.tally) ∧
  (∀ (s : State), s.stopped.contains .keeper = false → exec (.rstFull .keeper) s = .next (assertSource 9 s) ∧ exec (.rstModule .keeper) s = .next (assertSource 10 s) ∧ exec (.rstTenant .keeper) s = .next (assertSource 12 s) ∧ exec (.rstCarrier .keeper) s = .next (assertSource 11 s)) ∧
  (∀ (s : State), s.stopped.contains .tenant = false → exec (.rstTenant .tenant) s = .next (assertSource 12 s) ∧ exec (.rstFull .tenant) s = .next (s.refuse .tenant) ∧ exec (.rstModule .tenant) s = .next (s.refuse .tenant) ∧ exec (.rstCarrier .tenant) s = .next (s.refuse .tenant) ∧ exec (.heReboot .tenant) s = .next (s.refuse .tenant)) ∧
  (∀ (e : Engine) (s : State), s.stopped.contains .carrier = false → exec (.rstCarrier .carrier) s = .next (assertSource 11 s) ∧ exec (.rstEngine .carrier e) s = .next (assertSource (13 + e.n) s) ∧ exec (.rstTenant .carrier) s = .next (s.refuse .carrier) ∧ exec (.heReboot .carrier) s = .next (s.putB KP_RST_CTRL_HE_REBOOT true)) ∧
  (∀ (s : State), exec .heRebootReset s = .next (if s.isSet KP_RST_CTRL_HE_REBOOT then assertSource 6 s else s)) ∧
  (∀ (a : Agent) (e : Engine) (m : BitVec 4) (x : Fin 3) (s : State), a = .host → s.stopped.contains a = false → exec (.rstFull a) s = .next (s.refuse a) ∧ exec (.rstModule a) s = .next (s.refuse a) ∧ exec (.rstEngine a e) s = .next (s.refuse a) ∧ exec (.rstTenant a) s = .next (s.refuse a) ∧ exec (.rstCarrier a) s = .next (s.refuse a) ∧ exec (.rstHold a m) s = .next (s.refuse a) ∧ exec (.wdogKick a x) s = .next (s.refuse a)) ∧
  (∀ (m : BitVec 4) (i : Fin 4) (s : State), s.Ok → s.stopped.contains .keeper = false → (s.get KP_RST_CTRL_HOLD).testBit i.val ≠ m.toNat.testBit i.val → ∃ t, exec (.rstHold .keeper m) s = .next t ∧ t.get KP_RST_CTRL_HOLD = m.toNat ∧ t.kp.asserted.testBit (11 + i.val) = m.toNat.testBit i.val ∧ (m.toNat.testBit i.val = true → s.kp.asserted.testBit (11 + i.val) = false → t.isSet ⟨KP_RST_CAUSE, 11 + i.val, 11 + i.val⟩ = true)) ∧
  (∀ (a : Agent) (n : Nat) (i : Nat) (s : State), s.Ok → s.stopped.contains a = false → s.served [.tenant, .host] a = true → n < 2 → i < 128 → s.kp.asserted.testBit 15 = false → ∃ t, exec (.rstBlockGo a n i) s = .next t ∧ t.kp.asserted.testBit 15 = true ∧ t.isSet KP_RST_BLOCK_GO = true ∧ t.get KP_RST_BLOCK_TARGET = n ∧ t.get KP_RST_BLOCK_INDEX = i) ∧
  (∀ (i : Nat) (s : State), s.stopped.contains .host = false → s.hostMay = true → s.Ok → (exec (.rstBlockGo .host 2 i) s = .next ((s.put KP_RST_BLOCK_TARGET 2).put KP_RST_BLOCK_INDEX i))) ∧
  (∀ (a : Agent) (n : Nat) (i : Nat) (s : State), s.stopped.contains a = false → s.served [.tenant, .host] a = false → exec (.rstBlockGo a n i) s = .next (s.refuse a)) ∧
  (∀ (r : Fin 20) (s : State), s.Ok → s.kp.asserted.testBit r.val = true → (r.val = 1 → s.kp.driving = false) → s.holdsSource r.val = false → ∃ t, exec (.resetRelease r) s = .next t ∧ t.kp.asserted = s.kp.asserted - 2 ^ r.val ∧ t.stopped = t.heldAgents ∧ (r.val = 15 → t.isSet KP_RST_BLOCK_GO = false) ∧ t.reg KP_RST_CAUSE = s.reg KP_RST_CAUSE ∧ (t.carrierHeld = false → s.carrierHeld = true → s.get KP_BOOT_C_STAGE = 2 → t.get KP_BOOT_C_STAGE = 4) ∧ (t.tenantHeld = false → s.tenantHeld = true → s.get KP_BOOT_T_STAGE = 2 → t.get KP_BOOT_T_STAGE = 3)) ∧
  (∀ (r : Fin 20) (e : Engine) (c : Ch) (s : State), s.Ok → r.val = 13 + e.n → s.kp.asserted = 2 ^ r.val → s.kp.driving = false → s.holdsSource r.val = false → ∃ t, exec (.resetRelease r) s = .next t ∧ t.kp.asserted = 0 ∧ t.act e c = 0 ∧ t.get (PFE_STATUS_LATCH e.n) = 0 ∧ t.isSet (PFE_STATUS_INHIBIT e.n) = true ∧ t.isSet (TC_ACT_CTRL_ACT_EN e.n) = false ∧ regsSame 0x01000000 0x04C00000 (fun _ => False) s t) ∧
  (∀ (r : Fin 20) (s : State), (s.kp.asserted.testBit r.val = false ∨ (r.val = 1 ∧ s.kp.driving = true) ∨ s.holdsSource r.val = true) → exec (.resetRelease r) s = .next s) ∧
  (∀ (s : State), s.tenantHeld = (s.moduleHeld || s.kp.asserted.testBit 5 || s.kp.asserted.testBit 7 || s.kp.asserted.testBit 12 || s.kp.asserted.testBit 17) ∧ s.carrierHeld = (s.moduleHeld || s.kp.asserted.testBit 4 || s.kp.asserted.testBit 11 || s.kp.asserted.testBit 16) ∧ (∀ e, s.engineHeld e = (s.carrierHeld || s.kp.asserted.testBit (13 + e.n))))

/-- O60. What each reset reach clears and what stands through it -/
def Obligations.ResetReaches : Prop :=
  (∀ (s : State), s.Ok → s.kp.asserted = 0 → s.kp.driving = false → s.stopped.contains .keeper = false → ∃ t, exec (.rstModule .keeper) s = .next t ∧ regsFresh 0x00400000 0x05000000 (fun _ => False) t ∧ t.te = {} ∧ t.lanes = [] ∧ t.ports = [] ∧ t.frames = [] ∧ t.qs = {} ∧ t.pair = {} ∧ t.kp.recs = s.kp.recs ∧ t.kp.storeValid = s.kp.storeValid ∧ t.kp.flash = s.kp.flash ∧ t.kp.counts = [] ∧ t.kp.permit = 0 ∧ t.kp.booted = false ∧ t.kp.unreleased = true ∧ t.get KP_BOOT_STAGE = 0 ∧ t.reg KP_SUPPLY = s.reg KP_SUPPLY ∧ t.reg KP_WAKE_EN = s.reg KP_WAKE_EN ∧ t.pending = s.pending ∧ t.now = s.now) ∧
  (∀ (s : State), s.Ok → s.kp.asserted = 0 → s.kp.driving = false → s.stopped.contains .keeper = false → ∃ t, exec (.rstFull .keeper) s = .next t ∧ regsFresh 0x00400000 0x05000000 (fun _ => False) t ∧ t.reg KP_RST_CAUSE = 0x200 ∧ t.reg KP_WAKE_EN = regReset KP_WAKE_EN ∧ t.reg KP_SVN_MIN = s.reg KP_SVN_MIN ∧ t.kp.recs = [] ∧ t.kp.storeValid = false ∧ t.kp.flash = s.kp.flash ∧ t.sram = [] ∧ t.kp.unreleased = true ∧ t.stopped.contains .keeper = true ∧ t.pending = s.pending) ∧
  (∀ (e : Engine) (c : Ch) (s : State), s.Ok → s.kp.asserted = 0 → s.kp.driving = false → s.stopped.contains .keeper = false → ∃ t, exec (.rstCarrier .keeper) s = .next t ∧ regsSame 0x01000000 0x04000000 (fun _ => False) s t ∧ t.get PX_STATUS_ACTIVE = s.get PX_STATUS_ACTIVE ∧ t.act e c = 0 ∧ t.get (PFE_STATUS_ROGUE_OFF e.n) = s.get (PFE_STATUS_ROGUE_OFF e.n) ∧ t.isSet (PFE_STATUS_INHIBIT e.n) = true ∧ t.get (PFE_STATUS_LATCH e.n) = 0 ∧ t.kp.permit = 0 ∧ (∀ g : Fin 48, t.pend 0 g.val = 0 ∧ t.enab 0 g.val = 0 ∧ t.pend 1 g.val = s.pend 1 g.val) ∧ t.kp.counts = s.kp.counts ∧ t.kp.recs = s.kp.recs ∧ t.kp.alarmC = true ∧ t.stopped.contains .carrier = true ∧ t.te.dom0 = s.te.dom0 ∧ (∃ m ∈ t.gateQ 1, m.kind = 1)) ∧
  (∀ (l : Lane) (s : State), s.Ok → s.kp.asserted = 0 → s.kp.driving = false → s.stopped.contains .keeper = false → ∃ t, exec (.rstTenant .keeper) s = .next t ∧ regsFresh 0x01400000 0x02000000 (fun _ => False) t ∧ regsSame 0x04C00000 0x05000000 (fun _ => False) s t ∧ regsSame 0x08000000 0x10000000 (fun _ => False) s t ∧ t.stage l.val = (if s.stage l.val = 7 then 7 else 0) ∧ (∀ b : Fin 52, t.isSet (CX_BANK_RETIRED b.val) = s.isSet (CX_BANK_RETIRED b.val)) ∧ (∀ i : Fin 48, t.armed i.val = false) ∧ t.kp.permit = s.kp.permit ∧ t.kp.recs = s.kp.recs ∧ t.kp.counts = s.kp.counts ∧ t.gateQ 1 = [] ∧ t.gateQ 2 = [] ∧ t.gateQ 3 = [] ∧ (∃ m ∈ t.gateQ 0, m.kind = 0x21) ∧ t.kp.alarmT = true ∧ t.stopped.contains .tenant = true ∧ t.stopped.contains .host = true ∧ t.te.dom0 = s.te.dom0 ∧ t.lines = s.lines ∧ t.pair = s.pair) ∧
  (∀ (e : Engine) (c : Ch) (s : State), s.Ok → s.kp.asserted = 0 → s.kp.driving = false → s.stopped.contains .carrier = false → s.active ≠ e → ∃ t, exec (.rstEngine .carrier e) s = .next t ∧ regsSame (0x08000000 + 0x04000000 * e.peer.n) (0x0C000000 + 0x04000000 * e.peer.n) (fun a => a = TC_ACT_STATUS e.peer.n) s t ∧ regsSame 0x01000000 0x04C00000 (fun _ => False) s t ∧ t.act e c = 0 ∧ t.get (PFE_STATUS_LATCH e.n) = 0 ∧ t.get (PFE_STATUS_ROGUE_OFF e.n) = s.get (PFE_STATUS_ROGUE_OFF e.n) ∧ t.isSet (PFE_STATUS_INHIBIT e.n) = true ∧ t.bond e c = (if s.bond e c = 3 then 3 else 0) ∧ t.isSet (PX_TIE_STATUS_UP e.n) = false ∧ t.kp.recs = s.kp.recs ∧ t.stopped = t.heldAgents) ∧
  (∀ (a : Agent) (l : Lane) (s : State), s.Ok → s.kp.asserted = 0 → s.kp.driving = false → s.stopped.contains a = false → s.served [.tenant, .host] a = true → ∃ t, exec (.rstBlockGo a 0 l.val) s = .next t ∧ t.stage l.val = (if s.stage l.val = 7 then 7 else 0) ∧ t.get (CL_STATUS_STRIKES l.val) = s.get (CL_STATUS_STRIKES l.val) ∧ t.isSet (CL_CFG_EN l.val) = false ∧ (∀ j : Fin 10, t.count (CM_CNT l.val j.val) = s.count (CM_CNT l.val j.val)) ∧ t.frames = s.frames ∧ t.kp.recs = s.kp.recs) ∧
  (∀ (a : Agent) (f : Framer) (s : State), s.Ok → s.kp.asserted = 0 → s.kp.driving = false → s.stopped.contains a = false → s.served [.tenant, .host] a = true → (s.cf f.val).held = [] → ∃ t, exec (.rstBlockGo a 1 f.val) s = .next t ∧ regsFresh (0x01800000 + 0x4000 * f.val) (0x01804000 + 0x4000 * f.val) (fun _ => False) t ∧ t.cf f.val = {} ∧ regsSame 0x01000000 0x01800000 (fun _ => False) s t) ∧
  (∀ (m : GateMsg) (s : State), s.Ok → s.kp.asserted = 0 → s.kp.driving = false → s.stopped.contains .tenant = false → (s.gateQ 3).find? (fun x => x.kind = 1 || x.kind = 2) = some m → ∃ t, exec (.rstBlockGo .tenant 2 0) s = .next t ∧ t.gateQ 3 = (s.gateQ 3).erase m ∧ t.gateQ 2 = s.gateQ 2 ∧ (∀ e : Fin 4, t.get (CE_PAWN_HOLDER e.val) = s.get (CE_PAWN_HOLDER e.val))) ∧
  (∀ (m : GateMsg) (s : State), s.Ok → s.kp.asserted = 0 → s.kp.driving = false → s.stopped.contains .host = false → (s.gateQ 3).find? (fun x => x.kind = 1 || x.kind = 2) = some m → ∃ t, exec (.accessTimeout .host) s = .next t ∧ t.isSet ⟨KP_PWR_FLAGS, 8, 8⟩ = true ∧ t.gateQ 3 = (s.gateQ 3).erase m ∧ t.gateQ 2 = s.gateQ 2 ++ [⟨m.kind, m.bytes.take 3 ++ [7] ++ (m.bytes.drop 4).take 4⟩] ∧ t.stopped.contains .host = true)

end
end

