-- ==== Sys2Proof/Laws/State.lean ====
section
/-! SUPPORT. One lemma for each field of the state and each shared update: the update leaves the fields it does not name
as they were. -/
namespace Sys2Proof.Machine

@[simp] theorem State.setReg_pending (s : State) (a : Nat) (w : Word) : (s.setReg a w).pending = s.pending := rfl
@[simp] theorem State.setReg_now (s : State) (a : Nat) (w : Word) : (s.setReg a w).now = s.now := rfl
@[simp] theorem State.setReg_freeCtr (s : State) (a : Nat) (w : Word) : (s.setReg a w).freeCtr = s.freeCtr := rfl
@[simp] theorem State.setReg_nextId (s : State) (a : Nat) (w : Word) : (s.setReg a w).nextId = s.nextId := rfl
@[simp] theorem State.setReg_stopped (s : State) (a : Nat) (w : Word) : (s.setReg a w).stopped = s.stopped := rfl
@[simp] theorem State.setReg_rdata (s : State) (a : Nat) (w : Word) : (s.setReg a w).rdata = s.rdata := rfl
@[simp] theorem State.setReg_snaps (s : State) (a : Nat) (w : Word) : (s.setReg a w).snaps = s.snaps := rfl
@[simp] theorem State.setReg_aside (s : State) (a : Nat) (w : Word) : (s.setReg a w).aside = s.aside := rfl
@[simp] theorem State.setReg_tally (s : State) (a : Nat) (w : Word) : (s.setReg a w).tally = s.tally := rfl
@[simp] theorem State.setReg_chans (s : State) (a : Nat) (w : Word) : (s.setReg a w).chans = s.chans := rfl
@[simp] theorem State.setReg_lines (s : State) (a : Nat) (w : Word) : (s.setReg a w).lines = s.lines := rfl
@[simp] theorem State.setReg_pair (s : State) (a : Nat) (w : Word) : (s.setReg a w).pair = s.pair := rfl
@[simp] theorem State.setReg_te (s : State) (a : Nat) (w : Word) : (s.setReg a w).te = s.te := rfl
@[simp] theorem State.setReg_lanes (s : State) (a : Nat) (w : Word) : (s.setReg a w).lanes = s.lanes := rfl
@[simp] theorem State.setReg_ports (s : State) (a : Nat) (w : Word) : (s.setReg a w).ports = s.ports := rfl
@[simp] theorem State.setReg_ties (s : State) (a : Nat) (w : Word) : (s.setReg a w).ties = s.ties := rfl
@[simp] theorem State.setReg_frames (s : State) (a : Nat) (w : Word) : (s.setReg a w).frames = s.frames := rfl
@[simp] theorem State.setReg_pipes (s : State) (a : Nat) (w : Word) : (s.setReg a w).pipes = s.pipes := rfl
@[simp] theorem State.setReg_units (s : State) (a : Nat) (w : Word) : (s.setReg a w).units = s.units := rfl
@[simp] theorem State.setReg_unitStrikes (s : State) (a : Nat) (w : Word) : (s.setReg a w).unitStrikes = s.unitStrikes := rfl
@[simp] theorem State.setReg_recirc (s : State) (a : Nat) (w : Word) : (s.setReg a w).recirc = s.recirc := rfl
@[simp] theorem State.setReg_ctlSend (s : State) (a : Nat) (w : Word) : (s.setReg a w).ctlSend = s.ctlSend := rfl
@[simp] theorem State.setReg_ctlRecv (s : State) (a : Nat) (w : Word) : (s.setReg a w).ctlRecv = s.ctlRecv := rfl
@[simp] theorem State.setReg_bm (s : State) (a : Nat) (w : Word) : (s.setReg a w).bm = s.bm := rfl
@[simp] theorem State.setReg_cx (s : State) (a : Nat) (w : Word) : (s.setReg a w).cx = s.cx := rfl
@[simp] theorem State.setReg_qs (s : State) (a : Nat) (w : Word) : (s.setReg a w).qs = s.qs := rfl
@[simp] theorem State.setReg_ce (s : State) (a : Nat) (w : Word) : (s.setReg a w).ce = s.ce := rfl
@[simp] theorem State.setReg_sram (s : State) (a : Nat) (w : Word) : (s.setReg a w).sram = s.sram := rfl
@[simp] theorem State.setReg_cbr (s : State) (a : Nat) (w : Word) : (s.setReg a w).cbr = s.cbr := rfl
@[simp] theorem State.setReg_dsp (s : State) (a : Nat) (w : Word) : (s.setReg a w).dsp = s.dsp := rfl
@[simp] theorem State.setReg_capBufs (s : State) (a : Nat) (w : Word) : (s.setReg a w).capBufs = s.capBufs := rfl
@[simp] theorem State.setReg_kp (s : State) (a : Nat) (w : Word) : (s.setReg a w).kp = s.kp := rfl

@[simp] theorem State.put_pending (s : State) (f : Fld) (v : Nat) : (s.put f v).pending = s.pending := rfl
@[simp] theorem State.put_now (s : State) (f : Fld) (v : Nat) : (s.put f v).now = s.now := rfl
@[simp] theorem State.put_freeCtr (s : State) (f : Fld) (v : Nat) : (s.put f v).freeCtr = s.freeCtr := rfl
@[simp] theorem State.put_nextId (s : State) (f : Fld) (v : Nat) : (s.put f v).nextId = s.nextId := rfl
@[simp] theorem State.put_stopped (s : State) (f : Fld) (v : Nat) : (s.put f v).stopped = s.stopped := rfl
@[simp] theorem State.put_rdata (s : State) (f : Fld) (v : Nat) : (s.put f v).rdata = s.rdata := rfl
@[simp] theorem State.put_snaps (s : State) (f : Fld) (v : Nat) : (s.put f v).snaps = s.snaps := rfl
@[simp] theorem State.put_aside (s : State) (f : Fld) (v : Nat) : (s.put f v).aside = s.aside := rfl
@[simp] theorem State.put_tally (s : State) (f : Fld) (v : Nat) : (s.put f v).tally = s.tally := rfl
@[simp] theorem State.put_chans (s : State) (f : Fld) (v : Nat) : (s.put f v).chans = s.chans := rfl
@[simp] theorem State.put_lines (s : State) (f : Fld) (v : Nat) : (s.put f v).lines = s.lines := rfl
@[simp] theorem State.put_pair (s : State) (f : Fld) (v : Nat) : (s.put f v).pair = s.pair := rfl
@[simp] theorem State.put_te (s : State) (f : Fld) (v : Nat) : (s.put f v).te = s.te := rfl
@[simp] theorem State.put_lanes (s : State) (f : Fld) (v : Nat) : (s.put f v).lanes = s.lanes := rfl
@[simp] theorem State.put_ports (s : State) (f : Fld) (v : Nat) : (s.put f v).ports = s.ports := rfl
@[simp] theorem State.put_ties (s : State) (f : Fld) (v : Nat) : (s.put f v).ties = s.ties := rfl
@[simp] theorem State.put_frames (s : State) (f : Fld) (v : Nat) : (s.put f v).frames = s.frames := rfl
@[simp] theorem State.put_pipes (s : State) (f : Fld) (v : Nat) : (s.put f v).pipes = s.pipes := rfl
@[simp] theorem State.put_units (s : State) (f : Fld) (v : Nat) : (s.put f v).units = s.units := rfl
@[simp] theorem State.put_unitStrikes (s : State) (f : Fld) (v : Nat) : (s.put f v).unitStrikes = s.unitStrikes := rfl
@[simp] theorem State.put_recirc (s : State) (f : Fld) (v : Nat) : (s.put f v).recirc = s.recirc := rfl
@[simp] theorem State.put_ctlSend (s : State) (f : Fld) (v : Nat) : (s.put f v).ctlSend = s.ctlSend := rfl
@[simp] theorem State.put_ctlRecv (s : State) (f : Fld) (v : Nat) : (s.put f v).ctlRecv = s.ctlRecv := rfl
@[simp] theorem State.put_bm (s : State) (f : Fld) (v : Nat) : (s.put f v).bm = s.bm := rfl
@[simp] theorem State.put_cx (s : State) (f : Fld) (v : Nat) : (s.put f v).cx = s.cx := rfl
@[simp] theorem State.put_qs (s : State) (f : Fld) (v : Nat) : (s.put f v).qs = s.qs := rfl
@[simp] theorem State.put_ce (s : State) (f : Fld) (v : Nat) : (s.put f v).ce = s.ce := rfl
@[simp] theorem State.put_sram (s : State) (f : Fld) (v : Nat) : (s.put f v).sram = s.sram := rfl
@[simp] theorem State.put_cbr (s : State) (f : Fld) (v : Nat) : (s.put f v).cbr = s.cbr := rfl
@[simp] theorem State.put_dsp (s : State) (f : Fld) (v : Nat) : (s.put f v).dsp = s.dsp := rfl
@[simp] theorem State.put_capBufs (s : State) (f : Fld) (v : Nat) : (s.put f v).capBufs = s.capBufs := rfl
@[simp] theorem State.put_kp (s : State) (f : Fld) (v : Nat) : (s.put f v).kp = s.kp := rfl

@[simp] theorem State.putB_pending (s : State) (f : Fld) (b : Bool) : (s.putB f b).pending = s.pending := rfl
@[simp] theorem State.putB_now (s : State) (f : Fld) (b : Bool) : (s.putB f b).now = s.now := rfl
@[simp] theorem State.putB_freeCtr (s : State) (f : Fld) (b : Bool) : (s.putB f b).freeCtr = s.freeCtr := rfl
@[simp] theorem State.putB_nextId (s : State) (f : Fld) (b : Bool) : (s.putB f b).nextId = s.nextId := rfl
@[simp] theorem State.putB_stopped (s : State) (f : Fld) (b : Bool) : (s.putB f b).stopped = s.stopped := rfl
@[simp] theorem State.putB_rdata (s : State) (f : Fld) (b : Bool) : (s.putB f b).rdata = s.rdata := rfl
@[simp] theorem State.putB_snaps (s : State) (f : Fld) (b : Bool) : (s.putB f b).snaps = s.snaps := rfl
@[simp] theorem State.putB_aside (s : State) (f : Fld) (b : Bool) : (s.putB f b).aside = s.aside := rfl
@[simp] theorem State.putB_tally (s : State) (f : Fld) (b : Bool) : (s.putB f b).tally = s.tally := rfl
@[simp] theorem State.putB_chans (s : State) (f : Fld) (b : Bool) : (s.putB f b).chans = s.chans := rfl
@[simp] theorem State.putB_lines (s : State) (f : Fld) (b : Bool) : (s.putB f b).lines = s.lines := rfl
@[simp] theorem State.putB_pair (s : State) (f : Fld) (b : Bool) : (s.putB f b).pair = s.pair := rfl
@[simp] theorem State.putB_te (s : State) (f : Fld) (b : Bool) : (s.putB f b).te = s.te := rfl
@[simp] theorem State.putB_lanes (s : State) (f : Fld) (b : Bool) : (s.putB f b).lanes = s.lanes := rfl
@[simp] theorem State.putB_ports (s : State) (f : Fld) (b : Bool) : (s.putB f b).ports = s.ports := rfl
@[simp] theorem State.putB_ties (s : State) (f : Fld) (b : Bool) : (s.putB f b).ties = s.ties := rfl
@[simp] theorem State.putB_frames (s : State) (f : Fld) (b : Bool) : (s.putB f b).frames = s.frames := rfl
@[simp] theorem State.putB_pipes (s : State) (f : Fld) (b : Bool) : (s.putB f b).pipes = s.pipes := rfl
@[simp] theorem State.putB_units (s : State) (f : Fld) (b : Bool) : (s.putB f b).units = s.units := rfl
@[simp] theorem State.putB_unitStrikes (s : State) (f : Fld) (b : Bool) : (s.putB f b).unitStrikes = s.unitStrikes := rfl
@[simp] theorem State.putB_recirc (s : State) (f : Fld) (b : Bool) : (s.putB f b).recirc = s.recirc := rfl
@[simp] theorem State.putB_ctlSend (s : State) (f : Fld) (b : Bool) : (s.putB f b).ctlSend = s.ctlSend := rfl
@[simp] theorem State.putB_ctlRecv (s : State) (f : Fld) (b : Bool) : (s.putB f b).ctlRecv = s.ctlRecv := rfl
@[simp] theorem State.putB_bm (s : State) (f : Fld) (b : Bool) : (s.putB f b).bm = s.bm := rfl
@[simp] theorem State.putB_cx (s : State) (f : Fld) (b : Bool) : (s.putB f b).cx = s.cx := rfl
@[simp] theorem State.putB_qs (s : State) (f : Fld) (b : Bool) : (s.putB f b).qs = s.qs := rfl
@[simp] theorem State.putB_ce (s : State) (f : Fld) (b : Bool) : (s.putB f b).ce = s.ce := rfl
@[simp] theorem State.putB_sram (s : State) (f : Fld) (b : Bool) : (s.putB f b).sram = s.sram := rfl
@[simp] theorem State.putB_cbr (s : State) (f : Fld) (b : Bool) : (s.putB f b).cbr = s.cbr := rfl
@[simp] theorem State.putB_dsp (s : State) (f : Fld) (b : Bool) : (s.putB f b).dsp = s.dsp := rfl
@[simp] theorem State.putB_capBufs (s : State) (f : Fld) (b : Bool) : (s.putB f b).capBufs = s.capBufs := rfl
@[simp] theorem State.putB_kp (s : State) (f : Fld) (b : Bool) : (s.putB f b).kp = s.kp := rfl

@[simp] theorem State.resetRegs_pending (s : State) (p : Nat → Bool) : (s.resetRegs p).pending = s.pending := rfl
@[simp] theorem State.resetRegs_now (s : State) (p : Nat → Bool) : (s.resetRegs p).now = s.now := rfl
@[simp] theorem State.resetRegs_freeCtr (s : State) (p : Nat → Bool) : (s.resetRegs p).freeCtr = s.freeCtr := rfl
@[simp] theorem State.resetRegs_nextId (s : State) (p : Nat → Bool) : (s.resetRegs p).nextId = s.nextId := rfl
@[simp] theorem State.resetRegs_stopped (s : State) (p : Nat → Bool) : (s.resetRegs p).stopped = s.stopped := rfl
@[simp] theorem State.resetRegs_rdata (s : State) (p : Nat → Bool) : (s.resetRegs p).rdata = s.rdata := rfl
@[simp] theorem State.resetRegs_snaps (s : State) (p : Nat → Bool) : (s.resetRegs p).snaps = s.snaps := rfl
@[simp] theorem State.resetRegs_aside (s : State) (p : Nat → Bool) : (s.resetRegs p).aside = s.aside := rfl
@[simp] theorem State.resetRegs_tally (s : State) (p : Nat → Bool) : (s.resetRegs p).tally = s.tally := rfl
@[simp] theorem State.resetRegs_chans (s : State) (p : Nat → Bool) : (s.resetRegs p).chans = s.chans := rfl
@[simp] theorem State.resetRegs_lines (s : State) (p : Nat → Bool) : (s.resetRegs p).lines = s.lines := rfl
@[simp] theorem State.resetRegs_pair (s : State) (p : Nat → Bool) : (s.resetRegs p).pair = s.pair := rfl
@[simp] theorem State.resetRegs_te (s : State) (p : Nat → Bool) : (s.resetRegs p).te = s.te := rfl
@[simp] theorem State.resetRegs_lanes (s : State) (p : Nat → Bool) : (s.resetRegs p).lanes = s.lanes := rfl
@[simp] theorem State.resetRegs_ports (s : State) (p : Nat → Bool) : (s.resetRegs p).ports = s.ports := rfl
@[simp] theorem State.resetRegs_ties (s : State) (p : Nat → Bool) : (s.resetRegs p).ties = s.ties := rfl
@[simp] theorem State.resetRegs_frames (s : State) (p : Nat → Bool) : (s.resetRegs p).frames = s.frames := rfl
@[simp] theorem State.resetRegs_pipes (s : State) (p : Nat → Bool) : (s.resetRegs p).pipes = s.pipes := rfl
@[simp] theorem State.resetRegs_units (s : State) (p : Nat → Bool) : (s.resetRegs p).units = s.units := rfl
@[simp] theorem State.resetRegs_unitStrikes (s : State) (p : Nat → Bool) : (s.resetRegs p).unitStrikes = s.unitStrikes := rfl
@[simp] theorem State.resetRegs_recirc (s : State) (p : Nat → Bool) : (s.resetRegs p).recirc = s.recirc := rfl
@[simp] theorem State.resetRegs_ctlSend (s : State) (p : Nat → Bool) : (s.resetRegs p).ctlSend = s.ctlSend := rfl
@[simp] theorem State.resetRegs_ctlRecv (s : State) (p : Nat → Bool) : (s.resetRegs p).ctlRecv = s.ctlRecv := rfl
@[simp] theorem State.resetRegs_bm (s : State) (p : Nat → Bool) : (s.resetRegs p).bm = s.bm := rfl
@[simp] theorem State.resetRegs_cx (s : State) (p : Nat → Bool) : (s.resetRegs p).cx = s.cx := rfl
@[simp] theorem State.resetRegs_qs (s : State) (p : Nat → Bool) : (s.resetRegs p).qs = s.qs := rfl
@[simp] theorem State.resetRegs_ce (s : State) (p : Nat → Bool) : (s.resetRegs p).ce = s.ce := rfl
@[simp] theorem State.resetRegs_sram (s : State) (p : Nat → Bool) : (s.resetRegs p).sram = s.sram := rfl
@[simp] theorem State.resetRegs_cbr (s : State) (p : Nat → Bool) : (s.resetRegs p).cbr = s.cbr := rfl
@[simp] theorem State.resetRegs_dsp (s : State) (p : Nat → Bool) : (s.resetRegs p).dsp = s.dsp := rfl
@[simp] theorem State.resetRegs_capBufs (s : State) (p : Nat → Bool) : (s.resetRegs p).capBufs = s.capBufs := rfl
@[simp] theorem State.resetRegs_kp (s : State) (p : Nat → Bool) : (s.resetRegs p).kp = s.kp := rfl

@[simp] theorem State.setCount_pending (s : State) (a v : Nat) : (s.setCount a v).pending = s.pending := rfl
@[simp] theorem State.setCount_now (s : State) (a v : Nat) : (s.setCount a v).now = s.now := rfl
@[simp] theorem State.setCount_freeCtr (s : State) (a v : Nat) : (s.setCount a v).freeCtr = s.freeCtr := rfl
@[simp] theorem State.setCount_nextId (s : State) (a v : Nat) : (s.setCount a v).nextId = s.nextId := rfl
@[simp] theorem State.setCount_stopped (s : State) (a v : Nat) : (s.setCount a v).stopped = s.stopped := rfl
@[simp] theorem State.setCount_rdata (s : State) (a v : Nat) : (s.setCount a v).rdata = s.rdata := rfl
@[simp] theorem State.setCount_snaps (s : State) (a v : Nat) : (s.setCount a v).snaps = s.snaps := rfl
@[simp] theorem State.setCount_aside (s : State) (a v : Nat) : (s.setCount a v).aside = s.aside := rfl
@[simp] theorem State.setCount_tally (s : State) (a v : Nat) : (s.setCount a v).tally = s.tally := rfl
@[simp] theorem State.setCount_chans (s : State) (a v : Nat) : (s.setCount a v).chans = s.chans := rfl
@[simp] theorem State.setCount_lines (s : State) (a v : Nat) : (s.setCount a v).lines = s.lines := rfl
@[simp] theorem State.setCount_pair (s : State) (a v : Nat) : (s.setCount a v).pair = s.pair := rfl
@[simp] theorem State.setCount_te (s : State) (a v : Nat) : (s.setCount a v).te = s.te := rfl
@[simp] theorem State.setCount_lanes (s : State) (a v : Nat) : (s.setCount a v).lanes = s.lanes := rfl
@[simp] theorem State.setCount_ports (s : State) (a v : Nat) : (s.setCount a v).ports = s.ports := rfl
@[simp] theorem State.setCount_ties (s : State) (a v : Nat) : (s.setCount a v).ties = s.ties := rfl
@[simp] theorem State.setCount_frames (s : State) (a v : Nat) : (s.setCount a v).frames = s.frames := rfl
@[simp] theorem State.setCount_pipes (s : State) (a v : Nat) : (s.setCount a v).pipes = s.pipes := rfl
@[simp] theorem State.setCount_units (s : State) (a v : Nat) : (s.setCount a v).units = s.units := rfl
@[simp] theorem State.setCount_unitStrikes (s : State) (a v : Nat) : (s.setCount a v).unitStrikes = s.unitStrikes := rfl
@[simp] theorem State.setCount_recirc (s : State) (a v : Nat) : (s.setCount a v).recirc = s.recirc := rfl
@[simp] theorem State.setCount_ctlSend (s : State) (a v : Nat) : (s.setCount a v).ctlSend = s.ctlSend := rfl
@[simp] theorem State.setCount_ctlRecv (s : State) (a v : Nat) : (s.setCount a v).ctlRecv = s.ctlRecv := rfl
@[simp] theorem State.setCount_bm (s : State) (a v : Nat) : (s.setCount a v).bm = s.bm := rfl
@[simp] theorem State.setCount_cx (s : State) (a v : Nat) : (s.setCount a v).cx = s.cx := rfl
@[simp] theorem State.setCount_qs (s : State) (a v : Nat) : (s.setCount a v).qs = s.qs := rfl
@[simp] theorem State.setCount_ce (s : State) (a v : Nat) : (s.setCount a v).ce = s.ce := rfl
@[simp] theorem State.setCount_sram (s : State) (a v : Nat) : (s.setCount a v).sram = s.sram := rfl
@[simp] theorem State.setCount_cbr (s : State) (a v : Nat) : (s.setCount a v).cbr = s.cbr := rfl
@[simp] theorem State.setCount_dsp (s : State) (a v : Nat) : (s.setCount a v).dsp = s.dsp := rfl
@[simp] theorem State.setCount_capBufs (s : State) (a v : Nat) : (s.setCount a v).capBufs = s.capBufs := rfl
@[simp] theorem State.setCount_kp (s : State) (a v : Nat) : (s.setCount a v).kp = s.kp := rfl

@[simp] theorem State.bump_pending (s : State) (a n : Nat) : (s.bump a n).pending = s.pending := rfl
@[simp] theorem State.bump_now (s : State) (a n : Nat) : (s.bump a n).now = s.now := rfl
@[simp] theorem State.bump_freeCtr (s : State) (a n : Nat) : (s.bump a n).freeCtr = s.freeCtr := rfl
@[simp] theorem State.bump_nextId (s : State) (a n : Nat) : (s.bump a n).nextId = s.nextId := rfl
@[simp] theorem State.bump_stopped (s : State) (a n : Nat) : (s.bump a n).stopped = s.stopped := rfl
@[simp] theorem State.bump_rdata (s : State) (a n : Nat) : (s.bump a n).rdata = s.rdata := rfl
@[simp] theorem State.bump_snaps (s : State) (a n : Nat) : (s.bump a n).snaps = s.snaps := rfl
@[simp] theorem State.bump_aside (s : State) (a n : Nat) : (s.bump a n).aside = s.aside := rfl
@[simp] theorem State.bump_tally (s : State) (a n : Nat) : (s.bump a n).tally = s.tally := rfl
@[simp] theorem State.bump_chans (s : State) (a n : Nat) : (s.bump a n).chans = s.chans := rfl
@[simp] theorem State.bump_lines (s : State) (a n : Nat) : (s.bump a n).lines = s.lines := rfl
@[simp] theorem State.bump_pair (s : State) (a n : Nat) : (s.bump a n).pair = s.pair := rfl
@[simp] theorem State.bump_te (s : State) (a n : Nat) : (s.bump a n).te = s.te := rfl
@[simp] theorem State.bump_lanes (s : State) (a n : Nat) : (s.bump a n).lanes = s.lanes := rfl
@[simp] theorem State.bump_ports (s : State) (a n : Nat) : (s.bump a n).ports = s.ports := rfl
@[simp] theorem State.bump_ties (s : State) (a n : Nat) : (s.bump a n).ties = s.ties := rfl
@[simp] theorem State.bump_frames (s : State) (a n : Nat) : (s.bump a n).frames = s.frames := rfl
@[simp] theorem State.bump_pipes (s : State) (a n : Nat) : (s.bump a n).pipes = s.pipes := rfl
@[simp] theorem State.bump_units (s : State) (a n : Nat) : (s.bump a n).units = s.units := rfl
@[simp] theorem State.bump_unitStrikes (s : State) (a n : Nat) : (s.bump a n).unitStrikes = s.unitStrikes := rfl
@[simp] theorem State.bump_recirc (s : State) (a n : Nat) : (s.bump a n).recirc = s.recirc := rfl
@[simp] theorem State.bump_ctlSend (s : State) (a n : Nat) : (s.bump a n).ctlSend = s.ctlSend := rfl
@[simp] theorem State.bump_ctlRecv (s : State) (a n : Nat) : (s.bump a n).ctlRecv = s.ctlRecv := rfl
@[simp] theorem State.bump_bm (s : State) (a n : Nat) : (s.bump a n).bm = s.bm := rfl
@[simp] theorem State.bump_cx (s : State) (a n : Nat) : (s.bump a n).cx = s.cx := rfl
@[simp] theorem State.bump_qs (s : State) (a n : Nat) : (s.bump a n).qs = s.qs := rfl
@[simp] theorem State.bump_ce (s : State) (a n : Nat) : (s.bump a n).ce = s.ce := rfl
@[simp] theorem State.bump_sram (s : State) (a n : Nat) : (s.bump a n).sram = s.sram := rfl
@[simp] theorem State.bump_cbr (s : State) (a n : Nat) : (s.bump a n).cbr = s.cbr := rfl
@[simp] theorem State.bump_dsp (s : State) (a n : Nat) : (s.bump a n).dsp = s.dsp := rfl
@[simp] theorem State.bump_capBufs (s : State) (a n : Nat) : (s.bump a n).capBufs = s.capBufs := rfl
@[simp] theorem State.bump_kp (s : State) (a n : Nat) : (s.bump a n).kp = s.kp := rfl

@[simp] theorem State.satInc_pending (s : State) (f : Fld) (top : Nat) : (s.satInc f top).pending = s.pending := rfl
@[simp] theorem State.satInc_now (s : State) (f : Fld) (top : Nat) : (s.satInc f top).now = s.now := rfl
@[simp] theorem State.satInc_freeCtr (s : State) (f : Fld) (top : Nat) : (s.satInc f top).freeCtr = s.freeCtr := rfl
@[simp] theorem State.satInc_nextId (s : State) (f : Fld) (top : Nat) : (s.satInc f top).nextId = s.nextId := rfl
@[simp] theorem State.satInc_stopped (s : State) (f : Fld) (top : Nat) : (s.satInc f top).stopped = s.stopped := rfl
@[simp] theorem State.satInc_rdata (s : State) (f : Fld) (top : Nat) : (s.satInc f top).rdata = s.rdata := rfl
@[simp] theorem State.satInc_snaps (s : State) (f : Fld) (top : Nat) : (s.satInc f top).snaps = s.snaps := rfl
@[simp] theorem State.satInc_aside (s : State) (f : Fld) (top : Nat) : (s.satInc f top).aside = s.aside := rfl
@[simp] theorem State.satInc_tally (s : State) (f : Fld) (top : Nat) : (s.satInc f top).tally = s.tally := rfl
@[simp] theorem State.satInc_chans (s : State) (f : Fld) (top : Nat) : (s.satInc f top).chans = s.chans := rfl
@[simp] theorem State.satInc_lines (s : State) (f : Fld) (top : Nat) : (s.satInc f top).lines = s.lines := rfl
@[simp] theorem State.satInc_pair (s : State) (f : Fld) (top : Nat) : (s.satInc f top).pair = s.pair := rfl
@[simp] theorem State.satInc_te (s : State) (f : Fld) (top : Nat) : (s.satInc f top).te = s.te := rfl
@[simp] theorem State.satInc_lanes (s : State) (f : Fld) (top : Nat) : (s.satInc f top).lanes = s.lanes := rfl
@[simp] theorem State.satInc_ports (s : State) (f : Fld) (top : Nat) : (s.satInc f top).ports = s.ports := rfl
@[simp] theorem State.satInc_ties (s : State) (f : Fld) (top : Nat) : (s.satInc f top).ties = s.ties := rfl
@[simp] theorem State.satInc_frames (s : State) (f : Fld) (top : Nat) : (s.satInc f top).frames = s.frames := rfl
@[simp] theorem State.satInc_pipes (s : State) (f : Fld) (top : Nat) : (s.satInc f top).pipes = s.pipes := rfl
@[simp] theorem State.satInc_units (s : State) (f : Fld) (top : Nat) : (s.satInc f top).units = s.units := rfl
@[simp] theorem State.satInc_unitStrikes (s : State) (f : Fld) (top : Nat) : (s.satInc f top).unitStrikes = s.unitStrikes := rfl
@[simp] theorem State.satInc_recirc (s : State) (f : Fld) (top : Nat) : (s.satInc f top).recirc = s.recirc := rfl
@[simp] theorem State.satInc_ctlSend (s : State) (f : Fld) (top : Nat) : (s.satInc f top).ctlSend = s.ctlSend := rfl
@[simp] theorem State.satInc_ctlRecv (s : State) (f : Fld) (top : Nat) : (s.satInc f top).ctlRecv = s.ctlRecv := rfl
@[simp] theorem State.satInc_bm (s : State) (f : Fld) (top : Nat) : (s.satInc f top).bm = s.bm := rfl
@[simp] theorem State.satInc_cx (s : State) (f : Fld) (top : Nat) : (s.satInc f top).cx = s.cx := rfl
@[simp] theorem State.satInc_qs (s : State) (f : Fld) (top : Nat) : (s.satInc f top).qs = s.qs := rfl
@[simp] theorem State.satInc_ce (s : State) (f : Fld) (top : Nat) : (s.satInc f top).ce = s.ce := rfl
@[simp] theorem State.satInc_sram (s : State) (f : Fld) (top : Nat) : (s.satInc f top).sram = s.sram := rfl
@[simp] theorem State.satInc_cbr (s : State) (f : Fld) (top : Nat) : (s.satInc f top).cbr = s.cbr := rfl
@[simp] theorem State.satInc_dsp (s : State) (f : Fld) (top : Nat) : (s.satInc f top).dsp = s.dsp := rfl
@[simp] theorem State.satInc_capBufs (s : State) (f : Fld) (top : Nat) : (s.satInc f top).capBufs = s.capBufs := rfl
@[simp] theorem State.satInc_kp (s : State) (f : Fld) (top : Nat) : (s.satInc f top).kp = s.kp := rfl

@[simp] theorem State.occur_pending (s : State) (src : Nat) : (s.occur src).pending = s.pending := rfl
@[simp] theorem State.occur_now (s : State) (src : Nat) : (s.occur src).now = s.now := rfl
@[simp] theorem State.occur_freeCtr (s : State) (src : Nat) : (s.occur src).freeCtr = s.freeCtr := rfl
@[simp] theorem State.occur_nextId (s : State) (src : Nat) : (s.occur src).nextId = s.nextId := rfl
@[simp] theorem State.occur_regs (s : State) (src : Nat) : (s.occur src).regs = s.regs := rfl
@[simp] theorem State.occur_stopped (s : State) (src : Nat) : (s.occur src).stopped = s.stopped := rfl
@[simp] theorem State.occur_rdata (s : State) (src : Nat) : (s.occur src).rdata = s.rdata := rfl
@[simp] theorem State.occur_snaps (s : State) (src : Nat) : (s.occur src).snaps = s.snaps := rfl
@[simp] theorem State.occur_aside (s : State) (src : Nat) : (s.occur src).aside = s.aside := rfl
@[simp] theorem State.occur_chans (s : State) (src : Nat) : (s.occur src).chans = s.chans := rfl
@[simp] theorem State.occur_lines (s : State) (src : Nat) : (s.occur src).lines = s.lines := rfl
@[simp] theorem State.occur_pair (s : State) (src : Nat) : (s.occur src).pair = s.pair := rfl
@[simp] theorem State.occur_te (s : State) (src : Nat) : (s.occur src).te = s.te := rfl
@[simp] theorem State.occur_lanes (s : State) (src : Nat) : (s.occur src).lanes = s.lanes := rfl
@[simp] theorem State.occur_ports (s : State) (src : Nat) : (s.occur src).ports = s.ports := rfl
@[simp] theorem State.occur_ties (s : State) (src : Nat) : (s.occur src).ties = s.ties := rfl
@[simp] theorem State.occur_frames (s : State) (src : Nat) : (s.occur src).frames = s.frames := rfl
@[simp] theorem State.occur_pipes (s : State) (src : Nat) : (s.occur src).pipes = s.pipes := rfl
@[simp] theorem State.occur_units (s : State) (src : Nat) : (s.occur src).units = s.units := rfl
@[simp] theorem State.occur_unitStrikes (s : State) (src : Nat) : (s.occur src).unitStrikes = s.unitStrikes := rfl
@[simp] theorem State.occur_recirc (s : State) (src : Nat) : (s.occur src).recirc = s.recirc := rfl
@[simp] theorem State.occur_ctlSend (s : State) (src : Nat) : (s.occur src).ctlSend = s.ctlSend := rfl
@[simp] theorem State.occur_ctlRecv (s : State) (src : Nat) : (s.occur src).ctlRecv = s.ctlRecv := rfl
@[simp] theorem State.occur_bm (s : State) (src : Nat) : (s.occur src).bm = s.bm := rfl
@[simp] theorem State.occur_cx (s : State) (src : Nat) : (s.occur src).cx = s.cx := rfl
@[simp] theorem State.occur_qs (s : State) (src : Nat) : (s.occur src).qs = s.qs := rfl
@[simp] theorem State.occur_ce (s : State) (src : Nat) : (s.occur src).ce = s.ce := rfl
@[simp] theorem State.occur_sram (s : State) (src : Nat) : (s.occur src).sram = s.sram := rfl
@[simp] theorem State.occur_cbr (s : State) (src : Nat) : (s.occur src).cbr = s.cbr := rfl
@[simp] theorem State.occur_dsp (s : State) (src : Nat) : (s.occur src).dsp = s.dsp := rfl
@[simp] theorem State.occur_capBufs (s : State) (src : Nat) : (s.occur src).capBufs = s.capBufs := rfl
@[simp] theorem State.occur_kp (s : State) (src : Nat) : (s.occur src).kp = s.kp := rfl

@[simp] theorem State.raise_pending (s : State) (a b src : Nat) : (s.raise a b src).pending = s.pending := rfl
@[simp] theorem State.raise_now (s : State) (a b src : Nat) : (s.raise a b src).now = s.now := rfl
@[simp] theorem State.raise_freeCtr (s : State) (a b src : Nat) : (s.raise a b src).freeCtr = s.freeCtr := rfl
@[simp] theorem State.raise_nextId (s : State) (a b src : Nat) : (s.raise a b src).nextId = s.nextId := rfl
@[simp] theorem State.raise_stopped (s : State) (a b src : Nat) : (s.raise a b src).stopped = s.stopped := rfl
@[simp] theorem State.raise_rdata (s : State) (a b src : Nat) : (s.raise a b src).rdata = s.rdata := rfl
@[simp] theorem State.raise_snaps (s : State) (a b src : Nat) : (s.raise a b src).snaps = s.snaps := rfl
@[simp] theorem State.raise_aside (s : State) (a b src : Nat) : (s.raise a b src).aside = s.aside := rfl
@[simp] theorem State.raise_chans (s : State) (a b src : Nat) : (s.raise a b src).chans = s.chans := rfl
@[simp] theorem State.raise_lines (s : State) (a b src : Nat) : (s.raise a b src).lines = s.lines := rfl
@[simp] theorem State.raise_pair (s : State) (a b src : Nat) : (s.raise a b src).pair = s.pair := rfl
@[simp] theorem State.raise_te (s : State) (a b src : Nat) : (s.raise a b src).te = s.te := rfl
@[simp] theorem State.raise_lanes (s : State) (a b src : Nat) : (s.raise a b src).lanes = s.lanes := rfl
@[simp] theorem State.raise_ports (s : State) (a b src : Nat) : (s.raise a b src).ports = s.ports := rfl
@[simp] theorem State.raise_ties (s : State) (a b src : Nat) : (s.raise a b src).ties = s.ties := rfl
@[simp] theorem State.raise_frames (s : State) (a b src : Nat) : (s.raise a b src).frames = s.frames := rfl
@[simp] theorem State.raise_pipes (s : State) (a b src : Nat) : (s.raise a b src).pipes = s.pipes := rfl
@[simp] theorem State.raise_units (s : State) (a b src : Nat) : (s.raise a b src).units = s.units := rfl
@[simp] theorem State.raise_unitStrikes (s : State) (a b src : Nat) : (s.raise a b src).unitStrikes = s.unitStrikes := rfl
@[simp] theorem State.raise_recirc (s : State) (a b src : Nat) : (s.raise a b src).recirc = s.recirc := rfl
@[simp] theorem State.raise_ctlSend (s : State) (a b src : Nat) : (s.raise a b src).ctlSend = s.ctlSend := rfl
@[simp] theorem State.raise_ctlRecv (s : State) (a b src : Nat) : (s.raise a b src).ctlRecv = s.ctlRecv := rfl
@[simp] theorem State.raise_bm (s : State) (a b src : Nat) : (s.raise a b src).bm = s.bm := rfl
@[simp] theorem State.raise_cx (s : State) (a b src : Nat) : (s.raise a b src).cx = s.cx := rfl
@[simp] theorem State.raise_qs (s : State) (a b src : Nat) : (s.raise a b src).qs = s.qs := rfl
@[simp] theorem State.raise_ce (s : State) (a b src : Nat) : (s.raise a b src).ce = s.ce := rfl
@[simp] theorem State.raise_sram (s : State) (a b src : Nat) : (s.raise a b src).sram = s.sram := rfl
@[simp] theorem State.raise_cbr (s : State) (a b src : Nat) : (s.raise a b src).cbr = s.cbr := rfl
@[simp] theorem State.raise_dsp (s : State) (a b src : Nat) : (s.raise a b src).dsp = s.dsp := rfl
@[simp] theorem State.raise_capBufs (s : State) (a b src : Nat) : (s.raise a b src).capBufs = s.capBufs := rfl
@[simp] theorem State.raise_kp (s : State) (a b src : Nat) : (s.raise a b src).kp = s.kp := rfl

@[simp] theorem State.used_pending (s : State) : (s.used).pending = s.pending := rfl
@[simp] theorem State.used_now (s : State) : (s.used).now = s.now := rfl
@[simp] theorem State.used_nextId (s : State) : (s.used).nextId = s.nextId := rfl
@[simp] theorem State.used_regs (s : State) : (s.used).regs = s.regs := rfl
@[simp] theorem State.used_stopped (s : State) : (s.used).stopped = s.stopped := rfl
@[simp] theorem State.used_rdata (s : State) : (s.used).rdata = s.rdata := rfl
@[simp] theorem State.used_snaps (s : State) : (s.used).snaps = s.snaps := rfl
@[simp] theorem State.used_aside (s : State) : (s.used).aside = s.aside := rfl
@[simp] theorem State.used_tally (s : State) : (s.used).tally = s.tally := rfl
@[simp] theorem State.used_chans (s : State) : (s.used).chans = s.chans := rfl
@[simp] theorem State.used_lines (s : State) : (s.used).lines = s.lines := rfl
@[simp] theorem State.used_pair (s : State) : (s.used).pair = s.pair := rfl
@[simp] theorem State.used_te (s : State) : (s.used).te = s.te := rfl
@[simp] theorem State.used_lanes (s : State) : (s.used).lanes = s.lanes := rfl
@[simp] theorem State.used_ports (s : State) : (s.used).ports = s.ports := rfl
@[simp] theorem State.used_ties (s : State) : (s.used).ties = s.ties := rfl
@[simp] theorem State.used_frames (s : State) : (s.used).frames = s.frames := rfl
@[simp] theorem State.used_pipes (s : State) : (s.used).pipes = s.pipes := rfl
@[simp] theorem State.used_units (s : State) : (s.used).units = s.units := rfl
@[simp] theorem State.used_unitStrikes (s : State) : (s.used).unitStrikes = s.unitStrikes := rfl
@[simp] theorem State.used_recirc (s : State) : (s.used).recirc = s.recirc := rfl
@[simp] theorem State.used_ctlSend (s : State) : (s.used).ctlSend = s.ctlSend := rfl
@[simp] theorem State.used_ctlRecv (s : State) : (s.used).ctlRecv = s.ctlRecv := rfl
@[simp] theorem State.used_bm (s : State) : (s.used).bm = s.bm := rfl
@[simp] theorem State.used_cx (s : State) : (s.used).cx = s.cx := rfl
@[simp] theorem State.used_qs (s : State) : (s.used).qs = s.qs := rfl
@[simp] theorem State.used_ce (s : State) : (s.used).ce = s.ce := rfl
@[simp] theorem State.used_sram (s : State) : (s.used).sram = s.sram := rfl
@[simp] theorem State.used_cbr (s : State) : (s.used).cbr = s.cbr := rfl
@[simp] theorem State.used_dsp (s : State) : (s.used).dsp = s.dsp := rfl
@[simp] theorem State.used_capBufs (s : State) : (s.used).capBufs = s.capBufs := rfl
@[simp] theorem State.used_kp (s : State) : (s.used).kp = s.kp := rfl

@[simp] theorem State.newId_pending (s : State) : (s.newId).pending = s.pending := rfl
@[simp] theorem State.newId_now (s : State) : (s.newId).now = s.now := rfl
@[simp] theorem State.newId_freeCtr (s : State) : (s.newId).freeCtr = s.freeCtr := rfl
@[simp] theorem State.newId_regs (s : State) : (s.newId).regs = s.regs := rfl
@[simp] theorem State.newId_stopped (s : State) : (s.newId).stopped = s.stopped := rfl
@[simp] theorem State.newId_rdata (s : State) : (s.newId).rdata = s.rdata := rfl
@[simp] theorem State.newId_snaps (s : State) : (s.newId).snaps = s.snaps := rfl
@[simp] theorem State.newId_aside (s : State) : (s.newId).aside = s.aside := rfl
@[simp] theorem State.newId_tally (s : State) : (s.newId).tally = s.tally := rfl
@[simp] theorem State.newId_chans (s : State) : (s.newId).chans = s.chans := rfl
@[simp] theorem State.newId_lines (s : State) : (s.newId).lines = s.lines := rfl
@[simp] theorem State.newId_pair (s : State) : (s.newId).pair = s.pair := rfl
@[simp] theorem State.newId_te (s : State) : (s.newId).te = s.te := rfl
@[simp] theorem State.newId_lanes (s : State) : (s.newId).lanes = s.lanes := rfl
@[simp] theorem State.newId_ports (s : State) : (s.newId).ports = s.ports := rfl
@[simp] theorem State.newId_ties (s : State) : (s.newId).ties = s.ties := rfl
@[simp] theorem State.newId_frames (s : State) : (s.newId).frames = s.frames := rfl
@[simp] theorem State.newId_pipes (s : State) : (s.newId).pipes = s.pipes := rfl
@[simp] theorem State.newId_units (s : State) : (s.newId).units = s.units := rfl
@[simp] theorem State.newId_unitStrikes (s : State) : (s.newId).unitStrikes = s.unitStrikes := rfl
@[simp] theorem State.newId_recirc (s : State) : (s.newId).recirc = s.recirc := rfl
@[simp] theorem State.newId_ctlSend (s : State) : (s.newId).ctlSend = s.ctlSend := rfl
@[simp] theorem State.newId_ctlRecv (s : State) : (s.newId).ctlRecv = s.ctlRecv := rfl
@[simp] theorem State.newId_bm (s : State) : (s.newId).bm = s.bm := rfl
@[simp] theorem State.newId_cx (s : State) : (s.newId).cx = s.cx := rfl
@[simp] theorem State.newId_qs (s : State) : (s.newId).qs = s.qs := rfl
@[simp] theorem State.newId_ce (s : State) : (s.newId).ce = s.ce := rfl
@[simp] theorem State.newId_sram (s : State) : (s.newId).sram = s.sram := rfl
@[simp] theorem State.newId_cbr (s : State) : (s.newId).cbr = s.cbr := rfl
@[simp] theorem State.newId_dsp (s : State) : (s.newId).dsp = s.dsp := rfl
@[simp] theorem State.newId_capBufs (s : State) : (s.newId).capBufs = s.capBufs := rfl
@[simp] theorem State.newId_kp (s : State) : (s.newId).kp = s.kp := rfl

@[simp] theorem State.modCh_pending (s : State) (e : Engine) (c : Ch) (f : Chan → Chan) : (s.modCh e c f).pending = s.pending := rfl
@[simp] theorem State.modCh_now (s : State) (e : Engine) (c : Ch) (f : Chan → Chan) : (s.modCh e c f).now = s.now := rfl
@[simp] theorem State.modCh_freeCtr (s : State) (e : Engine) (c : Ch) (f : Chan → Chan) : (s.modCh e c f).freeCtr = s.freeCtr := rfl
@[simp] theorem State.modCh_nextId (s : State) (e : Engine) (c : Ch) (f : Chan → Chan) : (s.modCh e c f).nextId = s.nextId := rfl
@[simp] theorem State.modCh_regs (s : State) (e : Engine) (c : Ch) (f : Chan → Chan) : (s.modCh e c f).regs = s.regs := rfl
@[simp] theorem State.modCh_stopped (s : State) (e : Engine) (c : Ch) (f : Chan → Chan) : (s.modCh e c f).stopped = s.stopped := rfl
@[simp] theorem State.modCh_rdata (s : State) (e : Engine) (c : Ch) (f : Chan → Chan) : (s.modCh e c f).rdata = s.rdata := rfl
@[simp] theorem State.modCh_snaps (s : State) (e : Engine) (c : Ch) (f : Chan → Chan) : (s.modCh e c f).snaps = s.snaps := rfl
@[simp] theorem State.modCh_aside (s : State) (e : Engine) (c : Ch) (f : Chan → Chan) : (s.modCh e c f).aside = s.aside := rfl
@[simp] theorem State.modCh_tally (s : State) (e : Engine) (c : Ch) (f : Chan → Chan) : (s.modCh e c f).tally = s.tally := rfl
@[simp] theorem State.modCh_lines (s : State) (e : Engine) (c : Ch) (f : Chan → Chan) : (s.modCh e c f).lines = s.lines := rfl
@[simp] theorem State.modCh_pair (s : State) (e : Engine) (c : Ch) (f : Chan → Chan) : (s.modCh e c f).pair = s.pair := rfl
@[simp] theorem State.modCh_te (s : State) (e : Engine) (c : Ch) (f : Chan → Chan) : (s.modCh e c f).te = s.te := rfl
@[simp] theorem State.modCh_lanes (s : State) (e : Engine) (c : Ch) (f : Chan → Chan) : (s.modCh e c f).lanes = s.lanes := rfl
@[simp] theorem State.modCh_ports (s : State) (e : Engine) (c : Ch) (f : Chan → Chan) : (s.modCh e c f).ports = s.ports := rfl
@[simp] theorem State.modCh_ties (s : State) (e : Engine) (c : Ch) (f : Chan → Chan) : (s.modCh e c f).ties = s.ties := rfl
@[simp] theorem State.modCh_frames (s : State) (e : Engine) (c : Ch) (f : Chan → Chan) : (s.modCh e c f).frames = s.frames := rfl
@[simp] theorem State.modCh_pipes (s : State) (e : Engine) (c : Ch) (f : Chan → Chan) : (s.modCh e c f).pipes = s.pipes := rfl
@[simp] theorem State.modCh_units (s : State) (e : Engine) (c : Ch) (f : Chan → Chan) : (s.modCh e c f).units = s.units := rfl
@[simp] theorem State.modCh_unitStrikes (s : State) (e : Engine) (c : Ch) (f : Chan → Chan) : (s.modCh e c f).unitStrikes = s.unitStrikes := rfl
@[simp] theorem State.modCh_recirc (s : State) (e : Engine) (c : Ch) (f : Chan → Chan) : (s.modCh e c f).recirc = s.recirc := rfl
@[simp] theorem State.modCh_ctlSend (s : State) (e : Engine) (c : Ch) (f : Chan → Chan) : (s.modCh e c f).ctlSend = s.ctlSend := rfl
@[simp] theorem State.modCh_ctlRecv (s : State) (e : Engine) (c : Ch) (f : Chan → Chan) : (s.modCh e c f).ctlRecv = s.ctlRecv := rfl
@[simp] theorem State.modCh_bm (s : State) (e : Engine) (c : Ch) (f : Chan → Chan) : (s.modCh e c f).bm = s.bm := rfl
@[simp] theorem State.modCh_cx (s : State) (e : Engine) (c : Ch) (f : Chan → Chan) : (s.modCh e c f).cx = s.cx := rfl
@[simp] theorem State.modCh_qs (s : State) (e : Engine) (c : Ch) (f : Chan → Chan) : (s.modCh e c f).qs = s.qs := rfl
@[simp] theorem State.modCh_ce (s : State) (e : Engine) (c : Ch) (f : Chan → Chan) : (s.modCh e c f).ce = s.ce := rfl
@[simp] theorem State.modCh_sram (s : State) (e : Engine) (c : Ch) (f : Chan → Chan) : (s.modCh e c f).sram = s.sram := rfl
@[simp] theorem State.modCh_cbr (s : State) (e : Engine) (c : Ch) (f : Chan → Chan) : (s.modCh e c f).cbr = s.cbr := rfl
@[simp] theorem State.modCh_dsp (s : State) (e : Engine) (c : Ch) (f : Chan → Chan) : (s.modCh e c f).dsp = s.dsp := rfl
@[simp] theorem State.modCh_capBufs (s : State) (e : Engine) (c : Ch) (f : Chan → Chan) : (s.modCh e c f).capBufs = s.capBufs := rfl
@[simp] theorem State.modCh_kp (s : State) (e : Engine) (c : Ch) (f : Chan → Chan) : (s.modCh e c f).kp = s.kp := rfl

@[simp] theorem State.modLine_pending (s : State) (e : Engine) (f : Line → Line) : (s.modLine e f).pending = s.pending := rfl
@[simp] theorem State.modLine_now (s : State) (e : Engine) (f : Line → Line) : (s.modLine e f).now = s.now := rfl
@[simp] theorem State.modLine_freeCtr (s : State) (e : Engine) (f : Line → Line) : (s.modLine e f).freeCtr = s.freeCtr := rfl
@[simp] theorem State.modLine_nextId (s : State) (e : Engine) (f : Line → Line) : (s.modLine e f).nextId = s.nextId := rfl
@[simp] theorem State.modLine_regs (s : State) (e : Engine) (f : Line → Line) : (s.modLine e f).regs = s.regs := rfl
@[simp] theorem State.modLine_stopped (s : State) (e : Engine) (f : Line → Line) : (s.modLine e f).stopped = s.stopped := rfl
@[simp] theorem State.modLine_rdata (s : State) (e : Engine) (f : Line → Line) : (s.modLine e f).rdata = s.rdata := rfl
@[simp] theorem State.modLine_snaps (s : State) (e : Engine) (f : Line → Line) : (s.modLine e f).snaps = s.snaps := rfl
@[simp] theorem State.modLine_aside (s : State) (e : Engine) (f : Line → Line) : (s.modLine e f).aside = s.aside := rfl
@[simp] theorem State.modLine_tally (s : State) (e : Engine) (f : Line → Line) : (s.modLine e f).tally = s.tally := rfl
@[simp] theorem State.modLine_chans (s : State) (e : Engine) (f : Line → Line) : (s.modLine e f).chans = s.chans := rfl
@[simp] theorem State.modLine_pair (s : State) (e : Engine) (f : Line → Line) : (s.modLine e f).pair = s.pair := rfl
@[simp] theorem State.modLine_te (s : State) (e : Engine) (f : Line → Line) : (s.modLine e f).te = s.te := rfl
@[simp] theorem State.modLine_lanes (s : State) (e : Engine) (f : Line → Line) : (s.modLine e f).lanes = s.lanes := rfl
@[simp] theorem State.modLine_ports (s : State) (e : Engine) (f : Line → Line) : (s.modLine e f).ports = s.ports := rfl
@[simp] theorem State.modLine_ties (s : State) (e : Engine) (f : Line → Line) : (s.modLine e f).ties = s.ties := rfl
@[simp] theorem State.modLine_frames (s : State) (e : Engine) (f : Line → Line) : (s.modLine e f).frames = s.frames := rfl
@[simp] theorem State.modLine_pipes (s : State) (e : Engine) (f : Line → Line) : (s.modLine e f).pipes = s.pipes := rfl
@[simp] theorem State.modLine_units (s : State) (e : Engine) (f : Line → Line) : (s.modLine e f).units = s.units := rfl
@[simp] theorem State.modLine_unitStrikes (s : State) (e : Engine) (f : Line → Line) : (s.modLine e f).unitStrikes = s.unitStrikes := rfl
@[simp] theorem State.modLine_recirc (s : State) (e : Engine) (f : Line → Line) : (s.modLine e f).recirc = s.recirc := rfl
@[simp] theorem State.modLine_ctlSend (s : State) (e : Engine) (f : Line → Line) : (s.modLine e f).ctlSend = s.ctlSend := rfl
@[simp] theorem State.modLine_ctlRecv (s : State) (e : Engine) (f : Line → Line) : (s.modLine e f).ctlRecv = s.ctlRecv := rfl
@[simp] theorem State.modLine_bm (s : State) (e : Engine) (f : Line → Line) : (s.modLine e f).bm = s.bm := rfl
@[simp] theorem State.modLine_cx (s : State) (e : Engine) (f : Line → Line) : (s.modLine e f).cx = s.cx := rfl
@[simp] theorem State.modLine_qs (s : State) (e : Engine) (f : Line → Line) : (s.modLine e f).qs = s.qs := rfl
@[simp] theorem State.modLine_ce (s : State) (e : Engine) (f : Line → Line) : (s.modLine e f).ce = s.ce := rfl
@[simp] theorem State.modLine_sram (s : State) (e : Engine) (f : Line → Line) : (s.modLine e f).sram = s.sram := rfl
@[simp] theorem State.modLine_cbr (s : State) (e : Engine) (f : Line → Line) : (s.modLine e f).cbr = s.cbr := rfl
@[simp] theorem State.modLine_dsp (s : State) (e : Engine) (f : Line → Line) : (s.modLine e f).dsp = s.dsp := rfl
@[simp] theorem State.modLine_capBufs (s : State) (e : Engine) (f : Line → Line) : (s.modLine e f).capBufs = s.capBufs := rfl
@[simp] theorem State.modLine_kp (s : State) (e : Engine) (f : Line → Line) : (s.modLine e f).kp = s.kp := rfl

@[simp] theorem State.modPair_pending (s : State) (f : Pair → Pair) : (s.modPair f).pending = s.pending := rfl
@[simp] theorem State.modPair_now (s : State) (f : Pair → Pair) : (s.modPair f).now = s.now := rfl
@[simp] theorem State.modPair_freeCtr (s : State) (f : Pair → Pair) : (s.modPair f).freeCtr = s.freeCtr := rfl
@[simp] theorem State.modPair_nextId (s : State) (f : Pair → Pair) : (s.modPair f).nextId = s.nextId := rfl
@[simp] theorem State.modPair_regs (s : State) (f : Pair → Pair) : (s.modPair f).regs = s.regs := rfl
@[simp] theorem State.modPair_stopped (s : State) (f : Pair → Pair) : (s.modPair f).stopped = s.stopped := rfl
@[simp] theorem State.modPair_rdata (s : State) (f : Pair → Pair) : (s.modPair f).rdata = s.rdata := rfl
@[simp] theorem State.modPair_snaps (s : State) (f : Pair → Pair) : (s.modPair f).snaps = s.snaps := rfl
@[simp] theorem State.modPair_aside (s : State) (f : Pair → Pair) : (s.modPair f).aside = s.aside := rfl
@[simp] theorem State.modPair_tally (s : State) (f : Pair → Pair) : (s.modPair f).tally = s.tally := rfl
@[simp] theorem State.modPair_chans (s : State) (f : Pair → Pair) : (s.modPair f).chans = s.chans := rfl
@[simp] theorem State.modPair_lines (s : State) (f : Pair → Pair) : (s.modPair f).lines = s.lines := rfl
@[simp] theorem State.modPair_te (s : State) (f : Pair → Pair) : (s.modPair f).te = s.te := rfl
@[simp] theorem State.modPair_lanes (s : State) (f : Pair → Pair) : (s.modPair f).lanes = s.lanes := rfl
@[simp] theorem State.modPair_ports (s : State) (f : Pair → Pair) : (s.modPair f).ports = s.ports := rfl
@[simp] theorem State.modPair_ties (s : State) (f : Pair → Pair) : (s.modPair f).ties = s.ties := rfl
@[simp] theorem State.modPair_frames (s : State) (f : Pair → Pair) : (s.modPair f).frames = s.frames := rfl
@[simp] theorem State.modPair_pipes (s : State) (f : Pair → Pair) : (s.modPair f).pipes = s.pipes := rfl
@[simp] theorem State.modPair_units (s : State) (f : Pair → Pair) : (s.modPair f).units = s.units := rfl
@[simp] theorem State.modPair_unitStrikes (s : State) (f : Pair → Pair) : (s.modPair f).unitStrikes = s.unitStrikes := rfl
@[simp] theorem State.modPair_recirc (s : State) (f : Pair → Pair) : (s.modPair f).recirc = s.recirc := rfl
@[simp] theorem State.modPair_ctlSend (s : State) (f : Pair → Pair) : (s.modPair f).ctlSend = s.ctlSend := rfl
@[simp] theorem State.modPair_ctlRecv (s : State) (f : Pair → Pair) : (s.modPair f).ctlRecv = s.ctlRecv := rfl
@[simp] theorem State.modPair_bm (s : State) (f : Pair → Pair) : (s.modPair f).bm = s.bm := rfl
@[simp] theorem State.modPair_cx (s : State) (f : Pair → Pair) : (s.modPair f).cx = s.cx := rfl
@[simp] theorem State.modPair_qs (s : State) (f : Pair → Pair) : (s.modPair f).qs = s.qs := rfl
@[simp] theorem State.modPair_ce (s : State) (f : Pair → Pair) : (s.modPair f).ce = s.ce := rfl
@[simp] theorem State.modPair_sram (s : State) (f : Pair → Pair) : (s.modPair f).sram = s.sram := rfl
@[simp] theorem State.modPair_cbr (s : State) (f : Pair → Pair) : (s.modPair f).cbr = s.cbr := rfl
@[simp] theorem State.modPair_dsp (s : State) (f : Pair → Pair) : (s.modPair f).dsp = s.dsp := rfl
@[simp] theorem State.modPair_capBufs (s : State) (f : Pair → Pair) : (s.modPair f).capBufs = s.capBufs := rfl
@[simp] theorem State.modPair_kp (s : State) (f : Pair → Pair) : (s.modPair f).kp = s.kp := rfl

@[simp] theorem State.answer_pending (s : State) (a : Agent) (w : Word) : (s.answer a w).pending = s.pending := rfl
@[simp] theorem State.answer_now (s : State) (a : Agent) (w : Word) : (s.answer a w).now = s.now := rfl
@[simp] theorem State.answer_freeCtr (s : State) (a : Agent) (w : Word) : (s.answer a w).freeCtr = s.freeCtr := rfl
@[simp] theorem State.answer_nextId (s : State) (a : Agent) (w : Word) : (s.answer a w).nextId = s.nextId := rfl
@[simp] theorem State.answer_regs (s : State) (a : Agent) (w : Word) : (s.answer a w).regs = s.regs := rfl
@[simp] theorem State.answer_stopped (s : State) (a : Agent) (w : Word) : (s.answer a w).stopped = s.stopped := rfl
@[simp] theorem State.answer_snaps (s : State) (a : Agent) (w : Word) : (s.answer a w).snaps = s.snaps := rfl
@[simp] theorem State.answer_aside (s : State) (a : Agent) (w : Word) : (s.answer a w).aside = s.aside := rfl
@[simp] theorem State.answer_tally (s : State) (a : Agent) (w : Word) : (s.answer a w).tally = s.tally := rfl
@[simp] theorem State.answer_chans (s : State) (a : Agent) (w : Word) : (s.answer a w).chans = s.chans := rfl
@[simp] theorem State.answer_lines (s : State) (a : Agent) (w : Word) : (s.answer a w).lines = s.lines := rfl
@[simp] theorem State.answer_pair (s : State) (a : Agent) (w : Word) : (s.answer a w).pair = s.pair := rfl
@[simp] theorem State.answer_te (s : State) (a : Agent) (w : Word) : (s.answer a w).te = s.te := rfl
@[simp] theorem State.answer_lanes (s : State) (a : Agent) (w : Word) : (s.answer a w).lanes = s.lanes := rfl
@[simp] theorem State.answer_ports (s : State) (a : Agent) (w : Word) : (s.answer a w).ports = s.ports := rfl
@[simp] theorem State.answer_ties (s : State) (a : Agent) (w : Word) : (s.answer a w).ties = s.ties := rfl
@[simp] theorem State.answer_frames (s : State) (a : Agent) (w : Word) : (s.answer a w).frames = s.frames := rfl
@[simp] theorem State.answer_pipes (s : State) (a : Agent) (w : Word) : (s.answer a w).pipes = s.pipes := rfl
@[simp] theorem State.answer_units (s : State) (a : Agent) (w : Word) : (s.answer a w).units = s.units := rfl
@[simp] theorem State.answer_unitStrikes (s : State) (a : Agent) (w : Word) : (s.answer a w).unitStrikes = s.unitStrikes := rfl
@[simp] theorem State.answer_recirc (s : State) (a : Agent) (w : Word) : (s.answer a w).recirc = s.recirc := rfl
@[simp] theorem State.answer_ctlSend (s : State) (a : Agent) (w : Word) : (s.answer a w).ctlSend = s.ctlSend := rfl
@[simp] theorem State.answer_ctlRecv (s : State) (a : Agent) (w : Word) : (s.answer a w).ctlRecv = s.ctlRecv := rfl
@[simp] theorem State.answer_bm (s : State) (a : Agent) (w : Word) : (s.answer a w).bm = s.bm := rfl
@[simp] theorem State.answer_cx (s : State) (a : Agent) (w : Word) : (s.answer a w).cx = s.cx := rfl
@[simp] theorem State.answer_qs (s : State) (a : Agent) (w : Word) : (s.answer a w).qs = s.qs := rfl
@[simp] theorem State.answer_ce (s : State) (a : Agent) (w : Word) : (s.answer a w).ce = s.ce := rfl
@[simp] theorem State.answer_sram (s : State) (a : Agent) (w : Word) : (s.answer a w).sram = s.sram := rfl
@[simp] theorem State.answer_cbr (s : State) (a : Agent) (w : Word) : (s.answer a w).cbr = s.cbr := rfl
@[simp] theorem State.answer_dsp (s : State) (a : Agent) (w : Word) : (s.answer a w).dsp = s.dsp := rfl
@[simp] theorem State.answer_capBufs (s : State) (a : Agent) (w : Word) : (s.answer a w).capBufs = s.capBufs := rfl
@[simp] theorem State.answer_kp (s : State) (a : Agent) (w : Word) : (s.answer a w).kp = s.kp := rfl

end Sys2Proof.Machine
end

