-- ==== Sys2Proof/Laws/Store.lean ====
section
/-! SUPPORT. Laws of sparse arrays: what a read sees after a write, and that every operation keeps the canonical form. -/
namespace Sys2Proof.Machine

variable {α : Type} {d : Nat → α}

section
variable [DecidableEq α]

/-- A canonical array from one index up is canonical from any lower one. -/
theorem swf_lower {st : Store α} {lo lo' : Nat} (h : swf d lo st = true) (hl : lo' ≤ lo) : swf d lo' st = true := by
  cases st with
  | nil => rfl
  | cons x t =>
    simp only [swf, Bool.and_eq_true, decide_eq_true_eq] at h ⊢
    exact ⟨⟨by omega, h.1.2⟩, h.2⟩

end

/-- Dropping entries makes them read as unlisted, and leaves the others alone. -/
theorem sget_skeep (st : Store α) (p : Nat → Bool) (k : Nat) :
    sget d (skeep p st) k = if p k = true then sget d st k else d k := by
  induction st with
  | nil => simp [skeep, sget]
  | cons x t ih =>
    obtain ⟨i, w⟩ := x
    simp only [skeep, List.filter] at ih ⊢
    by_cases hp : p i = true
    · simp only [hp, sget, ih]
      by_cases hik : i = k
      · subst hik; simp [hp]
      · simp [hik]
    · simp only [hp, sget]
      by_cases hik : i = k
      · subst hik
        simp only [ih, hp]
        simp
      · simp [ih, hik]

section
variable [DecidableEq α]

/-- Dropping entries keeps the canonical form. -/
theorem swf_skeep {st : Store α} {lo : Nat} (h : swf d lo st = true) (p : Nat → Bool) : swf d lo (skeep p st) = true := by
  induction st generalizing lo with
  | nil => rfl
  | cons x t ih =>
    obtain ⟨i, w⟩ := x
    simp only [swf, Bool.and_eq_true, decide_eq_true_eq] at h
    have it := ih h.2
    simp only [skeep, List.filter] at it ⊢
    by_cases hp : p i = true
    · simp only [hp, swf, Bool.and_eq_true, decide_eq_true_eq]
      exact ⟨h.1, it⟩
    · simp only [hp]
      exact swf_lower it (by omega)

end

theorem sget_sput_same (st : Store α) (k : Nat) (v : α) : sget d (sput st k v) k = v := by
  induction st with
  | nil => simp [sput, sget]
  | cons x t ih =>
    obtain ⟨i, w⟩ := x
    simp only [sput]
    split
    · simp [sget]
    · split
      · simp [sget]
      · rename_i hk
        simp only [sget]
        rw [if_neg (fun h => hk h.symm), ih]

theorem sget_sput_other (st : Store α) {j k : Nat} (v : α) (h : j ≠ k) : sget d (sput st k v) j = sget d st j := by
  induction st with
  | nil => simp [sput, sget, h.symm]
  | cons x t ih =>
    obtain ⟨i, w⟩ := x
    simp only [sput]
    split
    · simp [sget, h.symm]
    · split
      · rename_i hk; subst hk; simp [sget, h.symm]
      · simp only [sget, ih]

section
variable [DecidableEq α]

theorem swf_sput {st : Store α} {lo k : Nat} {v : α} (h : swf d lo st = true) (hk : lo ≤ k) (hv : v ≠ d k) :
    swf d lo (sput st k v) = true := by
  induction st generalizing lo with
  | nil => simp [sput, swf, hk, hv]
  | cons x t ih =>
    obtain ⟨i, w⟩ := x
    simp only [swf, Bool.and_eq_true, decide_eq_true_eq] at h
    simp only [sput]
    split
    · simp only [swf, Bool.and_eq_true, decide_eq_true_eq]
      exact ⟨⟨hk, hv⟩, ⟨⟨by omega, h.1.2⟩, h.2⟩⟩
    · split
      · rename_i _ hki; subst hki
        simp only [swf, Bool.and_eq_true, decide_eq_true_eq]
        exact ⟨⟨h.1.1, hv⟩, h.2⟩
      · simp only [swf, Bool.and_eq_true, decide_eq_true_eq]
        exact ⟨h.1, ih h.2 (by omega)⟩

/-- A write by whether it writes what an unlisted index reads as. -/
theorem sset_eq (st : Store α) (k : Nat) (v : α) :
    sset d st k v = if v = d k then skeep (fun i => decide (i ≠ k)) st else sput st k v := by
  cases st <;> rfl

/-- A read after a write to the same index sees the value written. -/
theorem sget_sset_same (st : Store α) (k : Nat) (v : α) : sget d (sset d st k v) k = v := by
  rw [sset_eq]
  split
  · rename_i hv; rw [sget_skeep]; simp [hv]
  · exact sget_sput_same st k v

/-- A write leaves every other index alone. -/
theorem sget_sset_other (st : Store α) {j k : Nat} (v : α) (h : j ≠ k) : sget d (sset d st k v) j = sget d st j := by
  rw [sset_eq]
  split
  · rw [sget_skeep]; simp [h]
  · exact sget_sput_other st v h

/-- A write keeps the canonical form. -/
theorem swf_sset {st : Store α} {lo k : Nat} (h : swf d lo st = true) (hk : lo ≤ k) (v : α) : swf d lo (sset d st k v) = true := by
  rw [sset_eq]
  split
  · exact swf_skeep h _
  · rename_i hv; exact swf_sput h hk hv

end

end Sys2Proof.Machine
end

