-- ==== Sys2Proof/Laws/Word.lean ====
section
/-! SUPPORT. Laws of the bit ranges of a register word. -/
namespace Sys2Proof

/-- The bits of a word after a bit range has been replaced. -/
theorem Word.withField_bit (w : Word) {hi lo : Nat} (v i : Nat) (h : lo ≤ hi) (hi32 : i < 32) :
    (w.withField hi lo v).toNat.testBit i = if lo ≤ i ∧ i ≤ hi then v.testBit (i - lo) else w.toNat.testBit i := by
  have e : w.toNat / 2 ^ (hi + 1) * 2 ^ (hi + 1) + v % 2 ^ (hi + 1 - lo) * 2 ^ lo + w.toNat % 2 ^ lo =
      2 ^ lo * (2 ^ (hi + 1 - lo) * (w.toNat / 2 ^ (hi + 1)) + v % 2 ^ (hi + 1 - lo)) + w.toNat % 2 ^ lo := by
    have : 2 ^ (hi + 1) = 2 ^ lo * 2 ^ (hi + 1 - lo) := by rw [← Nat.pow_add]; congr 1; omega
    rw [Nat.mul_add, ← Nat.mul_assoc, ← this, Nat.mul_comm (2 ^ (hi + 1)), Nat.mul_comm (2 ^ lo)]
  simp only [Word.withField, BitVec.toNat_ofNat, Nat.testBit_mod_two_pow, hi32, decide_true, Bool.true_and]
  rw [e, Nat.testBit_two_pow_mul_add _ (Nat.mod_lt _ (Nat.two_pow_pos _))]
  by_cases h1 : i < lo
  · rw [if_pos h1, if_neg (by omega), Nat.testBit_mod_two_pow]; simp [h1]
  · rw [if_neg h1, Nat.testBit_two_pow_mul_add _ (Nat.mod_lt _ (Nat.two_pow_pos _))]
    by_cases h2 : i ≤ hi
    · rw [if_pos (by omega), if_pos (by omega), Nat.testBit_mod_two_pow]
      simp [show i - lo < hi + 1 - lo by omega]
    · rw [if_neg (by omega), if_neg (by omega), Nat.testBit_div_two_pow]
      congr 1; omega

/-- The bits of a field. -/
theorem Word.field_bit (w : Word) (hi lo i : Nat) :
    (w.field hi lo).testBit i = (decide (i < hi + 1 - lo) && w.toNat.testBit (lo + i)) := by
  simp [Word.field, Nat.testBit_mod_two_pow, Nat.testBit_div_two_pow, Nat.add_comm]

/-- A field reads, after it is replaced, as the new value cut to its width. -/
theorem Word.field_withField (w : Word) {hi lo : Nat} (v : Nat) (h : lo ≤ hi) (h32 : hi < 32) :
    (w.withField hi lo v).field hi lo = v % 2 ^ (hi + 1 - lo) := by
  apply Nat.eq_of_testBit_eq
  intro i
  rw [Word.field_bit, Nat.testBit_mod_two_pow]
  by_cases hi' : i < hi + 1 - lo
  · simp only [hi', decide_true, Bool.true_and]
    rw [Word.withField_bit _ _ _ h (by omega), if_pos (by omega)]
    congr 1; omega
  · simp [hi']

/-- A field that does not overlap the one replaced reads as before. -/
theorem Word.field_withField_apart (w : Word) {hi lo hi' lo' : Nat} (v : Nat) (h : lo ≤ hi) (h32' : hi' < 32)
    (hd : hi < lo' ∨ hi' < lo) : (w.withField hi lo v).field hi' lo' = w.field hi' lo' := by
  apply Nat.eq_of_testBit_eq
  intro i
  rw [Word.field_bit, Word.field_bit]
  by_cases hi'' : i < hi' + 1 - lo'
  · simp only [hi'', decide_true, Bool.true_and]
    rw [Word.withField_bit _ _ _ h (by omega), if_neg (by omega)]
  · simp [hi'']

/-- A field's value fits its width. -/
theorem Word.field_lt (w : Word) (hi lo : Nat) : w.field hi lo < 2 ^ (hi + 1 - lo) := Nat.mod_lt _ (Nat.two_pow_pos _)

end Sys2Proof
end

