-- ==== Sys2Proof/Laws/Regs.lean ====
section
/-! SUPPORT. Laws of the register file: what a register, a field and a counter read after each shared update, and that every
update keeps the register file canonical. -/
namespace Sys2Proof.Machine

/-- A field lies in a word. -/
def Fld.ok (f : Fld) : Bool := decide (f.lo ≤ f.hi) && decide (f.hi < 32)

/-- Two fields share no bit. -/
def Fld.apart (f g : Fld) : Bool := f.addr ≠ g.addr || decide (f.hi < g.lo) || decide (g.hi < f.lo)

/-! ### The canonical form -/

theorem State.regsOk_congr {s t : State} (h : s.regs = t.regs) : s.regsOk ↔ t.regsOk := by
  unfold State.regsOk; rw [h]

theorem State.regsOk_setReg {s : State} (h : s.regsOk) (a : Nat) (w : Word) : (s.setReg a w).regsOk :=
  swf_sset (k := a) h (Nat.zero_le _) w

theorem State.regsOk_put {s : State} (h : s.regsOk) (f : Fld) (v : Nat) : (s.put f v).regsOk := State.regsOk_setReg h _ _

theorem State.regsOk_putB {s : State} (h : s.regsOk) (f : Fld) (b : Bool) : (s.putB f b).regsOk := State.regsOk_put h _ _

theorem State.regsOk_setCount {s : State} (h : s.regsOk) (a v : Nat) : (s.setCount a v).regsOk :=
  State.regsOk_setReg (State.regsOk_setReg h _ _) _ _

theorem State.regsOk_bump {s : State} (h : s.regsOk) (a n : Nat) : (s.bump a n).regsOk := State.regsOk_setCount h _ _

theorem State.regsOk_satInc {s : State} (h : s.regsOk) (f : Fld) (top : Nat) : (s.satInc f top).regsOk := State.regsOk_put h _ _

theorem State.regsOk_raise {s : State} (h : s.regsOk) (a b src : Nat) : (s.raise a b src).regsOk := State.regsOk_putB h _ _

theorem State.regsOk_resetRegs {s : State} (h : s.regsOk) (p : Nat → Bool) : (s.resetRegs p).regsOk := swf_skeep h p

theorem State.regsOk_reset : State.reset.regsOk := rfl

/-! ### Reads after a write -/

theorem State.reg_congr {s t : State} (h : s.regs = t.regs) (a : Nat) : s.reg a = t.reg a := by unfold State.reg; rw [h]

theorem State.reg_setReg_same (s : State) (a : Nat) (w : Word) : (s.setReg a w).reg a = w :=
  sget_sset_same s.regs a w

theorem State.reg_setReg_other (s : State) {a b : Nat} (w : Word) (h : b ≠ a) : (s.setReg a w).reg b = s.reg b :=
  sget_sset_other s.regs w h

theorem State.get_put_same (s : State) {f : Fld} (hf : f.ok = true) (v : Nat) :
    (s.put f v).get f = v % 2 ^ (f.hi + 1 - f.lo) := by
  simp only [Fld.ok, Bool.and_eq_true, decide_eq_true_eq] at hf
  simp only [State.get, State.put, State.reg_setReg_same]
  exact Word.field_withField _ _ hf.1 hf.2

theorem State.get_put_apart (s : State) {f g : Fld} (hf : f.ok = true) (hg : g.ok = true)
    (ha : f.apart g = true) (v : Nat) : (s.put f v).get g = s.get g := by
  simp only [Fld.ok, Bool.and_eq_true, decide_eq_true_eq] at hf hg
  simp only [State.get, State.put]
  by_cases e : g.addr = f.addr
  · simp only [Fld.apart, Bool.or_eq_true, decide_eq_true_eq, ne_eq] at ha
    rw [e, State.reg_setReg_same]
    have hd : f.hi < g.lo ∨ g.hi < f.lo := by
      rcases ha with (ha | ha) | ha
      · exact absurd e.symm ha
      · exact .inl ha
      · exact .inr ha
    exact Word.field_withField_apart _ _ hf.1 hg.2 hd
  · rw [State.reg_setReg_other _ _ e]

theorem State.reg_put_other (s : State) {f : Fld} {a : Nat} (v : Nat) (h : a ≠ f.addr) : (s.put f v).reg a = s.reg a :=
  State.reg_setReg_other _ _ h

theorem State.isSet_putB_same (s : State) (a i : Nat) (hi : i < 32) (b : Bool) :
    (s.putB ⟨a, i, i⟩ b).isSet ⟨a, i, i⟩ = b := by
  have := State.get_put_same s (f := ⟨a, i, i⟩) (by simp [Fld.ok, hi]) b.toNat
  simp only [State.isSet, State.putB, this]
  cases b <;> simp

/-! ### The 48-bit counters -/

theorem State.count_setCount (s : State) (a v : Nat) (hv : v < 2 ^ 48) : (s.setCount a v).count a = v := by
  simp only [State.count, State.setCount, State.reg_setReg_same]
  rw [State.reg_setReg_other _ _ (by omega), State.reg_setReg_same]
  simp only [BitVec.toNat_ofNat]
  omega

theorem State.count_bump (s : State) (a n : Nat) : (s.bump a n).count a = (s.count a + n) % 2 ^ 48 :=
  State.count_setCount s a _ (Nat.mod_lt _ (by decide))

theorem State.reg_bump_other (s : State) {a b : Nat} (n : Nat) (h : b ≠ a) (h' : b ≠ a + 4) :
    (s.bump a n).reg b = s.reg b := by
  simp only [State.bump, State.setCount]
  rw [State.reg_setReg_other _ _ h', State.reg_setReg_other _ _ h]

/-! ### Tallies -/

theorem State.tallyOf_occur_same (s : State) (a : Nat) : (s.occur a).tallyOf a = min (s.tallyOf a + 1) 65535 :=
  sget_sset_same s.tally a _

theorem State.tallyOf_occur_other (s : State) {a b : Nat} (h : b ≠ a) : (s.occur a).tallyOf b = s.tallyOf b :=
  sget_sset_other s.tally _ h

theorem State.reg_occur (s : State) (a b : Nat) : (s.occur a).reg b = s.reg b := rfl

end Sys2Proof.Machine
end

