-- ==== Sys2Proof/Laws/Keeps.lean ====
section
/-! SUPPORT. Laws of the canonical form: each shared operation keeps the register file, the controllers' memories and the
tallies canonical. A meaning built from these operations keeps the form by composing them. -/
namespace Sys2Proof.Machine

variable {s : State}

/-! ### Registers, counters, tallies -/

theorem State.ok_reset : State.reset.Ok := ⟨rfl, rfl, rfl⟩

theorem State.ok_setReg (h : s.Ok) (a : Nat) (w : Word) : (s.setReg a w).Ok := ⟨State.regsOk_setReg h.1 a w, h.2⟩

theorem State.ok_put (h : s.Ok) (f : Fld) (v : Nat) : (s.put f v).Ok := State.ok_setReg h _ _

theorem State.ok_putB (h : s.Ok) (f : Fld) (b : Bool) : (s.putB f b).Ok := State.ok_put h _ _

theorem State.ok_setCount (h : s.Ok) (a v : Nat) : (s.setCount a v).Ok := State.ok_setReg (State.ok_setReg h _ _) _ _

theorem State.ok_bump (h : s.Ok) (a n : Nat) : (s.bump a n).Ok := State.ok_setCount h _ _

theorem State.ok_satInc (h : s.Ok) (f : Fld) (top : Nat) : (s.satInc f top).Ok := State.ok_put h _ _

theorem State.ok_occur (h : s.Ok) (src : Nat) : (s.occur src).Ok :=
  ⟨h.1, h.2.1, swf_sset (k := src) h.2.2 (Nat.zero_le _) _⟩

theorem State.ok_raise (h : s.Ok) (a b src : Nat) : (s.raise a b src).Ok := State.ok_occur (State.ok_putB h _ _) _

theorem State.ok_resetRegs (h : s.Ok) (p : Nat → Bool) : (s.resetRegs p).Ok := ⟨State.regsOk_resetRegs h.1 p, h.2⟩

/-! ### What the shared updates change, and nothing else -/

theorem onlyRegs_refl (as : List Nat) (s : State) : onlyRegs as s s := ⟨rfl, fun _ _ => rfl⟩

/-- Changes of registers compose: the addresses add up. -/
theorem onlyRegs_trans {as bs : List Nat} {s t u : State} (h : onlyRegs as s t) (k : onlyRegs bs t u) : onlyRegs (as ++ bs) s u := by
  refine ⟨?_, fun a ha => ?_⟩
  · rw [← h.1, ← k.1]
  · rw [List.mem_append, not_or] at ha
    rw [k.2 a ha.2, h.2 a ha.1]

theorem onlyRegs_setReg (s : State) (a : Nat) (w : Word) : onlyRegs [a] s (s.setReg a w) :=
  ⟨rfl, fun _ h => State.reg_setReg_other s w (fun e => h (List.mem_singleton.mpr e))⟩

theorem onlyRegs_put (s : State) (f : Fld) (v : Nat) : onlyRegs [f.addr] s (s.put f v) := onlyRegs_setReg s _ _

theorem onlyRegs_putB (s : State) (f : Fld) (b : Bool) : onlyRegs [f.addr] s (s.putB f b) := onlyRegs_put s f _

theorem onlyRegs_setCount (s : State) (a v : Nat) : onlyRegs [a, a + 4] s (s.setCount a v) :=
  onlyRegs_trans (onlyRegs_setReg s a _) (onlyRegs_setReg _ (a + 4) _)

theorem onlyRegs_bump (s : State) (a n : Nat) : onlyRegs [a, a + 4] s (s.bump a n) := onlyRegs_setCount s a _

/-- A raised flag changes its word and the tally of its source. -/
theorem onlyRegsTallies_raise (s : State) (a b src : Nat) : onlyRegsTallies [a] [src] s (s.raise a b src) :=
  ⟨rfl, (onlyRegs_putB s ⟨a, b, b⟩ true).2, fun _ h => State.tallyOf_occur_other _ (fun e => h (List.mem_singleton.mpr e))⟩

/-! ### The controllers' memories -/

/-- Storing a byte keeps a memory canonical. -/
theorem Memory.wf_set {m : Store Byte} (h : Memory.wf m = true) (k : Nat) (b : Byte) : Memory.wf (sset (fun _ => 0) m k b) = true :=
  swf_sset (k := k) h (Nat.zero_le _) b

/-- Storing bytes from an address on, each at its offset, keeps a memory canonical. -/
theorem Memory.wf_store {m : Store Byte} (h : Memory.wf m = true) (a : Nat) (bs : List (Byte × Nat)) :
    Memory.wf (bs.foldl (fun st x => sset (fun _ => 0) st (a + x.2) x.1) m) = true := by
  induction bs generalizing m with
  | nil => exact h
  | cons b bs ih => exact ih (Memory.wf_set h _ _)

/-- Clearing part of a memory keeps it canonical. -/
theorem Memory.wf_clear {m : Store Byte} (h : Memory.wf m = true) (p : Nat → Bool) : Memory.wf (skeep p m) = true := swf_skeep h p

/-! ### Operations applied under a condition or for each member of a list -/

theorem State.ok_when (h : s.Ok) (b : Bool) {f : State → State} (hf : ∀ s : State, s.Ok → (f s).Ok) : (s.when b f).Ok := by
  cases b
  · exact h
  · exact hf s h

theorem State.ok_each {α : Type} (xs : List α) {f : α → State → State} (hf : ∀ x, ∀ s : State, s.Ok → (f x s).Ok) :
    ∀ {s : State}, s.Ok → (s.each xs f).Ok := by
  induction xs with
  | nil => exact fun h => h
  | cons x xs ih => exact fun h => ih (hf x _ h)

/-! ### Access by an agent -/

/-- What an agent's write can do: nothing, as its agent is held in reset; the register's own effect; or a counted refusal. -/
theorem State.byAgent_cases (s : State) (allowed : List Agent) (a : Agent) (f : State → State) :
    (s.stopped.contains a = true ∧ s.byAgent allowed a f = s) ∨
    (s.stopped.contains a = false ∧ s.served allowed a = true ∧ s.byAgent allowed a f = f s) ∨
    (s.stopped.contains a = false ∧ s.served allowed a = false ∧ s.byAgent allowed a f = s.refuse a) := by
  unfold State.byAgent
  cases hs : s.stopped.contains a <;> cases hv : s.served allowed a <;> simp

/-- What an agent's read can do, likewise. -/
theorem State.byReader_cases (s : State) (allowed : List Agent) (a : Agent) (f : State → State) :
    (s.stopped.contains a = true ∧ s.byReader allowed a f = s) ∨
    (s.stopped.contains a = false ∧ allowed.contains a = true ∧ s.byReader allowed a f = f s) ∨
    (s.stopped.contains a = false ∧ allowed.contains a = false ∧ s.byReader allowed a f = (s.refuse a).answer a 0) := by
  unfold State.byReader
  cases hs : s.stopped.contains a <;> cases hv : allowed.contains a <;> simp

theorem State.ok_refuse (h : s.Ok) (a : Agent) : (s.refuse a).Ok := by
  cases a
  · exact State.ok_bump h _ _
  · exact State.ok_bump h _ _
  · exact State.ok_bump h _ _
  · exact h

theorem State.ok_byAgent (h : s.Ok) (allowed : List Agent) (a : Agent) {f : State → State} (hf : ∀ s : State, s.Ok → (f s).Ok) :
    (s.byAgent allowed a f).Ok := by
  rcases State.byAgent_cases s allowed a f with ⟨_, e⟩ | ⟨_, _, e⟩ | ⟨_, _, e⟩ <;> rw [e]
  · exact h
  · exact hf s h
  · exact State.ok_refuse h a

theorem State.ok_byReader (h : s.Ok) (allowed : List Agent) (a : Agent) {f : State → State} (hf : ∀ s : State, s.Ok → (f s).Ok) :
    (s.byReader allowed a f).Ok := by
  rcases State.byReader_cases s allowed a f with ⟨_, e⟩ | ⟨_, _, e⟩ | ⟨_, _, e⟩ <;> rw [e]
  · exact h
  · exact hf s h
  · exact State.ok_refuse h a

theorem State.ok_answer (h : s.Ok) (a : Agent) (w : Word) : (s.answer a w).Ok := h

/-! ### Records outside the registers: the form does not see them -/

theorem State.ok_modCh (h : s.Ok) (e : Engine) (c : Ch) (f : Chan → Chan) : (s.modCh e c f).Ok := h
theorem State.ok_modLine (h : s.Ok) (e : Engine) (f : Line → Line) : (s.modLine e f).Ok := h
theorem State.ok_modPair (h : s.Ok) (f : Pair → Pair) : (s.modPair f).Ok := h
theorem State.ok_modKp (h : s.Ok) (f : Keeper → Keeper) : (s.modKp f).Ok := h
theorem State.ok_used (h : s.Ok) : s.used.Ok := h
theorem State.ok_newId (h : s.Ok) : s.newId.Ok := h

/-! ### Line engines: bursts, bond states, slots -/

theorem ok_returnPloam (h : s.Ok) (e : Engine) (c : Ch) (m : Option UpPloam) : (returnPloam e c m s).Ok := by
  unfold returnPloam
  split <;> exact h

theorem ok_releaseBurst (h : s.Ok) (e : Engine) (c : Ch) (b : Burst) : (releaseBurst e c b s).Ok := by
  unfold releaseBurst
  split
  · exact h
  · exact ok_returnPloam (s := unplace e b.frames s) h e c _

theorem ok_showPermit (h : s.Ok) (e : Engine) : (showPermit e s).Ok := State.ok_putB h _ _

theorem ok_darken (h : s.Ok) (e : Engine) (c : Ch) : (darken e c s).Ok := by
  unfold darken
  split
  · exact ok_showPermit (State.ok_putB (State.ok_modCh (ok_releaseBurst h e c _) _ _ _) _ _) _
  · exact h

theorem ok_cutBurst (h : s.Ok) (e : Engine) (c : Ch) : (cutBurst e c s).Ok := by
  unfold cutBurst
  split
  · exact State.ok_raise (State.ok_bump (ok_darken h e c) _ _) _ _ _
  · exact h

theorem ok_setBond (h : s.Ok) (e : Engine) (c : Ch) (st : Nat) : (setBond e c st s).Ok := by
  unfold setBond
  split
  · exact h
  · exact State.ok_raise (State.ok_put h _ _) _ _ _

theorem ok_bondStrike (h : s.Ok) (e : Engine) (c : Ch) : (bondStrike e c s).Ok := by
  have h' := State.ok_raise (State.ok_bump h (BOND_CHCNT e.n c.val 3) 1) (BOND_FLAGS e.n) (8 + c.val) (576 + 32 * e.n + (8 + c.val))
  unfold bondStrike
  dsimp only
  split
  · exact State.ok_raise (ok_setBond h' _ _ _) _ _ _
  · exact State.ok_put h' _ _

theorem ok_sitOut (h : s.Ok) (e : Engine) (c : Ch) : (sitOut e c s).Ok := by
  have h' : (if (s.ch e c).wakeReturn then s else bondStrike e c s).Ok := by
    split
    · exact h
    · exact ok_bondStrike h e c
  unfold sitOut
  split
  · dsimp only
    generalize (if (s.ch e c).wakeReturn then s else bondStrike e c s) = t at h' ⊢
    split
    · exact h'
    · exact ok_setBond (State.ok_bump h' _ _) _ _ _
  · exact h

theorem ok_bondLeave (h : s.Ok) (e : Engine) (c : Ch) : (bondLeave e c s).Ok := by
  unfold bondLeave
  split
  · exact ok_setBond h _ _ _
  · exact h

theorem ok_showRoom (h : s.Ok) (e : Engine) : (showRoom e s).Ok := by
  unfold showRoom
  dsimp only
  split
  · exact State.ok_put (State.ok_put h _ _) _ _
  · exact State.ok_put h _ _

theorem ok_flushQueue (h : s.Ok) (e : Engine) (q : Nat) : (flushQueue e q s).Ok := by
  unfold flushQueue
  split
  · exact h
  · exact State.ok_raise (State.ok_bump (s := countRemoved e q _ (setQueue e q [] s)) h _ _) _ _ _

theorem ok_freeSlot (h : s.Ok) (e : Engine) (sl : Nat) : (freeSlot e sl s).Ok :=
  ok_showRoom (State.ok_each _ (fun _ _ h => ok_flushQueue h _ _) (State.ok_putB h _ _)) _

theorem ok_unbindSlots (h : s.Ok) (e : Engine) : (unbindSlots e s).Ok :=
  State.ok_each _ (fun _ s h => by
    split
    · exact ok_freeSlot h _ _
    · exact h) h

theorem ok_emptyKeys (h : s.Ok) (e : Engine) : (emptyKeys e s).Ok := State.ok_put (s := s.modLine e _) h _ _

/-! ### Activation states -/

theorem ok_purgeJudged (h : s.Ok) : (purgeJudged s).Ok := by
  unfold purgeJudged
  split <;> exact h

theorem ok_noteLof (h : s.Ok) (e : Engine) (c : Ch) (b : Bool) : (noteLof e c b s).Ok := by
  unfold noteLof
  split
  · exact h
  · refine State.ok_raise (s := if b then s else breakRuns e c s) ?_ _ _ _
    split <;> exact h

theorem ok_unlock (h : s.Ok) (e : Engine) (c : Ch) : (unlock e c s).Ok :=
  ok_purgeJudged (State.ok_modCh (State.ok_putB (State.ok_putB h _ _) _ _) _ _ _)

theorem ok_stopTod (h : s.Ok) (e : Engine) : (stopTod e s).Ok := State.ok_putB h _ _

/-- One channel takes an activation state. -/
theorem ok_enterState (h : s.Ok) (e : Engine) (c : Ch) (st : Nat) : (enterState e c st s).Ok := by
  unfold enterState
  dsimp only
  split
  · exact h
  · have h1 : (((actFlag e c.val (s.put (actStateF e c) st)).putB ((PFE_STATUS_LATCH e.n).bit c.val) (latchOpen st)).when
        (st = 5 && s.act e c = 4) (actFlag e (4 + c.val))).Ok :=
      State.ok_when (State.ok_putB (State.ok_raise (State.ok_put h _ _) _ _ _) _ _) _ (fun _ h => State.ok_raise h _ _ _)
    have h2 := ok_purgeJudged (ok_noteLof
      (State.ok_when (State.ok_when (State.ok_when (State.ok_modCh h1 e c (fun x => { x with to1 := decide (st = 4), to2 := decide (st = 6) }))
        (decide (st ≤ 1)) (fun _ h => ok_unlock (State.ok_putB (State.ok_put h (TC_EQD_EQD e.n c.val) 0) (TC_EQD_VALID e.n c.val) false) e c))
        (!latchOpen st) (fun _ h => ok_darken h e c)) (decide (st ≠ 5) && decide (st ≠ 6)) (fun _ h => ok_bondLeave h e c)) e c (s.lof e c))
    split
    · refine State.ok_when (State.ok_when (State.ok_when (State.ok_when (State.ok_when (State.ok_modLine h2 _ _) _ ?_) _ ?_) _ ?_) _ ?_) _ ?_
      · exact fun _ h => State.ok_put h _ _
      · exact fun _ h => h
      · exact fun _ h => ok_stopTod (State.ok_putB h _ _) _
      · exact fun _ h => State.ok_modLine (ok_emptyKeys h _) _ _
      · exact fun _ h => State.ok_put h _ _
    · exact h2

theorem ok_discardIdentity (h : s.Ok) (e : Engine) : (discardIdentity e s).Ok :=
  ok_unbindSlots (State.ok_each _ (fun _ _ h => State.ok_modCh (State.ok_putB (State.ok_put h _ _) _ _) _ _ _) (State.ok_put h _ _)) e

theorem ok_enterState0 (h : s.Ok) (e : Engine) (st : Nat) : (enterState0 e st s).Ok := by
  unfold enterState0
  dsimp only
  split
  · refine State.ok_each _ (fun c s h => ?_) (ok_discardIdentity (ok_enterState h _ _ _) e)
    split
    · split
      · exact h
      · exact ok_enterState h _ _ _
    · exact ok_enterState h _ _ _
  · exact ok_enterState h _ _ _

theorem ok_moveState (h : s.Ok) (e : Engine) (c : Ch) (st : Nat) : (moveState e c st s).Ok := by
  unfold moveState
  split
  · exact ok_enterState0 h _ _
  · exact ok_enterState h _ _ _

theorem ok_deactivate (h : s.Ok) (e : Engine) (c : Ch) : (deactivate e c s).Ok := by
  unfold deactivate
  split
  · exact h
  · split
    · split
      · exact h
      · exact ok_enterState0 h _ _
    · split
      · exact h
      · exact ok_enterState h _ _ _

/-! ### The keeper island -/

theorem ok_deliver (h : s.Ok) (d : Nat) (m : GateMsg) : (deliver d m s).Ok := by
  unfold deliver
  dsimp only
  split
  · exact h
  · exact State.ok_raise (State.ok_bump (s := setGateQ d _ s) h _ _) _ _ _

theorem ok_changeRecord (h : s.Ok) (dom key : Nat) (v : Option (List Byte)) (b : Bool) : (changeRecord dom key v b s).Ok := h

theorem ok_restop (h : s.Ok) : (restop s).Ok := h

theorem ok_startWatchdog (h : s.Ok) (x : Nat) : (startWatchdog x s).Ok := h

theorem ok_restRefused (h : s.Ok) (dom reason step : Nat) : (restRefused dom reason step s).Ok :=
  State.ok_raise (State.ok_put (State.ok_put (State.ok_put h _ _) _ _) _ _) _ _ _

theorem ok_recordWake (h : s.Ok) (w : WakeEvent) (b : Bool) : (recordWake w b s).Ok :=
  State.ok_putB (State.ok_putB (State.ok_put (State.ok_put h _ _) _ _) _ _) _ _

end Sys2Proof.Machine
end

