-- ==== Sys2Proof/Laws/Records.lean ====
section
/-! SUPPORT. Laws of the records outside the registers: what a record reads after it or another one has changed, and what the
shared operations that only move records do. -/
namespace Sys2Proof.Machine

/-! ### Records: read after a change -/

theorem Engine.n_inj {e d : Engine} (h : e.n = d.n) : e = d := by
  cases e <;> cases d <;> first | rfl | exact absurd h (by decide)

theorem State.line_modLine_same (s : State) (e : Engine) (f : Line → Line) : (s.modLine e f).line e = f (s.line e) :=
  sget_sset_same s.lines e.n _

theorem State.line_modLine_other (s : State) {e d : Engine} (f : Line → Line) (h : d ≠ e) : (s.modLine e f).line d = s.line d :=
  sget_sset_other s.lines _ (fun k => h (Engine.n_inj k))

theorem State.ch_modCh_same (s : State) (e : Engine) (c : Ch) (f : Chan → Chan) : (s.modCh e c f).ch e c = f (s.ch e c) :=
  sget_sset_same s.chans (4 * e.n + c.val) _

theorem State.ch_modCh_other (s : State) (e d : Engine) (c b : Ch) (f : Chan → Chan) (h : d ≠ e ∨ b ≠ c) :
    (s.modCh e c f).ch d b = s.ch d b := by
  refine sget_sset_other s.chans _ (fun k => ?_)
  have hc := c.isLt
  have hb := b.isLt
  have hn : d.n = e.n := by omega
  have hv : b.val = c.val := by omega
  exact h.elim (fun x => x (Engine.n_inj hn)) (fun x => x (Fin.ext hv))

theorem State.lane_modLane_same (s : State) (l : Nat) (f : LaneX → LaneX) : (s.modLane l f).lane l = f (s.lane l) :=
  sget_sset_same s.lanes l _

theorem State.lane_modLane_other (s : State) {l k : Nat} (f : LaneX → LaneX) (h : k ≠ l) : (s.modLane l f).lane k = s.lane k :=
  sget_sset_other s.lanes _ h

theorem State.port_modPort_same (s : State) (p : Nat) (f : PortX → PortX) : (s.modPort p f).port p = f (s.port p) :=
  sget_sset_same s.ports p _

theorem State.port_modPort_other (s : State) {p q : Nat} (f : PortX → PortX) (h : q ≠ p) : (s.modPort p f).port q = s.port q :=
  sget_sset_other s.ports _ h

theorem State.pipe_modPipe_same (s : State) (p : Nat) (f : PipeX → PipeX) : (s.modPipe p f).pipe p = f (s.pipe p) :=
  sget_sset_same s.pipes p _

theorem State.pipe_modPipe_other (s : State) {p q : Nat} (f : PipeX → PipeX) (h : q ≠ p) : (s.modPipe p f).pipe q = s.pipe q :=
  sget_sset_other s.pipes _ h

/-! ### Tie links: what sending does -/

/-- A line die's item goes behind those under way, and its link's SEQ advances; nothing else of the line changes (R19, R548). -/
theorem line_sendUp (s : State) (e : Engine) (x : ToHub) :
    (sendUp e x s).line e = { s.line e with
      txHub := ((s.line e).txHub + 1) % 65536, toHub := (s.line e).toHub ++ [(upHeader e (s.line e) x, x)] } :=
  State.line_modLine_same s e _

/-- No register changes when a line die sends an item. -/
theorem reg_sendUp (s : State) (e : Engine) (x : ToHub) (a : Nat) : (sendUp e x s).reg a = s.reg a := rfl

/-- What the hub sends toward the line goes behind what is under way, and the link's SEQ advances. -/
theorem line_sendToLine (s : State) (e : Engine) (kind : Nat) (bytes : List Byte) (lq : Nat) :
    (sendToLine e kind bytes lq s).line e = { s.line e with
      txLine := ((s.line e).txLine + 1) % 65536
      toLine := (s.line e).toLine ++
        [(tieHeader e true (s.get (claimF e)) kind 0 0 false 0 bytes.length lq (s.line e).txLine, bytes)] } :=
  State.line_modLine_same s e _

/-- The permit that a front end shows is all that changes when it is shown afresh (R56). -/
theorem onlyRegs_showPermit (s : State) (e : Engine) : onlyRegs [(PFE_STATUS_PERMIT e.n).addr] s (showPermit e s) :=
  onlyRegs_putB s _ _

/-! ### Words kept twice -/

/-- Bad copies noted for a word are read of that word, and of no other (R277). -/
theorem State.copiesBad_setCopies_same (s : State) (parity : Bool) (a n : Nat) :
    (setCopies (parity.toNat * 2 ^ 26 + a) n s).copiesBad parity a = n := sget_sset_same s.cx.badCopy _ _

theorem State.copiesBad_setCopies_other (s : State) (parity : Bool) {k a : Nat} (n : Nat) (h : parity.toNat * 2 ^ 26 + a ≠ k) :
    (setCopies k n s).copiesBad parity a = s.copiesBad parity a := sget_sset_other s.cx.badCopy _ h

/-- Reading words of which every copy is good finds none lost and changes nothing (R277). -/
theorem readTwice_good (s : State) (b : Nat) (parity : Bool) (addrs : List Nat) (h : ∀ a ∈ addrs, s.copiesBad parity a = 0) :
    readTwice b parity addrs s = (false, s) := by
  have h1 : addrs.any (fun a => decide (s.copiesBad parity a = 2)) = false := by
    rw [List.any_eq_false]
    intro a ha
    simp [h a ha]
  have h2 : addrs.filter (fun a => decide (s.copiesBad parity a = 1)) = [] := by
    rw [List.filter_eq_nil_iff]
    intro a ha
    simp [h a ha]
  unfold readTwice
  rw [h1, h2]
  rfl

/-! ### The passes of a pipe -/

/-- The pass that goes next to a unit is the first of those to be rerun, or else the head of the dispatch queue; with neither
there is none (R257, R275). -/
theorem takePass_cases (p : Nat) (s : State) :
    (∃ x rest, (s.pipe p).reruns = x :: rest ∧ takePass p s = some (x, s.modPipe p (fun y => { y with reruns := rest }))) ∨
    (∃ x rest, (s.pipe p).reruns = [] ∧ (s.pipe p).queue = x :: rest ∧
      takePass p s = some (x, showQueue p (s.modPipe p (fun y => { y with queue := rest })))) ∨
    ((s.pipe p).reruns = [] ∧ (s.pipe p).queue = [] ∧ takePass p s = none) := by
  unfold takePass
  cases hr : (s.pipe p).reruns with
  | cons x rest => exact .inl ⟨x, rest, rfl, rfl⟩
  | nil =>
    cases hq : (s.pipe p).queue with
    | cons x rest => exact .inr (.inl ⟨x, rest, rfl, rfl, rfl⟩)
    | nil => exact .inr (.inr ⟨rfl, rfl, rfl⟩)

/-- The input of pipe 2 whose turn it is has something waiting (R24). -/
theorem State.turnInput_waits {s : State} {i : Nat} (h : s.turnInput = some i) : s.inputWaits i = true :=
  List.find?_some h

end Sys2Proof.Machine
end

