-- ==== Sys2Proof/Tests/Helper.lean ====
section
/-! SUPPORT. Small states for the tests: the state after reset with a few fields written. -/
namespace Sys2Proof.Machine

/-- The state after reset with fields replaced. -/
def mk (fs : List (Fld × Nat)) : State := fs.foldl (fun s x => s.put x.1 x.2) State.reset

end Sys2Proof.Machine
end

