-- ==== Sys2Proof/Tests/Slice0.lean ====
section
/-! SUPPORT. Tests: what the well-formedness check refuses, and steps and computations against the worked examples and tables
of the spec and against published check values. -/
namespace Sys2Proof

-- One after another: theorems that wait for the kernel side by side each hold a thread.
set_option Elab.async false

/-! ### Ill-formed terms are refused -/

/-- Refused: a vendor ID beyond 4 bytes. -/
theorem test_wf_refuses_serial : (Serial.mk (2 ^ 32) 0).wf = false := by decide
/-- Refused: an ONU-ID beyond 10 bits. -/
theorem test_wf_refuses_ploam_onu_id : (PloamHdr.mk 1024 true 0).wf = false := by decide
/-- Refused: a sequence number beyond 8 bits. -/
theorem test_wf_refuses_ploam_seq : (PloamHdr.mk 5 true 256).wf = false := by decide
/-- Refused: a fifth profile. -/
theorem test_wf_refuses_profile_index : (ProfileMsg.mk 4 ⟨512, 64, true, 248832, []⟩).wf = false := by decide
/-- Refused: a message type beyond 8 bits. -/
theorem test_wf_refuses_ploam_body : (PloamBody.other 256).wf = false := by decide
/-- Refused: a message whose body is not well-formed. -/
theorem test_wf_refuses_ploam_message : (PloamMsg.mk ⟨5, true, 9⟩ (.assignAllocId 16384 true)).wf = false := by decide
/-- Refused: a START beyond 16 bits. -/
theorem test_wf_refuses_alloc_start : (Alloc.mk 1200 false false 65536 500 false 0 true).wf = false := by decide
/-- Refused: a PROFILE beyond 2 bits. -/
theorem test_wf_refuses_alloc_profile : (Alloc.mk 1200 false false 1000 500 false 4 true).wf = false := by decide
/-- Refused: a PLI beyond 14 bits. -/
theorem test_wf_refuses_xgem_pli : (XgemUnit.mk true 16384 0 0 true [] false false).wf = false := by decide
/-- Refused: a superframe counter beyond 51 bits. -/
theorem test_wf_refuses_frame_sfc : (DsFrame.mk 0 (2 ^ 51) true 0 true true [] [] [] 0 0 0).wf = false := by decide
/-- Refused: more differing bits than PSync has. -/
theorem test_wf_refuses_frame_psync : (DsFrame.mk 65 0 true 0 true true [] [] [] 0 0 0).wf = false := by decide
/-- Refused: a tag of three bytes. -/
theorem test_wf_refuses_bond_tag : (BondSdu.mk [1, 2, 3] [] 7 0 false).wf = false := by decide
/-- Refused: an update without its four powers. -/
theorem test_wf_refuses_telemetry : (Telemetry.mk [] [0, 0, 0, 0] [0, 0, 0, 0] [0, 0, 0, 0] 0 0).wf = false := by decide
/-- Refused: an Alloc-ID beyond 14 bits. -/
theorem test_wf_refuses_slot_binding : (SlotBinding.mk true 0 8 16384 []).wf = false := by decide
/-- Refused: a SEQ beyond 8 bits. -/
theorem test_wf_refuses_flit : (Flit.mk 256 [] 0 true).wf = false := by decide
/-- Refused: quanta beyond 16 bits. -/
theorem test_wf_refuses_mac_control : (MacControl.pfc [(0, 65536)]).wf = false := by decide
/-- Refused: a label beyond 8 bits. -/
theorem test_wf_refuses_overhead : (CbrOverhead.mk 0 false false false (some 256) false true [] [] none none).wf = false := by decide
/-- Refused: an access of three bytes. -/
theorem test_wf_refuses_access_size : (Instr.registerWrite .tenant 0x1000 3 0).wf = false := by decide
/-- Refused: an address beyond 32 bits. -/
theorem test_wf_refuses_access_addr : (Instr.wideValueRead .host (2 ^ 32) 4).wf = false := by decide
/-- Refused: an address beyond 32 bits. -/
theorem test_wf_refuses_wide_write : (Instr.wideValueWrite .host (2 ^ 32) 4 0).wf = false := by decide
/-- Refused: an access of five bytes. -/
theorem test_wf_refuses_rc_read : (Instr.rcFieldRead .tenant 0 5).wf = false := by decide
/-- Refused: a frame beyond 65,535 bytes. -/
theorem test_wf_refuses_client_frame (bs : List Byte) (h : bs.length = 65536) : (Instr.clientFrameReceive 0 ⟨bs, [], 0, 0⟩).wf = false :=
  decide_eq_false (by simp only [h]; omega)
/-- Refused: a header of one byte. -/
theorem test_wf_refuses_tie_header : (Instr.tieFrameReceive .la [0] ⟨[]⟩).wf = false := by decide
/-- Refused: an empty header. -/
theorem test_wf_refuses_line_tie_header : (Instr.lineTieFrameReceive .lb [] ⟨[]⟩).wf = false := by decide
/-- Refused: more differing bits than a synchronisation word has. -/
theorem test_wf_refuses_lock_diffs : (Instr.frameLock .la 0 [0, 65, 0] none).wf = false := by decide
/-- Refused: an ONU-ID beyond 10 bits. -/
theorem test_wf_refuses_burst_profile : (Instr.burstProfile .la 0 ⟨1024, true, 0⟩ ⟨0, ⟨512, 64, true, 248832, []⟩⟩).wf = false := by decide
/-- Refused: an ONU-ID beyond 10 bits. -/
theorem test_wf_refuses_assign_onu_id : (Instr.assignOnuId .la 0 ⟨5, true, 9⟩ ⟨0, 0⟩ 1024).wf = false := by decide
/-- Refused: a delay beyond 32 bits. -/
theorem test_wf_refuses_ranging_time : (Instr.rangingTime .la 0 ⟨5, true, 9⟩ true (-4294967296)).wf = false := by decide
/-- Refused: a vendor ID beyond 4 bytes. -/
theorem test_wf_refuses_disable_serial : (Instr.disableSerialNumber .la 0 ⟨5, true, 9⟩ ⟨2 ^ 32, 0⟩).wf = false := by decide
/-- Refused: a message type beyond 8 bits. -/
theorem test_wf_refuses_unsupported_type : (Instr.unsupportedPloam .la 0 ⟨5, true, 9⟩ 256).wf = false := by decide
/-- Refused: a MODE beyond 2 bits. -/
theorem test_wf_refuses_px_mode : (Instr.pxModeWrite .carrier 4).wf = false := by decide
/-- Refused: no cause. -/
theorem test_wf_refuses_trigger_zero : (Instr.switchoverTrigger [0]).wf = false := by decide
/-- Refused: an eighth cause. -/
theorem test_wf_refuses_trigger_eight : (Instr.switchoverTrigger [1, 8]).wf = false := by decide
/-- Refused: a value beyond 8 bits. -/
theorem test_wf_refuses_switch_command : (Instr.protectionSwitchCommand 256).wf = false := by decide
/-- Refused: a MODE beyond 4 bits. -/
theorem test_wf_refuses_lane_mode : (Instr.laneModeWrite .tenant 0 16).wf = false := by decide
/-- Refused: a source beyond the last. -/
theorem test_wf_refuses_pass_source : (Instr.passReady 131 [] true).wf = false := by decide
/-- Refused: an address beyond 32 bits. -/
theorem test_wf_refuses_table_add : (Instr.tableAdd .tenant (2 ^ 32)).wf = false := by decide
/-- Refused: an address beyond 32 bits. -/
theorem test_wf_refuses_table_remove : (Instr.tableRemove .tenant (2 ^ 32)).wf = false := by decide
/-- Refused: a tile beyond the last. -/
theorem test_wf_refuses_data_parity : (Instr.dataParity 0 387072).wf = false := by decide
/-- Refused: a tile beyond the last. -/
theorem test_wf_refuses_tile_test : (Instr.tileTestDone 387072 true).wf = false := by decide
/-- Refused: a shaper beyond the last. -/
theorem test_wf_refuses_shaper : (Instr.shaperWrite .tenant 9664 0).wf = false := by decide
/-- Refused: a meter beyond the last. -/
theorem test_wf_refuses_meter : (Instr.meterInstall .tenant 65536 0).wf = false := by decide
/-- Refused: an address beyond 32 bits. -/
theorem test_wf_refuses_cfg_parity : (Instr.cfgParity (2 ^ 32) true).wf = false := by decide
/-- Refused: a code beyond the two. -/
theorem test_wf_refuses_pawn : (Instr.pawnWrite .tenant 0 2).wf = false := by decide
/-- Refused: an SA slot beyond the last. -/
theorem test_wf_refuses_sa_slot : (Instr.keySlotInstall .tenant true 8192 0).wf = false := by decide
/-- Refused: a job slot beyond the last. -/
theorem test_wf_refuses_job_slot : (Instr.keySlotInstall .tenant false 256 0).wf = false := by decide
/-- Refused: a job slot beyond the last. -/
theorem test_wf_refuses_key_parity : (Instr.keyParity false 256 true).wf = false := by decide
/-- Refused: a segment of one byte. -/
theorem test_wf_refuses_segment : (Instr.segmentCut 0 [0]).wf = false := by decide
/-- Refused: a MODE beyond 2 bits. -/
theorem test_wf_refuses_capture_mode : (Instr.capGo ⟨.la, 0⟩ 0 4 0).wf = false := by decide
/-- Refused: no samples. -/
theorem test_wf_refuses_capture_samples : (Instr.captureComplete .la 0 [] [] 0 0).wf = false := by decide
/-- Refused: an offset beyond 24 bits. -/
theorem test_wf_refuses_flash_read : (Instr.flashRead true (2 ^ 24) 1).wf = false := by decide
/-- Refused: an offset beyond 24 bits. -/
theorem test_wf_refuses_flash_write : (Instr.flashWrite true (2 ^ 24) []).wf = false := by decide
/-- Refused: a length beyond 24 bits. -/
theorem test_wf_refuses_flash_erase : (Instr.flashErase true 0 (2 ^ 24)).wf = false := by decide
/-- Refused: a count beyond 8 bits. -/
theorem test_wf_refuses_host_read : (Instr.hostRead 256 0 0).wf = false := by decide
/-- Refused: an address beyond 32 bits. -/
theorem test_wf_refuses_host_write : (Instr.hostWrite (2 ^ 32) [] 0).wf = false := by decide
/-- Refused: a group beyond the last. -/
theorem test_wf_refuses_swset : (Instr.swset .tenant 48 0).wf = false := by decide
/-- Refused: a TARGET beyond 2 bits. -/
theorem test_wf_refuses_block_target : (Instr.rstBlockGo .tenant 4 0).wf = false := by decide
/-- Refused: an INDEX beyond 7 bits. -/
theorem test_wf_refuses_block_index : (Instr.rstBlockGo .tenant 0 128).wf = false := by decide
/-- Refused: a frame beyond 65,535 bytes. -/
theorem test_wf_refuses_port_send (bs : List Byte) (h : bs.length = 65536) : (Instr.controllerPortSend 0 0 bs .plain).wf = false :=
  decide_eq_false (by simp only [h]; omega)
/-- Refused: an opcode beyond 8 bits. -/
theorem test_wf_refuses_opcode : (Instr.unknownOpcode 256).wf = false := by decide
/-- Refused: an Alloc-ID beyond 14 bits. -/
theorem test_wf_refuses_grant : (Instr.grantReceive .la 0 ⟨16384, false, false, 0, 8, false, 0, true⟩).wf = false := by decide
/-- Refused: an Alloc-ID beyond 14 bits. -/
theorem test_wf_refuses_serial_grant : (Instr.serialNumberGrant .la ⟨16384, false, false, 0, 8, false, 0, true⟩).wf = false := by decide
/-- Refused: an Alloc-ID beyond 14 bits. -/
theorem test_wf_refuses_ranging_grant : (Instr.rangingGrant .la 0 ⟨16384, false, false, 0, 8, false, 0, true⟩).wf = false := by decide
/-- Refused: a SEQ beyond 8 bits. -/
theorem test_wf_refuses_flit_command : (Instr.flitReceive .la true ⟨256, [], 0, true⟩).wf = false := by decide
/-- Refused: quanta beyond 16 bits. -/
theorem test_wf_refuses_pause : (Instr.pauseFrameReceive 0 (.pause 65536)).wf = false := by decide

end Sys2Proof

namespace Sys2Proof.Machine

set_option Elab.async false

/-! ### Check values

The checks of the nine characters 123456789 as the catalogues of CRC algorithms give them, and the AES-128 example of
FIPS 197, appendix C.1. -/

/-- The characters 1 to 9. -/
def digits : List Byte := [0x31, 0x32, 0x33, 0x34, 0x35, 0x36, 0x37, 0x38, 0x39]

/-- CRC-32 of IEEE 802.3. -/
theorem test_crc32 : crc32 digits = 0xCBF43926 := by decide +kernel
/-- CRC-32C. -/
theorem test_crc32c : crc32c digits = 0xE3069283 := by decide +kernel
/-- The CRC-16 of Table 05-2, CRC-16/CCITT with initial value 0xFFFF. -/
theorem test_crc16 : crc16 digits = 0x29B1 := by decide +kernel
/-- CRC-64 of ECMA-182. -/
theorem test_crc64 : crc64 digits = 0x6C40DF5F0B497347 := by decide +kernel

/-- FIPS 197, C.1. -/
theorem test_aes128 :
    aesBlock [0, 1, 2, 3, 4, 5, 6, 7, 8, 9, 10, 11, 12, 13, 14, 15]
      [0x00, 0x11, 0x22, 0x33, 0x44, 0x55, 0x66, 0x77, 0x88, 0x99, 0xAA, 0xBB, 0xCC, 0xDD, 0xEE, 0xFF] =
      [0x69, 0xC4, 0xE0, 0xD8, 0x6A, 0x7B, 0x04, 0x30, 0xD8, 0xCD, 0xB7, 0x80, 0x70, 0xB4, 0xC5, 0x5A] := by decide +kernel

/-! ### Upstream bursts (the worked examples of 06_upstream_bursts.md) -/

/-- Profile 0 of the examples: a 64-byte preamble and an 8-byte delimiter at 24.8832 Gb/s, with FEC. -/
def exProfile : Profile := ⟨512, 64, true, 248832, []⟩

/-- The example below R147: START 1,000 and a delay of 2,000,000 give T = 3,868,672 unit intervals. -/
theorem test_launch_instant :
    launchOf exProfile ⟨[⟨1200, false, false, 1000, 500, false, 0, true⟩], false, 0, 0, 2000000, 0, []⟩ = 3868672 * 10000 := by
  decide +kernel

/-- Table 06-4: the burst of A and B runs from word 991 to word 1,867. -/
theorem test_burst_words :
    let g : Grant := ⟨[⟨1200, true, false, 1000, 500, false, 0, true⟩, ⟨1201, false, false, 0xFFFF, 200, false, 0, true⟩],
      false, 0, 0, 0, 0, []⟩
    g.start - preWords exProfile = 991 ∧ lastWord exProfile g = 1867 := by decide +kernel

/-- Table 06-4: structure D would end at word 48,741, beyond word 48,599. -/
theorem test_burst_beyond_frame :
    lastWord exProfile ⟨[⟨1204, false, false, 48500, 200, false, 0, true⟩], false, 0, 0, 0, 0, []⟩ = 48741 := by decide +kernel

/-! ### The optical line (02_optical_line.md) -/

/-- Whether the next state that an outcome answers has a property. -/
def after (o : Out) (p : State → Bool) : Bool :=
  match o with
  | .next t => p t
  | _ => false

/-- The example below Table 02-3: the return to high is recognised, here 100 ns after it, and bursts that launch less than
2 µs later are withheld. -/
theorem test_inhibit_release :
    after (exec (.txInhibitRelease 100) { mk [(PFE_STATUS_INHIBIT 0, 1)] with now := 20100 })
      (fun t => (t.line .la).inhFrom = 22100 && !t.isSet (PFE_STATUS_INHIBIT 0)) = true := by decide +kernel

/-! ### Parsing (10_parsing.md) -/

/-- A parse unit of pipe 0 that comes to an instruction word, its cursor at byte 0 of a window of 0, 1, 2, … -/
def parseAt (w : Nat) : State :=
  { State.reset with
    units := [(3, some { pass := ⟨4, 9, false, 5, false, 0, (List.range 256).map (BitVec.ofNat 8), some 124, none, false⟩,
                         pc := 2, cursor := 0 })],
    cx := { parse := [(0x02010008, BitVec.ofNat 32 w)] } }

/-- The encoding example of R267: 0x0443_03C0 is LDF P1, OFF 12, BIT 0, width 16, an EtherType. -/
theorem test_ldf_word :
    after (exec (.parseLdf 0 3) (parseAt 0x044303C0)) (fun t => (t.unitRun 0 3).any (fun r => r.rd 1 = 0x0C0D && r.pc = 3)) =
      true := by decide +kernel

/-- The encoding example of R267: 0x4C00_E000 is MOVE with ADV 14 to NSQ; with no next square the pass is done at byte
14. -/
theorem test_move_word :
    after (exec (.parseMove 0 3) (parseAt 0x4C00E000))
      (fun t => (t.unitRun 0 3).isNone) = true := by decide +kernel

/-! ### Handles (Table 12-5) -/

/-- Tile 0x1A2B is handed out at GEN 7 as 0x0038_1A2B, beside the VALID bit. -/
theorem test_handle :
    handleOf 0x1A2B 7 % 2 ^ 31 = 0x00381A2B ∧ handleTile 0x00381A2B = 0x1A2B ∧ handleGen 0x00381A2B = 7 := by decide +kernel

/-- At 310 ns the tile is free again: the free of 0x0038_1A2B is rejected under row 2. -/
theorem test_double_free :
    after (exec (.bmFree .tenant 0x00381A2B .good) { State.reset with bm := { tiles := [(0x1A2B, some ⟨0, 7, 1, 0, true, none⟩)] } })
      (fun t => (t.reg (BM_LAST_REJECT + 4)).toNat % 16 = 2 && t.count (BM_CNT 3) = 1) = true := by decide +kernel

/-- At 410 ns the tile stands at GEN 8: the same free is rejected under row 1. -/
theorem test_stale_free :
    after (exec (.bmFree .tenant 0x00381A2B .good) { State.reset with bm := { tiles := [(0x1A2B, some ⟨1, 8, 0, 1, true, none⟩)] } })
      (fun t => (t.reg (BM_LAST_REJECT + 4)).toNat % 16 = 1) = true := by decide +kernel

/-- At 420 ns the tile belongs to an ingress, OWNER 0: a free by class 2 is rejected under row 3. -/
theorem test_wrong_owner :
    after (exec (.bmFree .tenant 0x00401A2B .good) { State.reset with bm := { tiles := [(0x1A2B, some ⟨1, 8, 0, 1, true, none⟩)] } })
      (fun t => (t.reg (BM_LAST_REJECT + 4)).toNat % 16 = 3) = true := by decide +kernel

/-! ### The scheduler (the example below R341) -/

/-- Queues 100 and 101 in band 3 of node 480, weights 4 and 1. -/
def exQueues : State :=
  mk [(QS_Q_PARENT 100, 480), (QS_Q_BAND 100, 3), (QS_Q_WEIGHT 100, 4), (QS_Q_PARENT 101, 480), (QS_Q_BAND 101, 3),
      (QS_Q_WEIGHT 101, 1)]

/-- Serve `n` frames of a charged length of 1,020 bytes, answering the queues in order and the state after. -/
def servedBy : Nat → State → List Nat × State
  | 0, s => ([], s)
  | n + 1, s =>
    match s.pick 480 [1572, 1573] with
    | some c => let r := servedBy n (serve 480 c 1020 s); ((c - 1472) :: r.1, r.2)
    | none => ([], s)

/-- The first seven selections, and V after them. -/
theorem test_first_seven_selections :
    (servedBy 7 exQueues).1 = [100, 101, 100, 100, 100, 100, 101] ∧ (servedBy 7 exQueues).2.vOf 480 3 = 1044480 := by
  decide +kernel

/-! ### The line DSP (16_line_dsp.md) -/

/-- The examples below R430: 1.5, 2.5 and −1.5 round to the even integer, and 0x7FFF_C000 to 32,768, which does not fit. -/
theorem test_round_even :
    roundEven 0x18000 16 = 2 ∧ roundEven 0x28000 16 = 2 ∧ roundEven (-0x18000) 16 = -2 ∧ roundEven 0x7FFFC000 16 = 32768 ∧
      fits 16 32768 = false := by decide +kernel

/-- The encoding example of R433: 0x1000_8002 is LOOP with count 64 and LEN 2. -/
theorem test_loop_word :
    after (exec (.dspLoop ⟨.la, 1⟩)
        { mk [(DSP_STATUS_STATE 0 1, 1), (DSP_CTRL_RUN 0 1, 1)] with dsp := [(1, { next := 64, prog := [(64, 0x10008002)] })] })
      (fun t => (t.core ⟨.la, 1⟩).hw 0x28 = 64 && (t.core ⟨.la, 1⟩).hw 0x2C = 65 && (t.core ⟨.la, 1⟩).hw 0x30 = 67) = true := by
  decide +kernel

/-! ### Time (08_network_time.md) -/

/-- Entry 3 of the example below R225, after house time has stepped to 3,100 s: armed, kind 3, 1,200 s, PERIOD 900 s. -/
def exEntry : State :=
  setDom 0 (3100 * second) (putTime (actTime 3) (1200 * second)
    ((mk [(⟨actCtrl 3, 31, 31⟩, 1), (⟨actCtrl 3, 19, 16⟩, 3)]).setReg (TE_ACT_PERIOD 0 + 96) 900))

/-- Entry 3 fires late for 1,200 s, misses two occurrences, and then stands at 3,900 s. -/
theorem test_at_time_entry :
    after (.next (houseStep (1150 * second) exEntry)) (fun t => t.get ⟨actCtrl 3, 30, 30⟩ = 1 && t.isSet ⟨TE_FLAGS, 10, 10⟩ &&
      t.timeAt (actTime 3) = 3900 * second) = true := by decide +kernel

/-! ### Resets (Table 19-7) -/

/-- RESET_N low for 5 ms: MODULE, with RST_CAUSE bit 1, and the land driven. -/
theorem test_reset_n :
    after (exec (.resetNLow 5000000) State.reset) (fun t => t.isSet ⟨KP_RST_CAUSE, 1, 1⟩ && t.kp.driving && t.moduleHeld) = true := by
  decide +kernel


end Sys2Proof.Machine
end

