-- ==== Sys2Proof/Tests/WitnessClient.lean ====
section
/-! SUPPORT. Witnesses: for each statement a state and operands that meet the hypotheses of each of its clauses, clause by
clause (client side and parsing). -/
namespace Sys2Proof.Machine

-- One after another: theorems that wait for the kernel side by side each hold a thread.
set_option Elab.async false
set_option linter.unusedVariables false

/-- What the clauses of `LaneSettings` assume can be met. -/
theorem witness_LaneSettings :
    (∃ (l : Lane) (m : Nat) (s : State), s.Ok ∧ knownMode m = true ∧ modeRefused s l.val m = false ∧ s.quad100 l.val = false ∧ s.isSet (CL_CFG_EN l.val) = true ∧ s.isSet (CL_PRBS_GEN_EN l.val) = false ∧ s.isSet (CL_PRBS_CHK_EN l.val) = false ∧ s.stage l.val ≠ 0 ∧ s.stage l.val ≠ 7 ∧ s.stage l.val ≠ 8 ∧ (s.lane l.val).retired = false ∧ s.stopped.contains .tenant = false) ∧
    (∃ (l : Lane) (m : Nat) (s : State), knownMode m = true ∧ modeRefused s l.val m = true ∧ s.stopped.contains .tenant = false) ∧
    (∃ (l : Lane) (m : Nat) (s : State), knownMode m = false ∧ s.stopped.contains .tenant = false) ∧
    (∃ (q : Quad) (s : State), (∃ i ∈ [0, 1, 2, 3], cbrMode (s.laneMode (4 * q.val + i)) = true) ∧ s.stopped.contains .tenant = false) ∧
    (∃ (q : Quad) (v : Bool) (i : Fin 4) (s : State), s.Ok ∧ (∀ i ∈ [0, 1, 2, 3], cbrMode (s.laneMode (4 * q.val + i)) = false ∧ s.isSet (CL_PRBS_GEN_EN (4 * q.val + i)) = false ∧ s.isSet (CL_PRBS_CHK_EN (4 * q.val + i)) = false) ∧ (∀ i ∈ [0, 1, 2, 3], (s.lane (4 * q.val + i)).retired = false) ∧ s.isSet (CL_QUAD_CFG_PORT100 q.val) ≠ v ∧ s.stopped.contains .tenant = false) ∧
    (∃ (l : Lane) (s : State), s.Ok ∧ s.stage l.val = 0 ∧ (s.lane l.val).retired = false ∧ s.isSet (CL_PRBS_GEN_EN l.val) = false ∧ s.isSet (CL_PRBS_CHK_EN l.val) = false ∧ s.stopped.contains .tenant = false) ∧
    (∃ (l : Lane) (s : State), s.Ok ∧ s.stage l.val = 0 ∧ (s.lane l.val).retired = true ∧ s.stopped.contains .tenant = false) ∧
    (∃ (l : Lane) (s : State), s.Ok ∧ s.stopped.contains .tenant = false) ∧
    (∃ (l : Lane) (s : State), s.Ok ∧ s.stopped.contains .tenant = false) ∧
    (∃ (l : Lane) (g : Bool) (k : Bool) (s : State), s.Ok ∧ (g || k) = true ∧ (s.lane l.val).retired = false ∧ s.stopped.contains .tenant = false) ∧
    (∃ (l : Lane) (s : State), s.Ok ∧ s.stage l.val = 8 ∧ (s.lane l.val).retired = false ∧ s.stopped.contains .tenant = false) ∧
    (∃ (l : Lane) (b : Bool) (s : State), (s.stage l.val = 6 ∨ s.stage l.val = 8) ∧ s.isSet (CL_CFG_TX_EN l.val) = true) ∧
    (∃ (l : Lane) (b : Bool) (s : State), (s.stage l.val ≠ 6 ∧ s.stage l.val ≠ 8 ∨ s.isSet (CL_CFG_TX_EN l.val) = false)) ∧
    (∃ (a : Agent) (l : Lane) (q : Quad) (m : Nat) (v : Bool) (w : Bool) (s : State), a ≠ .tenant ∧ a ≠ .host ∧ s.stopped.contains a = false) :=
  ⟨⟨5, 4, mk [(CL_CFG_EN 5, 1), (CL_CFG_MODE 5, 3), (CL_STATUS_STAGE 5, 6)], by decide +kernel⟩,
   ⟨5, 10, mk [(CL_CFG_MODE 4, 11)], by decide +kernel⟩,
   ⟨5, 6, State.reset, by decide +kernel⟩,
   ⟨1, mk [(CL_CFG_MODE 6, 8)], by decide +kernel⟩,
   ⟨1, true, 1, mk [(CL_CFG_EN 5, 1), (CL_CFG_MODE 5, 3), (CL_STATUS_STAGE 5, 6)], by decide +kernel⟩,
   ⟨5, mk [(CL_CFG_MODE 5, 9)], by decide +kernel⟩,
   ⟨5, ({ mk [(CL_CFG_EN 5, 0)] with lanes := [(5, { retired := true })] }), by decide +kernel⟩,
   ⟨5, mk [(CL_CFG_EN 5, 1), (CL_CFG_MODE 5, 3), (CL_STATUS_STAGE 5, 6)], by decide +kernel⟩,
   ⟨5, mk [(CL_CFG_EN 5, 1), (CL_CFG_MODE 5, 3), (CL_STATUS_STAGE 5, 7), (CL_STATUS_STRIKES 5, 2)], by decide +kernel⟩,
   ⟨5, false, true, mk [(CL_CFG_EN 5, 1), (CL_CFG_MODE 5, 3), (CL_STATUS_STAGE 5, 6)], by decide +kernel⟩,
   ⟨5, mk [(CL_CFG_EN 5, 1), (CL_CFG_MODE 5, 3), (CL_STATUS_STAGE 5, 8)], by decide +kernel⟩,
   ⟨5, true, mk [(CL_CFG_EN 5, 1), (CL_CFG_MODE 5, 3), (CL_STATUS_STAGE 5, 8), (CL_CFG_TX_EN 5, 1)], by decide +kernel⟩,
   ⟨5, true, State.reset, by decide +kernel⟩,
   ⟨.carrier, 5, 1, 1, true, true, State.reset, by decide +kernel⟩⟩

/-- What the clauses of `LaneBringUp` assume can be met. -/
theorem witness_LaneBringUp :
    (∃ (l : Lane) (s : State), s.Ok ∧ s.stage l.val = 1) ∧
    (∃ (l : Lane) (s : State), s.stage l.val ≠ 1) ∧
    (∃ (l : Lane) (s : State), s.Ok ∧ s.stage l.val = 2) ∧
    (∃ (l : Lane) (s : State), s.stage l.val = 6) ∧
    (∃ (l : Lane) (s : State), s.Ok ∧ s.stage l.val = 3) ∧
    (∃ (l : Lane) (s : State), s.stage l.val = 4 ∧ s.isSet (CL_CFG_POL_AUTO l.val) = true) ∧
    (∃ (l : Lane) (s : State), s.Ok ∧ s.stage l.val = 4) ∧
    (∃ (l : Lane) (m : BitVec 8) (k : Nat) (s : State), s.Ok ∧ s.quad100 l.val = false ∧ s.stage l.val = 5) ∧
    (∃ (l : Lane) (m : BitVec 8) (k : Nat) (s : State), s.Ok ∧ s.quad100 l.val = true ∧ (∀ i ∈ s.laneGroup l.val, s.stage i = 5) ∧ mapGood m.toNat = true ∧ k ≤ 180) ∧
    (∃ (l : Lane) (m : BitVec 8) (k : Nat) (s : State), s.Ok ∧ s.quad100 l.val = true ∧ (∀ i ∈ s.laneGroup l.val, s.stage i = 5) ∧ mapGood m.toNat = true ∧ 180 < k) ∧
    (∃ (l : Lane) (s : State), s.Ok ∧ (s.stage l.val = 2 ∨ s.stage l.val = 4 ∨ s.stage l.val = 5)) ∧
    (∃ (l : Lane) (s : State), s.Ok ∧ s.stage l.val = 3) ∧
    (∃ (l : Lane) (m : BitVec 8) (k : Nat) (s : State), s.stage l.val = 0) ∧
    (∃ (l : Lane) (w : LaneLoss) (s : State), s.Ok ∧ s.stage l.val = 6 ∧ (s.isSet (CL_STATUS_LPI_RX l.val) = false ∨ w = .highErrors) ∧ s.get (CL_STATUS_STRIKES l.val) < 2) ∧
    (∃ (l : Lane) (w : LaneLoss) (s : State), s.Ok ∧ s.stage l.val = 6 ∧ (s.isSet (CL_STATUS_LPI_RX l.val) = false ∨ w = .highErrors) ∧ 2 ≤ s.get (CL_STATUS_STRIKES l.val)) ∧
    (∃ (l : Lane) (w : LaneLoss) (s : State), s.Ok ∧ s.stage l.val = 6) ∧
    (∃ (l : Lane) (w : LaneLoss) (s : State), s.stage l.val = 6 ∧ s.isSet (CL_STATUS_LPI_RX l.val) = true ∧ w ≠ .highErrors) ∧
    (∃ (l : Lane) (w : LaneLoss) (b : Bool) (s : State), s.stage l.val ≠ 6) ∧
    (∃ (l : Lane) (s : State), s.Ok) ∧
    (∃ (l : Lane) (n : Nat) (s : State), s.Ok ∧ s.stage l.val = 8 ∧ s.isSet (CL_PRBS_CHK_EN l.val) = true ∧ s.isSet (CL_STATUS_CHK_LOCK l.val) = false) ∧
    (∃ (l : Lane) (n : Nat) (b : Bool) (s : State), (s.stage l.val ≠ 8 ∨ s.isSet (CL_PRBS_CHK_EN l.val) = false ∨ (s.isSet (CL_STATUS_CHK_LOCK l.val) = false ∧ b = false))) ∧
    (∃ (l : Lane) (n : Nat) (b : Bool) (s : State), s.Ok ∧ s.stage l.val = 8 ∧ s.isSet (CL_PRBS_CHK_EN l.val) = true ∧ s.isSet (CL_STATUS_CHK_LOCK l.val) = true) :=
  ⟨⟨5, mk [(CL_STATUS_STAGE 5, 1)], by decide +kernel⟩,
   ⟨5, State.reset, by decide +kernel⟩,
   ⟨5, mk [(CL_CFG_EN 5, 1), (CL_CFG_MODE 5, 3), (CL_STATUS_STAGE 5, 2), (CL_CFG_ANEG_EN 5, 1)], by decide +kernel⟩,
   ⟨5, mk [(CL_CFG_EN 5, 1), (CL_CFG_MODE 5, 3), (CL_STATUS_STAGE 5, 6)], by decide +kernel⟩,
   ⟨5, mk [(CL_CFG_EN 5, 1), (CL_CFG_MODE 5, 3), (CL_STATUS_STAGE 5, 3)], by decide +kernel⟩,
   ⟨5, mk [(CL_CFG_EN 5, 1), (CL_CFG_MODE 5, 3), (CL_STATUS_STAGE 5, 4)], by decide +kernel⟩,
   ⟨5, mk [(CL_CFG_EN 5, 1), (CL_CFG_MODE 5, 3), (CL_STATUS_STAGE 5, 4)], by decide +kernel⟩,
   ⟨5, 0, 0, mk [(CL_CFG_EN 5, 1), (CL_CFG_MODE 5, 3), (CL_STATUS_STAGE 5, 5)], by decide +kernel⟩,
   ⟨5, 0x1B, 180, mk [(CL_QUAD_CFG_PORT100 1, 1), (CL_STATUS_STAGE 4, 5), (CL_STATUS_STAGE 5, 5), (CL_STATUS_STAGE 6, 5), (CL_STATUS_STAGE 7, 5), (CL_CFG_EN 5, 1)], by decide +kernel⟩,
   ⟨5, 0x1B, 181, mk [(CL_QUAD_CFG_PORT100 1, 1), (CL_STATUS_STAGE 4, 5), (CL_STATUS_STAGE 5, 5), (CL_STATUS_STAGE 6, 5), (CL_STATUS_STAGE 7, 5), (CL_CFG_EN 5, 1)], by decide +kernel⟩,
   ⟨5, mk [(CL_CFG_EN 5, 1), (CL_CFG_MODE 5, 3), (CL_STATUS_STAGE 5, 2)], by decide +kernel⟩,
   ⟨5, ({ mk [(CL_CFG_EN 5, 1), (CL_CFG_MODE 5, 3), (CL_STATUS_STAGE 5, 3)] with lanes := [(5, { attempts := 2 })] }), by decide +kernel⟩,
   ⟨5, 0xE4, 0, State.reset, by decide +kernel⟩,
   ⟨5, .cdr, mk [(CL_CFG_EN 5, 1), (CL_CFG_MODE 5, 3), (CL_STATUS_STAGE 5, 6), (CL_STATUS_STRIKES 5, 1)], by decide +kernel⟩,
   ⟨5, .highErrors, mk [(CL_CFG_EN 5, 1), (CL_CFG_MODE 5, 3), (CL_STATUS_STAGE 5, 6), (CL_STATUS_STRIKES 5, 2)], by decide +kernel⟩,
   ⟨5, .wordLock, mk [(CL_CFG_EN 5, 1), (CL_CFG_MODE 5, 3), (CL_STATUS_STAGE 5, 6), (CL_STATUS_STRIKES 5, 2)], by decide +kernel⟩,
   ⟨5, .wordLock, mk [(CL_CFG_EN 5, 1), (CL_CFG_MODE 5, 3), (CL_STATUS_STAGE 5, 6), (CL_STATUS_LPI_RX 5, 1)], by decide +kernel⟩,
   ⟨5, .wordLock, true, State.reset, by decide +kernel⟩,
   ⟨5, mk [(CL_CFG_EN 5, 1), (CL_CFG_MODE 5, 3), (CL_STATUS_STAGE 5, 6), (CL_STATUS_STRIKES 5, 2)], by decide +kernel⟩,
   ⟨5, 5, mk [(CL_STATUS_STAGE 5, 8), (CL_PRBS_CHK_EN 5, 1)], by decide +kernel⟩,
   ⟨5, 5, false, mk [(CL_STATUS_STAGE 5, 8)], by decide +kernel⟩,
   ⟨5, 40, false, ({ mk [(CL_STATUS_STAGE 5, 8), (CL_PRBS_CHK_EN 5, 1), (CL_STATUS_CHK_LOCK 5, 1)] with now := 3000, lanes := [(5, { bitsAt := some 1000 })] }), by decide +kernel⟩⟩

/-- What the clauses of `TieLinks` assume can be met. -/
theorem witness_TieLinks :
    (∃ (e : Engine) (fh : BitVec 20) (fl : BitVec 20) (lh : Nat) (ll : Nat) (s : State), s.Ok ∧ (needSpare (s.get (PX_TIE_HUB_RETIRED e.n 0)) fh).length ≤ 2 ∧ (needSpare (s.get (PX_TIE_HUB_RETIRED e.n 1)) fl).length ≤ 2 ∧ lh < 65536 ∧ ll < 65536) ∧
    (∃ (e : Engine) (fh : BitVec 20) (fl : BitVec 20) (lh : Nat) (ll : Nat) (s : State), s.Ok ∧ (2 < (needSpare (s.get (PX_TIE_HUB_RETIRED e.n 0)) fh).length ∨ 2 < (needSpare (s.get (PX_TIE_HUB_RETIRED e.n 1)) fl).length)) ∧
    (∃ (e : Engine) (d : Bool) (f : Flit) (s : State), s.isSet (PX_TIE_STATUS_UP e.n) = true ∧ s.noCheck e = false ∧ f.badLanes = 0 ∧ f.fcrcOk = true ∧ (s.tieDir e d).next = some f.seq ∧ (s.tieDir e d).nak = false) ∧
    (∃ (e : Engine) (d : Bool) (f : Flit) (s : State), s.isSet (PX_TIE_STATUS_UP e.n) = true ∧ s.noCheck e = false ∧ f.badLanes = 0 ∧ f.fcrcOk = true ∧ (s.tieDir e d).next ≠ none ∧ (s.tieDir e d).next ≠ some f.seq ∧ (s.tieDir e d).nak = true) ∧
    (∃ (e : Engine) (d : Bool) (f : Flit) (n : Nat) (s : State), s.isSet (PX_TIE_STATUS_UP e.n) = true ∧ s.noCheck e = false ∧ f.badLanes = 0 ∧ f.fcrcOk = true ∧ (s.tieDir e d).next = some n ∧ f.seq ≠ n ∧ (f.seq + 256 - n) % 256 < 128 ∧ (s.tieDir e d).nak = false) ∧
    (∃ (e : Engine) (d : Bool) (f : Flit) (s : State), s.Ok ∧ s.isSet (PX_TIE_STATUS_UP e.n) = true ∧ s.noCheck e = false ∧ f.badLanes = 0 ∧ f.fcrcOk = true ∧ (s.tieDir e d).next = some f.seq ∧ (s.tieDir e d).nak = true) ∧
    (∃ (e : Engine) (d : Bool) (f : Flit) (s : State), s.isSet (PX_TIE_STATUS_UP e.n) = true ∧ s.noCheck e = false ∧ f.badLanes = 0 ∧ f.fcrcOk = false ∧ (s.tieDir e d).next = some f.seq ∧ (s.tieDir e d).fails < 2) ∧
    (∃ (e : Engine) (d : Bool) (f : Flit) (i : Nat) (s : State), s.Ok ∧ s.isSet (PX_TIE_STATUS_UP e.n) = true ∧ s.noCheck e = false ∧ f.badLanes = BitVec.ofNat 20 (2 ^ i) ∧ i < 20 ∧ (s.tieDir e d).next = some f.seq ∧ (s.tieDir e d).fails < 2 ∧ sget (fun _ => 0) (s.tieDir e d).strikes i < 2) ∧
    (∃ (e : Engine) (d : Bool) (f : Flit) (s : State), s.Ok ∧ s.isSet (PX_TIE_STATUS_UP e.n) = true ∧ s.noCheck e = false ∧ f.badLanes = 0 ∧ f.fcrcOk = false ∧ (s.tieDir e d).next = some f.seq ∧ 2 ≤ (s.tieDir e d).fails) ∧
    (∃ (e : Engine) (d : Bool) (f : Flit) (s : State), s.isSet (PX_TIE_STATUS_UP e.n) = true ∧ s.noCheck e = true) ∧
    (∃ (e : Engine) (d : Bool) (i : Fin 20) (s : State), s.isSet (PX_TIE_STATUS_UP e.n) = true ∧ s.noCheck e = false) ∧
    (∃ (e : Engine) (d : Bool) (i : Fin 20) (s : State), s.Ok ∧ s.isSet (PX_TIE_STATUS_UP e.n) = true ∧ s.noCheck e = true) ∧
    (∃ (e : Engine) (d : Bool) (s : State), s.Ok) ∧
    (∃ (e : Engine) (d : Bool) (i : Nat) (s : State), 2 ≤ sget (fun _ => 0) (s.tieDir e d).strikes i) ∧
    (∃ (e : Engine) (d : Bool) (i : Nat) (s : State), s.Ok ∧ i < 20) ∧
    (∃ (e : Engine) (s : State), s.Ok ∧ s.stopped.contains .carrier = false) ∧
    (∃ (e : Engine) (s : State), s.Ok ∧ s.stopped.contains .carrier = false) ∧
    (∃ (a : Agent) (e : Engine) (s : State), a ≠ .carrier ∧ s.stopped.contains a = false) :=
  ⟨⟨.la, 1, 1, 77, 77, mk [(PX_TIE_STATUS_UP 0, 1), (PX_TIE_STATUS_CHK_HUB 0, 1), (PX_TIE_STATUS_CHK_LINE 0, 1)], by decide +kernel⟩,
   ⟨.la, 7, 7, 77, 77, mk [(PX_TIE_STATUS_UP 0, 1), (PX_TIE_STATUS_CHK_HUB 0, 1), (PX_TIE_STATUS_CHK_LINE 0, 1)], by decide +kernel⟩,
   ⟨.la, true, ⟨9, [1, 2], 0, true⟩, ({ mk [(PX_TIE_STATUS_UP 0, 1), (PX_TIE_STATUS_CHK_HUB 0, 1), (PX_TIE_STATUS_CHK_LINE 0, 1)] with ties := [(0, { toLine := { next := some 9 } })] }), by decide +kernel⟩,
   ⟨.la, true, ⟨9, [1, 2], 0, true⟩, ({ mk [(PX_TIE_STATUS_UP 0, 1), (PX_TIE_STATUS_CHK_HUB 0, 1), (PX_TIE_STATUS_CHK_LINE 0, 1)] with ties := [(0, { toLine := { next := some 8, nak := true } })] }), by decide +kernel⟩,
   ⟨.la, true, ⟨9, [1, 2], 0, true⟩, 8, ({ mk [(PX_TIE_STATUS_UP 0, 1), (PX_TIE_STATUS_CHK_HUB 0, 1), (PX_TIE_STATUS_CHK_LINE 0, 1)] with ties := [(0, { toLine := { next := some 8 } })] }), by decide +kernel⟩,
   ⟨.la, true, ⟨8, [1, 2], 0, true⟩, ({ mk [(PX_TIE_STATUS_UP 0, 1), (PX_TIE_STATUS_CHK_HUB 0, 1), (PX_TIE_STATUS_CHK_LINE 0, 1)] with ties := [(0, { toLine := { next := some 8, nak := true, kept := [(8, [1, 2]), (9, [])] } })] }), by decide +kernel⟩,
   ⟨.la, true, ⟨9, [1, 2], 0, false⟩, ({ mk [(PX_TIE_STATUS_UP 0, 1), (PX_TIE_STATUS_CHK_HUB 0, 1), (PX_TIE_STATUS_CHK_LINE 0, 1)] with ties := [(0, { toLine := { next := some 9, fails := 1 } })] }), by decide +kernel⟩,
   ⟨.la, true, ⟨9, [1, 2], 4, false⟩, 2, ({ mk [(PX_TIE_STATUS_UP 0, 1), (PX_TIE_STATUS_CHK_HUB 0, 1), (PX_TIE_STATUS_CHK_LINE 0, 1)] with ties := [(0, { toLine := { next := some 9, fails := 0, strikes := [(2, 1)] } })] }), by decide +kernel⟩,
   ⟨.la, true, ⟨9, [1, 2], 0, false⟩, ({ mk [(PX_TIE_STATUS_UP 0, 1), (PX_TIE_STATUS_CHK_HUB 0, 1), (PX_TIE_STATUS_CHK_LINE 0, 1)] with ties := [(0, { toLine := { next := some 9, fails := 2 } })] }), by decide +kernel⟩,
   ⟨.la, true, ⟨9, [1, 2], 4, false⟩, mk [(PX_TIE_STATUS_UP 0, 1), (PX_TIE_HUB_S0_USED 0 0, 1)], by decide +kernel⟩,
   ⟨.la, true, 2, mk [(PX_TIE_STATUS_UP 0, 1), (PX_TIE_STATUS_CHK_HUB 0, 1), (PX_TIE_STATUS_CHK_LINE 0, 1)], by decide +kernel⟩,
   ⟨.la, true, 2, mk [(PX_TIE_STATUS_UP 0, 1), (PX_TIE_HUB_S0_USED 0 0, 1)], by decide +kernel⟩,
   ⟨.la, true, mk [(PX_TIE_STATUS_UP 0, 1), (PX_TIE_STATUS_CHK_HUB 0, 1), (PX_TIE_STATUS_CHK_LINE 0, 1)], by decide +kernel⟩,
   ⟨.la, true, 2, ({ mk [(PX_TIE_STATUS_UP 0, 1), (PX_TIE_STATUS_CHK_HUB 0, 1), (PX_TIE_STATUS_CHK_LINE 0, 1)] with ties := [(0, { toLine := { strikes := [(2, 2)] } })] }), by decide +kernel⟩,
   ⟨.la, true, 2, mk [(PX_TIE_STATUS_UP 0, 1), (PX_TIE_STATUS_CHK_HUB 0, 1), (PX_TIE_STATUS_CHK_LINE 0, 1)], by decide +kernel⟩,
   ⟨.la, mk [(PX_TIE_STATUS_UP 0, 1), (PX_TIE_STATUS_CHK_HUB 0, 1), (PX_TIE_STATUS_CHK_LINE 0, 1)], by decide +kernel⟩,
   ⟨.la, mk [(PX_TIE_STATUS_UP 0, 1), (PX_TIE_HUB_RETIRED 0 1, 5)], by decide +kernel⟩,
   ⟨.host, .la, State.reset, by decide +kernel⟩⟩

/-- What the clauses of `ClientMac` assume can be met. -/
theorem witness_ClientMac :
    (∃ (p : Port) (f : RxFrame) (s : State), s.macRuns p.val = false) ∧
    (∃ (p : Port) (f : RxFrame) (s : State), s.macRuns p.val = true ∧ s.openFrame p.val f.bytes = none ∧ RxFrame.fragOk f = false) ∧
    (∃ (p : Port) (f : RxFrame) (s : State), s.macRuns p.val = true ∧ s.openFrame p.val f.bytes = none ∧ RxFrame.fragOk f = true ∧ f.bytes.length < 64) ∧
    (∃ (p : Port) (f : RxFrame) (s : State), s.macRuns p.val = true ∧ s.openFrame p.val f.bytes = none ∧ RxFrame.fragOk f = true ∧ 64 ≤ f.bytes.length ∧ s.maxFrameAt p.val (s.now - f.cycles) < f.bytes.length) ∧
    (∃ (p : Port) (f : RxFrame) (s : State), s.macRuns p.val = true ∧ s.openFrame p.val f.bytes = none ∧ RxFrame.fragOk f = true ∧ 64 ≤ f.bytes.length ∧ f.bytes.length ≤ s.maxFrameAt p.val (s.now - f.cycles) ∧ fcsGood f.bytes = false) ∧
    (∃ (p : Port) (f : RxFrame) (s : State), s.macRuns p.val = true ∧ s.openFrame p.val f.bytes = none ∧ RxFrame.fragOk f = true ∧ 64 ≤ f.bytes.length ∧ f.bytes.length ≤ s.maxFrameAt p.val (s.now - f.cycles) ∧ fcsGood f.bytes = true ∧ sliceNum f.bytes 12 2 = 0x8808) ∧
    (∃ (p : Port) (f : RxFrame) (s : State), s.Ok ∧ s.macRuns p.val = true ∧ s.openFrame p.val f.bytes = none ∧ RxFrame.fragOk f = true ∧ 64 ≤ f.bytes.length ∧ f.bytes.length ≤ s.maxFrameAt p.val (s.now - f.cycles) ∧ fcsGood f.bytes = true ∧ sliceNum f.bytes 12 2 ≠ 0x8808) ∧
    (∃ (p : Port) (f : Nat) (x : Frame) (s : State), s.Ok ∧ s.macRuns p.val = true ∧ s.isSet (CL_STATUS_LPI_TX p.val) = false ∧ (s.port p.val).wakeHold = false ∧ s.portSends p.val = true ∧ s.nextOut p.val = some f ∧ s.underWay p.val f = none ∧ s.frame f = some x ∧ x.mark = .plain) ∧
    (∃ (p : Port) (f : Nat) (g : Nat) (n : Nat) (s : State), s.Ok ∧ s.macRuns p.val = true ∧ s.isSet (CL_STATUS_LPI_TX p.val) = false ∧ (s.port p.val).wakeHold = false ∧ s.portSends p.val = true ∧ s.nextOut p.val = some f ∧ s.underWay p.val f = some (g, n) ∧ s.frame f ≠ none) ∧
    (∃ (p : Port) (s : State), (s.macRuns p.val = false ∨ s.portSends p.val = false ∨ s.isSet (CL_STATUS_LPI_TX p.val) = true ∨ (s.port p.val).wakeHold = true ∨ s.nextOut p.val = none)) ∧
    (∃ (p : Port) (s : State), s.Ok ∧ s.isSet (CM_LPI_TX_EN p.val) = true ∧ s.portUp p.val = true ∧ s.eeeMode p.val = true ∧ s.portIdle p.val = true ∧ s.isSet (CL_STATUS_LPI_TX p.val) = false ∧ (s.lane p.val).upAt + 1000000000 ≤ s.now) ∧
    (∃ (p : Port) (s : State), (s.isSet (CM_LPI_TX_EN p.val) = false ∨ s.eeeMode p.val = false ∨ s.portIdle p.val = false)) ∧
    (∃ (p : Port) (s : State), s.Ok ∧ s.isSet (CL_STATUS_LPI_TX p.val) = true) ∧
    (∃ (l : Lane) (s : State), s.Ok ∧ s.stage l.val = 6 ∧ s.eeeMode l.val = true ∧ s.isSet (CL_STATUS_LPI_RX l.val) = false) ∧
    (∃ (p : Port) (q : Nat) (s : State), s.macRuns p.val = true ∧ s.isSet (CM_CFG_PAUSE_RX p.val) = true) ∧
    (∃ (p : Port) (q : Nat) (cs : List (Fin 8 × Nat)) (o : Nat) (s : State), s.macRuns p.val = true ∧ s.isSet (CM_CFG_PAUSE_RX p.val) = false) ∧
    (∃ (p : Port) (k : Fin 8) (q : Nat) (s : State), s.Ok ∧ s.macRuns p.val = true ∧ s.isSet (CM_CFG_PAUSE_RX p.val) = true ∧ 0 < q) ∧
    (∃ (p : Port) (e0 : Nat) (s : State), (s.port p.val).pauseUntil = some e0) ∧
    (∃ (p : Port) (s : State), s.get (CM_CFG_PAUSE_MODE p.val) ≠ 0 ∧ s.macRuns p.val = true ∧ s.portSends p.val = true ∧ s.isSet (CL_STATUS_LPI_TX p.val) = false ∧ (s.port p.val).wakeHold = false ∧ s.isSet (BM_BAG_FREE_XOFF_ST (s.get (BM_SRCMAP_BAG p.val))) = false) ∧
    (∃ (p : Port) (s : State), s.Ok ∧ s.get (CM_CFG_PAUSE_MODE p.val) ≠ 0 ∧ s.macRuns p.val = true ∧ s.portSends p.val = true ∧ s.isSet (CL_STATUS_LPI_TX p.val) = false ∧ (s.port p.val).wakeHold = false ∧ s.isSet (BM_BAG_FREE_XOFF_ST (s.get (BM_SRCMAP_BAG p.val))) = true) ∧
    (∃ (p : Port) (q : Nat) (s : State), s.Ok) ∧
    (∃ (p : Nat) (q : Nat) (c : Nat), q < 65536) ∧
    (∃ (p : Port) (f : MacControl) (s : State), s.macRuns p.val = false) ∧
    (∃ (p : Port) (s : State), (s.macRuns p.val = false ∨ s.portSends p.val = false ∨ s.get (CM_CFG_PAUSE_MODE p.val) = 0 ∨ s.isSet (CL_STATUS_LPI_TX p.val) = true ∨ (s.port p.val).wakeHold = true)) ∧
    (∃ (p : Port) (b : Bool) (s : State), (s.get (CM_MM_MM_STATE p.val) ≠ 1 ∨ s.portUp p.val = false)) ∧
    (∃ (p : Port) (s : State), s.get (CM_MM_MM_STATE p.val) = 1 ∧ s.portUp p.val = true) :=
  ⟨⟨5, ⟨List.replicate 60 7 ++ fcsBytes (List.replicate 60 7), [], 0, 0⟩, State.reset, by decide +kernel⟩,
   ⟨5, ⟨List.replicate 60 7 ++ fcsBytes (List.replicate 60 7), [(0, false)], 0, 0⟩, mk [(CL_STATUS_STAGE 5, 6), (CL_CFG_MODE 5, 3), (CM_CFG_EN 5, 1), (CL_CFG_TX_EN 5, 1)], by decide +kernel⟩,
   ⟨5, ⟨List.replicate 63 7, [], 0, 0⟩, mk [(CL_STATUS_STAGE 5, 6), (CL_CFG_MODE 5, 3), (CM_CFG_EN 5, 1), (CL_CFG_TX_EN 5, 1)], by decide +kernel⟩,
   ⟨5, ⟨List.replicate 65 7, [], 0, 0⟩, mk [(CL_STATUS_STAGE 5, 6), (CM_CFG_EN 5, 1), (CM_CFG_MAX_FRAME 5, 64)], by decide +kernel⟩,
   ⟨5, ⟨List.replicate 64 7, [], 0, 0⟩, mk [(CL_STATUS_STAGE 5, 6), (CL_CFG_MODE 5, 3), (CM_CFG_EN 5, 1), (CL_CFG_TX_EN 5, 1)], by decide +kernel⟩,
   ⟨5, ⟨(List.replicate 12 1 ++ [0x88, 0x08, 0, 1, 0, 9] ++ List.replicate 42 0) ++ fcsBytes (List.replicate 12 1 ++ [0x88, 0x08, 0, 1, 0, 9] ++ List.replicate 42 0), [], 0, 0⟩, mk [(CL_STATUS_STAGE 5, 6), (CL_CFG_MODE 5, 3), (CM_CFG_EN 5, 1), (CL_CFG_TX_EN 5, 1)], by decide +kernel⟩,
   ⟨5, ⟨List.replicate 60 7 ++ fcsBytes (List.replicate 60 7), [], 0, 0⟩, mk [(CL_STATUS_STAGE 5, 6), (CL_CFG_MODE 5, 3), (CM_CFG_EN 5, 1), (CL_CFG_TX_EN 5, 1)], by decide +kernel⟩,
   ⟨5, 9, ({ origin := 1, bytes := List.replicate 64 3, whole := true, checked := true, action := some 0, head := none } : Frame), ({ mk [(CL_STATUS_STAGE 5, 6), (CL_CFG_MODE 5, 3), (CM_CFG_EN 5, 1), (CL_CFG_TX_EN 5, 1)] with frames := [(9, some ({ origin := 1, bytes := List.replicate 64 3, whole := true, checked := true, action := some 0, head := none } : Frame))], qs := { egress := [(5, [9])] } }), by decide +kernel⟩,
   ⟨5, 10, 9, 64, ({ mk [(CL_STATUS_STAGE 5, 6), (CL_CFG_MODE 5, 3), (CM_CFG_EN 5, 1), (CL_CFG_TX_EN 5, 1), (CM_MM_MM_STATE 5, 2), (CM_MM_EXPRESS 5, 128)] with frames := [(9, some ({ origin := 1, bytes := List.replicate 64 3, whole := true, checked := true, action := some 0, head := none } : Frame)), (10, some ({ origin := 1, bytes := List.replicate 64 3, whole := true, checked := true, action := some (2 ^ 62 + 7 * 2 ^ 15), head := none } : Frame))], qs := { egress := [(5, [9, 10])] } }), by decide +kernel⟩,
   ⟨5, mk [(CL_STATUS_STAGE 5, 6), (CL_CFG_MODE 5, 3), (CM_CFG_EN 5, 1), (CL_CFG_TX_EN 5, 1)], by decide +kernel⟩,
   ⟨5, ({ mk [(CL_STATUS_STAGE 5, 6), (CL_CFG_MODE 5, 3), (CM_CFG_EN 5, 1), (CM_LPI_TX_EN 5, 1)] with now := 2000000000 }), by decide +kernel⟩,
   ⟨5, State.reset, by decide +kernel⟩,
   ⟨5, mk [(CL_STATUS_LPI_TX 5, 1)], by decide +kernel⟩,
   ⟨5, mk [(CL_STATUS_STAGE 5, 6), (CL_CFG_MODE 5, 3)], by decide +kernel⟩,
   ⟨5, 9, mk [(CL_STATUS_STAGE 5, 6), (CM_CFG_EN 5, 1)], by decide +kernel⟩,
   ⟨5, 9, [(3, 7)], 2, mk [(CL_STATUS_STAGE 5, 6), (CM_CFG_EN 5, 1), (CM_CFG_PAUSE_RX 5, 0)], by decide +kernel⟩,
   ⟨5, 3, 9, mk [(CL_STATUS_STAGE 5, 6), (CM_CFG_EN 5, 1)], by decide +kernel⟩,
   ⟨5, 9, ({ State.reset with ports := [(5, { pauseUntil := some 9 })] }), by decide +kernel⟩,
   ⟨5, ({ mk [(CL_STATUS_STAGE 5, 6), (CM_CFG_EN 5, 1), (CM_CFG_PAUSE_MODE 5, 1), (CL_CFG_TX_EN 5, 1)] with ports := [(5, { pauseSent := some 3 })] }), by decide +kernel⟩,
   ⟨5, ({ mk [(CL_STATUS_STAGE 5, 6), (CL_CFG_TX_EN 5, 1), (CM_CFG_EN 5, 1), (CM_CFG_PAUSE_MODE 5, 1), (BM_BAG_FREE_XOFF_ST 0, 1)] with now := 5 }), by decide +kernel⟩,
   ⟨5, 7, mk [(CM_CFG_PAUSE_MODE 5, 1)], by decide +kernel⟩,
   ⟨7, 7, 7, by decide +kernel⟩,
   ⟨5, (.pause 9), State.reset, by decide +kernel⟩,
   ⟨5, State.reset, by decide +kernel⟩,
   ⟨5, true, State.reset, by decide +kernel⟩,
   ⟨5, mk [(CM_MM_MM_STATE 5, 1), (CL_STATUS_STAGE 5, 6)], by decide +kernel⟩⟩

/-- What the clauses of `ParseArithmetic` assume can be met. -/
theorem witness_ParseArithmetic :
    (∃ (p : Pipe) (u : ParseUnit) (w : Word) (r : ParseRun) (s : State), s.fetches p u 0 w r) ∧
    (∃ (p : Pipe) (u : ParseUnit) (w : Word) (r : ParseRun) (s : State), s.fetches p u 2 w r) ∧
    (∃ (p : Pipe) (u : ParseUnit) (w : Word) (r : ParseRun) (s : State), s.fetches p u 3 w r) ∧
    (∃ (p : Pipe) (u : ParseUnit) (w : Word) (r : ParseRun) (s : State), s.fetches p u 4 w r) ∧
    (∃ (p : Pipe) (u : ParseUnit) (w : Word) (r : ParseRun) (s : State), s.fetches p u 5 w r) ∧
    (∃ (p : Pipe) (u : ParseUnit) (w : Word) (r : ParseRun) (s : State), s.fetches p u 6 w r) ∧
    (∃ (p : Pipe) (u : ParseUnit) (w : Word) (r : ParseRun) (s : State), s.fetches p u 7 w r) ∧
    (∃ (p : Pipe) (u : ParseUnit) (w : Word) (r : ParseRun) (s : State), s.fetches p u 8 w r) ∧
    (∃ (p : Pipe) (u : ParseUnit) (w : Word) (r : ParseRun) (s : State), s.fetches p u 9 w r) ∧
    (∃ (p : Pipe) (u : ParseUnit) (w : Word) (r : ParseRun) (s : State), s.fetches p u 10 w r) ∧
    (∃ (p : Pipe) (u : ParseUnit) (w : Word) (r : ParseRun) (s : State), s.fetches p u 11 w r) ∧
    (∃ (p : Pipe) (u : ParseUnit) (w : Word) (r : ParseRun) (s : State), s.fetches p u 12 w r) ∧
    (∃ (p : Pipe) (u : ParseUnit) (w : Word) (r : ParseRun) (s : State) (n : Nat) (b : Nat), s.fetches p u 1 w r ∧ n = w.field 10 6 + 1 ∧ b = (r.cursor + (r.rd (w.field 5 2)).toNat + w.field 21 14) % 2 ^ 32 ∧ b + (w.field 13 11 + n - 1) / 8 < 256 ∧ (∀ e, r.pass.scopeEnd = some e → b + (w.field 13 11 + n - 1) / 8 < e) ∧ r.pass.scopeEnd ≠ none) ∧
    (∃ (p : Pipe) (u : ParseUnit) (w : Word) (r : ParseRun) (s : State) (b : Nat), s.fetches p u 1 w r ∧ b = (r.cursor + (r.rd (w.field 5 2)).toNat + w.field 21 14) % 2 ^ 32 ∧ 256 ≤ b + (w.field 13 11 + w.field 10 6) / 8) ∧
    (∃ (p : Pipe) (u : ParseUnit) (w : Word) (r : ParseRun) (s : State) (b : Nat) (e : Nat), s.fetches p u 1 w r ∧ b = (r.cursor + (r.rd (w.field 5 2)).toNat + w.field 21 14) % 2 ^ 32 ∧ b + (w.field 13 11 + w.field 10 6) / 8 < 256 ∧ r.pass.scopeEnd = some e ∧ e ≤ b + (w.field 13 11 + w.field 10 6) / 8) ∧
    (∃ (p : Pipe) (u : ParseUnit) (w : Word) (r : ParseRun) (s : State) (v : Nat), s.fetches p u 13 w r ∧ (v = match w.field 3 0 with | 0 => r.cursor | 1 => (match r.scopes ++ r.pass.scopeEnd.toList with | e :: _ => e - r.cursor | [] => 0xFFFFFFFF) | 2 => r.pass.source | 3 => (if r.pass.second then 2 else 1) | 4 => r.depth | _ => r.steps) ∧ w.field 3 0 ≤ 5) ∧
    (∃ (p : Pipe) (u : ParseUnit) (w : Word) (r : ParseRun) (s : State), s.fetches p u 13 w r ∧ 5 < w.field 3 0) ∧
    (∃ (p : Pipe) (u : ParseUnit) (w : Word) (r : ParseRun) (s : State), s.fetches p u 0x10 w r) ∧
    (∃ (p : Pipe) (u : ParseUnit) (w : Word) (r : ParseRun) (s : State), s.fetches p u 0x11 w r) ∧
    (∃ (p : Pipe) (u : ParseUnit) (r : ParseRun) (s : State) (c : Instr), s.unitRun p.val u.val = some r ∧ 64 ≤ r.steps ∧ c ∈ [Instr.parseNop p u, .parseLdf p u, .parseAdd p u, .parseMove p u, .parseDone p u, .parseLen p u]) ∧
    (∃ (p : Pipe) (u : ParseUnit) (r : ParseRun) (s : State) (c : Instr), s.unitRun p.val u.val = some r ∧ r.steps < 64 ∧ r.pc ≤ 2047 ∧ s.copiesBad r.pass.parity (parseBase p.val + 4 * r.pc) = 2 ∧ c ∈ [Instr.parseNop p u, .parseLdf p u, .parseAdd p u, .parseMove p u, .parseDone p u, .parseLen p u]) ∧
    (∃ (p : Pipe) (u : ParseUnit) (w : Word) (r : ParseRun) (s : State), s.unitRun p.val u.val = some r ∧ r.steps < 64 ∧ r.pc ≤ 2047 ∧ s.parseWord r.pass.parity (parseBase p.val + 4 * r.pc) = w ∧ w.field 31 26 = 0 ∧ parseReserved 0 w = true ∧ s.copiesBad r.pass.parity (parseBase p.val + 4 * r.pc) = 1) ∧
    (∃ (p : Pipe) (u : ParseUnit) (s : State), s.unitRun p.val u.val = none) :=
  ⟨⟨0, 3, 0x0, ({ pass := (⟨4, 9, false, 5, false, 0, (List.range 256).map (BitVec.ofNat 8), some 124, none, false⟩ : Pass), regs := [(2, 7), (3, 5)], pc := 2, cursor := 14 } : ParseRun), ({ State.reset with units := [(3, some ({ pass := (⟨4, 9, false, 5, false, 0, (List.range 256).map (BitVec.ofNat 8), some 124, none, false⟩ : Pass), regs := [(2, 7), (3, 5)], pc := 2, cursor := 14 } : ParseRun))], cx := { parse := [(33619976, 0x0)] } }), by decide +kernel⟩,
   ⟨0, 3, 0x8488003, ({ pass := (⟨4, 9, false, 5, false, 0, (List.range 256).map (BitVec.ofNat 8), some 124, none, false⟩ : Pass), regs := [(2, 7), (3, 5)], pc := 2, cursor := 14 } : ParseRun), ({ State.reset with units := [(3, some ({ pass := (⟨4, 9, false, 5, false, 0, (List.range 256).map (BitVec.ofNat 8), some 124, none, false⟩ : Pass), regs := [(2, 7), (3, 5)], pc := 2, cursor := 14 } : ParseRun))], cx := { parse := [(33619976, 0x8488003)] } }), by decide +kernel⟩,
   ⟨0, 3, 0xc888003, ({ pass := (⟨4, 9, false, 5, false, 0, (List.range 256).map (BitVec.ofNat 8), some 124, none, false⟩ : Pass), regs := [(2, 7), (3, 5)], pc := 2, cursor := 14 } : ParseRun), ({ State.reset with units := [(3, some ({ pass := (⟨4, 9, false, 5, false, 0, (List.range 256).map (BitVec.ofNat 8), some 124, none, false⟩ : Pass), regs := [(2, 7), (3, 5)], pc := 2, cursor := 14 } : ParseRun))], cx := { parse := [(33619976, 0xc888003)] } }), by decide +kernel⟩,
   ⟨0, 3, 0x1048c000, ({ pass := (⟨4, 9, false, 5, false, 0, (List.range 256).map (BitVec.ofNat 8), some 124, none, false⟩ : Pass), regs := [(2, 7), (3, 5)], pc := 2, cursor := 14 } : ParseRun), ({ State.reset with units := [(3, some ({ pass := (⟨4, 9, false, 5, false, 0, (List.range 256).map (BitVec.ofNat 8), some 124, none, false⟩ : Pass), regs := [(2, 7), (3, 5)], pc := 2, cursor := 14 } : ParseRun))], cx := { parse := [(33619976, 0x1048c000)] } }), by decide +kernel⟩,
   ⟨0, 3, 0x1448c000, ({ pass := (⟨4, 9, false, 5, false, 0, (List.range 256).map (BitVec.ofNat 8), some 124, none, false⟩ : Pass), regs := [(2, 7), (3, 5)], pc := 2, cursor := 14 } : ParseRun), ({ State.reset with units := [(3, some ({ pass := (⟨4, 9, false, 5, false, 0, (List.range 256).map (BitVec.ofNat 8), some 124, none, false⟩ : Pass), regs := [(2, 7), (3, 5)], pc := 2, cursor := 14 } : ParseRun))], cx := { parse := [(33619976, 0x1448c000)] } }), by decide +kernel⟩,
   ⟨0, 3, 0x1848c000, ({ pass := (⟨4, 9, false, 5, false, 0, (List.range 256).map (BitVec.ofNat 8), some 124, none, false⟩ : Pass), regs := [(2, 7), (3, 5)], pc := 2, cursor := 14 } : ParseRun), ({ State.reset with units := [(3, some ({ pass := (⟨4, 9, false, 5, false, 0, (List.range 256).map (BitVec.ofNat 8), some 124, none, false⟩ : Pass), regs := [(2, 7), (3, 5)], pc := 2, cursor := 14 } : ParseRun))], cx := { parse := [(33619976, 0x1848c000)] } }), by decide +kernel⟩,
   ⟨0, 3, 0x1c48c000, ({ pass := (⟨4, 9, false, 5, false, 0, (List.range 256).map (BitVec.ofNat 8), some 124, none, false⟩ : Pass), regs := [(2, 7), (3, 5)], pc := 2, cursor := 14 } : ParseRun), ({ State.reset with units := [(3, some ({ pass := (⟨4, 9, false, 5, false, 0, (List.range 256).map (BitVec.ofNat 8), some 124, none, false⟩ : Pass), regs := [(2, 7), (3, 5)], pc := 2, cursor := 14 } : ParseRun))], cx := { parse := [(33619976, 0x1c48c000)] } }), by decide +kernel⟩,
   ⟨0, 3, 0x2048c000, ({ pass := (⟨4, 9, false, 5, false, 0, (List.range 256).map (BitVec.ofNat 8), some 124, none, false⟩ : Pass), regs := [(2, 7), (3, 5)], pc := 2, cursor := 14 } : ParseRun), ({ State.reset with units := [(3, some ({ pass := (⟨4, 9, false, 5, false, 0, (List.range 256).map (BitVec.ofNat 8), some 124, none, false⟩ : Pass), regs := [(2, 7), (3, 5)], pc := 2, cursor := 14 } : ParseRun))], cx := { parse := [(33619976, 0x2048c000)] } }), by decide +kernel⟩,
   ⟨0, 3, 0x24488003, ({ pass := (⟨4, 9, false, 5, false, 0, (List.range 256).map (BitVec.ofNat 8), some 124, none, false⟩ : Pass), regs := [(2, 7), (3, 5)], pc := 2, cursor := 14 } : ParseRun), ({ State.reset with units := [(3, some ({ pass := (⟨4, 9, false, 5, false, 0, (List.range 256).map (BitVec.ofNat 8), some 124, none, false⟩ : Pass), regs := [(2, 7), (3, 5)], pc := 2, cursor := 14 } : ParseRun))], cx := { parse := [(33619976, 0x24488003)] } }), by decide +kernel⟩,
   ⟨0, 3, 0x28488003, ({ pass := (⟨4, 9, false, 5, false, 0, (List.range 256).map (BitVec.ofNat 8), some 124, none, false⟩ : Pass), regs := [(2, 7), (3, 5)], pc := 2, cursor := 14 } : ParseRun), ({ State.reset with units := [(3, some ({ pass := (⟨4, 9, false, 5, false, 0, (List.range 256).map (BitVec.ofNat 8), some 124, none, false⟩ : Pass), regs := [(2, 7), (3, 5)], pc := 2, cursor := 14 } : ParseRun))], cx := { parse := [(33619976, 0x28488003)] } }), by decide +kernel⟩,
   ⟨0, 3, 0x2c488003, ({ pass := (⟨4, 9, false, 5, false, 0, (List.range 256).map (BitVec.ofNat 8), some 124, none, false⟩ : Pass), regs := [(2, 7), (3, 5)], pc := 2, cursor := 14 } : ParseRun), ({ State.reset with units := [(3, some ({ pass := (⟨4, 9, false, 5, false, 0, (List.range 256).map (BitVec.ofNat 8), some 124, none, false⟩ : Pass), regs := [(2, 7), (3, 5)], pc := 2, cursor := 14 } : ParseRun))], cx := { parse := [(33619976, 0x2c488003)] } }), by decide +kernel⟩,
   ⟨0, 3, 0x30488003, ({ pass := (⟨4, 9, false, 5, false, 0, (List.range 256).map (BitVec.ofNat 8), some 124, none, false⟩ : Pass), regs := [(2, 7), (3, 5)], pc := 2, cursor := 14 } : ParseRun), ({ State.reset with units := [(3, some ({ pass := (⟨4, 9, false, 5, false, 0, (List.range 256).map (BitVec.ofNat 8), some 124, none, false⟩ : Pass), regs := [(2, 7), (3, 5)], pc := 2, cursor := 14 } : ParseRun))], cx := { parse := [(33619976, 0x30488003)] } }), by decide +kernel⟩,
   ⟨0, 3, 0x440d248, ({ pass := (⟨4, 9, false, 5, false, 0, (List.range 256).map (BitVec.ofNat 8), some 124, none, false⟩ : Pass), regs := [(2, 7), (3, 5)], pc := 2, cursor := 14 } : ParseRun), ({ State.reset with units := [(3, some ({ pass := (⟨4, 9, false, 5, false, 0, (List.range 256).map (BitVec.ofNat 8), some 124, none, false⟩ : Pass), regs := [(2, 7), (3, 5)], pc := 2, cursor := 14 } : ParseRun))], cx := { parse := [(33619976, 0x440d248)] } }), 10, 24, by decide +kernel⟩,
   ⟨0, 3, 0x440d248, ({ pass := (⟨4, 9, false, 5, false, 0, (List.range 256).map (BitVec.ofNat 8), some 124, none, false⟩ : Pass), regs := [(2, 300)], pc := 2, cursor := 14, scopes := [] } : ParseRun), ({ State.reset with units := [(3, some ({ pass := (⟨4, 9, false, 5, false, 0, (List.range 256).map (BitVec.ofNat 8), some 124, none, false⟩ : Pass), regs := [(2, 300)], pc := 2, cursor := 14, scopes := [] } : ParseRun))], cx := { parse := [(33619976, 0x440d248)] } }), 317, by decide +kernel⟩,
   ⟨0, 3, 0x440d248, ({ pass := (⟨4, 9, false, 5, false, 0, (List.range 256).map (BitVec.ofNat 8), some 124, none, false⟩ : Pass), regs := [(2, 107)], pc := 2, cursor := 14 } : ParseRun), ({ State.reset with units := [(3, some ({ pass := (⟨4, 9, false, 5, false, 0, (List.range 256).map (BitVec.ofNat 8), some 124, none, false⟩ : Pass), regs := [(2, 107)], pc := 2, cursor := 14 } : ParseRun))], cx := { parse := [(33619976, 0x440d248)] } }), 124, 124, by decide +kernel⟩,
   ⟨0, 3, 0x34480001, ({ pass := (⟨4, 9, false, 5, false, 0, (List.range 256).map (BitVec.ofNat 8), some 124, none, false⟩ : Pass), regs := [(2, 7), (3, 5)], pc := 2, cursor := 14 } : ParseRun), ({ State.reset with units := [(3, some ({ pass := (⟨4, 9, false, 5, false, 0, (List.range 256).map (BitVec.ofNat 8), some 124, none, false⟩ : Pass), regs := [(2, 7), (3, 5)], pc := 2, cursor := 14 } : ParseRun))], cx := { parse := [(33619976, 0x34480001)] } }), 110, by decide +kernel⟩,
   ⟨0, 3, 0x34480006, ({ pass := (⟨4, 9, false, 5, false, 0, (List.range 256).map (BitVec.ofNat 8), some 124, none, false⟩ : Pass), regs := [(2, 7), (3, 5)], pc := 2, cursor := 14 } : ParseRun), ({ State.reset with units := [(3, some ({ pass := (⟨4, 9, false, 5, false, 0, (List.range 256).map (BitVec.ofNat 8), some 124, none, false⟩ : Pass), regs := [(2, 7), (3, 5)], pc := 2, cursor := 14 } : ParseRun))], cx := { parse := [(33619976, 0x34480006)] } }), by decide +kernel⟩,
   ⟨0, 3, 0x4119004d, ({ pass := (⟨4, 9, false, 5, false, 0, (List.range 256).map (BitVec.ofNat 8), some 124, none, false⟩ : Pass), regs := [(2, 7), (3, 5)], pc := 2, cursor := 14 } : ParseRun), ({ State.reset with units := [(3, some ({ pass := (⟨4, 9, false, 5, false, 0, (List.range 256).map (BitVec.ofNat 8), some 124, none, false⟩ : Pass), regs := [(2, 7), (3, 5)], pc := 2, cursor := 14 } : ParseRun))], cx := { parse := [(33619976, 0x4119004d)] } }), by decide +kernel⟩,
   ⟨0, 3, 0x4798104d, ({ pass := (⟨4, 9, false, 5, false, 0, (List.range 256).map (BitVec.ofNat 8), some 124, none, false⟩ : Pass), regs := [(2, 7), (3, 5)], pc := 2, cursor := 14 } : ParseRun), ({ State.reset with units := [(3, some ({ pass := (⟨4, 9, false, 5, false, 0, (List.range 256).map (BitVec.ofNat 8), some 124, none, false⟩ : Pass), regs := [(2, 7), (3, 5)], pc := 2, cursor := 14 } : ParseRun))], cx := { parse := [(33619976, 0x4798104d)] } }), by decide +kernel⟩,
   ⟨0, 3, ({ pass := (⟨4, 9, false, 5, false, 0, (List.range 256).map (BitVec.ofNat 8), some 124, none, false⟩ : Pass), regs := [(2, 7), (3, 5)], pc := 2, cursor := 14, steps := 64 } : ParseRun), ({ State.reset with units := [(3, some ({ pass := (⟨4, 9, false, 5, false, 0, (List.range 256).map (BitVec.ofNat 8), some 124, none, false⟩ : Pass), regs := [(2, 7), (3, 5)], pc := 2, cursor := 14, steps := 64 } : ParseRun))], cx := { parse := [(33619976, 0x0)] } }), .parseNop 0 3, by decide +kernel⟩,
   ⟨0, 3, ({ pass := (⟨4, 9, false, 5, false, 0, (List.range 256).map (BitVec.ofNat 8), some 124, none, false⟩ : Pass), regs := [(2, 7), (3, 5)], pc := 2, cursor := 14 } : ParseRun), ({ State.reset with units := [(3, some ({ pass := (⟨4, 9, false, 5, false, 0, (List.range 256).map (BitVec.ofNat 8), some 124, none, false⟩ : Pass), regs := [(2, 7), (3, 5)], pc := 2, cursor := 14 } : ParseRun))], cx := { parse := [(33619976, 0x0)] , badCopy := [(33619976, 2)] } }), .parseNop 0 3, by decide +kernel⟩,
   ⟨0, 3, 0, ({ pass := (⟨4, 9, false, 5, false, 0, (List.range 256).map (BitVec.ofNat 8), some 124, none, false⟩ : Pass), regs := [(2, 7), (3, 5)], pc := 2, cursor := 14 } : ParseRun), ({ State.reset with units := [(3, some ({ pass := (⟨4, 9, false, 5, false, 0, (List.range 256).map (BitVec.ofNat 8), some 124, none, false⟩ : Pass), regs := [(2, 7), (3, 5)], pc := 2, cursor := 14 } : ParseRun))], cx := { parse := [(33619976, 0x0)] , badCopy := [(33619976, 1)] } }), by decide +kernel⟩,
   ⟨0, 3, State.reset, by decide +kernel⟩⟩

/-- What the clauses of `ParseGraphAndScopes` assume can be met. -/
theorem witness_ParseGraphAndScopes :
    (∃ (p : Pipe) (u : ParseUnit) (w : Word) (r : ParseRun) (s : State) (n : Nat), s.fetches p u 0x13 w r ∧ n = (r.cursor + w.field 20 12 + (if w.field 25 25 = 1 then (r.rd (w.field 24 21)).toNat else 0)) % 2 ^ 32 ∧ 256 < n ∨ (∃ e ∈ r.pass.scopeEnd, e < n) ∨ (∃ e ∈ r.scopes.head?, e < n)) ∧
    (∃ (p : Pipe) (u : ParseUnit) (w : Word) (r : ParseRun) (s : State) (n : Nat), s.fetches p u 0x13 w r ∧ n = (r.cursor + w.field 20 12 + (if w.field 25 25 = 1 then (r.rd (w.field 24 21)).toNat else 0)) % 2 ^ 32 ∧ n ≤ 256 ∧ (∀ e ∈ r.pass.scopeEnd, n ≤ e) ∧ (∀ e ∈ r.scopes.head?, n ≤ e) ∧ r.pass.scopeEnd ≠ none ∧ (w.field 2 2 = 1 ∨ (w.field 11 11 = 0 ∧ r.nsq = none))) ∧
    (∃ (p : Pipe) (u : ParseUnit) (w : Word) (r : ParseRun) (s : State) (n : Nat) (q : Nat) (r2 : ParseRun), s.fetches p u 0x13 w r ∧ n = (r.cursor + w.field 20 12 + (if w.field 25 25 = 1 then (r.rd (w.field 24 21)).toNat else 0)) % 2 ^ 32 ∧ n ≤ 256 ∧ (∀ e ∈ r.pass.scopeEnd, n ≤ e) ∧ (∀ e ∈ r.scopes.head?, n ≤ e) ∧ r.pass.scopeEnd ≠ none ∧ w.field 2 2 = 0 ∧ (if w.field 11 11 = 1 then q = w.field 10 3 else r.nsq = some q) ∧ enterSquare s p.val q { r.stepped with cursor := n } = (r2, none) ∧ (∀ a ∈ squareWords p.val q, s.copiesBad r.pass.parity a = 0)) ∧
    (∃ (p : Pipe) (u : ParseUnit) (w : Word) (r : ParseRun) (s : State), s.fetches p u 0x13 w r ∧ (∃ a ∈ squareReads p.val w r.stepped, s.copiesBad r.pass.parity a = 2)) ∧
    (∃ (p : Pipe) (q : Nat) (r : ParseRun) (a : Word) (b : Word) (s : State), a = s.parseWord r.pass.parity (parseBase p.val + 0x2000 + 8 * q) ∧ r.depth < 16 ∧ a.field 31 31 = 1 ∧ b = s.parseWord r.pass.parity (parseBase p.val + 0x2000 + 8 * q + 4)) ∧
    (∃ (p : Pipe) (u : ParseUnit) (w : Word) (r : ParseRun) (s : State) (a : Word) (b : Word) (m : Nat), s.fetches p u 0x12 w r ∧ (s.parseWord r.pass.parity (parseBase p.val + 0x2000 + 8 * r.sq)).field 30 30 = 1 ∧ m = (s.parseWord r.pass.parity (parseBase p.val + 0x2000 + 8 * r.sq)).field 9 0 ∧ a = s.parseWord r.pass.parity (parseBase p.val + 0x3000 + 8 * m) ∧ b = s.parseWord r.pass.parity (parseBase p.val + 0x3000 + 8 * m + 4) ∧ (r.rd (w.field 25 22)).field 15 0 &&& a.field 15 0 = a.field 31 16 &&& a.field 15 0 ∧ (∀ a ∈ selReads s p.val w r.stepped, s.copiesBad r.pass.parity a = 0)) ∧
    (∃ (p : Pipe) (u : ParseUnit) (w : Word) (r : ParseRun) (s : State), s.fetches p u 0x12 w r ∧ (s.parseWord r.pass.parity (parseBase p.val + 0x2000 + 8 * r.sq)).field 30 30 = 0 ∧ s.copiesBad r.pass.parity (parseBase p.val + 0x2000 + 8 * r.sq) = 0) ∧
    (∃ (p : Pipe) (u : ParseUnit) (w : Word) (r : ParseRun) (s : State), s.fetches p u 0x14 w r) ∧
    (∃ (p : Pipe) (u : ParseUnit) (w : Word) (r : ParseRun) (s : State), s.fetches p u 0x15 w r) ∧
    (∃ (p : Pipe) (u : ParseUnit) (w : Word) (r : ParseRun) (s : State) (n : Nat) (k : Nat), s.fetches p u 0x18 w r ∧ k = w.field 21 16 ∧ n = w.field 15 14 + 1 ∧ k + n ≤ 64) ∧
    (∃ (p : Pipe) (u : ParseUnit) (w : Word) (r : ParseRun) (s : State), s.fetches p u 0x18 w r ∧ 64 < w.field 21 16 + (w.field 15 14 + 1)) ∧
    (∃ (p : Pipe) (u : ParseUnit) (w : Word) (r : ParseRun) (s : State) (n : Nat) (k : Nat) (b : Nat), s.fetches p u 0x19 w r ∧ k = w.field 17 12 ∧ n = w.field 11 8 + 1 ∧ b = (r.cursor + (r.rd (w.field 7 4)).toNat + w.field 25 18) % 2 ^ 32 ∧ k + n ≤ 64 ∧ b + n ≤ 256 ∧ (∀ e ∈ r.pass.scopeEnd, b + n ≤ e) ∧ r.pass.scopeEnd ≠ none ∧ r.pass.window.length = 256) ∧
    (∃ (p : Pipe) (u : ParseUnit) (w : Word) (r : ParseRun) (s : State), s.fetches p u 0x19 w r ∧ 64 < w.field 17 12 + (w.field 11 8 + 1)) ∧
    (∃ (p : Pipe) (u : ParseUnit) (w : Word) (r : ParseRun) (s : State), s.fetches p u 0x1B w r) ∧
    (∃ (p : Pipe) (u : ParseUnit) (w : Word) (r : ParseRun) (s : State) (d : Nat) (e : Nat), s.fetches p u 0x1C w r ∧ d = (r.cursor + w.field 11 4 + (r.rd (w.field 25 22)).toNat * 2 ^ w.field 13 12) % 2 ^ 32 ∧ r.scopes.length < 4 ∧ (r.scopes ++ r.pass.scopeEnd.toList).head? = some e ∧ w.field 21 21 = 0 ∧ d ≤ e ∧ (w.field 15 15 = 0 ∨ d = e)) ∧
    (∃ (p : Pipe) (u : ParseUnit) (w : Word) (r : ParseRun) (s : State) (d : Nat) (e : Nat), s.fetches p u 0x1C w r ∧ d = (r.cursor + w.field 11 4 + (r.rd (w.field 25 22)).toNat * 2 ^ w.field 13 12) % 2 ^ 32 ∧ r.scopes.length < 4 ∧ (r.scopes ++ r.pass.scopeEnd.toList).head? = some e ∧ e < d) ∧
    (∃ (p : Pipe) (u : ParseUnit) (w : Word) (r : ParseRun) (s : State) (d : Nat) (e : Nat), s.fetches p u 0x1C w r ∧ d = (r.cursor + w.field 11 4 + (r.rd (w.field 25 22)).toNat * 2 ^ w.field 13 12) % 2 ^ 32 ∧ r.scopes.length < 4 ∧ (r.scopes ++ r.pass.scopeEnd.toList).head? = some e ∧ w.field 21 21 = 0 ∧ d < e ∧ w.field 15 15 = 1) ∧
    (∃ (p : Pipe) (u : ParseUnit) (w : Word) (r : ParseRun) (s : State), s.fetches p u 0x1C w r ∧ 4 ≤ r.scopes.length) ∧
    (∃ (p : Pipe) (u : ParseUnit) (w : Word) (r : ParseRun) (s : State) (d : Nat), s.fetches p u 0x1C w r ∧ d = (r.cursor + w.field 11 4 + (r.rd (w.field 25 22)).toNat * 2 ^ w.field 13 12) % 2 ^ 32 ∧ r.scopes = [] ∧ r.pass.scopeEnd = none ∧ r.deferred = none) ∧
    (∃ (p : Pipe) (u : ParseUnit) (w : Word) (r : ParseRun) (s : State), s.fetches p u 0x1D w r) ∧
    (∃ (p : Pipe) (u : ParseUnit) (w : Word) (r : ParseRun) (s : State) (e : Nat) (es : List Nat), s.fetches p u 0x1E w r ∧ r.scopes = e :: es) ∧
    (∃ (p : Pipe) (u : ParseUnit) (w : Word) (r : ParseRun) (s : State), s.fetches p u 0x1E w r ∧ r.scopes = []) ∧
    (∃ (p : Pipe) (u : ParseUnit) (w : Word) (r : ParseRun) (s : State), s.unitRun p.val u.val = some r ∧ r.steps < 64 ∧ r.pc ≤ 2047 ∧ s.parseWord r.pass.parity (parseBase p.val + 4 * r.pc) = w ∧ s.copiesBad r.pass.parity (parseBase p.val + 4 * r.pc) = 0 ∧ (parseOps.contains (w.field 31 26) = false ∨ parseReserved (w.field 31 26) w = false)) :=
  ⟨⟨0, 3, 0x4c100000, ({ pass := (⟨4, 9, false, 5, false, 0, (List.range 256).map (BitVec.ofNat 8), some 124, none, false⟩ : Pass), regs := [(2, 7), (3, 5)], pc := 2, cursor := 14 } : ParseRun), ({ State.reset with units := [(3, some ({ pass := (⟨4, 9, false, 5, false, 0, (List.range 256).map (BitVec.ofNat 8), some 124, none, false⟩ : Pass), regs := [(2, 7), (3, 5)], pc := 2, cursor := 14 } : ParseRun))], cx := { parse := [(33619976, 0x4c100000)] } }), 270, by decide +kernel⟩,
   ⟨0, 3, 0x4c00e004, ({ pass := (⟨4, 9, false, 5, false, 0, (List.range 256).map (BitVec.ofNat 8), some 124, none, false⟩ : Pass), regs := [(2, 7), (3, 5)], pc := 2, cursor := 14 } : ParseRun), ({ State.reset with units := [(3, some ({ pass := (⟨4, 9, false, 5, false, 0, (List.range 256).map (BitVec.ofNat 8), some 124, none, false⟩ : Pass), regs := [(2, 7), (3, 5)], pc := 2, cursor := 14 } : ParseRun))], cx := { parse := [(33619976, 0x4c00e004)] } }), 28, by decide +kernel⟩,
   ⟨0, 3, 0x4c00e820, ({ pass := (⟨4, 9, false, 5, false, 0, (List.range 256).map (BitVec.ofNat 8), some 124, none, false⟩ : Pass), regs := [(2, 7), (3, 5)], pc := 2, cursor := 14 } : ParseRun), ({ State.reset with units := [(3, some ({ pass := (⟨4, 9, false, 5, false, 0, (List.range 256).map (BitVec.ofNat 8), some 124, none, false⟩ : Pass), regs := [(2, 7), (3, 5)], pc := 2, cursor := 14 } : ParseRun))], cx := { parse := [(33619976, 0x4c00e820), (33628192, 0xC0001401), (33628196, 0x06680000), (33632264, 0x0800FFFF), (33632268, 0x80000002)] } }), 28, 4, { ({ pass := (⟨4, 9, false, 5, false, 0, (List.range 256).map (BitVec.ofNat 8), some 124, none, false⟩ : Pass), regs := [(2, 7), (3, 5)], pc := 2, cursor := 14 } : ParseRun).stepped with cursor := 28, depth := 1, sq := 4, pc := 5, layers := [(5, some 28)], nsq := some 6 }, by decide +kernel⟩,
   ⟨0, 3, 1275127840, ({ pass := (⟨4, 9, false, 5, false, 0, (List.range 256).map (BitVec.ofNat 8), some 124, none, false⟩ : Pass), regs := [(2, 7), (3, 5)], pc := 2, cursor := 14 } : ParseRun), ({ State.reset with units := [(3, some ({ pass := (⟨4, 9, false, 5, false, 0, (List.range 256).map (BitVec.ofNat 8), some 124, none, false⟩ : Pass), regs := [(2, 7), (3, 5)], pc := 2, cursor := 14 } : ParseRun))], cx := { parse := [(33619976, 0x4c00e820), (33628192, 0xC0001401), (33628196, 0x06680000), (33632264, 0x0800FFFF), (33632268, 0x80000002)] , badCopy := [(33628196, 2)] } }), by decide +kernel⟩,
   ⟨0, 4, ({ pass := (⟨4, 9, false, 5, false, 0, (List.range 256).map (BitVec.ofNat 8), some 124, none, false⟩ : Pass), regs := [(2, 7), (3, 5)], pc := 2, cursor := 14 } : ParseRun), 0xC0001401, 0x06680000, ({ State.reset with units := [(3, some ({ pass := (⟨4, 9, false, 5, false, 0, (List.range 256).map (BitVec.ofNat 8), some 124, none, false⟩ : Pass), regs := [(2, 7), (3, 5)], pc := 2, cursor := 14 } : ParseRun))], cx := { parse := [(33619976, 0x0), (33628192, 0xC0001401), (33628196, 0x06680000), (33632264, 0x0800FFFF), (33632268, 0x80000002)] } }), by decide +kernel⟩,
   ⟨0, 3, 0x48800000, ({ pass := (⟨4, 9, false, 5, false, 0, (List.range 256).map (BitVec.ofNat 8), some 124, none, false⟩ : Pass), regs := [(2, 0x0800)], pc := 2, cursor := 14, sq := 4 } : ParseRun), ({ State.reset with units := [(3, some ({ pass := (⟨4, 9, false, 5, false, 0, (List.range 256).map (BitVec.ofNat 8), some 124, none, false⟩ : Pass), regs := [(2, 0x0800)], pc := 2, cursor := 14, sq := 4 } : ParseRun))], cx := { parse := [(33619976, 0x48800000), (33628192, 0xC0001401), (33628196, 0x06680000), (33632264, 0x0800FFFF), (33632268, 0x80000002)] } }), 0x0800FFFF, 0x80000002, 1, by decide +kernel⟩,
   ⟨0, 3, 0x48800000, ({ pass := (⟨4, 9, false, 5, false, 0, (List.range 256).map (BitVec.ofNat 8), some 124, none, false⟩ : Pass), regs := [(2, 7), (3, 5)], pc := 2, cursor := 14 } : ParseRun), ({ State.reset with units := [(3, some ({ pass := (⟨4, 9, false, 5, false, 0, (List.range 256).map (BitVec.ofNat 8), some 124, none, false⟩ : Pass), regs := [(2, 7), (3, 5)], pc := 2, cursor := 14 } : ParseRun))], cx := { parse := [(33619976, 0x48800000)] } }), by decide +kernel⟩,
   ⟨0, 3, 0x50000000, ({ pass := (⟨4, 9, false, 5, false, 0, (List.range 256).map (BitVec.ofNat 8), some 124, none, false⟩ : Pass), regs := [(2, 7), (3, 5)], pc := 2, cursor := 14 } : ParseRun), ({ State.reset with units := [(3, some ({ pass := (⟨4, 9, false, 5, false, 0, (List.range 256).map (BitVec.ofNat 8), some 124, none, false⟩ : Pass), regs := [(2, 7), (3, 5)], pc := 2, cursor := 14 } : ParseRun))], cx := { parse := [(33619976, 0x50000000)] } }), by decide +kernel⟩,
   ⟨0, 3, 0x56400000, ({ pass := (⟨4, 9, false, 5, false, 0, (List.range 256).map (BitVec.ofNat 8), some 124, none, false⟩ : Pass), regs := [(2, 7), (3, 5)], pc := 2, cursor := 14 } : ParseRun), ({ State.reset with units := [(3, some ({ pass := (⟨4, 9, false, 5, false, 0, (List.range 256).map (BitVec.ofNat 8), some 124, none, false⟩ : Pass), regs := [(2, 7), (3, 5)], pc := 2, cursor := 14 } : ParseRun))], cx := { parse := [(33619976, 0x56400000)] } }), by decide +kernel⟩,
   ⟨0, 3, 0x608c4000, ({ pass := (⟨4, 9, false, 5, false, 0, (List.range 256).map (BitVec.ofNat 8), some 124, none, false⟩ : Pass), regs := [(2, 7), (3, 5)], pc := 2, cursor := 14 } : ParseRun), ({ State.reset with units := [(3, some ({ pass := (⟨4, 9, false, 5, false, 0, (List.range 256).map (BitVec.ofNat 8), some 124, none, false⟩ : Pass), regs := [(2, 7), (3, 5)], pc := 2, cursor := 14 } : ParseRun))], cx := { parse := [(33619976, 0x608c4000)] } }), 2, 12, by decide +kernel⟩,
   ⟨0, 3, 0x60bf4000, ({ pass := (⟨4, 9, false, 5, false, 0, (List.range 256).map (BitVec.ofNat 8), some 124, none, false⟩ : Pass), regs := [(2, 7), (3, 5)], pc := 2, cursor := 14 } : ParseRun), ({ State.reset with units := [(3, some ({ pass := (⟨4, 9, false, 5, false, 0, (List.range 256).map (BitVec.ofNat 8), some 124, none, false⟩ : Pass), regs := [(2, 7), (3, 5)], pc := 2, cursor := 14 } : ParseRun))], cx := { parse := [(33619976, 0x60bf4000)] } }), by decide +kernel⟩,
   ⟨0, 3, 0x640d6320, ({ pass := (⟨4, 9, false, 5, false, 0, (List.range 256).map (BitVec.ofNat 8), some 124, none, false⟩ : Pass), regs := [(2, 7), (3, 5)], pc := 2, cursor := 14 } : ParseRun), ({ State.reset with units := [(3, some ({ pass := (⟨4, 9, false, 5, false, 0, (List.range 256).map (BitVec.ofNat 8), some 124, none, false⟩ : Pass), regs := [(2, 7), (3, 5)], pc := 2, cursor := 14 } : ParseRun))], cx := { parse := [(33619976, 0x640d6320)] } }), 4, 22, 24, by decide +kernel⟩,
   ⟨0, 3, 0x640fe320, ({ pass := (⟨4, 9, false, 5, false, 0, (List.range 256).map (BitVec.ofNat 8), some 124, none, false⟩ : Pass), regs := [(2, 7), (3, 5)], pc := 2, cursor := 14 } : ParseRun), ({ State.reset with units := [(3, some ({ pass := (⟨4, 9, false, 5, false, 0, (List.range 256).map (BitVec.ofNat 8), some 124, none, false⟩ : Pass), regs := [(2, 7), (3, 5)], pc := 2, cursor := 14 } : ParseRun))], cx := { parse := [(33619976, 0x640fe320)] } }), by decide +kernel⟩,
   ⟨0, 3, 0x6e400000, ({ pass := (⟨4, 9, false, 5, false, 0, (List.range 256).map (BitVec.ofNat 8), some 124, none, false⟩ : Pass), regs := [(2, 7), (3, 5)], pc := 2, cursor := 14 } : ParseRun), ({ State.reset with units := [(3, some ({ pass := (⟨4, 9, false, 5, false, 0, (List.range 256).map (BitVec.ofNat 8), some 124, none, false⟩ : Pass), regs := [(2, 7), (3, 5)], pc := 2, cursor := 14 } : ParseRun))], cx := { parse := [(33619976, 0x6e400000)] } }), by decide +kernel⟩,
   ⟨0, 3, 0x70804090, ({ pass := (⟨4, 9, false, 5, false, 0, (List.range 256).map (BitVec.ofNat 8), some 124, none, false⟩ : Pass), regs := [(2, 7), (3, 5)], pc := 2, cursor := 14 } : ParseRun), ({ State.reset with units := [(3, some ({ pass := (⟨4, 9, false, 5, false, 0, (List.range 256).map (BitVec.ofNat 8), some 124, none, false⟩ : Pass), regs := [(2, 7), (3, 5)], pc := 2, cursor := 14 } : ParseRun))], cx := { parse := [(33619976, 0x70804090)] } }), 30, 124, by decide +kernel⟩,
   ⟨0, 3, 0x70804090, ({ pass := (⟨4, 9, false, 5, false, 0, (List.range 256).map (BitVec.ofNat 8), some 124, none, false⟩ : Pass), regs := [(2, 200)], pc := 2, cursor := 14 } : ParseRun), ({ State.reset with units := [(3, some ({ pass := (⟨4, 9, false, 5, false, 0, (List.range 256).map (BitVec.ofNat 8), some 124, none, false⟩ : Pass), regs := [(2, 200)], pc := 2, cursor := 14 } : ParseRun))], cx := { parse := [(33619976, 0x70804090)] } }), 223, 124, by decide +kernel⟩,
   ⟨0, 3, 0x70808090, ({ pass := (⟨4, 9, false, 5, false, 0, (List.range 256).map (BitVec.ofNat 8), some 124, none, false⟩ : Pass), regs := [(2, 7), (3, 5)], pc := 2, cursor := 14 } : ParseRun), ({ State.reset with units := [(3, some ({ pass := (⟨4, 9, false, 5, false, 0, (List.range 256).map (BitVec.ofNat 8), some 124, none, false⟩ : Pass), regs := [(2, 7), (3, 5)], pc := 2, cursor := 14 } : ParseRun))], cx := { parse := [(33619976, 0x70808090)] } }), 30, 124, by decide +kernel⟩,
   ⟨0, 3, 0x70800090, ({ pass := (⟨4, 9, false, 5, false, 0, (List.range 256).map (BitVec.ofNat 8), some 124, none, false⟩ : Pass), regs := [(2, 7), (3, 5)], pc := 2, cursor := 14, scopes := [100, 110, 120, 124] } : ParseRun), ({ State.reset with units := [(3, some ({ pass := (⟨4, 9, false, 5, false, 0, (List.range 256).map (BitVec.ofNat 8), some 124, none, false⟩ : Pass), regs := [(2, 7), (3, 5)], pc := 2, cursor := 14, scopes := [100, 110, 120, 124] } : ParseRun))], cx := { parse := [(33619976, 0x70800090)] } }), by decide +kernel⟩,
   ⟨0, 3, 0x70800090, ({ pass := (⟨4, 9, false, 5, false, 0, (List.range 256).map (BitVec.ofNat 8), none, none, false⟩ : Pass), regs := [(2, 7), (3, 5)], pc := 2, cursor := 14 } : ParseRun), ({ State.reset with units := [(3, some ({ pass := (⟨4, 9, false, 5, false, 0, (List.range 256).map (BitVec.ofNat 8), none, none, false⟩ : Pass), regs := [(2, 7), (3, 5)], pc := 2, cursor := 14 } : ParseRun))], cx := { parse := [(33619976, 0x70800090)] } }), 30, by decide +kernel⟩,
   ⟨0, 3, 0x7408c000, ({ pass := (⟨4, 9, false, 5, false, 0, (List.range 256).map (BitVec.ofNat 8), some 124, none, false⟩ : Pass), regs := [(2, 7), (3, 5)], pc := 2, cursor := 14 } : ParseRun), ({ State.reset with units := [(3, some ({ pass := (⟨4, 9, false, 5, false, 0, (List.range 256).map (BitVec.ofNat 8), some 124, none, false⟩ : Pass), regs := [(2, 7), (3, 5)], pc := 2, cursor := 14 } : ParseRun))], cx := { parse := [(33619976, 0x7408c000)] } }), by decide +kernel⟩,
   ⟨0, 3, 0x78000000, ({ pass := (⟨4, 9, false, 5, false, 0, (List.range 256).map (BitVec.ofNat 8), some 124, none, false⟩ : Pass), regs := [(2, 7), (3, 5)], pc := 2, cursor := 14, scopes := [100] } : ParseRun), ({ State.reset with units := [(3, some ({ pass := (⟨4, 9, false, 5, false, 0, (List.range 256).map (BitVec.ofNat 8), some 124, none, false⟩ : Pass), regs := [(2, 7), (3, 5)], pc := 2, cursor := 14, scopes := [100] } : ParseRun))], cx := { parse := [(33619976, 0x78000000)] } }), 100, [], by decide +kernel⟩,
   ⟨0, 3, 0x78000000, ({ pass := (⟨4, 9, false, 5, false, 0, (List.range 256).map (BitVec.ofNat 8), some 124, none, false⟩ : Pass), regs := [(2, 7), (3, 5)], pc := 2, cursor := 14 } : ParseRun), ({ State.reset with units := [(3, some ({ pass := (⟨4, 9, false, 5, false, 0, (List.range 256).map (BitVec.ofNat 8), some 124, none, false⟩ : Pass), regs := [(2, 7), (3, 5)], pc := 2, cursor := 14 } : ParseRun))], cx := { parse := [(33619976, 0x78000000)] } }), by decide +kernel⟩,
   ⟨0, 3, 0x7C000000, ({ pass := (⟨4, 9, false, 5, false, 0, (List.range 256).map (BitVec.ofNat 8), some 124, none, false⟩ : Pass), regs := [(2, 7), (3, 5)], pc := 2, cursor := 14 } : ParseRun), ({ State.reset with units := [(3, some ({ pass := (⟨4, 9, false, 5, false, 0, (List.range 256).map (BitVec.ofNat 8), some 124, none, false⟩ : Pass), regs := [(2, 7), (3, 5)], pc := 2, cursor := 14 } : ParseRun))], cx := { parse := [(33619976, 0x7c000000)] } }), by decide +kernel⟩⟩

/-- What the clauses of `ParsePasses` assume can be met. -/
theorem witness_ParsePasses :
    (∃ (p : Port) (f : Nat) (x : Frame) (b : List Byte) (d : Bool) (s : State), s.oldest p.val (fun y => !y.passed) = some f ∧ s.frame f = some x ∧ x.origin = p.val ∧ s.queueOpen (pipeOf p.val) = true ∧ x.bytes ≠ []) ∧
    (∃ (p : Port) (f : Nat) (b : List Byte) (d : Bool) (s : State), s.oldest p.val (fun y => !y.passed) = some f ∧ s.frame f ≠ none ∧ (∀ x ∈ s.frame f, x.origin = p.val) ∧ s.queueOpen (pipeOf p.val) = false) ∧
    (∃ (n : Nat) (b : List Byte) (d : Bool) (s : State), n < 128 ∧ s.macRuns n = false ∧ s.oldest n (fun y => !y.passed) = none) ∧
    (∃ (b : List Byte) (d : Bool) (s : State), s.pair.admitted = [] ∧ s.recirc = [] ∧ s.ctlSend = []) ∧
    (∃ (n : Nat) (i : Nat) (b : List Byte) (d : Bool) (s : State), 128 ≤ n ∧ s.turnInput = some i) ∧
    (∃ (f : Nat) (fs : List Nat) (x : Frame) (s : State), s.ctlSend = f :: fs ∧ s.queueOpen 2 = true ∧ s.frame f = some x) ∧
    (∃ (i : Nat) (s : State), i < 4 ∧ s.inputWaits i = true ∧ (s.pipe 2).lastInput % 4 = (i + 3) % 4) ∧
    (∃ (p : Pipe) (u : Nat) (x : Pass) (xs : List Pass) (q : Nat) (r : ParseRun) (s : State), (s.pipe p.val).queue = x :: xs ∧ s.idleUnit p.val = some u ∧ (s.pipe p.val).reruns = [] ∧ (∀ a ∈ startReads s p.val x, s.copiesBad x.parity a = 0) ∧ startSquare s p.val x = some q ∧ enterSquare s p.val q { pass := x } = (r, none)) ∧
    (∃ (p : Pipe) (u : Nat) (x : Pass) (xs : List Pass) (s : State), (s.pipe p.val).queue = x :: xs ∧ s.idleUnit p.val = some u ∧ (s.pipe p.val).reruns = [] ∧ (∀ a ∈ startReads s p.val x, s.copiesBad x.parity a = 0) ∧ startSquare s p.val x = none) ∧
    (∃ (p : Pipe) (u : Nat) (x : Pass) (xs : List Pass) (us : List (Nat × Bool)) (s : State), (s.pipe p.val).queue = x :: xs ∧ s.idleUnit p.val = some u ∧ (s.pipe p.val).reruns = []) ∧
    (∃ (p : Pipe) (u : Nat) (x : Pass) (xs : List Pass) (s : State), (s.pipe p.val).reruns = x :: xs ∧ s.idleUnit p.val = some u) ∧
    (∃ (p : Pipe) (u : Nat) (x : Pass) (n : Nat) (s : State), n ∈ startReads s p.val x ∧ s.copiesBad x.parity n = 2) ∧
    (∃ (p : Pipe) (q : Bool) (n : Nat) (s : State), s.copiesBad q n = 1) ∧
    (∃ (p : Pipe) (o : List (Nat × Bool)) (s : State), (((s.pipe p.val).queue = [] ∧ (s.pipe p.val).reruns = []) ∨ s.idleUnit p.val = none)) ∧
    (∃ (p : Pipe) (r : ParseResult) (s : State), (s.pipe p.val).results.find? (fun y => y.num = (s.pipe p.val).relNum) = some r) ∧
    (∃ (p : Pipe) (s : State), (∀ y ∈ (s.pipe p.val).results, y.num ≠ (s.pipe p.val).relNum)) ∧
    (∃ (p : Pipe) (u : ParseUnit) (s : State), s.unitRun p.val u.val = none) ∧
    (∃ (p : Pipe) (u : ParseUnit) (r : ParseRun) (v : Nat) (s : State), s.unitRun p.val u.val = some r ∧ r.pass.rerun = false ∧ s.unitStrike p.val u.val < 2 ∧ (setUnit p.val u.val none s).idleUnit p.val = some v) ∧
    (∃ (p : Pipe) (u : ParseUnit) (r : ParseRun) (s : State), s.unitRun p.val u.val = some r ∧ r.pass.rerun = true) ∧
    (∃ (p : Pipe) (u : ParseUnit) (r : ParseRun) (s : State), s.unitRun p.val u.val = some r ∧ r.pass.rerun = false ∧ s.unitStrike p.val u.val < 2 ∧ (setUnit p.val u.val none s).idleUnit p.val = none) ∧
    (∃ (p : Pipe) (u : ParseUnit) (s : State), 2 ≤ s.unitStrike p.val u.val) ∧
    (∃ (p : Pipe) (m : BitVec 16) (u : ParseUnit) (s : State), s.Ok ∧ s.stopped.contains .tenant = false) ∧
    (∃ (a : Agent) (p : Pipe) (m : BitVec 16) (s : State), a ≠ .tenant ∧ a ≠ .host ∧ s.stopped.contains a = false) :=
  ⟨⟨5, 9, ({ origin := 5, bytes := List.replicate 300 1, passed := false, head := some 0 } : Frame), [], true, ({ mk [(CL_STATUS_STAGE 5, 6), (CM_CFG_EN 5, 1)] with frames := [(9, some ({ origin := 5, bytes := List.replicate 300 1, passed := false, head := some 0 } : Frame))] }), by decide +kernel⟩,
   ⟨5, 9, [], true, ({ mk [(CL_STATUS_STAGE 5, 6), (CM_CFG_EN 5, 1)] with frames := [(9, some ({ origin := 5, bytes := List.replicate 300 1, passed := false, head := some 0 } : Frame))], pipes := [(0, { queue := List.replicate 256 (⟨4, 9, false, 5, false, 0, [], some 124, none, false⟩ : Pass) })] }), by decide +kernel⟩,
   ⟨5, [], true, State.reset, by decide +kernel⟩,
   ⟨[], true, State.reset, by decide +kernel⟩,
   ⟨130, 3, [], true, ({ State.reset with ctlSend := [9] }), by decide +kernel⟩,
   ⟨9, [], ({ origin := 5, bytes := List.replicate 300 1, passed := false, head := some 0 } : Frame), ({ State.reset with ctlSend := [9], frames := [(9, some ({ origin := 5, bytes := List.replicate 300 1, passed := false, head := some 0 } : Frame))] }), by decide +kernel⟩,
   ⟨0, ({ State.reset with pair := { State.reset.pair with admitted := [(.la, [])] }, recirc := [(8, 14, none)], qs := { State.reset.qs with egress := [(133, [8])] } }), by decide +kernel⟩,
   ⟨0, 0, (⟨4, 9, false, 5, false, 0, [], some 124, none, false⟩ : Pass), [], 4, { pass := (⟨4, 9, false, 5, false, 0, [], some 124, none, false⟩ : Pass), pc := 5, depth := 1, sq := 4, layers := [(5, some 0)], nsq := some 6 }, ({ State.reset with pipes := [(0, { queue := [(⟨4, 9, false, 5, false, 0, [], some 124, none, false⟩ : Pass)], nextNum := 5 })], cx := { parse := [(33644564, 0x80000004), (33628192, 0xC0001401), (33628196, 0x06680000), (33632264, 0x0800FFFF), (33632268, 0x80000002)] } }), by decide +kernel⟩,
   ⟨0, 0, (⟨4, 9, false, 5, false, 0, [], some 124, none, false⟩ : Pass), [], ({ State.reset with pipes := [(0, { queue := [(⟨4, 9, false, 5, false, 0, [], some 124, none, false⟩ : Pass)], nextNum := 5 })] }), by decide +kernel⟩,
   ⟨0, 0, (⟨4, 9, false, 5, false, 0, [], some 124, none, false⟩ : Pass), [], [(33644564, true)], ({ State.reset with pipes := [(0, { queue := [(⟨4, 9, false, 5, false, 0, [], some 124, none, false⟩ : Pass)], nextNum := 5 })], cx := { parse := [(33644564, 0x80000004), (33628192, 0xC0001401), (33628196, 0x06680000), (33632264, 0x0800FFFF), (33632268, 0x80000002)] } }), by decide +kernel⟩,
   ⟨0, 0, (⟨4, 9, false, 5, false, 0, [], some 124, none, true⟩ : Pass), [], ({ ({ State.reset with pipes := [(0, { queue := [(⟨4, 9, false, 5, false, 0, [], some 124, none, false⟩ : Pass)], nextNum := 5 })], cx := { parse := [(33644564, 0x80000004), (33628192, 0xC0001401), (33628196, 0x06680000), (33632264, 0x0800FFFF), (33632268, 0x80000002)] } }) with pipes := [(0, { reruns := [(⟨4, 9, false, 5, false, 0, [], some 124, none, true⟩ : Pass)], nextNum := 5 })] }), by decide +kernel⟩,
   ⟨0, 0, (⟨4, 9, false, 5, false, 0, [], some 124, none, false⟩ : Pass), 33644564, ({ ({ State.reset with pipes := [(0, { queue := [(⟨4, 9, false, 5, false, 0, [], some 124, none, false⟩ : Pass)], nextNum := 5 })], cx := { parse := [(33644564, 0x80000004), (33628192, 0xC0001401), (33628196, 0x06680000), (33632264, 0x0800FFFF), (33632268, 0x80000002)] } }) with cx := { ({ State.reset with pipes := [(0, { queue := [(⟨4, 9, false, 5, false, 0, [], some 124, none, false⟩ : Pass)], nextNum := 5 })], cx := { parse := [(33644564, 0x80000004), (33628192, 0xC0001401), (33628196, 0x06680000), (33632264, 0x0800FFFF), (33632268, 0x80000002)] } }).cx with badCopy := [(33644564, 2)] } }), by decide +kernel⟩,
   ⟨0, false, 33619968, ({ State.reset with cx := { badCopy := [(33619968, 1)] } }), by decide +kernel⟩,
   ⟨0, [], State.reset, by decide +kernel⟩,
   ⟨0, (⟨7, 9, false, 5, false, 0, 0, 0, 4, 1, 3, [], 0, false, false, 0, none, []⟩ : ParseResult), ({ State.reset with pipes := [(0, { results := [(⟨7, 9, false, 5, false, 0, 0, 0, 4, 1, 3, [], 0, false, false, 0, none, []⟩ : ParseResult)], relNum := 7, nextNum := 9 })] }), by decide +kernel⟩,
   ⟨0, ({ State.reset with pipes := [(0, { results := [(⟨7, 9, false, 5, false, 0, 0, 0, 4, 1, 3, [], 0, false, false, 0, none, []⟩ : ParseResult)], relNum := 6, nextNum := 9 })] }), by decide +kernel⟩,
   ⟨0, 3, State.reset, by decide +kernel⟩,
   ⟨0, 3, ({ pass := (⟨4, 9, false, 5, false, 0, (List.range 256).map (BitVec.ofNat 8), some 124, none, false⟩ : Pass), regs := [(2, 7), (3, 5)], pc := 2, cursor := 14 } : ParseRun), 0, ({ State.reset with units := [(3, some ({ pass := (⟨4, 9, false, 5, false, 0, (List.range 256).map (BitVec.ofNat 8), some 124, none, false⟩ : Pass), regs := [(2, 7), (3, 5)], pc := 2, cursor := 14 } : ParseRun))], cx := { parse := [(33619976, 0x0)] } }), by decide +kernel⟩,
   ⟨0, 3, ({ pass := (⟨4, 9, false, 5, false, 0, (List.range 256).map (BitVec.ofNat 8), some 124, none, true⟩ : Pass), regs := [(2, 7), (3, 5)], pc := 2, cursor := 14 } : ParseRun), ({ State.reset with units := [(3, some ({ pass := (⟨4, 9, false, 5, false, 0, (List.range 256).map (BitVec.ofNat 8), some 124, none, true⟩ : Pass), regs := [(2, 7), (3, 5)], pc := 2, cursor := 14 } : ParseRun))] }), by decide +kernel⟩,
   ⟨0, 3, ({ pass := (⟨4, 9, false, 5, false, 0, (List.range 256).map (BitVec.ofNat 8), some 124, none, false⟩ : Pass), regs := [(2, 7), (3, 5)], pc := 2, cursor := 14 } : ParseRun), ({ ({ State.reset with units := [(3, some ({ pass := (⟨4, 9, false, 5, false, 0, (List.range 256).map (BitVec.ofNat 8), some 124, none, false⟩ : Pass), regs := [(2, 7), (3, 5)], pc := 2, cursor := 14 } : ParseRun))], cx := { parse := [(33619976, 0x0)] } }) with regs := [(PA_UNITS 0, 0)] }), by decide +kernel⟩,
   ⟨0, 3, ({ State.reset with unitStrikes := [(3, 2)] }), by decide +kernel⟩,
   ⟨0, 8, 3, ({ mk [(PA_UNITS_IN_SERVICE 0, 0)] with unitStrikes := [(3, 2)] }), by decide +kernel⟩,
   ⟨.carrier, 0, 8, State.reset, by decide +kernel⟩⟩

set_option maxRecDepth 20000 in
/-- What the clauses of `RoundsAndCommits` assume can be met. -/
theorem witness_RoundsAndCommits :
    (∃ (n : Nat) (s : State), s.isCtl n = true ∧ s.stageOpen = true ∧ s.stopped.contains .tenant = false) ∧
    (∃ (n : Nat) (s : State), s.isCtl n = true ∧ s.stageOpen = true ∧ s.stopped.contains .tenant = false) ∧
    (∃ (n : Nat) (s : State), s.isCtl n = true ∧ s.stageOpen = false ∧ s.stopped.contains .tenant = false) ∧
    (∃ (a : Agent) (n : Nat) (b : Bank) (s : State), a ≠ .tenant ∧ a ≠ .host ∧ s.stopped.contains a = false) ∧
    (∃ (s : State), s.Ok ∧ s.cx.request = none ∧ s.staging = true ∧ s.stopped.contains .tenant = false) ∧
    (∃ (s : State), s.Ok ∧ s.cx.request = none ∧ s.staging = false ∧ s.stopped.contains .tenant = false) ∧
    (∃ (r : Nat) (s : State), s.Ok ∧ s.cx.request = some r ∧ s.stopped.contains .tenant = false) ∧
    (∃ (n : Fin 8) (r : Nat) (s : State), s.isSet CX_COMMIT_EDGE_ARM = true ∧ s.get CX_COMMIT_EDGE_TIN = n.val ∧ s.cx.edgeTaken = false ∧ s.cx.edgeAt = some r ∧ s.cx.request = none ∧ s.staging = true) ∧
    (∃ (n : Fin 8) (s : State), (s.isSet CX_COMMIT_EDGE_ARM = false ∨ s.get CX_COMMIT_EDGE_TIN ≠ n.val ∨ s.cx.edgeAt = none ∨ s.cx.edgeTaken = true)) ∧
    (∃ (r : Nat) (s : State), s.Ok ∧ s.cx.request = some r ∧ s.staging = true ∧ s.isSet CX_COMMIT_CHECK_EN = false) ∧
    (∃ (r : Nat) (s : State), s.Ok ∧ s.cx.request = some r ∧ s.staging = true ∧ s.isSet CX_COMMIT_CHECK_EN = true ∧ s.roundDigest s.stageParity ≠ (s.reg CX_COMMIT_DIGEST).toNat + (s.reg (CX_COMMIT_DIGEST + 4)).toNat * 2 ^ 32) ∧
    (∃ (s : State), (s.cx.request = none ∨ s.staging = false)) ∧
    (∃ (s : State), s.Ok ∧ s.isSet CX_STATE_DRAINING = true ∧ s.waits s.stageParity = false) ∧
    (∃ (s : State), (s.isSet CX_STATE_DRAINING = false ∨ s.waits s.stageParity = true)) ∧
    (∃ (n : Nat) (s : State), s.Ok ∧ s.isSet CX_STATE_SWEEP = true ∧ (s.cx.request = none ∨ s.isSet CX_STATE_HELD = false)) ∧
    (∃ (s : State), s.isSet CX_STATE_SWEEP = false) ∧
    (∃ (p : Pipe) (s : State), s.Ok ∧ s.isSet CX_STATE_DRAINING = true ∧ s.frames = [] ∧ s.recirc = []) ∧
    (∃ (s : State), s.isSet CX_STATE_DRAINING = false) :=
  ⟨⟨0x0280001C, State.reset, by decide +kernel⟩,
   ⟨0x0280001C, ({ State.reset with cx := { marks := [(0x0280001C, 3)], badWords := [0x02800000] } }), by decide +kernel⟩,
   ⟨0x0280001C, mk [(CX_STATE_READY, 0)], by decide +kernel⟩,
   ⟨.carrier, 0, 5, State.reset, by decide +kernel⟩,
   ⟨State.reset, by decide +kernel⟩,
   ⟨mk [(CX_STATE_READY, 0)], by decide +kernel⟩,
   ⟨9, ({ State.reset with cx := { request := some 9 } }), by decide +kernel⟩,
   ⟨2, 77, ({ mk [(CX_COMMIT_EDGE_ARM, 1), (CX_COMMIT_EDGE_TIN, 2)] with cx := { edgeAt := some 77 } }), by decide +kernel⟩,
   ⟨2, State.reset, by decide +kernel⟩,
   ⟨5*2^32, ({ mk [(CX_COMMIT_CHECK_EN, 0)] with cx := { request := some (5*2^32) } }), by decide +kernel⟩,
   ⟨5, ({ mk [(⟨CX_COMMIT_DIGEST, 31, 0⟩, 1)] with cx := { request := some 5 } }), by decide +kernel⟩,
   ⟨State.reset, by decide +kernel⟩,
   ⟨({ mk [(CX_STATE_DRAINING, 1), (CX_STATE_READY, 0)] with now := 5000, cx := { drainFrom := some 1000 } }), by decide +kernel⟩,
   ⟨State.reset, by decide +kernel⟩,
   ⟨0x0280001C, ({ mk [(CX_STATE_SWEEP, 1), (CX_STATE_READY, 0)] with cx := { marks := [(0x0280001C, 2), (0x0280003C, 1)] } }), by decide +kernel⟩,
   ⟨State.reset, by decide +kernel⟩,
   ⟨0, ({ mk [(CX_STATE_DRAINING, 1)] with pipes := [(0, { queue := [(⟨4, 9, false, 5, true, 0, [], some 124, none, false⟩ : Pass)], nextNum := 5 })] }), by decide +kernel⟩,
   ⟨State.reset, by decide +kernel⟩⟩

end Sys2Proof.Machine
end

