-- ==== Sys2Proof/Tests/WitnessCore.lean ====
section
/-! SUPPORT. Witnesses: for each statement a state and operands that meet the hypotheses of each of its clauses, clause by
clause (controllers, start-up, events, power and resets). -/
namespace Sys2Proof.Machine

-- One after another: theorems that wait for the kernel side by side each hold a thread.
set_option Elab.async false
set_option linter.unusedVariables false

/-- What the clauses of `DspArithmetic` assume can be met. -/
theorem witness_DspArithmetic :
    (∃ (k : Core) (w : Word) (r : (Nat × Option Bool × Option Bool)) (s : State), s.dspAt k 0x18 w ∧ w.field 7 0 = 0 ∧ w.field 13 12 = 0 ∧ w.field 11 8 ≤ 0xC ∧ r = aluFn (w.field 11 8) 32 ((s.core k).d (w.field 21 18)) ((s.core k).d (w.field 17 14)) (Config.freeWord s.freeCtr)) ∧
    (∃ (k : Core) (w : Word) (r : (Nat × Option Bool × Option Bool)) (s : State), s.dspAt k 0x18 w ∧ w.field 7 0 = 0 ∧ (w.field 13 12 = 1 ∨ w.field 13 12 = 2) ∧ w.field 11 8 ≤ 0xB ∧ r = aluFn (w.field 11 8) 16 (partOf (w.field 13 12) ((s.core k).d (w.field 21 18))) (partOf (w.field 13 12) ((s.core k).d (w.field 17 14))) (Config.freeWord s.freeCtr)) ∧
    (∃ (k : Core) (w : Word) (r : (Nat × Option Bool × Option Bool)) (s : State), s.dspAt k 0x19 w ∧ w.field 17 14 ≤ 0xB ∧ r = aluFn (w.field 17 14) 32 ((s.core k).d (w.field 21 18)) (toField 32 (signed 14 (w.field 13 0))) (Config.freeWord s.freeCtr)) ∧
    (∃ (n : Fin 33) (a : Nat) (b : Nat) (f : Nat), a < 2 ^ n.val ∧ b < 2 ^ n.val ∧ (n.val = 16 ∨ n.val = 32)) ∧
    (∃ (k : Core) (w : Word) (v : Int) (s : State), s.dspAt k 0x20 w ∧ w.field 13 13 = 0 ∧ w.field 6 6 = 0 ∧ v = (s.core k).ac (w.field 25 24) + (s.core k).half' (w.field 23 20) (w.field 15 15) * (s.core k).half' (w.field 19 16) (w.field 14 14)) ∧
    (∃ (k : Core) (w : Word) (v : Int) (s : State), s.dspAt k 0x21 w ∧ w.field 13 13 = 0 ∧ w.field 6 6 = 0 ∧ v = (s.core k).ac (w.field 25 24) - (s.core k).half' (w.field 23 20) (w.field 15 15) * (s.core k).half' (w.field 19 16) (w.field 14 14)) ∧
    (∃ (k : Core) (w : Word) (v : Int) (s : State), s.dspAt k 0x22 w ∧ w.field 13 13 = 0 ∧ w.field 6 6 = 0 ∧ v = (s.core k).half' (w.field 23 20) (w.field 15 15) * (s.core k).half' (w.field 19 16) (w.field 14 14)) ∧
    (∃ (k : Core) (w : Word) (s : State), s.dspAt k 0x23 w ∧ w.field 13 13 = 0 ∧ w.field 6 6 = 0 ∧ (w.field 25 24 = 0 ∨ w.field 25 24 = 2)) ∧
    (∃ (k : Core) (w : Word) (b : Int) (v : Int) (s : State), s.dspAt k 0x24 w ∧ w.field 13 0 = 0 ∧ b = (if 0 ≤ signed 6 (w.field 19 14) then (s.core k).ac (w.field 23 22) * (2 ^ (signed 6 (w.field 19 14)).toNat : Int) else (s.core k).ac (w.field 23 22) / (2 ^ (-signed 6 (w.field 19 14)).toNat : Int)) ∧ v = (if w.field 21 20 = 0 then (s.core k).ac (w.field 25 24) + b else if w.field 21 20 = 1 then (s.core k).ac (w.field 25 24) - b else if w.field 21 20 = 2 then b else 0)) ∧
    (∃ (k : Core) (w : Word) (s : State), s.dspAt k 0x25 w ∧ w.field 19 18 ≤ 2 ∧ w.field 17 0 = 0) ∧
    (∃ (k : Core) (w : Word) (v : Int) (s : State), s.dspAt k 0x26 w ∧ w.field 19 18 ≤ 2 ∧ w.field 17 12 ≤ 39 ∧ w.field 11 0 = 0 ∧ v = roundEven ((s.core k).ac (w.field 21 20)) (w.field 17 12)) ∧
    (∃ (v : Int) (n : Nat), 0 < n) ∧
    (∃ (k : Core) (w : Word) (v : Int) (s : State), s.dspAt k 0x28 w ∧ w.field 19 18 ≤ 2 ∧ w.field 11 0 = 0 ∧ v = signed (partBits (w.field 19 18)) (partOf (w.field 19 18) ((s.core k).d (w.field 23 20)))) ∧
    (∃ (k : Core) (w : Word) (v : Int) (s : State), s.dspAt k 0x29 w ∧ w.field 19 18 ≤ 2 ∧ w.field 11 0 = 0 ∧ v = signed (partBits (w.field 19 18)) (partOf (w.field 19 18) ((s.core k).d (w.field 23 20)))) :=
  ⟨⟨⟨.la, 1⟩, 0x60c48000, (4, some true, some false), ({ mk [(DSP_STATUS_STATE 0 1, 1), (DSP_CTRL_RUN 0 1, 1)] with dsp := [(1, { next := 64, prog := [(64, 0x60c48000)], r := [(1, 0xFFFFFFFF), (2, 5)] })] }), by decide +kernel⟩,
   ⟨⟨.la, 1⟩, 0x60c4a100, (65534, some false, some false), ({ mk [(DSP_STATUS_STATE 0 1, 1), (DSP_CTRL_RUN 0 1, 1)] with dsp := [(1, { next := 64, prog := [(64, 0x60c4a100)], r := [(1, 0x50000), (2, 0x70001), (3, 9)] })] }), by decide +kernel⟩,
   ⟨⟨.la, 1⟩, 0x64c47ffb, (12, some false, some false), ({ mk [(DSP_STATUS_STATE 0 1, 1), (DSP_CTRL_RUN 0 1, 1)] with dsp := [(1, { next := 64, prog := [(64, 0x64c47ffb)], r := [(1, 7)] })] }), by decide +kernel⟩,
   ⟨32, 5, 5, 5, by decide +kernel⟩,
   ⟨⟨.la, 1⟩, 0x81234000, 100 + 3 * -2, ({ mk [(DSP_STATUS_STATE 0 1, 1), (DSP_CTRL_RUN 0 1, 1)] with dsp := [(1, { next := 64, prog := [(64, 0x81234000)], r := [(2, 0x00050003), (3, 0xFFFE0001), (0x11, 100)] })] }), by decide +kernel⟩,
   ⟨⟨.la, 1⟩, 0x85234000, 100 - 3 * -2, ({ mk [(DSP_STATUS_STATE 0 1, 1), (DSP_CTRL_RUN 0 1, 1)] with dsp := [(1, { next := 64, prog := [(64, 0x85234000)], r := [(2, 0x00050003), (3, 0xFFFE0001), (0x11, 100)] })] }), by decide +kernel⟩,
   ⟨⟨.la, 1⟩, 0x89234000, 3 * -2, ({ mk [(DSP_STATUS_STATE 0 1, 1), (DSP_CTRL_RUN 0 1, 1)] with dsp := [(1, { next := 64, prog := [(64, 0x89234000)], r := [(2, 0x00050003), (3, 0xFFFE0001), (0x11, 100)] })] }), by decide +kernel⟩,
   ⟨⟨.la, 1⟩, 0x8e234000, ({ mk [(DSP_STATUS_STATE 0 1, 1), (DSP_CTRL_RUN 0 1, 1)] with dsp := [(1, { next := 64, prog := [(64, 0x8e234000)], r := [(2, 0x00050003), (3, 0xFFFE0001), (0x12, 100)] })] }), by decide +kernel⟩,
   ⟨⟨.la, 1⟩, 0x918f0000, -7, -7, ({ mk [(DSP_STATUS_STATE 0 1, 1), (DSP_CTRL_RUN 0 1, 1)] with dsp := [(1, { next := 64, prog := [(64, 0x918f0000)], r := [(0x12, 0xFFFFFFFF90)] })] }), by decide +kernel⟩,
   ⟨⟨.la, 1⟩, 0x95280000, ({ mk [(DSP_STATUS_STATE 0 1, 1), (DSP_CTRL_RUN 0 1, 1)] with dsp := [(1, { next := 64, prog := [(64, 0x95280000)], r := [(2, 0x80010003)] })] }), by decide +kernel⟩,
   ⟨⟨.la, 1⟩, 0x98d50000, 2, ({ mk [(DSP_STATUS_STATE 0 1, 1), (DSP_CTRL_RUN 0 1, 1)] with dsp := [(1, { next := 64, prog := [(64, 0x98d50000)], r := [(3, 0x70000), (0x11, 0x18000)] })] }), by decide +kernel⟩,
   ⟨5, 1, by decide +kernel⟩,
   ⟨⟨.la, 1⟩, 0xa1506000, 9, ({ mk [(DSP_STATUS_STATE 0 1, 1), (DSP_CTRL_RUN 0 1, 1)] with dsp := [(1, { next := 64, prog := [(64, 0xa1506000)], r := [(5, 9), (0x28, 44), (0x30, 999), (0x34, 1)] })] }), by decide +kernel⟩,
   ⟨⟨.la, 1⟩, 0xa5506000, 9, ({ mk [(DSP_STATUS_STATE 0 1, 1), (DSP_CTRL_RUN 0 1, 1)] with dsp := [(1, { next := 64, prog := [(64, 0xa5506000)], r := [(5, 9), (0x28, 44), (0x30, 999), (0x34, 1)] })] }), by decide +kernel⟩⟩

/-- What the clauses of `DspMovesAndMemory` assume can be met. -/
theorem witness_DspMovesAndMemory :
    (∃ (k : Core) (w : Word) (s : State), s.dspAt k 0 w ∧ w.field 25 0 = 0) ∧
    (∃ (k : Core) (w : Word) (s : State), s.dspAt k 8 w ∧ w.field 24 8 = 0 ∧ (s.core k).hw 0x35 < 256 ∧ w.field 7 0 < 128) ∧
    (∃ (k : Core) (w : Word) (s : State), s.dspAt k 10 w ∧ w.field 25 20 < 16 ∧ w.field 19 14 < 0x35 ∧ w.field 13 0 = 0) ∧
    (∃ (c : Nat) (v : Nat) (x : DspCore), v < 2 ^ 32) ∧
    (∃ (k : Core) (w : Word) (s : State), s.dspAt k 11 w ∧ w.field 25 20 < 16 ∧ w.field 18 16 = 0) ∧
    (∃ (k : Core) (w : Word) (v : Nat) (y : DspCore) (m : Nat) (s : State), s.dspAt k 0x10 w ∧ w.field 17 15 ≤ 4 ∧ w.field 14 13 ≠ 3 ∧ (m, y) = addrM (s.core k) w ∧ s.dspRead k (w.field 21 21 = 1) m (sizeBytes (w.field 17 15)) = .ok v) ∧
    (∃ (k : Core) (d : Nat) (v : Nat) (w : Word) (s : State), s.issues k = true ∧ (s.core k).fetch = w ∧ w = 0 ∧ (s.core k).loads = [(d, v)] ∧ (s.core k).late = [] ∧ (s.core k).judge = none ∧ (s.core k).slots = 0 ∧ (s.core k).atEnd (s.core k).next = none) ∧
    (∃ (k : Core) (w : Word) (q : Nat) (m : Nat) (s : State), s.dspAt k 0x10 w ∧ w.field 17 15 ≤ 4 ∧ w.field 14 13 = 0 ∧ m = (addrM (s.core k) w).1 ∧ s.dspRead k (w.field 21 21 = 1) m (sizeBytes (w.field 17 15)) = .error q ∧ (s.core k).entered = false) ∧
    (∃ (k : Core) (w : Word) (m : Nat) (n : Nat) (s : State), s.dspAt k 0x11 w ∧ (w.field 17 15 = 0 ∨ w.field 17 15 = 1 ∨ w.field 17 15 = 3) ∧ w.field 14 13 ≠ 3 ∧ w.field 21 21 = 1 ∧ m = (addrM (s.core k) w).1 ∧ n = sizeBytes (w.field 17 15) ∧ m < 0x10000 ∧ m % n = 0) ∧
    (∃ (k : Core) (y : Bool) (m : Nat) (n : Nat) (v : Nat) (s : State), n = 1 ∨ n = 2 ∨ n = 4) ∧
    (∃ (k : Core) (w : Word) (m : Nat) (s : State), s.dspAt k 0x12 w ∧ w.field 21 21 = 0 ∧ w.field 17 13 = 0 ∧ m = (addrM (s.core k) w).1 ∧ m < 0x20000 ∧ m % 4 = 0 ∧ (s.core k).cached (s.core k).next = false) ∧
    (∃ (k : Core) (s : State), s.issues k = false) :=
  ⟨⟨⟨.la, 1⟩, 0, ({ mk [(DSP_STATUS_STATE 0 1, 1), (DSP_CTRL_RUN 0 1, 1)] with dsp := [(1, { next := 64, prog := [(64, 0)], r := [] })] }), by decide +kernel⟩,
   ⟨⟨.la, 1⟩, 0x22000060, ({ mk [(DSP_STATUS_STATE 0 1, 1), (DSP_CTRL_RUN 0 1, 1)] with dsp := [(1, { next := 64, prog := [(64, 0x22000060)], r := [] })] }), by decide +kernel⟩,
   ⟨⟨.la, 1⟩, 0x28360000, ({ mk [(DSP_STATUS_STATE 0 1, 1), (DSP_CTRL_RUN 0 1, 1)] with dsp := [(1, { next := 64, prog := [(64, 0x28360000)], r := [(0x18, 77)] })] }), by decide +kernel⟩,
   ⟨5, 5, {}, by decide +kernel⟩,
   ⟨⟨.la, 1⟩, 0x2c388000, ({ mk [(DSP_STATUS_STATE 0 1, 1), (DSP_CTRL_RUN 0 1, 1)] with dsp := [(1, { next := 64, prog := [(64, 0x2c388000)], r := [(3, 5)] })] }), by decide +kernel⟩,
   ⟨⟨.la, 1⟩, 0x410a2001, 9, (addrM (({ mk [(DSP_STATUS_STATE 0 1, 1), (DSP_CTRL_RUN 0 1, 1)] with dsp := [(1, { next := 64, prog := [(64, 0x410a2001)], r := [(0x1A, 6)], x := [(6, 9)] })] }).core ⟨.la, 1⟩) 0x410a2001).2, 6, ({ mk [(DSP_STATUS_STATE 0 1, 1), (DSP_CTRL_RUN 0 1, 1)] with dsp := [(1, { next := 64, prog := [(64, 0x410a2001)], r := [(0x1A, 6)], x := [(6, 9)] })] }), by decide +kernel, by decide +kernel, by decide +kernel, by decide +kernel, rfl⟩,
   ⟨⟨.la, 1⟩, 4, 9, 0, ({ mk [(DSP_STATUS_STATE 0 1, 1), (DSP_CTRL_RUN 0 1, 1)] with dsp := [(1, { next := 64, prog := [(64, 0)], r := [], loads := [(4, 9)] })] }), by decide +kernel⟩,
   ⟨⟨.la, 1⟩, 0x41080001, 2, 7, ({ mk [(DSP_STATUS_STATE 0 1, 1), (DSP_CTRL_RUN 0 1, 1)] with dsp := [(1, { next := 64, prog := [(64, 0x41080001)], r := [(0x1A, 6)] })] }), by decide +kernel, by decide +kernel, by decide +kernel, by decide +kernel, rfl, by decide +kernel⟩,
   ⟨⟨.la, 1⟩, 0x4528a002, 6, 2, ({ mk [(DSP_STATUS_STATE 0 1, 1), (DSP_CTRL_RUN 0 1, 1)] with dsp := [(1, { next := 64, prog := [(64, 0x4528a002)], r := [(4, 0x12345678), (0x1A, 6)] })] }), by decide +kernel⟩,
   ⟨⟨.la, 1⟩, false, 2, 2, 2, State.reset, by decide +kernel⟩,
   ⟨⟨.la, 1⟩, 0x49080008, 256, ({ mk [(DSP_STATUS_STATE 0 1, 1), (DSP_CTRL_RUN 0 1, 1)] with dsp := [(1, { next := 64, prog := [(64, 0x49080008)], r := [(0x1A, 248)] })] }), by decide +kernel⟩,
   ⟨⟨.la, 1⟩, State.reset, by decide +kernel⟩⟩

/-- What the clauses of `DspControl` assume can be met. -/
theorem witness_DspControl :
    (∃ (k : Core) (w : Word) (s : State), s.dspAt k 1 w ∧ w.field 25 22 ≤ 12 ∧ w.field 21 15 = 0 ∧ (s.core k).nearEnd (s.core k).next = false) ∧
    (∃ (k : Core) (w : Word) (s : State), s.dspAt k 2 w ∧ w.field 25 22 ≤ 12 ∧ w.field 21 15 = 0 ∧ (s.core k).nearEnd (s.core k).next = false) ∧
    (∃ (k : Core) (w : Word) (s : State), s.dspAt k 3 w ∧ w.field 25 22 ≤ 12 ∧ w.field 17 0 = 0 ∧ (s.core k).nearEnd (s.core k).next = false) ∧
    (∃ (k : Core) (w : Word) (s : State), s.dspAt k 5 w ∧ w.field 25 0 = 0 ∧ (s.core k).nearEnd (s.core k).next = false) ∧
    (∃ (x : DspCore), x.slots = 1) ∧
    (∃ (k : Core) (w : Word) (s : State), s.issues k = true ∧ (s.core k).fetch = w ∧ w.field 31 26 = 1 ∧ s.regsOk ∧ (s.core k).slots = 2 ∧ (s.core k).judge = none ∧ (s.core k).late = [] ∧ (s.core k).loads = [] ∧ (s.core k).entered = false) ∧
    (∃ (k : Core) (w : Word) (s : State), s.dspAt k 1 w ∧ w.field 25 22 ≤ 12 ∧ w.field 21 15 = 0 ∧ (s.core k).nearEnd (s.core k).next = true ∧ (s.core k).entered = false) ∧
    (∃ (k : Core) (w : Word) (n : Nat) (d : Nat) (s : State), s.dspAt k 4 w ∧ (w.field 25 25 = 0 ∨ w.field 24 13 = 0) ∧ n = (if w.field 25 25 = 1 then (s.core k).d (w.field 12 9) % 2 ^ 16 else w.field 24 9) ∧ d = (s.core k).hw 0x34 ∧ 128 ≤ (s.core k).hw 0x35 ∧ d < 4 ∧ 0 < n) ∧
    (∃ (k : Core) (w : Word) (s : State), s.dspAt k 4 w ∧ w.field 25 25 = 0 ∧ w.field 24 9 = 0 ∧ 128 ≤ (s.core k).hw 0x35 ∧ (s.core k).hw 0x34 < 4) ∧
    (∃ (k : Core) (w : Word) (s : State), s.dspAt k 4 w ∧ w.field 25 25 = 0 ∧ ((s.core k).hw 0x35 < 128 ∨ 4 ≤ (s.core k).hw 0x34) ∧ (s.core k).entered = false) ∧
    (∃ (k : Core) (d : Nat) (s : State), s.issues k = true ∧ (s.core k).judge = some d ∧ d < 4 ∧ 1 < (s.core k).hw (0x28 + d)) ∧
    (∃ (k : Core) (d : Nat) (s : State), s.issues k = true ∧ (s.core k).judge = some (d + 1) ∧ d < 3 ∧ (s.core k).hw (0x28 + d + 1) ≤ 1 ∧ 1 < (s.core k).hw (0x28 + d)) ∧
    (∃ (k : Core) (w : Word) (s : State), s.dspAt k 6 w ∧ w.field 25 8 = 0 ∧ (s.core k).entered = false) ∧
    (∃ (k : Core) (w : Word) (s : State), s.dspAt k 6 w ∧ w.field 25 8 = 0 ∧ (s.core k).entered = true ∧ (s.core k).hw 0x35 / 64 % 2 = 0) ∧
    (∃ (k : Core) (w : Word) (s : State), s.dspAt k 7 w ∧ w.field 25 0 = 0 ∧ (s.core k).retired = false) ∧
    (∃ (k : Core) (v : Nat) (s : State), s.issues k = true ∧ (s.core k).judge = none ∧ (s.core k).loads = [] ∧ (s.core k).late = [] ∧ (s.core k).slots = 0 ∧ (s.core k).vector = some v) ∧
    (∃ (x : DspCore) (v : Nat), x.vector = some v) ∧
    (∃ (k : Core) (w : Word) (s : State), s.dspAt k 63 w ∧ (s.core k).vector = none ∧ (s.core k).entered = false) :=
  ⟨⟨⟨.la, 1⟩, 0x4400123, ({ mk [(DSP_STATUS_STATE 0 1, 1), (DSP_CTRL_RUN 0 1, 1)] with dsp := [(1, { next := 64, prog := [(64, 0x4400123)], r := [(0x35, 0x81)] })] }), by decide +kernel⟩,
   ⟨⟨.la, 1⟩, 0x8400123, ({ mk [(DSP_STATUS_STATE 0 1, 1), (DSP_CTRL_RUN 0 1, 1)] with dsp := [(1, { next := 64, prog := [(64, 0x8400123)], r := [(0x35, 0x81)] })] }), by decide +kernel⟩,
   ⟨⟨.la, 1⟩, 0xc140000, ({ mk [(DSP_STATUS_STATE 0 1, 1), (DSP_CTRL_RUN 0 1, 1)] with dsp := [(1, { next := 64, prog := [(64, 0xc140000)], r := [(5, 0x18123)] })] }), by decide +kernel⟩,
   ⟨⟨.la, 1⟩, 0x14000000, ({ mk [(DSP_STATUS_STATE 0 1, 1), (DSP_CTRL_RUN 0 1, 1)] with dsp := [(1, { next := 64, prog := [(64, 0x14000000)], r := [] })] }), by decide +kernel⟩,
   ⟨{ slots := 1, target := some 9 }, by decide +kernel⟩,
   ⟨⟨.la, 1⟩, 0x4000123, ({ mk [(DSP_STATUS_STATE 0 1, 1), (DSP_CTRL_RUN 0 1, 1)] with dsp := [(1, { next := 64, prog := [(64, 0x4000123)], r := [], slots := 2 })] }), by decide +kernel⟩,
   ⟨⟨.la, 1⟩, 0x4000123, ({ mk [(DSP_STATUS_STATE 0 1, 1), (DSP_CTRL_RUN 0 1, 1)] with dsp := [(1, { next := 64, prog := [(64, 0x4000123)], r := [(0x30, 66), (0x34, 1)] })] }), by decide +kernel⟩,
   ⟨⟨.la, 1⟩, 0x10008002, 64, 0, ({ mk [(DSP_STATUS_STATE 0 1, 1), (DSP_CTRL_RUN 0 1, 1)] with dsp := [(1, { next := 64, prog := [(64, 0x10008002)], r := [] })] }), by decide +kernel⟩,
   ⟨⟨.la, 1⟩, 0x10000002, ({ mk [(DSP_STATUS_STATE 0 1, 1), (DSP_CTRL_RUN 0 1, 1)] with dsp := [(1, { next := 64, prog := [(64, 0x10000002)], r := [] })] }), by decide +kernel⟩,
   ⟨⟨.la, 1⟩, 0x10000002, ({ mk [(DSP_STATUS_STATE 0 1, 1), (DSP_CTRL_RUN 0 1, 1)] with dsp := [(1, { next := 64, prog := [(64, 0x10000002)], r := [(0x34, 4)] })] }), by decide +kernel⟩,
   ⟨⟨.la, 1⟩, 0, ({ mk [(DSP_STATUS_STATE 0 1, 1), (DSP_CTRL_RUN 0 1, 1)] with dsp := [(1, { next := 64, prog := [(64, 0)], r := [(0x28, 7), (0x2C, 60), (0x30, 63), (0x34, 1)], judge := some 0 })] }), by decide +kernel⟩,
   ⟨⟨.la, 1⟩, 0, ({ mk [(DSP_STATUS_STATE 0 1, 1), (DSP_CTRL_RUN 0 1, 1)] with dsp := [(1, { next := 64, prog := [(64, 0)], r := [(0x28, 7), (0x29, 1), (0x2C, 60), (0x30, 63), (0x31, 63), (0x34, 2)], judge := some 1 })] }), by decide +kernel⟩,
   ⟨⟨.la, 1⟩, 0x1800005a, ({ mk [(DSP_STATUS_STATE 0 1, 1), (DSP_CTRL_RUN 0 1, 1)] with dsp := [(1, { next := 64, prog := [(64, 0x1800005a)], r := [] })] }), by decide +kernel⟩,
   ⟨⟨.la, 1⟩, 0x1800005a, ({ mk [(DSP_STATUS_STATE 0 1, 1), (DSP_CTRL_RUN 0 1, 1)] with dsp := [(1, { next := 64, prog := [(64, 0x1800005a)], r := [], entered := true })] }), by decide +kernel⟩,
   ⟨⟨.la, 1⟩, 0x1c000000, ({ mk [(DSP_STATUS_STATE 0 1, 1), (DSP_CTRL_RUN 0 1, 1)] with dsp := [(1, { next := 64, prog := [(64, 0x1c000000)], r := [] })] }), by decide +kernel⟩,
   ⟨⟨.la, 1⟩, 13, ({ mk [(DSP_STATUS_STATE 0 1, 1), (DSP_CTRL_RUN 0 1, 1)] with dsp := [(1, { next := 64, prog := [(64, 0)], r := [(0x35, 0xC1)], ien := 8192, ipend := 8192 })] }), by decide +kernel⟩,
   ⟨{ ien := 0x30, ipend := 0x30, r := [(0x35, 0xC0)] }, 4, by decide +kernel⟩,
   ⟨⟨.la, 1⟩, 0xFC000000, ({ mk [(DSP_STATUS_STATE 0 1, 1), (DSP_CTRL_RUN 0 1, 1)] with dsp := [(1, { next := 64, prog := [(64, 0xFC000000)], r := [] })] }), by decide +kernel⟩⟩

/-- What the clauses of `DspCoresAndCaptures` assume can be met. -/
theorem witness_DspCoresAndCaptures :
    (∃ (k : Core) (s : State), s.Ok ∧ s.isSet (DSP_CTRL_RUN k.engine.n k.idx.val) = false ∧ (s.core k).retired = false ∧ (s.core ⟨k.engine, 0⟩).retired = false ∧ s.stopped.contains .carrier = false) ∧
    (∃ (k : Core) (s : State), s.isSet (DSP_CTRL_RUN k.engine.n k.idx.val) = true ∧ s.stopped.contains .carrier = false) ∧
    (∃ (k : Core) (s : State), (s.isSet (DSP_CTRL_RUN k.engine.n k.idx.val) = false) ∧ s.stopped.contains .carrier = false) ∧
    (∃ (k : Core) (z : Nat) (s : State), s.Ok ∧ z < 16) ∧
    (∃ (k : Core) (i : (Fin 2)) (s : State), s.retained k = false) ∧
    (∃ (k : Core) (s : State), s.issues k = true) ∧
    (∃ (k : Core) (s : State), s.watched k = true) ∧
    (∃ (k : Core) (s : State), (s.watched k = false ∨ (s.core k).half = false)) ∧
    (∃ (k : Core) (s : State), s.issues k = true) ∧
    (∃ (k : Core) (s : State), s.stopped.contains .carrier = false) ∧
    (∃ (k : Core) (c : Ch) (m : Nat) (q : Nat) (s : State), s.issues k = true ∧ ((k.idx = 1 ∧ (s.capBuf k.engine c).owner = 1) ∨ s.isSet ((PFE_CTRL_RX_EN k.engine.n).bit c.val) = false) ∧ m ≤ 2 ∧ q ≤ 1) ∧
    (∃ (k : Core) (c : Ch) (m : Nat) (q : Nat) (s : State), s.issues k = true ∧ s.isSet ((PFE_CTRL_RX_EN k.engine.n).bit c.val) = true ∧ ((s.capBuf k.engine c).owner = 0 ∨ (s.capBuf k.engine c).owner = k.idx.val + 1) ∧ m ≤ 2 ∧ q ≤ 1) ∧
    (∃ (e : Engine) (c : Ch) (m : Nat) (q : Nat) (s : State), s.Ok ∧ s.issues ⟨e, 0⟩ = true ∧ s.isSet ((PFE_CTRL_RX_EN e.n).bit c.val) = true ∧ (s.capBuf e c).owner = 2 ∧ m ≤ 2 ∧ q ≤ 1) ∧
    (∃ (k : Core) (c : Ch) (s : State), s.issues k = true) ∧
    (∃ (e : Engine) (c : Ch) (bs : List Byte) (ns : List Nat) (n : Nat) (u : Nat) (s : State), (s.capBuf e c).st = 2 ∧ (s.capBuf e c).owner = 2) ∧
    (∃ (e : Engine) (c : Ch) (bs : List Byte) (ns : List Nat) (n : Nat) (u : Nat) (s : State), (s.capBuf e c).st ≠ 2) ∧
    (∃ (k : Core) (s : State), s.Ok ∧ (s.core k).retired = false ∧ s.get (DSP_STATUS_STRIKES k.engine.n k.idx.val) < 2) ∧
    (∃ (k : Core) (s : State), s.Ok ∧ (s.core k).retired = false ∧ s.get (DSP_STATUS_STRIKES k.engine.n k.idx.val) = 2 ∧ k.idx = 1 ∧ (s.core ⟨k.engine, 0⟩).retired = false) ∧
    (∃ (e : Engine) (s : State), s.Ok ∧ (s.core ⟨e, 0⟩).retired = false ∧ s.get (DSP_STATUS_STRIKES e.n 0) = 2 ∧ (s.core ⟨e, 1⟩).retired = false) ∧
    (∃ (e : Engine) (s : State), s.Ok ∧ (s.core ⟨e, 1⟩).retired = false ∧ s.get (DSP_STATUS_STRIKES e.n 1) = 2 ∧ (s.core ⟨e, 0⟩).retired = true) ∧
    (∃ (k : Core) (s : State), s.Ok ∧ s.stopped.contains .carrier = false) ∧
    (∃ (k : Core) (a : Agent) (s : State), a ≠ .carrier ∧ s.stopped.contains a = false) :=
  ⟨⟨⟨.la, 1⟩, ({ State.reset with dsp := [(1, { next := 9 })] }), by decide +kernel⟩,
   ⟨⟨.la, 1⟩, ({ mk [(DSP_STATUS_STATE 0 1, 1), (DSP_CTRL_RUN 0 1, 1)] with dsp := [(1, { next := 64, prog := [(64, 0)], r := [] })] }), by decide +kernel⟩,
   ⟨⟨.la, 1⟩, State.reset, by decide +kernel⟩,
   ⟨⟨.la, 1⟩, 3, ({ mk [(DSP_STATUS_STATE 0 1, 1), (DSP_CTRL_RUN 0 1, 1)] with dsp := [(1, { next := 64, prog := [(64, 0)], r := [] })] }), by decide +kernel⟩,
   ⟨⟨.la, 1⟩, 1, ({ State.reset with dsp := [(1, { reload := [(1, 50)] })] }), by decide +kernel⟩,
   ⟨⟨.la, 1⟩, ({ mk [(DSP_STATUS_STATE 0 1, 1), (DSP_CTRL_RUN 0 1, 1)] with dsp := [(1, { next := 64, prog := [(64, 0)], r := [], half := true })] }), by decide +kernel⟩,
   ⟨⟨.la, 1⟩, ({ mk [(DSP_STATUS_STATE 0 1, 1), (DSP_CTRL_RUN 0 1, 1), (DSP_CTRL_WDOG 0 1, 5)] with dsp := [(1, { next := 64, prog := [(64, 0)], r := [] })] }), by decide +kernel⟩,
   ⟨⟨.la, 1⟩, ({ mk [(DSP_STATUS_STATE 0 1, 1), (DSP_CTRL_RUN 0 1, 1)] with dsp := [(1, { next := 64, prog := [(64, 0)], r := [] })] }), by decide +kernel⟩,
   ⟨⟨.la, 1⟩, ({ mk [(DSP_STATUS_STATE 0 1, 1), (DSP_CTRL_RUN 0 1, 1)] with dsp := [(1, { next := 64, prog := [(64, 0)], r := [] })] }), by decide +kernel⟩,
   ⟨⟨.la, 1⟩, State.reset, by decide +kernel⟩,
   ⟨⟨.la, 1⟩, 1, 2, 1, ({ mk [(DSP_STATUS_STATE 0 1, 1), (DSP_CTRL_RUN 0 1, 1), ((PFE_CTRL_RX_EN 0).bit 1, 0)] with dsp := [(1, { next := 64, prog := [(64, 0)], r := [] })] }), by decide +kernel⟩,
   ⟨⟨.la, 1⟩, 1, 2, 1, ({ mk [(DSP_STATUS_STATE 0 1, 1), (DSP_CTRL_RUN 0 1, 1), ((PFE_CTRL_RX_EN 0).bit 1, 1)] with dsp := [(1, { next := 64, prog := [(64, 0)], r := [] })] }), by decide +kernel⟩,
   ⟨.la, 1, 2, 0, ({ mk [(DSP_STATUS_STATE 0 0, 1), (DSP_CTRL_RUN 0 0, 1), ((PFE_CTRL_RX_EN 0).bit 1, 1)] with dsp := [(1, { next := 64, prog := [(64, 0)], r := [] })], capBufs := [(1, { owner := 2, st := 3 })] }), by decide +kernel⟩,
   ⟨⟨.la, 1⟩, 1, ({ mk [(DSP_STATUS_STATE 0 1, 1), (DSP_CTRL_RUN 0 1, 1)] with dsp := [(1, { next := 64, prog := [(64, 0)], r := [] })], capBufs := [(1, { owner := 2, st := 3 })] }), by decide +kernel⟩,
   ⟨.la, 1, [7, 8], [], 5, 5, ({ State.reset with capBufs := [(1, { owner := 2, st := 2 })] }), by decide +kernel⟩,
   ⟨.la, 1, [], [], 5, 5, State.reset, by decide +kernel⟩,
   ⟨⟨.la, 1⟩, ({ mk [(DSP_STATUS_STATE 0 1, 1), (DSP_CTRL_RUN 0 1, 1)] with dsp := [(1, { next := 64, prog := [(64, 0)], r := [] })] }), by decide +kernel⟩,
   ⟨⟨.la, 1⟩, ({ mk [(DSP_STATUS_STATE 0 1, 1), (DSP_CTRL_RUN 0 1, 1), (DSP_STATUS_STRIKES 0 1, 2)] with dsp := [(1, { next := 64, prog := [(64, 0)], r := [] })] }), by decide +kernel⟩,
   ⟨.la, ({ mk [(DSP_STATUS_STATE 0 0, 1), (DSP_STATUS_STRIKES 0 0, 2)] with now := 0 }), by decide +kernel⟩,
   ⟨.la, ({ mk [(DSP_STATUS_STATE 0 1, 3), (DSP_STATUS_STRIKES 0 1, 2)] with dsp := [(0, { retired := true })] }), by decide +kernel⟩,
   ⟨⟨.la, 1⟩, ({ mk [(DSP_STATUS_STATE 0 1, 2), (DSP_STATUS_STRIKES 0 1, 2)] with dsp := [(1, { retired := true })] }), by decide +kernel⟩,
   ⟨⟨.la, 1⟩, .tenant, State.reset, by decide +kernel⟩⟩

/-- What the clauses of `BootAndSettings` assume can be met. -/
theorem witness_BootAndSettings :
    (∃ (s : State), (s.kp.booted = true ∨ s.moduleHeld = true)) ∧
    (∃ (s : State) (u : State), s.kp.booted = false ∧ s.moduleHeld = false ∧ u = (loadOptions s).modKp (fun k => { k with booted := true }) ∧ u.options.imgB = none) ∧
    (∃ (o : OptBytes) (s : State), s.Ok ∧ s.readOptions 0 = some o ∧ o.flags.testBit 0 = false ∧ o.pfail.testBit 7 = false ∧ o.wiThr < 65536) ∧
    (∃ (s : State), s.Ok ∧ s.readOptions 0 = none ∧ s.readOptions 0x1000 = none) ∧
    (∃ (n : Nat) (i : Nat) (s : State), s.Ok ∧ s.optFlag 0 = false ∧ s.carrierHeld = false ∧ s.tenantHeld = false ∧ s.sections n = [] ∧ i < 4 ∧ s.get KP_BOOT_STAGE < 6) ∧
    (∃ (d : SetDomain) (s : State), s.Ok ∧ s.kp.storeValid = true ∧ s.get KP_BOOT_STAGE < 6) ∧
    (∃ (d : SetDomain) (s : State), s.Ok ∧ s.kp.storeValid = false ∧ s.bestArea = none) ∧
    (∃ (d : SetDomain) (r : SetRec) (s : State), s.Ok ∧ s.stopped.contains (setAgent d) = false ∧ s.record (setNum d) (s.setKey (setNum d)) = some r ∧ r.value.length ≤ 1024) ∧
    (∃ (d : SetDomain) (s : State), s.Ok ∧ s.stopped.contains (setAgent d) = false ∧ s.record (setNum d) (s.setKey (setNum d)) = none) ∧
    (∃ (d : SetDomain) (s : State), s.Ok ∧ s.stopped.contains (setAgent d) = false ∧ 1024 < s.setLen (setNum d)) ∧
    (∃ (d : SetDomain) (v : List Byte) (s : State), s.Ok ∧ s.stopped.contains (setAgent d) = false ∧ s.setLen (setNum d) ≤ 1024 ∧ v = s.setValue (setNum d)) ∧
    (∃ (d : SetDomain) (r : SetRec) (s : State), s.Ok ∧ s.stopped.contains (setAgent d) = false ∧ s.record (setNum d) (s.setKey (setNum d)) = some r ∧ s.journalFits 0 (s.recsWith (setNum d) (s.setKey (setNum d)) none) = true) ∧
    (∃ (d : SetDomain) (a : Agent) (s : State), a ≠ setAgent d ∧ s.stopped.contains a = false) ∧
    (∃ (j : JournalItem) (js : List JournalItem) (n : Nat) (z : Nat) (s : State), s.Ok ∧ s.kp.journal = j :: js ∧ j.begun = true ∧ s.kp.area = some 0 ∧ s.areaAt 0 = some (n, z) ∧ s.kp.jPos + recSize (j.value.getD []).length ≤ z) ∧
    (∃ (s : State), (s.kp.journal = [] ∨ s.areaAt 0 = none)) ∧
    (∃ (v : Nat) (s : State), s.Ok ∧ v < 65536 ∧ v < s.get KP_SUPPLY_WI_THR ∧ s.isSet KP_VIN_WI_ACTIVE = false) ∧
    (∃ (v : Nat) (s : State), s.Ok ∧ v < 65536 ∧ s.get KP_SUPPLY_WI_THR + 10 < v ∧ s.isSet KP_VIN_WI_ACTIVE = true) ∧
    (∃ (w : Word) (g : Nat) (i : Nat) (s : State), s.stopped.contains .keeper = false ∧ g = (if 420 ≤ w.field 31 16 then w.field 31 16 else s.get KP_SUPPLY_DG_THR) ∧ i = (if 420 ≤ w.field 15 0 ∧ w.field 15 0 ≤ 1600 then w.field 15 0 else s.get KP_SUPPLY_WI_THR)) ∧
    (∃ (a : Agent) (w : Word) (s : State), a ≠ .keeper ∧ s.stopped.contains a = false) :=
  ⟨⟨({ State.reset with kp := { booted := true } }), by decide +kernel⟩,
   ⟨State.reset, ((loadOptions State.reset).modKp (fun k => { k with booted := true })), by decide +kernel⟩,
   ⟨⟨0, 0, 25, 0x10000, none, some (0x3FE0000, 0x10000), 435, 420, 0, 3, 100⟩, ({ State.reset with kp := { flash := [(0, 84), (1, 89), (2, 79), (3, 66), (4, 1), (5, 0), (6, 0), (7, 25), (8, 0), (9, 1), (10, 0), (11, 0), (16, 3), (17, 254), (18, 0), (19, 0), (20, 0), (21, 1), (22, 0), (23, 0), (24, 1), (25, 179), (26, 1), (27, 164), (28, 0), (29, 3), (30, 0), (31, 100), (32, 0), (33, 0), (34, 0), (35, 0), (36, 0), (37, 0), (38, 0), (39, 0), (40, 0), (41, 0), (42, 0), (43, 0), (44, 0), (45, 0), (46, 0), (47, 0), (48, 0), (49, 0), (50, 0), (51, 0), (52, 0), (53, 0), (54, 0), (55, 0), (56, 0), (57, 0), (58, 0), (59, 0), (60, 64), (61, 140), (62, 15), (63, 91)] } }), by decide +kernel⟩,
   ⟨State.reset, by decide +kernel⟩,
   ⟨0x10000, 0, ({ mk [(KP_BOOT_RESTORE, 1)] with kp := { storeValid := true, opt := some { safeOptions with flags := 0 }, flash := [(0x10006, 0), (0x10007, 0)] } }), by decide +kernel⟩,
   ⟨.tenant, ({ mk [(KP_BOOT_T_STAGE, 4), (KP_BOOT_C_STAGE, 5), (KP_BOOT_STAGE, 4)] with kp := { storeValid := true } }), by decide +kernel⟩,
   ⟨.carrier, State.reset, by decide +kernel⟩,
   ⟨.carrier, ⟨0, 7, [1, 2]⟩, ({ mk [(⟨0x4000, 15, 0⟩, 7), (⟨0x4000, 31, 31⟩, 1)] with kp := { recs := [⟨0, 7, [1, 2]⟩] } }), by decide +kernel⟩,
   ⟨.carrier, State.reset, by decide +kernel⟩,
   ⟨.tenant, mk [(⟨0x5000, 15, 0⟩, 7), (⟨0x5000, 26, 16⟩, 1025)], by decide +kernel⟩,
   ⟨.tenant, [9], mk [(⟨0x5000, 15, 0⟩, 7), (⟨0x5000, 26, 16⟩, 1), (⟨0x5400, 31, 24⟩, 9)], by decide +kernel⟩,
   ⟨.carrier, ⟨0, 7, [1]⟩, ({ mk [(⟨0x4000, 15, 0⟩, 7)] with kp := { recs := [⟨0, 7, [1]⟩] } }), by decide +kernel⟩,
   ⟨.carrier, .host, State.reset, by decide +kernel⟩,
   ⟨⟨1, 7, some [9], true⟩, [], 0x100000, 0x10000, ({ State.reset with kp := { journal := [⟨1, 7, some [9], true⟩], area := some 0, jPos := 16, jSeq := 1, opt := some { safeOptions with jrnl := some (0x100000, 0x10000) } } }), by decide +kernel⟩,
   ⟨State.reset, by decide +kernel⟩,
   ⟨430, State.reset, by decide +kernel⟩,
   ⟨500, ({ mk [(KP_VIN_WI_ACTIVE, 1)] with kp := { journal := [⟨1, 7, some [9], false⟩] } }), by decide +kernel⟩,
   ⟨0x01F401F4, 500, 500, State.reset, by decide +kernel⟩,
   ⟨.host, 5, State.reset, by decide +kernel⟩⟩

/-- What the clauses of `GateAndHostlink` assume can be met. -/
theorem witness_GateAndHostlink :
    (∃ (m : MgBlock) (n : Nat) (z : Nat) (s : State), s.Ok ∧ s.stopped.contains (gateAgent m.val) = false ∧ n = s.get (MG_TX_KIND m.val) ∧ z = s.get (MG_TX_LEN m.val) ∧ kindSent m.val n = true ∧ kindLenOk m.val n z = true ∧ s.gateCount (txQueue m.val) < 16 ∧ n ≠ 0x16 ∧ n ≠ 0x2F) ∧
    (∃ (m : MgBlock) (n : Nat) (s : State), s.stopped.contains (gateAgent m.val) = false ∧ n = s.get (MG_TX_KIND m.val) ∧ kindSent m.val n = false) ∧
    (∃ (m : MgBlock) (n : Nat) (s : State), s.stopped.contains (gateAgent m.val) = false ∧ n = s.get (MG_TX_KIND m.val) ∧ kindSent m.val n = true ∧ kindLenOk m.val n (s.get (MG_TX_LEN m.val)) = false) ∧
    (∃ (m : MgBlock) (n : Nat) (s : State), s.stopped.contains (gateAgent m.val) = false ∧ n = s.get (MG_TX_KIND m.val) ∧ kindSent m.val n = true ∧ kindLenOk m.val n (s.get (MG_TX_LEN m.val)) = true ∧ 16 ≤ s.gateCount (txQueue m.val)) ∧
    (∃ (m : MgBlock) (g : GateMsg) (gs : List GateMsg) (s : State), s.gateQ (rxQueue m.val) = g :: gs ∧ s.stopped.contains (gateAgent m.val) = false) ∧
    (∃ (a : Agent) (m : MgBlock) (s : State), a ≠ gateAgent m.val ∧ s.stopped.contains a = false) ∧
    (∃ (bs : List Byte) (s : State), s.Ok ∧ 8 ≤ bs.length ∧ bs.length ≤ 64 ∧ 1 ≤ (bs.getD 0 0).toNat ∧ (bs.getD 0 0).toNat ≤ 5 ∧ s.gateCount 3 < 16) ∧
    (∃ (bs : List Byte) (s : State), 8 ≤ bs.length ∧ bs.length ≤ 64 ∧ 1 ≤ (bs.getD 0 0).toNat ∧ (bs.getD 0 0).toNat ≤ 5 ∧ 16 ≤ s.gateCount 3) ∧
    (∃ (g : GateMsg) (gs : List GateMsg) (s : State), s.gateQ 2 = g :: gs ∧ s.output 3 = false) ∧
    (∃ (s : State), s.gateQ 2 = []) ∧
    (∃ (w : Word) (s : State), (s.optFlag 3 = false ∨ w ≠ 0x52535421)) ∧
    (∃ (s : State), s.optFlag 3 = true ∧ s.kp.asserted.testBit 7 = false ∧ s.Ok ∧ s.moduleHeld = false) ∧
    (∃ (n : Nat) (i : Nat) (bs : List Byte) (s : State), s.get KP_BOOT_STAGE = 7) ∧
    (∃ (n : Nat) (i : Nat) (bs : List Byte) (s : State), s.get KP_BOOT_STAGE ≠ 7) ∧
    (∃ (s : State), s.get KP_BOOT_STAGE = 7) ∧
    (∃ (n : Nat) (s : State), [1, 2, 3, 4, 0x10, 0x11, 0x12, 0x13].contains n = false) ∧
    (∃ (n : Nat) (i : Nat) (y : Byte) (s : State), s.stopped.contains .host = false ∧ 1 ≤ n ∧ n ≤ 14) ∧
    (∃ (i : Nat) (ws : List Word) (y : Byte) (s : State), s.stopped.contains .host = false ∧ (s.hostMay = false ∨ ws = [] ∨ 14 < ws.length)) ∧
    (∃ (i : Nat) (ws : List Word) (y : Byte) (s : State), s.stopped.contains .host = false ∧ s.hostMay = true ∧ 0 < ws.length ∧ ws.length ≤ 14) :=
  ⟨⟨0, 5, 8, mk [(MG_TX_KIND 0, 5), (MG_TX_LEN 0, 8)], by decide +kernel⟩,
   ⟨0, 1, mk [(MG_TX_KIND 0, 1), (MG_TX_LEN 0, 4)], by decide +kernel⟩,
   ⟨0, 5, mk [(MG_TX_KIND 0, 5), (MG_TX_LEN 0, 4)], by decide +kernel⟩,
   ⟨0, 5, ({ mk [(MG_TX_KIND 0, 5), (MG_TX_LEN 0, 8)] with kp := { gate := [(1, List.replicate 16 (⟨0x05, [1, 2, 3, 4, 5, 6, 7, 8]⟩ : GateMsg))] } }), by decide +kernel⟩,
   ⟨1, (⟨0x05, [1, 2, 3, 4, 5, 6, 7, 8]⟩ : GateMsg), [], ({ State.reset with kp := { gate := [(1, [(⟨0x05, [1, 2, 3, 4, 5, 6, 7, 8]⟩ : GateMsg)])] } }), by decide +kernel⟩,
   ⟨.keeper, 1, State.reset, by decide +kernel⟩,
   ⟨(5 :: List.replicate 15 0), State.reset, by decide +kernel⟩,
   ⟨(5 :: List.replicate 15 0), ({ State.reset with kp := { gate := [(3, List.replicate 16 (⟨0x05, [1, 2, 3, 4, 5, 6, 7, 8]⟩ : GateMsg))] } }), by decide +kernel⟩,
   ⟨(⟨0x05, [1, 2, 3, 4, 5, 6, 7, 8]⟩ : GateMsg), [], ({ State.reset with kp := { gate := [(2, [(⟨0x05, [1, 2, 3, 4, 5, 6, 7, 8]⟩ : GateMsg)])] } }), by decide +kernel⟩,
   ⟨State.reset, by decide +kernel⟩,
   ⟨0x52535421, State.reset, by decide +kernel⟩,
   ⟨({ State.reset with kp := { opt := some { safeOptions with flags := 8 } } }), by decide +kernel⟩,
   ⟨5, 5, [7, 8], mk [(KP_BOOT_STAGE, 7)], by decide +kernel⟩,
   ⟨5, 5, [7, 8], State.reset, by decide +kernel⟩,
   ⟨mk [(KP_BOOT_STAGE, 7)], by decide +kernel⟩,
   ⟨9, State.reset, by decide +kernel⟩,
   ⟨1, 0x00800000, 7, ({ State.reset with kp := { gate := [(3, [⟨1, [1, 7, 1, 0, 0, 0x80, 0, 0]⟩])] } }), by decide +kernel⟩,
   ⟨0x00800000, [5], 7, State.reset, by decide +kernel⟩,
   ⟨0x00800000, [5], 7, ({ State.reset with kp := { opt := some { safeOptions with flags := 16 } } }), by decide +kernel⟩⟩

/-- What the clauses of `EventsAndPermits` assume can be met. -/
theorem witness_EventsAndPermits :
    (∃ (n : Nat) (g : Nat) (r : Source) (s : State), s.Ok ∧ g = r.val / 32 ∧ n = s.tallyOf r.val ∧ n ≠ 0 ∧ s.mgmtStopped = false ∧ sget (fun _ => 0) s.kp.counts r.val + n < 2 ^ 48) ∧
    (∃ (r : Source) (n : Nat) (s : State), s.Ok ∧ n = s.tallyOf r.val ∧ n ≠ 0 ∧ n < 65536 ∧ s.mgmtStopped = false ∧ sget (fun _ => 0) s.kp.counts r.val < 2 ^ 48 ∧ 2 ^ 48 ≤ sget (fun _ => 0) s.kp.counts r.val + n) ∧
    (∃ (r : Source) (s : State), (s.tallyOf r.val = 0 ∨ s.mgmtStopped = true)) ∧
    (∃ (r : Source) (d : Nat) (s : State), s.output 3 = false ∧ (arrive r.val d s).output 3 = true ∧ (s.gateQ 2).all (fun m => decide (m.kind ≠ 3)) = true ∧ s.gateCount 2 < 16) ∧
    (∃ (a : Agent) (g : Nat) (w : Word) (i : Fin 32) (s : State), s.stopped.contains a = false ∧ s.served (swsetAgents g) a = true) ∧
    (∃ (a : Agent) (g : Nat) (w : Word) (s : State), s.stopped.contains a = false ∧ s.served (swsetAgents g) a = false) ∧
    (∃ (g : Nat) (a : Agent) (s : State), 4 ≤ g ∧ g < 12) ∧
    (∃ (w : Word) (s : State), s.stopped.contains .carrier = false) ∧
    (∃ (w : Word) (lo : Nat) (v : Nat) (s : State), s.Ok ∧ s.stopped.contains .carrier = false ∧ lo = ((s.heldWord .carrier 0x00605000).map (fun x => x.toNat)).getD (s.kp.permit % 2 ^ 32) ∧ v = (lo + w.toNat % 2 ^ 16 * 2 ^ 32) &&& carrierMask) ∧
    (∃ (a : Agent) (h : Bool) (w : Word) (s : State), a ≠ .carrier ∧ s.stopped.contains a = false) :=
  ⟨⟨7, 3, 100, ({ State.reset with tally := [(100, 7)] }), by decide +kernel⟩,
   ⟨1000, 9, ({ State.reset with tally := [(1000, 9)], kp := { counts := [(1000, 281474976710650)] } }), by decide +kernel⟩,
   ⟨1000, State.reset, by decide +kernel⟩,
   ⟨100, 1, ({ State.reset with kp := { enab := [(195, 16)] } }), by decide +kernel⟩,
   ⟨.tenant, 9, 0x50, 4, State.reset, by decide +kernel⟩,
   ⟨.carrier, 9, 1, State.reset, by decide +kernel⟩,
   ⟨5, .carrier, State.reset, by decide +kernel⟩,
   ⟨0x70, State.reset, by decide +kernel⟩,
   ⟨1, 0x71, 4294967408, ({ State.reset with aside := [⟨.carrier, 0x00605000, 0x71⟩], snaps := [⟨.tenant, 0x600400, [5]⟩] }), by decide +kernel⟩,
   ⟨.tenant, true, 1, State.reset, by decide +kernel⟩⟩

/-- What the clauses of `RestEntryAndExit` assume can be met. -/
theorem witness_RestEntryAndExit :
    (∃ (a : Agent) (o : Option WakeEvent) (u : State) (s : State), s.stopped.contains a = false ∧ a ≠ .host ∧ u = restRequest o s) ∧
    (∃ (o : Option WakeEvent) (s : State), s.Ok ∧ s.get KP_PWR_STATUS_PHASE ≠ 0) ∧
    (∃ (o : Option WakeEvent) (s : State), s.Ok ∧ s.get KP_PWR_STATUS_PHASE = 0 ∧ (s.isSet KP_PWR_CTRL_C_ALLOW = false ∨ s.isSet KP_PWR_CTRL_T_ALLOW = false)) ∧
    (∃ (o : Option WakeEvent) (w : WakeEvent) (s : State), s.Ok ∧ s.get KP_PWR_STATUS_PHASE = 0 ∧ s.isSet KP_PWR_CTRL_C_ALLOW = true ∧ s.isSet KP_PWR_CTRL_T_ALLOW = true ∧ o = some w ∧ s.wakes w = true) ∧
    (∃ (a : Agent) (s : State), s.stopped.contains a = false ∧ a ≠ .host ∧ s.Ok ∧ s.get KP_PWR_STATUS_PHASE = 0 ∧ s.isSet KP_PWR_CTRL_C_ALLOW = true ∧ s.isSet KP_PWR_CTRL_T_ALLOW = true) ∧
    (∃ (s : State), s.get KP_PWR_STATUS_PHASE ≠ 1) ∧
    (∃ (n : Nat) (s : State), n = s.kp.restStep ∧ s.get KP_PWR_STATUS_PHASE = 1 ∧ s.Ok ∧ n < 32 ∧ s.restAnswer n = .refuse) ∧
    (∃ (n : Nat) (s : State), n = s.kp.restStep ∧ s.get KP_PWR_STATUS_PHASE = 1 ∧ s.restAnswer n = .delay) ∧
    (∃ (n : Nat) (s : State), n = s.kp.restStep ∧ s.get KP_PWR_STATUS_PHASE = 1 ∧ s.Ok ∧ n < 20 ∧ s.restAnswer n = .agree) ∧
    (∃ (s : State), s.kp.restStep = 20 ∧ s.get KP_PWR_STATUS_PHASE = 1 ∧ s.Ok) ∧
    (∃ (n : Nat) (s : State), (n = 18 ∨ n = 19)) ∧
    (∃ (s : State), s.get KP_PWR_STATUS_PHASE = 1 ∧ s.restAnswer s.kp.restStep = .delay) ∧
    (∃ (s : State), (s.get KP_PWR_STATUS_PHASE ≠ 1 ∨ s.restAnswer s.kp.restStep ≠ .delay)) ∧
    (∃ (w : WakeEvent) (s : State), (∀ e c, w ≠ .line e c) ∧ (∀ l, w ≠ .lane l)) ∧
    (∃ (w : WakeEvent) (s : State), s.wakes w = false) ∧
    (∃ (w : WakeEvent) (s : State), s.Ok ∧ s.kp.restStep < 32 ∧ s.wakes w = true ∧ s.get KP_PWR_STATUS_PHASE = 1) ∧
    (∃ (w : WakeEvent) (s : State), s.Ok ∧ s.wakes w = true ∧ s.get KP_PWR_STATUS_PHASE = 2) ∧
    (∃ (w : WakeEvent) (s : State), s.Ok ∧ s.wakes w = true ∧ s.get KP_PWR_STATUS_PHASE = 0) ∧
    (∃ (s : State), s.get KP_PWR_STATUS_PHASE ≠ 3) ∧
    (∃ (s : State), s.Ok ∧ s.get KP_PWR_STATUS_PHASE = 3) ∧
    (∃ (l : Lane) (s : State), s.Ok ∧ s.get KP_PWR_STATUS_PHASE = 3 ∧ s.kp.wake = none ∧ s.kp.stopSteps.contains (2 + l.val / 16) = true ∧ s.isSet (CL_CFG_EN l.val) = true ∧ 2 ≤ s.stage l.val ∧ s.stage l.val ≤ 6) ∧
    (∃ (a : Agent) (s : State), s.stopped.contains a = false ∧ a ≠ .host) ∧
    (∃ (a : Agent) (o : Option WakeEvent) (s : State), a = .host ∧ s.stopped.contains a = false) ∧
    (∃ (n : Nat) (s : State), s.earliestArmed = some n) ∧
    (∃ (s : State), s.earliestArmed = none) :=
  ⟨⟨.tenant, some .exit, restRequest (some .exit) State.reset, State.reset, by decide +kernel⟩,
   ⟨none, mk [(KP_PWR_STATUS_PHASE, 1)], by decide +kernel⟩,
   ⟨none, mk [(KP_PWR_CTRL_T_ALLOW, 1)], by decide +kernel⟩,
   ⟨some .exit, .exit, mk [(KP_PWR_CTRL_C_ALLOW, 1), (KP_PWR_CTRL_T_ALLOW, 1)], by decide +kernel⟩,
   ⟨.carrier, mk [(KP_PWR_CTRL_C_ALLOW, 1), (KP_PWR_CTRL_T_ALLOW, 1)], by decide +kernel⟩,
   ⟨State.reset, by decide +kernel⟩,
   ⟨18, ({ mk [(KP_PWR_STATUS_PHASE, 1)] with kp := { restStep := 18 } }), by decide +kernel⟩,
   ⟨10, ({ mk [(KP_PWR_STATUS_PHASE, 1)] with kp := { restStep := 10 }, ce := { engines := [(0, { go := some 0 })] } }), by decide +kernel⟩,
   ⟨3, ({ mk [(KP_PWR_STATUS_PHASE, 1)] with kp := { restStep := 3, stopSteps := [2, 1] } }), by decide +kernel⟩,
   ⟨({ mk [(KP_PWR_STATUS_PHASE, 1)] with kp := { restStep := 20, stopSteps := [19, 18] } }), by decide +kernel⟩,
   ⟨18, ({ mk [(KP_PWR_STATUS_PHASE, 1)] with kp := { restStep := 18 } }), by decide +kernel⟩,
   ⟨({ mk [(KP_PWR_STATUS_PHASE, 1)] with kp := { restStep := 10 }, ce := { engines := [(0, { go := some 0 })] } }), by decide +kernel⟩,
   ⟨State.reset, by decide +kernel⟩,
   ⟨.therm, State.reset, nofun, nofun⟩,
   ⟨.lane 3, mk [(KP_PWR_STATUS_PHASE, 1), (KP_WAKE_EN_LANES, 0)], by decide +kernel⟩,
   ⟨.therm, ({ mk [(KP_PWR_STATUS_PHASE, 1), (KP_PWR_CTRL_REQ, 1)] with kp := { restStep := 7 } }), by decide +kernel⟩,
   ⟨.therm, ({ mk [(KP_PWR_STATUS_PHASE, 2)] with kp := { stopSteps := [20] } }), by decide +kernel⟩,
   ⟨.therm, State.reset, by decide +kernel⟩,
   ⟨State.reset, by decide +kernel⟩,
   ⟨({ mk [(KP_PWR_STATUS_PHASE, 3), (KP_PWR_STATUS_STEP, 3)] with kp := { stopSteps := [20, 19, 18], wake := some .therm } }), by decide +kernel⟩,
   ⟨20, ({ mk [(KP_PWR_STATUS_PHASE, 3), (CL_CFG_EN 20, 1), (CL_STATUS_STAGE 20, 6)] with kp := { stopSteps := [3, 2, 1] } }), by decide +kernel⟩,
   ⟨.keeper, State.reset, by decide +kernel⟩,
   ⟨.host, none, State.reset, by decide +kernel⟩,
   ⟨8589934592000000000, mk [(⟨actCtrl 3, 31, 31⟩, 1), (⟨actTime 3, 31, 0⟩, 2)], by decide +kernel⟩,
   ⟨State.reset, by decide +kernel⟩⟩

/-- What the clauses of `GatingPowerFailAndHangs` assume can be met. -/
theorem witness_GatingPowerFailAndHangs :
    (∃ (a : Agent) (h : Bool) (w : Word) (d : PowerDom) (s : State), s.Ok ∧ s.stopped.contains a = false ∧ a ≠ .host ∧ h = decide (32 ≤ d.val)) ∧
    (∃ (d : PowerDom), (11 ≤ d.val ∧ d.val ≤ 19)) ∧
    (∃ (d : PowerDom) (s : State), s.Ok ∧ s.gated d.val = true ∧ s.get KP_PWR_STATUS_PHASE = 0) ∧
    (∃ (d : PowerDom) (s : State), s.gated d.val = false) ∧
    (∃ (v : Nat) (s : State), s.Ok ∧ v < 65536) ∧
    (∃ (p : Bool) (v : Nat) (s : State), s.Ok ∧ v < 65536 ∧ (s.kp.armed = false ∨ ¬ (p = true ∧ s.pfailEnabled = true ∨ v < s.get KP_SUPPLY_DG_THR))) ∧
    (∃ (p : Bool) (v : Nat) (l : Lane) (e : Engine) (c : Ch) (s : State), s.Ok ∧ v < 65536 ∧ s.kp.armed = true ∧ (p = true ∧ s.pfailEnabled = true ∨ v < s.get KP_SUPPLY_DG_THR) ∧ s.kp.shed = false ∧ s.get KP_PWR_STATUS_PHASE = 0 ∧ (e ≠ s.active ∨ c ≠ 0)) ∧
    (∃ (p : Bool) (v : Nat) (s : State), v < 65536 ∧ s.kp.armed = true ∧ (p = true ∧ s.pfailEnabled = true ∨ v < s.get KP_SUPPLY_DG_THR) ∧ s.kp.shed = true ∧ s.stopped = s.heldAgents ∧ s.stopped.contains .carrier = false ∧ s.gateCount 1 < 16 ∧ s.Ok) ∧
    (∃ (v : Nat) (s : State), s.isSet KP_VIN_DG_ACTIVE = true ∧ s.get KP_SUPPLY_WI_THR < v) ∧
    (∃ (v : Nat) (s : State), s.Ok ∧ v < 65536 ∧ (s.isSet KP_VIN_DG_ACTIVE = false ∨ v ≤ s.get KP_SUPPLY_WI_THR)) ∧
    (∃ (k : Fin 10) (s : State), s.Ok ∧ s.clockGated k.val = false) ∧
    (∃ (k : Fin 10) (s : State), s.clockGated k.val = true) ∧
    (∃ (a : Agent) (s : State), s.stopped.contains a = false) ∧
    (∃ (a : Agent) (s : State), s.stopped.contains a = true) ∧
    (∃ (n : Fin 16) (b : Bool) (z : Nat) (s : State), z < 40) ∧
    (∃ (n : Fin 16) (b : Bool) (z : Nat) (s : State), 40 ≤ z ∧ z < 80) ∧
    (∃ (n : Fin 16) (b : Bool) (z : Nat) (s : State), 80 ≤ z ∧ s.isSet (gpioF n.val 31 31) = b) ∧
    (∃ (n : Fin 16) (b : Bool) (z : Nat) (s : State), 80 ≤ z ∧ s.Ok ∧ s.isSet (gpioF n.val 31 31) = (!b) ∧ (s.gpioMode n.val = 0 ∧ (if b = true then s.get (gpioF n.val 13 12) % 2 = 1 else s.get (gpioF n.val 13 12) / 2 = 1)) ∧ s.tallyOf (64 + n.val) < 65535) ∧
    (∃ (n : Fin 16) (b : Bool) (z : Nat) (s : State), 80 ≤ z ∧ s.Ok ∧ s.isSet (gpioF n.val 31 31) = (!b) ∧ ¬ (s.gpioMode n.val = 0 ∧ (if b = true then s.get (gpioF n.val 13 12) % 2 = 1 else s.get (gpioF n.val 13 12) / 2 = 1))) ∧
    (∃ (i : Int) (s : State), 105 ≤ i ∧ s.kp.hot = false ∧ s.tallyOf 80 < 65535 ∧ s.Ok) ∧
    (∃ (i : Int) (s : State), (105 ≤ i ∧ s.kp.hot = true ∨ 100 ≤ i ∧ i < 105)) ∧
    (∃ (i : Int) (s : State), i < 100) ∧
    (∃ (a : Agent) (h : Bool) (w : Word) (s : State), a = .host ∧ s.stopped.contains a = false) :=
  ⟨⟨.tenant, false, 0x1800, 11, State.reset, by decide +kernel⟩,
   ⟨12, by decide +kernel⟩,
   ⟨12, mk [(⟨KP_PWR_GATE0, 12, 12⟩, 1)], by decide +kernel⟩,
   ⟨3, ({ mk [(KP_PWR_STATUS_PHASE, 2)] with kp := { stopSteps := [20] } }), by decide +kernel⟩,
   ⟨500, State.reset, by decide +kernel⟩,
   ⟨true, 410, State.reset, by decide +kernel⟩,
   ⟨false, 410, 20, .lb, 1, ({ mk [(CL_STATUS_STAGE 20, 6), (PFE_CTRL_COOL_EN 0, 1)] with kp := { armed := true } }), by decide +kernel⟩,
   ⟨false, 410, ({ State.reset with stopped := [.tenant, .host], kp := { armed := true, shed := true } }), by decide +kernel⟩,
   ⟨440, mk [(KP_VIN_DG_ACTIVE, 1)], by decide +kernel⟩,
   ⟨440, State.reset, by decide +kernel⟩,
   ⟨6, State.reset, by decide +kernel⟩,
   ⟨4, mk [(⟨KP_PWR_GATE0, 25, 25⟩, 1)], by decide +kernel⟩,
   ⟨.tenant, State.reset, by decide +kernel⟩,
   ⟨.tenant, ({ State.reset with stopped := [.tenant] }), by decide +kernel⟩,
   ⟨3, true, 39, State.reset, by decide +kernel⟩,
   ⟨3, true, 79, State.reset, by decide +kernel⟩,
   ⟨3, false, 80, State.reset, by decide +kernel⟩,
   ⟨3, true, 80, mk [(gpioF 3 13 12, 1)], by decide +kernel⟩,
   ⟨3, true, 80, State.reset, by decide +kernel⟩,
   ⟨105, State.reset, by decide +kernel⟩,
   ⟨100, State.reset, by decide +kernel⟩,
   ⟨99, ({ State.reset with kp := { hot := true } }), by decide +kernel⟩,
   ⟨.host, true, 5, State.reset, by decide +kernel⟩⟩

/-- What the clauses of `ResetSources` assume can be met. -/
theorem witness_ResetSources :
    (∃ (n : Fin 20) (s : State), s.Ok ∧ s.kp.asserted.testBit n.val = false) ∧
    (∃ (n : Fin 20) (s : State), s.kp.asserted.testBit n.val = true) ∧
    (∃ (n : Fin 20) (m : Fin 20) (s : State), s.Ok ∧ s.kp.asserted.testBit n.val = false ∧ m ≠ n ∧ sourceReach n.val ≠ .full) ∧
    (∃ (n : Nat) (s : State), (s.kp.driving = true ∨ n < 2000)) ∧
    (∃ (n : Nat) (s : State), s.kp.driving = false ∧ 10000 ≤ n) ∧
    (∃ (n : Nat) (s : State), s.kp.driving = false ∧ 2000 ≤ n ∧ n < 10000) ∧
    (∃ (s : State), s.kp.driving = true ∧ (∀ n ∈ [0, 2, 3, 6, 8, 9, 10, 18], s.kp.asserted.testBit n = false) ∧ s.Ok) ∧
    (∃ (s : State), (s.kp.driving = false ∨ ¬ (∀ n ∈ [0, 2, 3, 6, 8, 9, 10, 18], s.kp.asserted.testBit n = false))) ∧
    (∃ (x : Fin 3) (a : Agent) (s : State), s.Ok ∧ s.stopped.contains a = false ∧ a = [Agent.keeper, .carrier, .tenant].getD x.val .keeper) ∧
    (∃ (s : State), s.stopped.contains .keeper = false) ∧
    (∃ (s : State), s.stopped.contains .tenant = false) ∧
    (∃ (e : Engine) (s : State), s.stopped.contains .carrier = false) ∧
    (∃ (a : Agent) (e : Engine) (m : BitVec 4) (x : Fin 3) (s : State), a = .host ∧ s.stopped.contains a = false) ∧
    (∃ (m : BitVec 4) (i : Fin 4) (s : State), s.Ok ∧ s.stopped.contains .keeper = false ∧ (s.get KP_RST_CTRL_HOLD).testBit i.val ≠ m.toNat.testBit i.val) ∧
    (∃ (a : Agent) (n : Nat) (i : Nat) (s : State), s.Ok ∧ s.stopped.contains a = false ∧ s.served [.tenant, .host] a = true ∧ n < 2 ∧ i < 128 ∧ s.kp.asserted.testBit 15 = false) ∧
    (∃ (i : Nat) (s : State), s.stopped.contains .host = false ∧ s.hostMay = true ∧ s.Ok) ∧
    (∃ (a : Agent) (n : Nat) (i : Nat) (s : State), s.stopped.contains a = false ∧ s.served [.tenant, .host] a = false) ∧
    (∃ (r : Fin 20) (s : State), s.Ok ∧ s.kp.asserted.testBit r.val = true ∧ (r.val = 1 → s.kp.driving = false) ∧ s.holdsSource r.val = false) ∧
    (∃ (r : Fin 20) (e : Engine) (c : Ch) (s : State), s.Ok ∧ r.val = 13 + e.n ∧ s.kp.asserted = 2 ^ r.val ∧ s.kp.driving = false ∧ s.holdsSource r.val = false) ∧
    (∃ (r : Fin 20) (s : State), (s.kp.asserted.testBit r.val = false ∨ (r.val = 1 ∧ s.kp.driving = true) ∨ s.holdsSource r.val = true)) :=
  ⟨⟨12, State.reset, by decide +kernel⟩,
   ⟨12, ({ State.reset with kp := { asserted := 4096 } }), by decide +kernel⟩,
   ⟨12, 5, ({ mk [(⟨KP_RST_CAUSE, 5, 5⟩, 1)] with kp := { asserted := 32 } }), by decide +kernel⟩,
   ⟨1999, State.reset, by decide +kernel⟩,
   ⟨10000, State.reset, by decide +kernel⟩,
   ⟨2000, State.reset, by decide +kernel⟩,
   ⟨({ State.reset with kp := { driving := true, asserted := 2 } }), by decide +kernel⟩,
   ⟨({ State.reset with kp := { driving := true, asserted := 1024 } }), by decide +kernel⟩,
   ⟨1, .carrier, ({ State.reset with now := 7 }), by decide +kernel⟩,
   ⟨State.reset, by decide +kernel⟩,
   ⟨State.reset, by decide +kernel⟩,
   ⟨.la, State.reset, by decide +kernel⟩,
   ⟨.host, .la, 5, 1, State.reset, by decide +kernel⟩,
   ⟨2, 1, State.reset, by decide +kernel⟩,
   ⟨.tenant, 0, 20, State.reset, by decide +kernel⟩,
   ⟨2, ({ State.reset with kp := { opt := some { safeOptions with flags := 16 } } }), by decide +kernel⟩,
   ⟨.carrier, 2, 2, State.reset, by decide +kernel⟩,
   ⟨15, ({ mk [(KP_RST_BLOCK_GO, 1)] with kp := { asserted := 0x8020 } }), by decide +kernel⟩,
   ⟨14, .lb, 1, ({ mk [(PFE_STATUS_LATCH 1, 3), (PFE_STATUS_INHIBIT 1, 0), (TC_ACT_CTRL_ACT_EN 1, 1)] with kp := { asserted := 0x4000 } }), by decide +kernel⟩,
   ⟨12, ({ mk [(KP_RST_CTRL_HOLD, 2)] with kp := { asserted := 4096 } }), by decide +kernel⟩⟩

/-- What the clauses of `ResetReaches` assume can be met. -/
theorem witness_ResetReaches :
    (∃ (s : State), s.Ok ∧ s.kp.asserted = 0 ∧ s.kp.driving = false ∧ s.stopped.contains .keeper = false) ∧
    (∃ (s : State), s.Ok ∧ s.kp.asserted = 0 ∧ s.kp.driving = false ∧ s.stopped.contains .keeper = false) ∧
    (∃ (e : Engine) (c : Ch) (s : State), s.Ok ∧ s.kp.asserted = 0 ∧ s.kp.driving = false ∧ s.stopped.contains .keeper = false) ∧
    (∃ (l : Lane) (s : State), s.Ok ∧ s.kp.asserted = 0 ∧ s.kp.driving = false ∧ s.stopped.contains .keeper = false) ∧
    (∃ (e : Engine) (c : Ch) (s : State), s.Ok ∧ s.kp.asserted = 0 ∧ s.kp.driving = false ∧ s.stopped.contains .carrier = false ∧ s.active ≠ e) ∧
    (∃ (a : Agent) (l : Lane) (s : State), s.Ok ∧ s.kp.asserted = 0 ∧ s.kp.driving = false ∧ s.stopped.contains a = false ∧ s.served [.tenant, .host] a = true) ∧
    (∃ (a : Agent) (f : Framer) (s : State), s.Ok ∧ s.kp.asserted = 0 ∧ s.kp.driving = false ∧ s.stopped.contains a = false ∧ s.served [.tenant, .host] a = true ∧ (s.cf f.val).held = []) ∧
    (∃ (m : GateMsg) (s : State), s.Ok ∧ s.kp.asserted = 0 ∧ s.kp.driving = false ∧ s.stopped.contains .tenant = false ∧ (s.gateQ 3).find? (fun x => x.kind = 1 || x.kind = 2) = some m) ∧
    (∃ (m : GateMsg) (s : State), s.Ok ∧ s.kp.asserted = 0 ∧ s.kp.driving = false ∧ s.stopped.contains .host = false ∧ (s.gateQ 3).find? (fun x => x.kind = 1 || x.kind = 2) = some m) :=
  ⟨⟨mk [(CL_STATUS_STAGE 3, 6), (BM_BAG_TILES_TILES 1, 5), (⟨PX_CTRL, 1, 0⟩, 2)], by decide +kernel⟩,
   ⟨mk [(CL_STATUS_STAGE 3, 6), (KP_WAKE_EN_LE, 0)], by decide +kernel⟩,
   ⟨.la, 1, ({ mk [(TC_ACT_CTRL_ACT_EN 0, 1), (PX_STATUS_ACTIVE, 1), (CL_STATUS_STAGE 3, 6), (PFE_STATUS_ROGUE_OFF 0, 5)] with kp := { permit := 16 } }), by decide +kernel⟩,
   ⟨3, mk [(TC_ACT_CTRL_ACT_EN 0, 1), (PX_STATUS_ACTIVE, 1), (CL_STATUS_STAGE 3, 6), (CX_BANK_RETIRED 2, 1)], by decide +kernel⟩,
   ⟨.la, 1, mk [(TC_ACT_CTRL_ACT_EN 0, 1), (PX_STATUS_ACTIVE, 1), (PFE_STATUS_ROGUE_OFF 0, 5)], by decide +kernel⟩,
   ⟨.tenant, 20, mk [(CL_STATUS_STAGE 20, 6), (CL_STATUS_STRIKES 20, 2), (CL_CFG_EN 20, 1)], by decide +kernel⟩,
   ⟨.tenant, 4, mk [(CF_CFG_EN 4, 1)], by decide +kernel⟩,
   ⟨(⟨1, [1, 7, 1, 0, 0, 0x80, 0, 0]⟩ : GateMsg), ({ State.reset with kp := { gate := [(3, [(⟨1, [1, 7, 1, 0, 0, 0x80, 0, 0]⟩ : GateMsg)])] } }), by decide +kernel⟩,
   ⟨(⟨1, [1, 7, 1, 0, 0, 0x80, 0, 0]⟩ : GateMsg), ({ State.reset with kp := { gate := [(3, [(⟨1, [1, 7, 1, 0, 0, 0x80, 0, 0]⟩ : GateMsg)])] } }), by decide +kernel⟩⟩

end Sys2Proof.Machine
end

