-- ==== Sys2Proof/Tests/WitnessHub.lean ====
section
/-! SUPPORT. Witnesses: for each statement a state and operands that meet the hypotheses of each of its clauses, clause by
clause (classification, bags, queues, ciphers and leased lines). -/
namespace Sys2Proof.Machine

-- One after another: theorems that wait for the kernel side by side each hold a thread.
set_option Elab.async false
set_option linter.unusedVariables false

/-- What the clauses of `ClassifyAndBanks` assume can be met. -/
theorem witness_ClassifyAndBanks :
    (∃ (p : Pipe) (r : ParseResult) (rs : List ParseResult) (x : Frame) (k : Nat) (s : State) (s2 : State), (s.pipe p.val).released = r :: rs ∧ s.frame r.frame = some x ∧ x.trunc = false ∧ (∀ a ∈ (classify s r x.origin x.carry).reads, s.copiesBad r.parity a = 0) ∧ (classify s r x.origin x.carry).word = .inr k ∧ k ≠ 9 ∧ s2 = (s.modPipe p.val (fun y => { y with released := rs })).bump (CX_CNT 4) (classify s r x.origin x.carry).made) ∧
    (∃ (p : Pipe) (r : ParseResult) (rs : List ParseResult) (x : Frame) (w : Nat) (s : State), (s.pipe p.val).released = r :: rs ∧ s.frame r.frame = some x ∧ x.trunc = false ∧ (∀ a ∈ (classify s r x.origin x.carry).reads, s.copiesBad r.parity a = 0) ∧ (classify s r x.origin x.carry).word = .inl w) ∧
    (∃ (r : ParseResult) (x : Frame) (s : State), r.status = 0 ∧ s.copiesBad r.parity (0x02410400 + 4 * r.lastSq) = 2) ∧
    (∃ (q : Bool) (o : Nat) (k : Nat) (s : State), s.Ok ∧ s.cx.badCopy = [] ∧ k < 11) ∧
    (∃ (q : Bool) (o : Nat) (k : Nat) (n : Nat) (s : State), n = 0x02412000 + 0x80 * o + 8 * k ∧ (s.copiesBad q n = 2 ∨ s.copiesBad q (n + 4) = 2)) ∧
    (∃ (p : Pipe) (b : List (Nat × Bool)) (s : State), (s.pipe p.val).released = []) ∧
    (∃ (b : Bank) (s : State), s.crcHolds b.val = true) ∧
    (∃ (b : Bank) (s : State), s.Ok ∧ s.bankStrikes b.val < 2 ∧ s.isSet (CX_BANK_ERR b.val) = false) ∧
    (∃ (b : Bank) (i : Nat) (n : Nat) (q : Bool) (s : State), s.Ok ∧ 4 ≤ b.val ∧ s.bankOfWord n = some (b.val, i) ∧ i < 131071 ∧ s.bankStrikes b.val < 2 ∧ s.isSet (CX_BANK_ERR b.val) = false) ∧
    (∃ (b : Bank) (i : Nat) (j : Nat) (n : Nat) (m : Nat) (q : Bool) (s : State), 4 ≤ b.val ∧ s.bankOfWord n = some (b.val, i) ∧ s.bankOfWord m = some (b.val, j)) ∧
    (∃ (b : Bank) (i : Nat) (n : Nat) (s : State), s.Ok ∧ b.val < 4 ∧ s.bankOfWord n = some (b.val, i) ∧ s.bankStrikes b.val < 2 ∧ s.isSet (CX_BANK_ERR b.val) = false) ∧
    (∃ (b : Bank) (s : State), 2 ≤ s.bankStrikes b.val ∧ s.cx.retiring.contains b.val = false ∧ bankKin b.val ≠ [] ∧ (∀ k ∈ bankKin b.val, s.isSet (CX_BANK_RETIRED k) = false ∧ s.cx.retiring.contains k = false) ∧ 4 ≤ b.val) ∧
    (∃ (b : Bank) (s : State), 2 ≤ s.bankStrikes b.val ∧ s.cx.retiring.contains b.val = false ∧ bankKin b.val = []) ∧
    (∃ (b : Bank) (s : State), s.Ok ∧ s.cx.retiring.contains b.val = true) ∧
    (∃ (b : Bank) (s : State), s.cx.retiring.contains b.val = false) ∧
    (∃ (b : Bank) (s : State), s.Ok ∧ s.isSet (CX_BANK_ERR b.val) = true ∧ s.crcHolds b.val = true ∧ s.stopped.contains .tenant = false) ∧
    (∃ (b : Bank) (s : State), s.Ok ∧ s.isSet (CX_BANK_ERR b.val) = true ∧ s.bankStrikes b.val < 2 ∧ s.stopped.contains .tenant = false) ∧
    (∃ (b : Bank) (s : State), s.Ok ∧ s.isSet (CX_BANK_RETIRED b.val) = true ∧ s.stopped.contains .tenant = false) ∧
    (∃ (b : Bank) (s : State), s.isSet (CX_BANK_RETIRED b.val) = false ∧ s.stopped.contains .tenant = false) :=
  ⟨⟨0, (⟨7, 9, false, 5, false, 0, 0, 0, 4, 1, 3, [], 0, false, false, 0, none, []⟩ : ParseResult), [], ({ origin := 5, bytes := List.replicate 300 1, whole := true, checked := true } : Frame), 0, ({ State.reset with frames := [(9, some ({ origin := 5, bytes := List.replicate 300 1, whole := true, checked := true } : Frame))], pipes := [(0, { released := [(⟨7, 9, false, 5, false, 0, 0, 0, 4, 1, 3, [], 0, false, false, 0, none, []⟩ : ParseResult)], nextNum := 9 })] }), ((({ State.reset with frames := [(9, some ({ origin := 5, bytes := List.replicate 300 1, whole := true, checked := true } : Frame))], pipes := [(0, { released := [(⟨7, 9, false, 5, false, 0, 0, 0, 4, 1, 3, [], 0, false, false, 0, none, []⟩ : ParseResult)], nextNum := 9 })] }) : State).modPipe (0 : Pipe).val (fun y => { y with released := ([] : List ParseResult) })).bump (CX_CNT 4) (classify (({ State.reset with frames := [(9, some ({ origin := 5, bytes := List.replicate 300 1, whole := true, checked := true } : Frame))], pipes := [(0, { released := [(⟨7, 9, false, 5, false, 0, 0, 0, 4, 1, 3, [], 0, false, false, 0, none, []⟩ : ParseResult)], nextNum := 9 })] }) : State) ((⟨7, 9, false, 5, false, 0, 0, 0, 4, 1, 3, [], 0, false, false, 0, none, []⟩ : ParseResult) : ParseResult) (({ origin := 5, bytes := List.replicate 300 1, whole := true, checked := true } : Frame) : Frame).origin (({ origin := 5, bytes := List.replicate 300 1, whole := true, checked := true } : Frame) : Frame).carry).made, by decide +kernel, by decide +kernel, by decide +kernel, by decide +kernel, by decide +kernel, by decide +kernel, rfl⟩,
   ⟨0, (⟨7, 9, false, 5, false, 0, 0, 0, 4, 1, 3, [], 0, false, false, 0, none, []⟩ : ParseResult), [], ({ origin := 5, bytes := List.replicate 300 1, whole := true, checked := true } : Frame), 0, ({ State.reset with frames := [(9, some ({ origin := 5, bytes := List.replicate 300 1, whole := true, checked := true } : Frame))], pipes := [(0, { released := [(⟨7, 9, false, 5, false, 0, 0, 0, 4, 1, 3, [], 0, false, false, 0, none, []⟩ : ParseResult)], nextNum := 9 })], cx := { ctl := [(0x02410410, 0x80000000)] } }), by decide +kernel⟩,
   ⟨(⟨7, 9, false, 5, false, 0, 0, 0, 4, 1, 3, [], 0, false, false, 0, none, []⟩ : ParseResult), ({ origin := 5, bytes := List.replicate 300 1, whole := true, checked := true } : Frame), ({ ({ State.reset with frames := [(9, some ({ origin := 5, bytes := List.replicate 300 1, whole := true, checked := true } : Frame))], pipes := [(0, { released := [(⟨7, 9, false, 5, false, 0, 0, 0, 4, 1, 3, [], 0, false, false, 0, none, []⟩ : ParseResult)], nextNum := 9 })] }) with cx := { badCopy := [(37815312, 2)] } }), by decide +kernel⟩,
   ⟨false, 5, 2, State.reset, by decide +kernel⟩,
   ⟨false, 5, 2, 0x02412290, ({ State.reset with cx := { badCopy := [(0x02412290, 2)] } }), by decide +kernel⟩,
   ⟨0, [], State.reset, by decide +kernel⟩,
   ⟨5, State.reset, by decide +kernel⟩,
   ⟨5, State.reset, by decide +kernel⟩,
   ⟨5, 5, 0x028800A8, true, State.reset, by decide +kernel⟩,
   ⟨5, 5, 6, 0x028800A8, 0x028800C8, true, State.reset, by decide +kernel⟩,
   ⟨2, 2, 33751048, State.reset, by decide +kernel⟩,
   ⟨5, ({ mk [(CX_BANK_STRIKES 5, 2)] with cx := { strikes := [(5, 2)] } }), by decide +kernel⟩,
   ⟨2, ({ mk [(CX_BANK_STRIKES 2, 2)] with cx := { strikes := [(2, 2)] } }), by decide +kernel⟩,
   ⟨5, ({ mk [(CX_BANK_STRIKES 5, 2)] with cx := { retiring := [5], strikes := [(5, 2)] } }), by decide +kernel⟩,
   ⟨5, State.reset, by decide +kernel⟩,
   ⟨5, mk [(CX_BANK_ERR 5, 1), (CX_BANK_FIRST_BAD 5, 9)], by decide +kernel⟩,
   ⟨5, mk [(CX_BANK_ERR 5, 1), (CX_BANK_FIRST_BAD 5, 9)], by decide +kernel⟩,
   ⟨5, ({ mk [(CX_BANK_RETIRED 5, 1), (CX_BANK_STRIKES 5, 1)] with cx := { strikes := [(5, 1)] } }), by decide +kernel⟩,
   ⟨5, State.reset, by decide +kernel⟩⟩

/-- What the clauses of `TilesAndHandles` assume can be met. -/
theorem witness_TilesAndHandles :
    (∃ (b : Nat) (i : Nat) (s : State), s.Ok ∧ b = s.get BM_ALLOC_BAG_ALLOC_BAG ∧ s.bagServes b = true ∧ s.nextTile b = some i ∧ i < 2 ^ 19 ∧ s.stopped.contains .tenant = false) ∧
    (∃ (b : Nat) (s : State), s.Ok ∧ b = s.get BM_ALLOC_BAG_ALLOC_BAG ∧ (s.bagServes b = false ∨ s.nextTile b = none) ∧ s.stopped.contains .tenant = false) ∧
    (∃ (b : Nat) (i : Nat) (s : State), b = s.get BM_ALLOC_BAG_ALLOC_BAG ∧ s.bagServes b = true ∧ s.nextTile b = some i ∧ s.stopped.contains .tenant = false) ∧
    (∃ (h : Word) (s : State), (387071 < handleTile h.toNat ∨ (s.tile (handleTile h.toNat)).gen ≠ handleGen h.toNat ∨ (s.tile (handleTile h.toNat)).head = false) ∧ s.stopped.contains .tenant = false) ∧
    (∃ (h : Word) (s : State), handleTile h.toNat ≤ 387071 ∧ (s.tile (handleTile h.toNat)).gen = handleGen h.toNat ∧ (s.tile (handleTile h.toNat)).head = true ∧ (s.tile (handleTile h.toNat)).count = 0 ∧ s.stopped.contains .tenant = false) ∧
    (∃ (h : Word) (s : State), handleTile h.toNat ≤ 387071 ∧ (s.tile (handleTile h.toNat)).gen = handleGen h.toNat ∧ (s.tile (handleTile h.toNat)).head = true ∧ (s.tile (handleTile h.toNat)).count ≠ 0 ∧ (s.tile (handleTile h.toNat)).owner ≠ 2 ∧ s.stopped.contains .tenant = false) ∧
    (∃ (h : Nat) (k : Fin 3) (s : State), s.Ok ∧ h < 2 ^ 32) ∧
    (∃ (h : Word) (r : TileRec) (s : State), handleTile h.toNat ≤ 387071 ∧ s.tile (handleTile h.toNat) = r ∧ r.gen = handleGen h.toNat ∧ r.head = true ∧ 1 < r.count ∧ r.owner = 2 ∧ s.stopped.contains .tenant = false) ∧
    (∃ (h : Word) (r : TileRec) (s : State), handleTile h.toNat ≤ 387071 ∧ s.tile (handleTile h.toNat) = r ∧ r.gen = handleGen h.toNat ∧ r.head = true ∧ r.count = 1 ∧ r.owner = 2 ∧ s.stopped.contains .tenant = false) ∧
    (∃ (i : Nat) (s : State), s.Ok ∧ s.bm.recount ≠ some (s.bagOf i) ∧ s.bagFree (s.bagOf i) < 387072) ∧
    (∃ (h : Word) (s : State), handleTile h.toNat ≤ 387071 ∧ s.stopped.contains .tenant = false) ∧
    (∃ (h : Word) (r : TileRec) (s : State), handleTile h.toNat ≤ 387071 ∧ s.tile (handleTile h.toNat) = r ∧ r.gen = handleGen h.toNat ∧ r.head = true ∧ 0 < r.count ∧ s.stopped.contains .tenant = false) ∧
    (∃ (h : Word) (s : State), (387071 < handleTile h.toNat ∨ (s.tile (handleTile h.toNat)).gen ≠ handleGen h.toNat ∨ (s.tile (handleTile h.toNat)).head = false ∨ (s.tile (handleTile h.toNat)).count = 0) ∧ s.stopped.contains .tenant = false) ∧
    (∃ (h : Word) (n : Nat) (bs : List Byte) (x : List Byte) (m : SendMark) (r : TileRec) (s : State), handleTile h.toNat ≤ 387071 ∧ s.tile (handleTile h.toNat) = r ∧ r.gen = handleGen h.toNat ∧ r.head = true ∧ 0 < r.count ∧ r.owner = 2 ∧ x = bs.take n ∧ tilesFor x.length ≤ (s.chain 49 (handleTile h.toNat)).length ∧ fcsGood x = true ∧ s.stopped.contains .tenant = false) ∧
    (∃ (h : Word) (n : Nat) (bs : List Byte) (m : SendMark) (r : TileRec) (s : State), r = s.tile (handleTile h.toNat) ∧ (s.stopped.contains .tenant = true ∨ 387071 < handleTile h.toNat ∨ r.gen ≠ handleGen h.toNat ∨ r.head = false ∨ r.count = 0 ∨ r.owner ≠ 2 ∨ (s.chain 49 (handleTile h.toNat)).length < tilesFor (bs.take n).length)) ∧
    (∃ (a : Agent) (h : Word) (o : RecordRead) (s : State), a ≠ .tenant ∧ s.stopped.contains a = false) :=
  ⟨⟨0, 9, ({ mk [(BM_STATUS_READY, 1)] with bm := { bags := [(0, { hand := [9, 4], ring := [] })] } }), by decide +kernel⟩,
   ⟨0, State.reset, by decide +kernel⟩,
   ⟨0, 0, mk [(BM_STATUS_READY, 1)], by decide +kernel⟩,
   ⟨(BitVec.ofNat 32 (7 * 2 ^ 19 + 77)), ({ mk [(BM_STATUS_READY, 1)] with bm := { tiles := [(77, some ⟨1, 8, 2, 1, true, none⟩)] } }), by decide +kernel⟩,
   ⟨(BitVec.ofNat 32 (7 * 2 ^ 19 + 77)), ({ mk [(BM_STATUS_READY, 1)] with bm := { tiles := [(77, some ⟨0, 7, 2, 0, true, none⟩)] } }), by decide +kernel⟩,
   ⟨(BitVec.ofNat 32 (7 * 2 ^ 19 + 77)), ({ mk [(BM_STATUS_READY, 1)] with bm := { tiles := [(77, some ⟨1, 7, 0, 1, true, none⟩)] } }), by decide +kernel⟩,
   ⟨5, 1, State.reset, by decide +kernel⟩,
   ⟨(BitVec.ofNat 32 (7 * 2 ^ 19 + 77)), ⟨1, 7, 2, 3, true, none⟩, ({ mk [(BM_STATUS_READY, 1)] with bm := { tiles := [(77, some ⟨1, 7, 2, 3, true, none⟩)] } }), by decide +kernel⟩,
   ⟨(BitVec.ofNat 32 (7 * 2 ^ 19 + 77)), ⟨1, 7, 2, 1, true, none⟩, ({ mk [(BM_STATUS_READY, 1)] with bm := { tiles := [(77, some ⟨1, 7, 2, 1, true, none⟩)] } }), by decide +kernel⟩,
   ⟨77, ({ mk [(BM_STATUS_READY, 1)] with bm := { tiles := [(77, some ⟨1, 7, 2, 1, true, none⟩)], bags := [(0, { hand := [], ring := [(1, 4)] })] } }), by decide +kernel⟩,
   ⟨(BitVec.ofNat 32 (7 * 2 ^ 19 + 77)), ({ mk [(BM_STATUS_READY, 1)] with bm := { tiles := [(77, some ⟨1, 7, 2, 1, true, none⟩)] } }), by decide +kernel⟩,
   ⟨(BitVec.ofNat 32 (7 * 2 ^ 19 + 77)), ⟨1, 7, 2, 1, true, none⟩, ({ mk [(BM_STATUS_READY, 1)] with bm := { tiles := [(77, some ⟨1, 7, 2, 1, true, none⟩)] } }), by decide +kernel⟩,
   ⟨(BitVec.ofNat 32 (7 * 2 ^ 19 + 77)), State.reset, by decide +kernel⟩,
   ⟨(BitVec.ofNat 32 (7 * 2 ^ 19 + 77)), 64, (List.replicate 60 1 ++ [151, 106, 2, 110]), (List.replicate 60 1 ++ [151, 106, 2, 110]), .plain, ⟨1, 7, 2, 1, true, none⟩, ({ mk [(BM_STATUS_READY, 1)] with bm := { tiles := [(77, some ⟨1, 7, 2, 1, true, none⟩)] } }), by decide +kernel⟩,
   ⟨(BitVec.ofNat 32 (7 * 2 ^ 19 + 77)), 64, [1], .plain, State.reset.tile 77, State.reset, by decide +kernel⟩,
   ⟨.host, 5, .good, State.reset, by decide +kernel⟩⟩

/-- What the clauses of `BagsAndQuarantine` assume can be met. -/
theorem witness_BagsAndQuarantine :
    (∃ (b : Bag) (s : State), (s.bagX b.val).hand.length ≤ 16) ∧
    (∃ (b : Bag) (s : State), 48 ≤ (s.bagX b.val).hand.length) ∧
    (∃ (b : Bag) (s : State), 16 < (s.bagX b.val).hand.length ∧ (s.bagX b.val).hand.length < 48) ∧
    (∃ (i : Nat) (r : TileRec) (s : State), (i, some r) ∈ s.bm.tiles ∧ r.state = 1 ∧ s.stopped.contains .tenant = false) ∧
    (∃ (s : State), (∀ x ∈ s.bm.tiles, ∀ r ∈ x.2, r.state ≠ 1) ∧ 387072 < ((List.range 64).map (fun b => s.get (BM_BAG_TILES_TILES b))).foldl (· + ·) 0 ∧ s.stopped.contains .tenant = false) ∧
    (∃ (b : Bag) (s : State), s.Ok ∧ s.bm.tiles = [] ∧ ((List.range 64).map (fun b => s.get (BM_BAG_TILES_TILES b))).foldl (· + ·) 0 ≤ 387072 ∧ s.stopped.contains .tenant = false) ∧
    (∃ (b : Bag) (s : State), s.Ok ∧ s.bm.recount = none ∧ s.stopped.contains .tenant = false) ∧
    (∃ (b : Bag) (d : Nat) (s : State), s.bm.recount = some d ∧ s.bm.waiting.contains b.val = false ∧ s.stopped.contains .tenant = false) ∧
    (∃ (b : Bag) (s : State), s.Ok ∧ s.bm.recount = some b.val ∧ s.bm.waiting = []) ∧
    (∃ (b : Bag) (s : State), s.bm.recount ≠ some b.val) ∧
    (∃ (i : Nat) (s : State), s.Ok ∧ (s.tile i).state = 2) ∧
    (∃ (i : Nat) (s : State), (s.tile i).state = 2 ∧ s.bm.recount ≠ some (s.bagOf i)) ∧
    (∃ (i : Nat) (k : Bool) (s : State), (s.tile i).state ≠ 2) ∧
    (∃ (i : Nat) (s : State), s.Ok ∧ (s.tile i).state = 3 ∧ s.stopped.contains .tenant = false) ∧
    (∃ (f : Nat) (i : Nat) (s : State), s.frame f = none ∧ s.segHead i = none) ∧
    (∃ (f : Nat) (i : Nat) (x : Frame) (s : State), s.Ok ∧ s.frames = [(f, some x)] ∧ x.head = some (handleOf i (s.tile i).gen - 2 ^ 31) ∧ i < 2 ^ 19 ∧ (s.tile i).gen < 16 ∧ (s.tile i).next = none ∧ x.queue = none ∧ s.qs.egress = []) ∧
    (∃ (a : Agent) (b : Bag) (s : State), a ≠ .tenant ∧ a ≠ .host ∧ s.stopped.contains a = false) ∧
    (∃ (n : Nat) (s : State), s.Ok ∧ s.tenantHeld = false) :=
  ⟨⟨0, ({ State.reset with bm := { bags := [(0, { hand := [1, 2], ring := [(3, 40)] })] } }), by decide +kernel⟩,
   ⟨0, ({ State.reset with bm := { bags := [(0, { hand := List.range 50, ring := [(60, 4)] })] } }), by decide +kernel⟩,
   ⟨0, ({ State.reset with bm := { bags := [(0, { hand := List.range 20, ring := [(60, 4)] })] } }), by decide +kernel⟩,
   ⟨77, ⟨1, 7, 2, 1, true, none⟩, ({ mk [(BM_STATUS_READY, 1)] with bm := { tiles := [(77, some ⟨1, 7, 2, 1, true, none⟩)] } }), by decide +kernel⟩,
   ⟨mk [(BM_BAG_TILES_TILES 1, 1)], by decide +kernel⟩,
   ⟨1, mk [(BM_BAG_TILES_TILES 0, 1000), (BM_BAG_TILES_TILES 1, 500)], by decide +kernel⟩,
   ⟨3, State.reset, by decide +kernel⟩,
   ⟨3, 5, ({ State.reset with bm := { recount := some 5 } }), by decide +kernel⟩,
   ⟨0, ({ mk [(BM_STATUS_BUSY, 1)] with bm := { recount := some 0, bags := [(0, {})] } }), by decide +kernel⟩,
   ⟨3, State.reset, by decide +kernel⟩,
   ⟨77, ({ mk [(BM_STATUS_READY, 1)] with bm := { tiles := [(77, some ⟨2, 7, 2, 0, true, none⟩)] } }), by decide +kernel⟩,
   ⟨77, ({ mk [(BM_STATUS_READY, 1)] with bm := { tiles := [(77, some ⟨2, 7, 2, 0, true, none⟩)] } }), by decide +kernel⟩,
   ⟨77, true, State.reset, by decide +kernel⟩,
   ⟨77, ({ mk [(BM_STATUS_READY, 1)] with bm := { tiles := [(77, some ⟨3, 7, 2, 0, true, none⟩)] } }), by decide +kernel⟩,
   ⟨9, 77, State.reset, by decide +kernel⟩,
   ⟨9, 77, ({ origin := 5, bytes := List.replicate 300 1, whole := true, checked := true, head := some (7 * 2 ^ 19 + 77), queue := none } : Frame), ({ ({ mk [(BM_STATUS_READY, 1)] with bm := { tiles := [(77, some ⟨1, 7, 2, 1, true, none⟩)] } }) with frames := [(9, some ({ origin := 5, bytes := List.replicate 300 1, whole := true, checked := true, head := some (7 * 2 ^ 19 + 77), queue := none } : Frame))] }), by decide +kernel⟩,
   ⟨.carrier, 3, State.reset, by decide +kernel⟩,
   ⟨1, State.reset, by decide +kernel⟩⟩

/-- What the clauses of `QueuesAndShapers` assume can be met. -/
theorem witness_QueuesAndShapers :
    (∃ (f : Nat) (x : Frame) (q : Nat) (s : State), s.frame f = some x ∧ x.enqueueable = true ∧ s.overtakes f x = false ∧ q = actQueue x.act ∧ s.queueValid q = false) ∧
    (∃ (f : Nat) (x : Frame) (q : Nat) (s : State), s.frame f = some x ∧ x.enqueueable = true ∧ s.overtakes f x = false ∧ q = actQueue x.act ∧ s.queueValid q = true ∧ s.egressOf q = none) ∧
    (∃ (f : Nat) (x : Frame) (q : Nat) (n : Nat) (s : State), s.frame f = some x ∧ x.enqueueable = true ∧ s.overtakes f x = false ∧ q = actQueue x.act ∧ s.queueValid q = true ∧ s.egressOf q = some n ∧ (if x.yellow || x.red then s.get (QS_QMAX_YMAX q) else s.get (QS_QMAX_MAX q)) * 16 < s.get (QS_QTILES_TILES q) + (x.bytes.length + 255) / 256) ∧
    (∃ (f : Nat) (x : Frame) (q : Nat) (n : Nat) (s : State), s.Ok ∧ s.frame f = some x ∧ x.enqueueable = true ∧ s.overtakes f x = false ∧ q = actQueue x.act ∧ s.queueValid q = true ∧ s.egressOf q = some n ∧ s.isLine q = false ∧ s.get (QS_QTILES_TILES q) + (x.bytes.length + 255) / 256 ≤ (if x.yellow || x.red then s.get (QS_QMAX_YMAX q) else s.get (QS_QMAX_MAX q)) * 16) ∧
    (∃ (f : Nat) (x : Frame) (q : Nat) (n : Nat) (e : Engine) (s : State), s.Ok ∧ s.frame f = some x ∧ x.enqueueable = true ∧ s.overtakes f x = false ∧ q = actQueue x.act ∧ s.queueValid q = true ∧ s.egressOf q = some n ∧ s.isLine q = true ∧ s.isSet (BURST_PM_CFG_LOCAL_WAKE e.n) = true ∧ s.isSet (BURST_SLOT_VALID e.n (s.get (QS_QGATE_LQ q) / 8)) = true ∧ (s.pm e = 1 ∨ s.pm e = 2 ∨ s.pm e = 3) ∧ s.get (QS_QTILES_TILES q) + (x.bytes.length + 255) / 256 ≤ (if x.yellow || x.red then s.get (QS_QMAX_YMAX q) else s.get (QS_QMAX_MAX q)) * 16) ∧
    (∃ (f : Nat) (g : Nat) (x : Frame) (y : Frame) (s : State), s.frame f = some x ∧ (g, some y) ∈ s.frames ∧ g < f ∧ y.origin = x.origin ∧ y.queue = none ∧ y.action = x.action ∧ x.enqueueable = true) ∧
    (∃ (f : Nat) (s : State), (∀ x ∈ s.frame f, x.enqueueable = false)) ∧
    (∃ (n : L0Node) (s : State), n.val ≠ 133 ∧ s.shaperOk n.val = false) ∧
    (∃ (n : L0Node) (s : State), n.val ≠ 133 ∧ s.busyQueues = []) ∧
    (∃ (n : L0Node) (q : Nat) (f : Nat) (fs : List Nat) (x : Frame) (s : State), s.Ok ∧ n.val < 128 ∧ s.busyQueues = [q] ∧ s.qlist q = f :: fs ∧ f ∉ fs ∧ s.frame f = some x ∧ s.chainOf q = some (s.parentOf (1472 + q), s.parentOf (s.parentOf (1472 + q)), n.val) ∧ s.queueEligible q = true ∧ s.shaperOk (s.parentOf (1472 + q)) = true ∧ s.shaperOk (s.parentOf (s.parentOf (1472 + q))) = true ∧ s.shaperOk n.val = true ∧ s.egressOpen n.val (s.frameExpress n.val f) = true ∧ q < 8192) ∧
    (∃ (i : Nat) (w : Word) (s : State), i < 9664 ∧ s.stopped.contains .tenant = false) ∧
    (∃ (m : Nat) (w : Word) (v : Word) (z : Word) (s : State), s.Ok ∧ m < 65536 ∧ s.heldWord .tenant (QS_METER m) = some v ∧ s.heldWord .tenant (QS_METER m + 4) = some z ∧ s.stopped.contains .tenant = false) ∧
    (∃ (m : Nat) (i : Nat) (l : Nat) (s : State), s.Ok ∧ m < 65536 ∧ (s.meterNow m).2 < l * 125000 ∧ s.get (QS_METER_MODE m) = 0 ∧ s.cfgBad (QS_METER m) = false ∧ s.practiceAll = false ∧ s.isSet (QS_METER_PRACTICE m) = false) ∧
    (∃ (q : Nat) (f : Nat) (s : State), s.Ok ∧ q < 8192 ∧ s.qlist q = [f] ∧ s.frame f ≠ none ∧ s.stopped.contains .tenant = false) ∧
    (∃ (a : Agent) (q : Nat) (m : Nat) (i : Nat) (w : Word) (l : TList) (s : State), a ≠ .tenant ∧ a ≠ .host ∧ s.stopped.contains a = false) :=
  ⟨⟨9, ({ origin := 5, bytes := List.replicate 300 1, whole := true, checked := true, action := some (2 ^ 62 + 100 * 2 ^ 49), head := none } : Frame), 100, ({ ({ mk [(QS_Q_VALID 100, 1), (QS_Q_PARENT 100, 480), (QS_NODE_VALID 480, 1), (QS_NODE_PARENT 480, 200), (QS_NODE_VALID 200, 1), (QS_NODE_PARENT 200, 20), (CL_STATUS_STAGE 20, 6)] with frames := [(9, some ({ origin := 5, bytes := List.replicate 300 1, whole := true, checked := true, action := some (2 ^ 62 + 100 * 2 ^ 49), head := none } : Frame))] }) with regs := (mk [(QS_Q_PARENT 100, 480)]).regs }), by decide +kernel⟩,
   ⟨9, ({ origin := 5, bytes := List.replicate 300 1, whole := true, checked := true, action := some (2 ^ 62 + 100 * 2 ^ 49), head := none } : Frame), 100, ({ ({ mk [(QS_Q_VALID 100, 1), (QS_Q_PARENT 100, 480), (QS_NODE_VALID 480, 1), (QS_NODE_PARENT 480, 200), (QS_NODE_VALID 200, 1), (QS_NODE_PARENT 200, 20), (CL_STATUS_STAGE 20, 6)] with frames := [(9, some ({ origin := 5, bytes := List.replicate 300 1, whole := true, checked := true, action := some (2 ^ 62 + 100 * 2 ^ 49), head := none } : Frame))] }) with regs := (mk [(QS_Q_VALID 100, 1)]).regs }), by decide +kernel⟩,
   ⟨9, ({ origin := 5, bytes := List.replicate 300 1, whole := true, checked := true, action := some (2 ^ 62 + 100 * 2 ^ 49), head := none } : Frame), 100, 20, ({ ({ mk [(QS_Q_VALID 100, 1), (QS_Q_PARENT 100, 480), (QS_NODE_VALID 480, 1), (QS_NODE_PARENT 480, 200), (QS_NODE_VALID 200, 1), (QS_NODE_PARENT 200, 20), (CL_STATUS_STAGE 20, 6)] with frames := [(9, some ({ origin := 5, bytes := List.replicate 300 1, whole := true, checked := true, action := some (2 ^ 62 + 100 * 2 ^ 49), head := none } : Frame))] }) with regs := (mk [(QS_Q_VALID 100, 1), (QS_Q_PARENT 100, 480), (QS_NODE_VALID 480, 1), (QS_NODE_PARENT 480, 200), (QS_NODE_VALID 200, 1), (QS_NODE_PARENT 200, 20), (CL_STATUS_STAGE 20, 6), (QS_QMAX_MAX 100, 0)]).regs }), by decide +kernel⟩,
   ⟨9, ({ origin := 5, bytes := List.replicate 300 1, whole := true, checked := true, action := some (2 ^ 62 + 100 * 2 ^ 49), head := none } : Frame), 100, 20, ({ mk [(QS_Q_VALID 100, 1), (QS_Q_PARENT 100, 480), (QS_NODE_VALID 480, 1), (QS_NODE_PARENT 480, 200), (QS_NODE_VALID 200, 1), (QS_NODE_PARENT 200, 20), (CL_STATUS_STAGE 20, 6)] with frames := [(9, some ({ origin := 5, bytes := List.replicate 300 1, whole := true, checked := true, action := some (2 ^ 62 + 100 * 2 ^ 49), head := none } : Frame))] }), by decide +kernel⟩,
   ⟨9, ({ origin := 5, bytes := List.replicate 300 1, whole := true, checked := true, action := some (2 ^ 62 + 100 * 2 ^ 49), head := none } : Frame), 100, 128, .la, ({ mk [(QS_Q_VALID 100, 1), (QS_Q_PARENT 100, 480), (QS_NODE_VALID 480, 1), (QS_NODE_PARENT 480, 200), (QS_NODE_VALID 200, 1), (QS_NODE_PARENT 200, 128), (QS_QGATE_LINE 100, 1), (QS_QGATE_LQ 100, 31), (BURST_SLOT_VALID 0 3, 1), (BURST_PM_CFG_LOCAL_WAKE 0, 1), (BURST_PM_STATUS_STATE 0, 1)] with frames := [(9, some ({ origin := 5, bytes := List.replicate 300 1, whole := true, checked := true, action := some (2 ^ 62 + 100 * 2 ^ 49), head := none } : Frame))] }), by decide +kernel⟩,
   ⟨9, 3, ({ origin := 5, bytes := List.replicate 300 1, whole := true, checked := true, action := some (2 ^ 62 + 100 * 2 ^ 49), head := none } : Frame), ({ origin := 5, bytes := List.replicate 300 1, whole := true, checked := true, action := some (2 ^ 62 + 100 * 2 ^ 49), head := none } : Frame), ({ State.reset with frames := [(3, some ({ origin := 5, bytes := List.replicate 300 1, whole := true, checked := true, action := some (2 ^ 62 + 100 * 2 ^ 49), head := none } : Frame)), (9, some ({ origin := 5, bytes := List.replicate 300 1, whole := true, checked := true, action := some (2 ^ 62 + 100 * 2 ^ 49), head := none } : Frame))] }), by decide +kernel⟩,
   ⟨9, State.reset, by decide +kernel⟩,
   ⟨20, ({ mk [(QS_SHAPER_RATE 20, 5)] with qs := { buckets := [(20, some (-5, 0))] } }), by decide +kernel⟩,
   ⟨20, State.reset, by decide +kernel⟩,
   ⟨20, 100, 9, [], ({ origin := 5, bytes := List.replicate 300 1, whole := true, checked := true, action := some (2 ^ 62 + 100 * 2 ^ 49), head := none, queue := some 100 } : Frame), ({ mk [(QS_Q_VALID 100, 1), (QS_Q_PARENT 100, 480), (QS_NODE_VALID 480, 1), (QS_NODE_PARENT 480, 200), (QS_NODE_VALID 200, 1), (QS_NODE_PARENT 200, 20), (CL_STATUS_STAGE 20, 6), (QS_QTILES_TILES 100, 2), (QS_QFRAMES_FRAMES 100, 1)] with frames := [(9, some ({ origin := 5, bytes := List.replicate 300 1, whole := true, checked := true, action := some (2 ^ 62 + 100 * 2 ^ 49), head := none, queue := some 100 } : Frame))], qs := { queues := [(100, [9])] } }), by decide +kernel⟩,
   ⟨20, 0x00005002, ({ State.reset with qs := { buckets := [(20, some (-5, 0))] } }), by decide +kernel⟩,
   ⟨3, 0x00020001, 0x40000005, 7, ({ State.reset with aside := [⟨.tenant, QS_METER 3, 0x40000005⟩, ⟨.tenant, QS_METER 3 + 4, 7⟩] }), by decide +kernel⟩,
   ⟨3, 3, 3, State.reset, by decide +kernel⟩,
   ⟨100, 9, ({ mk [(QS_Q_VALID 100, 1), (QS_Q_PARENT 100, 480), (QS_NODE_VALID 480, 1), (QS_NODE_PARENT 480, 200), (QS_NODE_VALID 200, 1), (QS_NODE_PARENT 200, 20), (CL_STATUS_STAGE 20, 6), (QS_QTILES_TILES 100, 2), (QS_QFRAMES_FRAMES 100, 1)] with frames := [(9, some ({ origin := 5, bytes := List.replicate 300 1, whole := true, checked := true, action := some (2 ^ 62 + 100 * 2 ^ 49), head := none, queue := some 100 } : Frame))], qs := { queues := [(100, [9])] } }), by decide +kernel⟩,
   ⟨.carrier, 3, 3, 3, 5, 9, State.reset, by decide +kernel⟩⟩

/-- What the clauses of `TurnLists` assume can be met. -/
theorem witness_TurnLists :
    (∃ (l : TList) (c : Nat) (b : Bool) (s : State), s.Ok ∧ s.isSet (QS_TL_CTRL_PENDING l.val) = false ∧ s.get (QS_TL_CTRL_LEN l.val) ≠ 0 ∧ (c, b) = s.changeTime l.val s.house ∧ s.stopped.contains .tenant = false) ∧
    (∃ (l : TList) (n : Nat) (b : Nat) (y : Nat) (g : Nat) (s : State), b = wordsTime (s.words (QS_TL_BASE l.val) 3) ∧ y = (s.reg (QS_TL_CYCLE l.val)).toNat * 2 ^ 32 ∧ g = n + s.get QS_CFG_LEAD * 100 * 2 ^ 32 ∧ 0 < y) ∧
    (∃ (l : TList) (s : State), (s.isSet (QS_TL_CTRL_PENDING l.val) = true ∨ s.get (QS_TL_CTRL_LEN l.val) = 0) ∧ s.stopped.contains .tenant = false) ∧
    (∃ (l : TList) (c : Nat) (s : State), s.pendingAt l.val = some c ∧ s.house < c ∧ s.stopped.contains .tenant = false) ∧
    (∃ (l : TList) (s : State), s.isSet (QS_TL_CTRL_PENDING l.val) = false ∧ s.stopped.contains .tenant = false) ∧
    (∃ (l : TList) (c : Nat) (s : State), s.Ok ∧ s.pendingAt l.val = some c ∧ c ≤ s.house ∧ 0 < s.get (QS_TL_CTRL_LEN l.val)) ∧
    (∃ (l : TList) (o : OperList) (k : Nat) (w : Word) (s : State), s.Ok ∧ s.operList l.val = some o ∧ (turnAt (listPos o.base o.cycle s.house) (s.turnsAt (QS_TL_OPER l.val 0) o.len o.cycle) 0).map (fun x => (x.1, x.2.1)) = some (k, w) ∧ k < 256 ∧ s.merged o.port = true ∧ w.field 31 30 = 1) ∧
    (∃ (l : TList) (s : State), s.operList l.val = none) ∧
    (∃ (n : Nat) (s : State), cfgAddr n = true) ∧
    (∃ (q : Nat) (s : State), q < 8192) ∧
    (∃ (l : TList) (i : Fin 256) (s : State), s.Ok) ∧
    (∃ (n : Nat) (b : Bool) (s : State), cfgAddr n = false) ∧
    (∃ (m : Nat) (s : State), m < 65536) ∧
    (∃ (q : Nat) (i : Nat) (f : Nat) (s : State), s.Ok ∧ (s.qlist q).drop i = [f]) :=
  ⟨⟨9, (1000001000000 - 0)*2^32, true, ({ mk [(⟨QS_TL_BASE 9, 31, 0⟩, 50)] with te := { dom0 := 1000000700500 * 2 ^ 32 } }), by decide +kernel⟩,
   ⟨9, 5, wordsTime ((mk [(⟨QS_TL_CYCLE 9, 31, 0⟩, 1)]).words (QS_TL_BASE 9) 3), 2 ^ 32, 5 + (mk [(⟨QS_TL_CYCLE 9, 31, 0⟩, 1)]).get QS_CFG_LEAD * 100 * 2 ^ 32, mk [(⟨QS_TL_CYCLE 9, 31, 0⟩, 1)], by decide +kernel⟩,
   ⟨9, mk [(QS_TL_CTRL_PENDING 9, 1)], by decide +kernel⟩,
   ⟨9, 77, ({ mk [(QS_TL_CTRL_PENDING 9, 1)] with qs := { change := [(9, 77)] } }), by decide +kernel⟩,
   ⟨9, State.reset, by decide +kernel⟩,
   ⟨9, 999*2^32, ({ mk [(QS_TL_CTRL_PENDING 9, 1), (QS_TL_CTRL_LEN 9, 2), (QS_TL_CTRL_PORT 9, 20), (⟨QS_TL_TURN 9 0, 31, 0⟩, 0x600493E0), (⟨QS_TL_TURN 9 1, 31, 0⟩, 0x9FCAAE60), (CM_MM_MM_STATE 20, 2)] with te := { dom0 := 1000 * 2 ^ 32 }, qs := { change := [(9, 999 * 2 ^ 32)] } }), by decide +kernel⟩,
   ⟨9, ⟨0, 1000000, 1, 20⟩, 0, 0x600493E0, ({ mk [(⟨QS_TL_OPER 9 0, 31, 0⟩, 0x600493E0), (CM_MM_MM_STATE 20, 2)] with te := { dom0 := 1000 * 2 ^ 32 }, qs := { oper := [(9, some ⟨0, 1000000, 1, 20⟩)] } }), by decide +kernel⟩,
   ⟨9, State.reset, by decide +kernel⟩,
   ⟨0x04440004, State.reset, by decide +kernel⟩,
   ⟨100, mk [(QS_Q_VALID 100, 1)], by decide +kernel⟩,
   ⟨9, 7, ({ mk [(QS_TL_CTRL_OPER 9, 1)] with qs := { oper := [(9, some ⟨0, 1000000, 1, 20⟩)] } }), by decide +kernel⟩,
   ⟨5, true, State.reset, by decide +kernel⟩,
   ⟨100, mk [(QS_METER_CBS 100, 3), (QS_METER_EBS 100, 4)], by decide +kernel⟩,
   ⟨100, 0, 9, ({ mk [(QS_Q_VALID 100, 1), (QS_Q_PARENT 100, 480), (QS_NODE_VALID 480, 1), (QS_NODE_PARENT 480, 200), (QS_NODE_VALID 200, 1), (QS_NODE_PARENT 200, 20), (CL_STATUS_STAGE 20, 6), (QS_QTILES_TILES 100, 2), (QS_QFRAMES_FRAMES 100, 1)] with frames := [(9, some ({ origin := 5, bytes := List.replicate 300 1, whole := true, checked := true, action := some (2 ^ 62 + 100 * 2 ^ 49), head := none, queue := some 100 } : Frame))], qs := { queues := [(100, [9])] } }), by decide +kernel⟩⟩

/-- What the clauses of `SecureChannels` assume can be met. -/
theorem witness_SecureChannels :
    (∃ (sc : ScId) (f : Nat) (n : Nat) (x : Frame) (s : State), s.frame f = some x ∧ s.stageWith f = some n ∧ (s.stageOf n).find? (fun g => s.frameExpress n g = s.frameExpress n f) = some f ∧ actScOp x.act = 2 ∧ x.secured = false ∧ actSc x.act = sc.val ∧ s.bulkOpen (s.servingEngine sc.val) (decide (n < 128) && s.merged n && s.frameExpress n f) = true ∧ (s.isSet (CE_SC_VALID sc.val) = false ∨ s.isSet (CE_SC_DIR sc.val) = true ∨ (s.saOf sc.val (s.get (CE_SC_ENC_AN sc.val))).bind (s.saKey sc.val) = none)) ∧
    (∃ (sc : ScId) (f : Nat) (n : Nat) (m : Nat) (q : CeKey) (x : Frame) (s : State), s.frame f = some x ∧ s.stageWith f = some n ∧ (s.stageOf n).find? (fun g => s.frameExpress n g = s.frameExpress n f) = some f ∧ actScOp x.act = 2 ∧ x.secured = false ∧ actSc x.act = sc.val ∧ s.bulkOpen (s.servingEngine sc.val) (decide (n < 128) && s.merged n && s.frameExpress n f) = true ∧ s.isSet (CE_SC_VALID sc.val) = true ∧ s.isSet (CE_SC_DIR sc.val) = false ∧ s.saOf sc.val (s.get (CE_SC_ENC_AN sc.val)) = some m ∧ s.saKey sc.val m = some q ∧ (s.isSet (CE_SA_EXHAUSTED m) = true ∨ (s.get (CE_SC_SUITE sc.val) < 2 ∧ 2 ^ 32 ≤ s.nextPn m))) ∧
    (∃ (sc : ScId) (f : Nat) (n : Nat) (m : Nat) (q : CeKey) (x : Frame) (s : State), s.Ok ∧ m < 8192 ∧ n < 128 ∧ s.frame f = some x ∧ s.stageWith f = some n ∧ (s.stageOf n).find? (fun g => s.frameExpress n g = s.frameExpress n f) = some f ∧ actScOp x.act = 2 ∧ x.secured = false ∧ actSc x.act = sc.val ∧ s.bulkOpen (s.servingEngine sc.val) (decide (n < 128) && s.merged n && s.frameExpress n f) = true ∧ s.isSet (CE_SC_VALID sc.val) = true ∧ s.isSet (CE_SC_DIR sc.val) = false ∧ s.saOf sc.val (s.get (CE_SC_ENC_AN sc.val)) = some m ∧ s.saKey sc.val m = some q ∧ s.isSet (CE_SA_EXHAUSTED m) = false ∧ s.nextPn m < 2 ^ 32 - 1) ∧
    (∃ (q : CeKey) (sc : Nat) (pn : Nat) (bs : List Byte) (s : State), 12 ≤ bs.length) ∧
    (∃ (sc : ScId) (f : Nat) (x : Frame) (s : State), s.frame f = some x ∧ x.checked = true ∧ x.verifySc = some sc.val ∧ x.result = none ∧ x.queue = none ∧ s.bulkOpen (s.servingEngine sc.val) false = true) ∧
    (∃ (sc : Nat) (f : Nat) (x : Frame) (s : State), (judgeRx s sc x.bytes).deliver = none) ∧
    (∃ (sc : Nat) (f : Nat) (bs : List Byte) (x : Frame) (s : State), (judgeRx s sc x.bytes).deliver = some bs ∧ actKind x.act ≠ 3) ∧
    (∃ (sc : ScId) (f : Nat) (s : State), s.frame f = none) ∧
    (∃ (sc : Nat) (bs : List Byte) (s : State), (s.isSet (CE_SC_VALID sc) = false ∨ s.isSet (CE_SC_DIR sc) = false)) ∧
    (∃ (sc : Nat) (bs : List Byte) (s : State), s.isSet (CE_SC_VALID sc) = true ∧ s.isSet (CE_SC_DIR sc) = true ∧ sliceNum bs 12 2 ≠ 0x88E5) ∧
    (∃ (sc : Nat) (bs : List Byte) (s : State), s.isSet (CE_SC_VALID sc) = true ∧ s.isSet (CE_SC_DIR sc) = true ∧ (readTag (s.xpn sc) bs = some none ∨ ∃ g, readTag (s.xpn sc) bs = some (some g) ∧ g.sci ≠ none ∧ g.sci ≠ some (s.sciOf sc))) ∧
    (∃ (sc : Nat) (bs : List Byte) (g : SecTag) (s : State), s.isSet (CE_SC_VALID sc) = true ∧ s.isSet (CE_SC_DIR sc) = true ∧ readTag (s.xpn sc) bs = some (some g) ∧ g.sci = none ∧ (s.saOf sc g.an).bind (s.saKey sc) = none) ∧
    (∃ (sc : Nat) (bs : List Byte) (g : SecTag) (m : Nat) (q : CeKey) (s : State), s.isSet (CE_SC_VALID sc) = true ∧ s.isSet (CE_SC_DIR sc) = true ∧ readTag (s.xpn sc) bs = some (some g) ∧ g.sci = none ∧ s.saOf sc g.an = some m ∧ s.saKey sc m = some q ∧ s.isSet (CE_SC_RP_EN sc) = true ∧ recoverPn (s.xpn sc) (s.nextPn m) g.pn + s.get (CE_SC_WINDOW_WINDOW sc) < s.nextPn m) ∧
    (∃ (sc : Nat) (bs : List Byte) (g : SecTag) (m : Nat) (q : CeKey) (z : Bool) (s : State), s.isSet (CE_SC_VALID sc) = true ∧ s.isSet (CE_SC_DIR sc) = true ∧ readTag (s.xpn sc) bs = some (some g) ∧ g.sci = none ∧ s.saOf sc g.an = some m ∧ s.saKey sc m = some q ∧ s.nextPn m ≤ recoverPn (s.xpn sc) (s.nextPn m) g.pn + s.get (CE_SC_WINDOW_WINDOW sc) ∧ g.enc = false ∧ z = (gcmDecrypt q.key (nonceOf (s.xpn sc) (s.sciOf sc) q (recoverPn (s.xpn sc) (s.nextPn m) g.pn)) (bs.take (bs.length - 20)) [] ((bs.take (bs.length - 4)).drop (bs.length - 20))).2 ∧ 12 + g.len ≤ bs.length - 20) ∧
    (∃ (m : Nat) (pn : Nat) (o : Nat) (s : State), s.Ok ∧ m < 8192 ∧ pn + 1 < 2 ^ 64 ∧ s.nextPn m < 2 ^ 64) ∧
    (∃ (a : Agent) (m : SaId) (w : Word) (s : State), s.stopped.contains a = false ∧ a = .tenant ∨ a = .host) ∧
    (∃ (a : Agent) (m : SaId) (w : Word) (v : Word) (s : State), s.Ok ∧ s.heldWord a (CE_SA_PN m.val) = some v ∧ (s.nextPn m.val ≤ v.toNat + w.toNat * 2 ^ 32 ∨ sget (fun _ => none) s.ce.checks m.val = none) ∧ s.stopped.contains a = false ∧ a = .tenant ∨ a = .host) ∧
    (∃ (a : Agent) (m : SaId) (w : Word) (v : Word) (q : CeKey) (s : State), s.heldWord a (CE_SA_PN m.val) = some v ∧ v.toNat + w.toNat * 2 ^ 32 < s.nextPn m.val ∧ s.keySlot m.val = some q ∧ sget (fun _ => none) s.ce.checks m.val = some (keyCheck q.key) ∧ s.stopped.contains a = false ∧ a = .tenant ∨ a = .host) :=
  ⟨⟨5, 9, 20, ({ origin := 5, bytes := List.replicate 100 1, whole := true, checked := true, action := some (2 ^ 62 + 2 * 2 ^ 30 + 5 * 2 ^ 18 + 100 * 2 ^ 49), head := none, queue := some 100 } : Frame), ({ mk [(CE_SC_VALID 5, 1)] with frames := [(9, some ({ origin := 5, bytes := List.replicate 100 1, whole := true, checked := true, action := some (2 ^ 62 + 2 * 2 ^ 30 + 5 * 2 ^ 18 + 100 * 2 ^ 49), head := none, queue := some 100 } : Frame))], qs := { egress := [(20, [9])] }, ce := { keys := [(7, some ({ key := (List.replicate 16 (3 : Byte)), salt := [], ssci := [] } : CeKey))] } }), by decide +kernel⟩,
   ⟨5, 9, 20, 7, ({ key := (List.replicate 16 (3 : Byte)), salt := [], ssci := [] } : CeKey), ({ origin := 5, bytes := List.replicate 100 1, whole := true, checked := true, action := some (2 ^ 62 + 2 * 2 ^ 30 + 5 * 2 ^ 18 + 100 * 2 ^ 49), head := none, queue := some 100 } : Frame), ({ mk [(CE_SC_VALID 5, 1), (⟨CE_SC_AN 5 0, 31, 0⟩, 0x8007), (CE_SA_VALID 7, 1), (CE_SA_KEYED 7, 1), (CE_SA_EXHAUSTED 7, 1)] with frames := [(9, some ({ origin := 5, bytes := List.replicate 100 1, whole := true, checked := true, action := some (2 ^ 62 + 2 * 2 ^ 30 + 5 * 2 ^ 18 + 100 * 2 ^ 49), head := none, queue := some 100 } : Frame))], qs := { egress := [(20, [9])] }, ce := { keys := [(7, some ({ key := (List.replicate 16 (3 : Byte)), salt := [], ssci := [] } : CeKey))] } }), by decide +kernel⟩,
   ⟨5, 9, 20, 7, ({ key := (List.replicate 16 (3 : Byte)), salt := [], ssci := [] } : CeKey), ({ origin := 5, bytes := List.replicate 100 1, whole := true, checked := true, action := some (2 ^ 62 + 2 * 2 ^ 30 + 5 * 2 ^ 18 + 100 * 2 ^ 49), head := none, queue := some 100 } : Frame), ({ mk [(CE_SC_VALID 5, 1), (⟨CE_SC_AN 5 0, 31, 0⟩, 0x8007), (CE_SA_VALID 7, 1), (CE_SA_KEYED 7, 1)] with frames := [(9, some ({ origin := 5, bytes := List.replicate 100 1, whole := true, checked := true, action := some (2 ^ 62 + 2 * 2 ^ 30 + 5 * 2 ^ 18 + 100 * 2 ^ 49), head := none, queue := some 100 } : Frame))], qs := { egress := [(20, [9])] }, ce := { keys := [(7, some ({ key := (List.replicate 16 (3 : Byte)), salt := [], ssci := [] } : CeKey))] } }), by decide +kernel⟩,
   ⟨({ key := (List.replicate 16 (3 : Byte)), salt := [], ssci := [] } : CeKey), 5, 5, (List.replicate 100 1), mk [(CE_SC_VALID 5, 1), (⟨CE_SC_AN 5 0, 31, 0⟩, 0x8007), (CE_SA_VALID 7, 1), (CE_SA_KEYED 7, 1)], by decide +kernel⟩,
   ⟨5, 9, ({ origin := 5, bytes := List.replicate 100 1, whole := true, checked := true, action := some (2 ^ 62 + 1 * 2 ^ 30 + 5 * 2 ^ 18 + 100 * 2 ^ 49), head := none } : Frame), ({ mk [(CE_SC_DIR 5, 1), (CE_SC_VALID 5, 1), (⟨CE_SC_AN 5 0, 31, 0⟩, 0x8007), (CE_SA_VALID 7, 1), (CE_SA_KEYED 7, 1)] with frames := [(9, some ({ origin := 5, bytes := List.replicate 100 1, whole := true, checked := true, action := some (2 ^ 62 + 1 * 2 ^ 30 + 5 * 2 ^ 18 + 100 * 2 ^ 49), head := none } : Frame))], ce := { keys := [(7, some ({ key := (List.replicate 16 (3 : Byte)), salt := [], ssci := [] } : CeKey))] } }), by decide +kernel⟩,
   ⟨9, 9, ({ origin := 5, bytes := List.replicate 100 1, whole := true, checked := true, action := some (2 ^ 62 + 1 * 2 ^ 30 + 5 * 2 ^ 18 + 100 * 2 ^ 49), head := none } : Frame), State.reset, by decide +kernel⟩,
   ⟨9, 9, (List.replicate 100 1), ({ origin := 5, bytes := List.replicate 100 1, whole := true, checked := true, action := some (2 ^ 62 + 1 * 2 ^ 30 + 5 * 2 ^ 18 + 100 * 2 ^ 49), head := none } : Frame), mk [(CE_SC_DIR 5, 1), (CE_SC_VALID 5, 1), (⟨CE_SC_AN 5 0, 31, 0⟩, 0x8007), (CE_SA_VALID 7, 1), (CE_SA_KEYED 7, 1), (CE_SC_DIR 9, 1), (CE_SC_VALID 9, 1), (CE_SC_VALIDATE 9, 1)], by decide +kernel⟩,
   ⟨5, 9, State.reset, by decide +kernel⟩,
   ⟨5, [1], State.reset, by decide +kernel⟩,
   ⟨5, [1], mk [(CE_SC_DIR 5, 1), (CE_SC_VALID 5, 1), (⟨CE_SC_AN 5 0, 31, 0⟩, 0x8007), (CE_SA_VALID 7, 1), (CE_SA_KEYED 7, 1)], by decide +kernel⟩,
   ⟨5, (List.replicate 12 1 ++ [0x88, 0xE5, 0x80]), mk [(CE_SC_DIR 5, 1), (CE_SC_VALID 5, 1), (⟨CE_SC_AN 5 0, 31, 0⟩, 0x8007), (CE_SA_VALID 7, 1), (CE_SA_KEYED 7, 1)], by decide +kernel, by decide +kernel, .inl (by decide +kernel)⟩,
   ⟨5, (List.replicate 12 (1 : Byte) ++ [0x88, 0xE5, 0, 0, 0, 0, 0, 3] ++ List.replicate 100 (5 : Byte)), ⟨false, 0, 3, none, 8⟩, mk [(CE_SC_VALID 5, 1), (CE_SC_DIR 5, 1)], by decide +kernel⟩,
   ⟨5, (List.replicate 12 (1 : Byte) ++ [0x88, 0xE5, 0, 0, 0, 0, 0, 3] ++ List.replicate 100 (5 : Byte)), ⟨false, 0, 3, none, 8⟩, 7, ({ key := (List.replicate 16 (3 : Byte)), salt := [], ssci := [] } : CeKey), ({ mk [(CE_SC_DIR 5, 1), (CE_SC_VALID 5, 1), (⟨CE_SC_AN 5 0, 31, 0⟩, 0x8007), (CE_SA_VALID 7, 1), (CE_SA_KEYED 7, 1), (⟨CE_SA_PN 7, 31, 0⟩, 500)] with ce := { keys := [(7, some ({ key := (List.replicate 16 (3 : Byte)), salt := [], ssci := [] } : CeKey))] } }), by decide +kernel⟩,
   ⟨5, (List.replicate 12 (1 : Byte) ++ [0x88, 0xE5, 0, 0, 0, 0, 0, 3] ++ List.replicate 100 (5 : Byte)), ⟨false, 0, 3, none, 8⟩, 7, ({ key := (List.replicate 16 (3 : Byte)), salt := [], ssci := [] } : CeKey), (gcmDecrypt (({ key := (List.replicate 16 (3 : Byte)), salt := [], ssci := [] } : CeKey) : CeKey).key (nonceOf ((({ mk [(CE_SC_DIR 5, 1), (CE_SC_VALID 5, 1), (⟨CE_SC_AN 5 0, 31, 0⟩, 0x8007), (CE_SA_VALID 7, 1), (CE_SA_KEYED 7, 1)] with ce := { keys := [(7, some ({ key := (List.replicate 16 (3 : Byte)), salt := [], ssci := [] } : CeKey))] } }) : State).xpn (5 : Nat)) ((({ mk [(CE_SC_DIR 5, 1), (CE_SC_VALID 5, 1), (⟨CE_SC_AN 5 0, 31, 0⟩, 0x8007), (CE_SA_VALID 7, 1), (CE_SA_KEYED 7, 1)] with ce := { keys := [(7, some ({ key := (List.replicate 16 (3 : Byte)), salt := [], ssci := [] } : CeKey))] } }) : State).sciOf (5 : Nat)) (({ key := (List.replicate 16 (3 : Byte)), salt := [], ssci := [] } : CeKey) : CeKey) (recoverPn ((({ mk [(CE_SC_DIR 5, 1), (CE_SC_VALID 5, 1), (⟨CE_SC_AN 5 0, 31, 0⟩, 0x8007), (CE_SA_VALID 7, 1), (CE_SA_KEYED 7, 1)] with ce := { keys := [(7, some ({ key := (List.replicate 16 (3 : Byte)), salt := [], ssci := [] } : CeKey))] } }) : State).xpn (5 : Nat)) ((({ mk [(CE_SC_DIR 5, 1), (CE_SC_VALID 5, 1), (⟨CE_SC_AN 5 0, 31, 0⟩, 0x8007), (CE_SA_VALID 7, 1), (CE_SA_KEYED 7, 1)] with ce := { keys := [(7, some ({ key := (List.replicate 16 (3 : Byte)), salt := [], ssci := [] } : CeKey))] } }) : State).nextPn (7 : Nat)) (⟨false, 0, 3, none, 8⟩ : SecTag).pn)) (((List.replicate 12 (1 : Byte) ++ [0x88, 0xE5, 0, 0, 0, 0, 0, 3] ++ List.replicate 100 (5 : Byte)) : List Byte).take (((List.replicate 12 (1 : Byte) ++ [0x88, 0xE5, 0, 0, 0, 0, 0, 3] ++ List.replicate 100 (5 : Byte)) : List Byte).length - 20)) [] ((((List.replicate 12 (1 : Byte) ++ [0x88, 0xE5, 0, 0, 0, 0, 0, 3] ++ List.replicate 100 (5 : Byte)) : List Byte).take (((List.replicate 12 (1 : Byte) ++ [0x88, 0xE5, 0, 0, 0, 0, 0, 3] ++ List.replicate 100 (5 : Byte)) : List Byte).length - 4)).drop (((List.replicate 12 (1 : Byte) ++ [0x88, 0xE5, 0, 0, 0, 0, 0, 3] ++ List.replicate 100 (5 : Byte)) : List Byte).length - 20))).2, ({ mk [(CE_SC_DIR 5, 1), (CE_SC_VALID 5, 1), (⟨CE_SC_AN 5 0, 31, 0⟩, 0x8007), (CE_SA_VALID 7, 1), (CE_SA_KEYED 7, 1)] with ce := { keys := [(7, some ({ key := (List.replicate 16 (3 : Byte)), salt := [], ssci := [] } : CeKey))] } }), by decide +kernel, by decide +kernel, by decide +kernel, by decide +kernel, by decide +kernel, by decide +kernel, by decide +kernel, by decide +kernel, rfl, by decide +kernel⟩,
   ⟨7, 7, 7, State.reset, by decide +kernel⟩,
   ⟨.tenant, 7, 5, State.reset, by decide +kernel⟩,
   ⟨.tenant, 7, 5, 5, ({ State.reset with aside := [⟨.tenant, CE_SA_PN 7, 5⟩] }), by decide +kernel⟩,
   ⟨.tenant, 7, 0, 1, ({ key := (List.replicate 16 (3 : Byte)), salt := [], ssci := [] } : CeKey), ({ mk [(⟨CE_SA_PN 7, 31, 0⟩, 500)] with aside := [⟨.tenant, CE_SA_PN 7, 1⟩], ce := { keys := [(7, some ({ key := (List.replicate 16 (3 : Byte)), salt := [], ssci := [] } : CeKey))], checks := [(7, some (keyCheck (List.replicate 16 (3 : Byte))))] } }), by decide +kernel⟩⟩

/-- What the clauses of `ServiceJobs` assume can be met. -/
theorem witness_ServiceJobs :
    (∃ (e : CeId) (s : State), s.isSet (CE_JOB_BUSY e.val) = true) ∧
    (∃ (e : CeId) (s : State), s.isSet (CE_JOB_BUSY e.val) = false) ∧
    (∃ (e : CeId) (s : State), s.isSet (CE_JOB_BUSY e.val) = false ∧ s.isSet (CE_STATUS_IN_SERVICE.bit e.val) = true ∧ 0 < s.get (CE_OP_OP e.val) ∧ s.get (CE_OP_OP e.val) < 10 ∧ s.isSet (CE_OP_URGENT e.val) = false) ∧
    (∃ (e : CeId) (q : CeKey) (s : State), s.Ok ∧ (s.engine e.val).go ≠ none ∧ (s.engine e.val).work = none ∧ (s.engine e.val).slot = none ∧ s.isSet (CE_STATUS_IN_SERVICE.bit e.val) = true ∧ s.pastDeadline e.val = false ∧ s.get (CE_OP_OP e.val) = 1 ∧ s.jobKey e.val (s.engine e.val).agent 1 = some q) ∧
    (∃ (e : CeId) (q : CeKey) (s : State), s.Ok ∧ (s.engine e.val).go ≠ none ∧ (s.engine e.val).work = none ∧ (s.engine e.val).slot = none ∧ s.isSet (CE_STATUS_IN_SERVICE.bit e.val) = true ∧ s.pastDeadline e.val = false ∧ s.get (CE_OP_OP e.val) = 2 ∧ s.jobKey e.val (s.engine e.val).agent 2 = some q) ∧
    (∃ (e : CeId) (q : CeKey) (n : Nat) (x : (List Byte × List Byte)) (s : State), s.Ok ∧ (s.engine e.val).go ≠ none ∧ (s.engine e.val).work = none ∧ (s.engine e.val).slot = none ∧ s.isSet (CE_STATUS_IN_SERVICE.bit e.val) = true ∧ s.pastDeadline e.val = false ∧ s.get (CE_OP_OP e.val) = 3 ∧ s.jobKey e.val (s.engine e.val).agent 3 = some q ∧ n = s.get (CE_AADLEN_AADLEN e.val) ∧ x = gcmEncrypt q.key (s.jobIv e.val) ((s.jobSrc e.val (s.engine e.val).agent).take n) ((s.jobSrc e.val (s.engine e.val).agent).drop n)) ∧
    (∃ (e : CeId) (q : CeKey) (n : Nat) (x : (List Byte × Bool)) (s : State), s.Ok ∧ (s.engine e.val).go ≠ none ∧ (s.engine e.val).work = none ∧ (s.engine e.val).slot = none ∧ s.isSet (CE_STATUS_IN_SERVICE.bit e.val) = true ∧ s.pastDeadline e.val = false ∧ s.get (CE_OP_OP e.val) = 4 ∧ s.jobKey e.val (s.engine e.val).agent 4 = some q ∧ n = s.get (CE_AADLEN_AADLEN e.val) ∧ x = gcmDecrypt q.key (s.jobIv e.val) ((s.jobSrc e.val (s.engine e.val).agent).take n) ((s.jobSrc e.val (s.engine e.val).agent).drop n) (s.jobTag e.val)) ∧
    (∃ (b : Nat) (bs : List Byte) (s : State), s.memOk) ∧
    (∃ (e : CeId) (q : CeKey) (w : CeKey) (s : State), s.Ok ∧ (s.engine e.val).go ≠ none ∧ (s.engine e.val).work = none ∧ (s.engine e.val).slot = none ∧ s.isSet (CE_STATUS_IN_SERVICE.bit e.val) = true ∧ s.pastDeadline e.val = false ∧ s.get (CE_OP_OP e.val) = 5 ∧ s.jobKey e.val (s.engine e.val).agent 5 = some q ∧ s.jobWrap e.val (s.engine e.val).agent 5 = some w ∧ (aesWrap w.key q.key).length ≤ 40) ∧
    (∃ (e : CeId) (w : CeKey) (d : Nat) (s : State), s.Ok ∧ (s.engine e.val).go ≠ none ∧ (s.engine e.val).work = none ∧ (s.engine e.val).slot = none ∧ s.isSet (CE_STATUS_IN_SERVICE.bit e.val) = true ∧ s.pastDeadline e.val = false ∧ s.get (CE_OP_OP e.val) = 6 ∧ s.jobWrap e.val (s.engine e.val).agent 6 = some w ∧ s.jobDest e.val (s.engine e.val).agent = some d) ∧
    (∃ (e : CeId) (q : CeKey) (d : Nat) (s : State), s.Ok ∧ (s.engine e.val).go ≠ none ∧ (s.engine e.val).work = none ∧ (s.engine e.val).slot = none ∧ s.isSet (CE_STATUS_IN_SERVICE.bit e.val) = true ∧ s.pastDeadline e.val = false ∧ s.get (CE_OP_OP e.val) = 7 ∧ s.jobKey e.val (s.engine e.val).agent 7 = some q ∧ s.jobDest e.val (s.engine e.val).agent = some d) ∧
    (∃ (e : CeId) (d : Nat) (s : State), s.Ok ∧ (s.engine e.val).go ≠ none ∧ (s.engine e.val).work = none ∧ (s.engine e.val).slot = none ∧ s.isSet (CE_STATUS_IN_SERVICE.bit e.val) = true ∧ s.pastDeadline e.val = false ∧ s.get (CE_OP_OP e.val) = 8 ∧ s.jobDest e.val (s.engine e.val).agent = some d) ∧
    (∃ (e : CeId) (q : CeKey) (z : CeKey) (x : Engine) (s : State), s.Ok ∧ (s.engine e.val).go ≠ none ∧ (s.engine e.val).work = none ∧ (s.engine e.val).slot = none ∧ s.isSet (CE_STATUS_IN_SERVICE.bit e.val) = true ∧ s.pastDeadline e.val = false ∧ s.get (CE_OP_OP e.val) = 9 ∧ (s.engine e.val).agent = 1 ∧ s.get (CE_KW_K e.val) ≤ 31 ∧ s.isSet (CE_OP_KSA e.val) = false ∧ s.keySlot (8192 + s.get (CE_KW_K e.val)) = some q ∧ s.keySlot 8446 = some z) ∧
    (∃ (e : CeId) (s : State), s.Ok ∧ (s.engine e.val).go ≠ none ∧ (s.engine e.val).work = none ∧ (s.engine e.val).slot = none ∧ s.isSet (CE_STATUS_IN_SERVICE.bit e.val) = true ∧ s.pastDeadline e.val = false ∧ s.get (CE_OP_OP e.val) = 9 ∧ ((s.engine e.val).agent ≠ 1 ∨ 31 < s.get (CE_KW_K e.val))) ∧
    (∃ (e : CeId) (s : State), s.Ok ∧ (s.engine e.val).go ≠ none ∧ (s.engine e.val).work = none ∧ (s.engine e.val).slot = none ∧ s.isSet (CE_STATUS_IN_SERVICE.bit e.val) = true ∧ s.pastDeadline e.val = false ∧ s.get (CE_OP_OP e.val) = 1 ∧ s.jobKey e.val (s.engine e.val).agent 1 = none) ∧
    (∃ (e : CeId) (s : State), s.get (CE_OP_OP e.val) = 1) ∧
    (∃ (e : CeId) (r : Nat) (d : Nat) (o : Nat) (q : List Byte) (s : State), s.Ok ∧ (s.engine e.val).result = some r ∧ r < 16 ∧ (s.engine e.val).work = some .service ∧ (s.engine e.val).dest = some (d, o, q)) ∧
    (∃ (e : CeId) (s : State), s.Ok ∧ s.pastDeadline e.val = true) ∧
    (∃ (e : CeId) (s : State), s.pastDeadline e.val = false ∧ (s.engine e.val).result = none) :=
  ⟨⟨1, mk [(CE_JOB_BUSY 1, 1)], by decide +kernel⟩,
   ⟨1, mk [(CE_STATUS_IN_SERVICE, 13)], by decide +kernel⟩,
   ⟨1, mk [(CE_OP_OP 1, 1), (CE_PAWN_HOLDER 1, 2)], by decide +kernel⟩,
   ⟨1, ({ key := (List.replicate 16 (3 : Byte)), salt := [], ssci := [] } : CeKey), ({ mk [(CE_JOB_BUSY 1, 1), (CE_PAWN_HOLDER 1, 2), (CE_OP_OP 1, 1), (CE_OP_GO 1, 1), (CE_KW_K 1, 40), (CE_LEN_LEN 1, 5)] with ce := { engines := [(1, { go := some 0, agent := 2 })], keys := [(8192 + 40, some ({ key := (List.replicate 16 (3 : Byte)), salt := [], ssci := [] } : CeKey)), (8192 + 41, some ({ key := (List.replicate 16 (3 : Byte)), salt := [], ssci := [] } : CeKey))] } }), by decide +kernel⟩,
   ⟨1, ({ key := (List.replicate 16 (3 : Byte)), salt := [], ssci := [] } : CeKey), ({ mk [(CE_JOB_BUSY 1, 1), (CE_PAWN_HOLDER 1, 2), (CE_OP_OP 1, 2), (CE_OP_GO 1, 1), (CE_KW_K 1, 40), (CE_LEN_LEN 1, 5)] with ce := { engines := [(1, { go := some 0, agent := 2 })], keys := [(8192 + 40, some ({ key := (List.replicate 16 (3 : Byte)), salt := [], ssci := [] } : CeKey)), (8192 + 41, some ({ key := (List.replicate 16 (3 : Byte)), salt := [], ssci := [] } : CeKey))] } }), by decide +kernel⟩,
   ⟨1, ({ key := (List.replicate 16 (3 : Byte)), salt := [], ssci := [] } : CeKey), 2, gcmEncrypt (({ key := (List.replicate 16 (3 : Byte)), salt := [], ssci := [] } : CeKey) : CeKey).key ((({ mk [(CE_JOB_BUSY 1, 1), (CE_PAWN_HOLDER 1, 2), (CE_OP_OP 1, 3), (CE_OP_GO 1, 1), (CE_KW_K 1, 40), (CE_LEN_LEN 1, 5), (CE_AADLEN_AADLEN 1, 2)] with ce := { engines := [(1, { go := some 0, agent := 2 })], keys := [(8192 + 40, some ({ key := (List.replicate 16 (3 : Byte)), salt := [], ssci := [] } : CeKey)), (8192 + 41, some ({ key := (List.replicate 16 (3 : Byte)), salt := [], ssci := [] } : CeKey))] } }) : State).jobIv (1 : CeId).val) (((({ mk [(CE_JOB_BUSY 1, 1), (CE_PAWN_HOLDER 1, 2), (CE_OP_OP 1, 3), (CE_OP_GO 1, 1), (CE_KW_K 1, 40), (CE_LEN_LEN 1, 5), (CE_AADLEN_AADLEN 1, 2)] with ce := { engines := [(1, { go := some 0, agent := 2 })], keys := [(8192 + 40, some ({ key := (List.replicate 16 (3 : Byte)), salt := [], ssci := [] } : CeKey)), (8192 + 41, some ({ key := (List.replicate 16 (3 : Byte)), salt := [], ssci := [] } : CeKey))] } }) : State).jobSrc (1 : CeId).val ((({ mk [(CE_JOB_BUSY 1, 1), (CE_PAWN_HOLDER 1, 2), (CE_OP_OP 1, 3), (CE_OP_GO 1, 1), (CE_KW_K 1, 40), (CE_LEN_LEN 1, 5), (CE_AADLEN_AADLEN 1, 2)] with ce := { engines := [(1, { go := some 0, agent := 2 })], keys := [(8192 + 40, some ({ key := (List.replicate 16 (3 : Byte)), salt := [], ssci := [] } : CeKey)), (8192 + 41, some ({ key := (List.replicate 16 (3 : Byte)), salt := [], ssci := [] } : CeKey))] } }) : State).engine (1 : CeId).val).agent).take (2 : Nat)) (((({ mk [(CE_JOB_BUSY 1, 1), (CE_PAWN_HOLDER 1, 2), (CE_OP_OP 1, 3), (CE_OP_GO 1, 1), (CE_KW_K 1, 40), (CE_LEN_LEN 1, 5), (CE_AADLEN_AADLEN 1, 2)] with ce := { engines := [(1, { go := some 0, agent := 2 })], keys := [(8192 + 40, some ({ key := (List.replicate 16 (3 : Byte)), salt := [], ssci := [] } : CeKey)), (8192 + 41, some ({ key := (List.replicate 16 (3 : Byte)), salt := [], ssci := [] } : CeKey))] } }) : State).jobSrc (1 : CeId).val ((({ mk [(CE_JOB_BUSY 1, 1), (CE_PAWN_HOLDER 1, 2), (CE_OP_OP 1, 3), (CE_OP_GO 1, 1), (CE_KW_K 1, 40), (CE_LEN_LEN 1, 5), (CE_AADLEN_AADLEN 1, 2)] with ce := { engines := [(1, { go := some 0, agent := 2 })], keys := [(8192 + 40, some ({ key := (List.replicate 16 (3 : Byte)), salt := [], ssci := [] } : CeKey)), (8192 + 41, some ({ key := (List.replicate 16 (3 : Byte)), salt := [], ssci := [] } : CeKey))] } }) : State).engine (1 : CeId).val).agent).drop (2 : Nat)), ({ mk [(CE_JOB_BUSY 1, 1), (CE_PAWN_HOLDER 1, 2), (CE_OP_OP 1, 3), (CE_OP_GO 1, 1), (CE_KW_K 1, 40), (CE_LEN_LEN 1, 5), (CE_AADLEN_AADLEN 1, 2)] with ce := { engines := [(1, { go := some 0, agent := 2 })], keys := [(8192 + 40, some ({ key := (List.replicate 16 (3 : Byte)), salt := [], ssci := [] } : CeKey)), (8192 + 41, some ({ key := (List.replicate 16 (3 : Byte)), salt := [], ssci := [] } : CeKey))] } }), by decide +kernel, by decide +kernel, by decide +kernel, by decide +kernel, by decide +kernel, by decide +kernel, by decide +kernel, by decide +kernel, by decide +kernel, rfl⟩,
   ⟨1, ({ key := (List.replicate 16 (3 : Byte)), salt := [], ssci := [] } : CeKey), 2, gcmDecrypt (({ key := (List.replicate 16 (3 : Byte)), salt := [], ssci := [] } : CeKey) : CeKey).key ((({ mk [(CE_JOB_BUSY 1, 1), (CE_PAWN_HOLDER 1, 2), (CE_OP_OP 1, 4), (CE_OP_GO 1, 1), (CE_KW_K 1, 40), (CE_LEN_LEN 1, 5), (CE_AADLEN_AADLEN 1, 2)] with ce := { engines := [(1, { go := some 0, agent := 2 })], keys := [(8192 + 40, some ({ key := (List.replicate 16 (3 : Byte)), salt := [], ssci := [] } : CeKey)), (8192 + 41, some ({ key := (List.replicate 16 (3 : Byte)), salt := [], ssci := [] } : CeKey))] } }) : State).jobIv (1 : CeId).val) (((({ mk [(CE_JOB_BUSY 1, 1), (CE_PAWN_HOLDER 1, 2), (CE_OP_OP 1, 4), (CE_OP_GO 1, 1), (CE_KW_K 1, 40), (CE_LEN_LEN 1, 5), (CE_AADLEN_AADLEN 1, 2)] with ce := { engines := [(1, { go := some 0, agent := 2 })], keys := [(8192 + 40, some ({ key := (List.replicate 16 (3 : Byte)), salt := [], ssci := [] } : CeKey)), (8192 + 41, some ({ key := (List.replicate 16 (3 : Byte)), salt := [], ssci := [] } : CeKey))] } }) : State).jobSrc (1 : CeId).val ((({ mk [(CE_JOB_BUSY 1, 1), (CE_PAWN_HOLDER 1, 2), (CE_OP_OP 1, 4), (CE_OP_GO 1, 1), (CE_KW_K 1, 40), (CE_LEN_LEN 1, 5), (CE_AADLEN_AADLEN 1, 2)] with ce := { engines := [(1, { go := some 0, agent := 2 })], keys := [(8192 + 40, some ({ key := (List.replicate 16 (3 : Byte)), salt := [], ssci := [] } : CeKey)), (8192 + 41, some ({ key := (List.replicate 16 (3 : Byte)), salt := [], ssci := [] } : CeKey))] } }) : State).engine (1 : CeId).val).agent).take (2 : Nat)) (((({ mk [(CE_JOB_BUSY 1, 1), (CE_PAWN_HOLDER 1, 2), (CE_OP_OP 1, 4), (CE_OP_GO 1, 1), (CE_KW_K 1, 40), (CE_LEN_LEN 1, 5), (CE_AADLEN_AADLEN 1, 2)] with ce := { engines := [(1, { go := some 0, agent := 2 })], keys := [(8192 + 40, some ({ key := (List.replicate 16 (3 : Byte)), salt := [], ssci := [] } : CeKey)), (8192 + 41, some ({ key := (List.replicate 16 (3 : Byte)), salt := [], ssci := [] } : CeKey))] } }) : State).jobSrc (1 : CeId).val ((({ mk [(CE_JOB_BUSY 1, 1), (CE_PAWN_HOLDER 1, 2), (CE_OP_OP 1, 4), (CE_OP_GO 1, 1), (CE_KW_K 1, 40), (CE_LEN_LEN 1, 5), (CE_AADLEN_AADLEN 1, 2)] with ce := { engines := [(1, { go := some 0, agent := 2 })], keys := [(8192 + 40, some ({ key := (List.replicate 16 (3 : Byte)), salt := [], ssci := [] } : CeKey)), (8192 + 41, some ({ key := (List.replicate 16 (3 : Byte)), salt := [], ssci := [] } : CeKey))] } }) : State).engine (1 : CeId).val).agent).drop (2 : Nat)) ((({ mk [(CE_JOB_BUSY 1, 1), (CE_PAWN_HOLDER 1, 2), (CE_OP_OP 1, 4), (CE_OP_GO 1, 1), (CE_KW_K 1, 40), (CE_LEN_LEN 1, 5), (CE_AADLEN_AADLEN 1, 2)] with ce := { engines := [(1, { go := some 0, agent := 2 })], keys := [(8192 + 40, some ({ key := (List.replicate 16 (3 : Byte)), salt := [], ssci := [] } : CeKey)), (8192 + 41, some ({ key := (List.replicate 16 (3 : Byte)), salt := [], ssci := [] } : CeKey))] } }) : State).jobTag (1 : CeId).val), ({ mk [(CE_JOB_BUSY 1, 1), (CE_PAWN_HOLDER 1, 2), (CE_OP_OP 1, 4), (CE_OP_GO 1, 1), (CE_KW_K 1, 40), (CE_LEN_LEN 1, 5), (CE_AADLEN_AADLEN 1, 2)] with ce := { engines := [(1, { go := some 0, agent := 2 })], keys := [(8192 + 40, some ({ key := (List.replicate 16 (3 : Byte)), salt := [], ssci := [] } : CeKey)), (8192 + 41, some ({ key := (List.replicate 16 (3 : Byte)), salt := [], ssci := [] } : CeKey))] } }), by decide +kernel, by decide +kernel, by decide +kernel, by decide +kernel, by decide +kernel, by decide +kernel, by decide +kernel, by decide +kernel, by decide +kernel, rfl⟩,
   ⟨5, [7, 8], State.reset, by decide +kernel⟩,
   ⟨1, ({ key := (List.replicate 16 (3 : Byte)), salt := [], ssci := [] } : CeKey), ({ key := (List.replicate 16 (3 : Byte)), salt := [], ssci := [] } : CeKey), ({ mk [(CE_JOB_BUSY 1, 1), (CE_PAWN_HOLDER 1, 2), (CE_OP_OP 1, 5), (CE_OP_GO 1, 1), (CE_KW_K 1, 40), (CE_LEN_LEN 1, 5), (CE_KW_W 1, 41)] with ce := { engines := [(1, { go := some 0, agent := 2 })], keys := [(8192 + 40, some ({ key := (List.replicate 16 (3 : Byte)), salt := [], ssci := [] } : CeKey)), (8192 + 41, some ({ key := (List.replicate 16 (3 : Byte)), salt := [], ssci := [] } : CeKey))] } }), by decide +kernel⟩,
   ⟨1, ({ key := (List.replicate 16 (3 : Byte)), salt := [], ssci := [] } : CeKey), 8192+40, ({ mk [(CE_JOB_BUSY 1, 1), (CE_PAWN_HOLDER 1, 2), (CE_OP_OP 1, 6), (CE_OP_GO 1, 1), (CE_D_D 1, 40), (CE_KW_W 1, 41)] with ce := { engines := [(1, { go := some 0, agent := 2 })], keys := [(8192 + 40, some ({ key := (List.replicate 16 (3 : Byte)), salt := [], ssci := [] } : CeKey)), (8192 + 41, some ({ key := (List.replicate 16 (3 : Byte)), salt := [], ssci := [] } : CeKey))] } }), by decide +kernel⟩,
   ⟨1, ({ key := (List.replicate 16 (3 : Byte)), salt := [], ssci := [] } : CeKey), 8192+40, ({ mk [(CE_JOB_BUSY 1, 1), (CE_PAWN_HOLDER 1, 2), (CE_OP_OP 1, 7), (CE_OP_GO 1, 1), (CE_KW_K 1, 40), (CE_LEN_LEN 1, 5), (CE_D_D 1, 40)] with ce := { engines := [(1, { go := some 0, agent := 2 })], keys := [(8192 + 40, some ({ key := (List.replicate 16 (3 : Byte)), salt := [], ssci := [] } : CeKey)), (8192 + 41, some ({ key := (List.replicate 16 (3 : Byte)), salt := [], ssci := [] } : CeKey))] } }), by decide +kernel⟩,
   ⟨1, 8192+40, ({ mk [(CE_JOB_BUSY 1, 1), (CE_PAWN_HOLDER 1, 2), (CE_OP_OP 1, 8), (CE_OP_GO 1, 1), (CE_D_D 1, 40)] with ce := { engines := [(1, { go := some 0, agent := 2 })] } }), by decide +kernel⟩,
   ⟨1, ({ key := (List.replicate 16 (3 : Byte)), salt := [], ssci := [] } : CeKey), ({ key := (List.replicate 16 (3 : Byte)), salt := [], ssci := [] } : CeKey), .la, ({ mk [(CE_JOB_BUSY 1, 1), (CE_PAWN_HOLDER 1, 2), (CE_OP_OP 1, 9), (CE_OP_GO 1, 1), (CE_KW_K 1, 3), (CE_OP_ARG 1, 1)] with ce := { engines := [(1, { go := some 0, agent := 1 })], keys := [(8195, some ({ key := (List.replicate 16 (3 : Byte)), salt := [], ssci := [] } : CeKey)), (8446, some ({ key := (List.replicate 16 (3 : Byte)), salt := [], ssci := [] } : CeKey))] } }), by decide +kernel⟩,
   ⟨1, ({ mk [(CE_JOB_BUSY 1, 1), (CE_PAWN_HOLDER 1, 2), (CE_OP_OP 1, 9), (CE_OP_GO 1, 1), (CE_KW_K 1, 3), (CE_OP_ARG 1, 1)] with ce := { engines := [(1, { go := some 0, agent := 2 })] } }), by decide +kernel⟩,
   ⟨1, ({ mk [(CE_JOB_BUSY 1, 1), (CE_PAWN_HOLDER 1, 2), (CE_OP_OP 1, 1), (CE_OP_GO 1, 1), (CE_KW_K 1, 40), (CE_LEN_LEN 1, 5)] with ce := { engines := [(1, { go := some 0, agent := 2 })] } }), by decide +kernel⟩,
   ⟨1, ({ mk [(CE_JOB_BUSY 1, 1), (CE_PAWN_HOLDER 1, 2), (CE_OP_OP 1, 1), (CE_OP_GO 1, 1)] with ce := { engines := [(1, { go := some 0, agent := 2 })] } }), by decide +kernel⟩,
   ⟨1, 1, 8192+40, 1, (List.replicate 16 (3 : Byte)), ({ mk [(CE_JOB_BUSY 1, 1)] with ce := { engines := [(1, { work := some .service, result := some 1, dest := some (8192 + 40, 1, List.replicate 16 3) })] } }), by decide +kernel⟩,
   ⟨1, ({ mk [(CE_JOB_BUSY 1, 1), (CE_PAWN_HOLDER 1, 2), (CE_OP_OP 1, 1), (CE_OP_GO 1, 1), (CE_OP_DL 1, 5)] with ce := { engines := [(1, { go := some 0, agent := 2 })] }, now := 9000 }), by decide +kernel⟩,
   ⟨1, State.reset, by decide +kernel⟩⟩

/-- What the clauses of `PawnKeysAndUpsets` assume can be met. -/
theorem witness_PawnKeysAndUpsets :
    (∃ (a : Agent) (e : CeId) (v : Nat) (s : State), s.stopped.contains a = false ∧ s.get (CE_PAWN_HOLDER e.val) = 0 ∧ v = pawnCode a) ∧
    (∃ (a : Agent) (e : CeId) (s : State), s.stopped.contains a = false ∧ s.get (CE_PAWN_HOLDER e.val) = pawnCode a) ∧
    (∃ (a : Agent) (e : CeId) (v : Nat) (s : State), s.stopped.contains a = false ∧ (s.get (CE_PAWN_HOLDER e.val) ≠ 0 ∨ v ≠ pawnCode a) ∧ (s.get (CE_PAWN_HOLDER e.val) ≠ pawnCode a ∨ v ≠ 0)) ∧
    (∃ (n : Nat) (w : Word) (s : State), s.Ok ∧ 32 ≤ n ∧ n ≤ 239 ∧ (∀ i, i < 8 → s.heldWord .tenant (0x04A00000 + 0x40 * n + 4 * i) ≠ none) ∧ s.stopped.contains .tenant = false) ∧
    (∃ (n : SaId) (w : Word) (s : State), s.Ok ∧ s.stopped.contains .tenant = false) ∧
    (∃ (a : Agent) (n : Nat) (w : Word) (s : State), s.stopped.contains a = false ∧ a ≠ .host ∧ n < 256 ∧ slotWriter n ≠ some a) ∧
    (∃ (b : Bool) (n : Nat) (s : State), n < (if b then 8192 else 256)) ∧
    (∃ (e : CeId) (s : State), s.Ok ∧ (s.engine e.val).slot = none ∧ s.suspendable e.val = true) ∧
    (∃ (e : CeId) (s : State), ((s.engine e.val).slot ≠ none ∨ s.suspendable e.val = false)) ∧
    (∃ (e : CeId) (f : Nat) (m : Nat) (b : Bool) (s : State), s.Ok ∧ (s.engine e.val).slot = some (.bulk f b m) ∧ (s.engine e.val).work = none) ∧
    (∃ (e : CeId) (s : State), (s.engine e.val).slot = none) ∧
    (∃ (e : CeId) (s : State), s.Ok ∧ (s.engine e.val).work = none ∧ (s.engine e.val).slot = none ∧ s.get (CE_STATUS_STRIKES.part 2 e.val) < 2) ∧
    (∃ (e : CeId) (o : CeId) (s : State), s.Ok ∧ (s.engine e.val).work = none ∧ (s.engine e.val).slot = none ∧ s.get (CE_STATUS_STRIKES.part 2 e.val) = 2 ∧ o ≠ e ∧ s.isSet (CE_STATUS_IN_SERVICE.bit o.val) = true) ∧
    (∃ (e : CeId) (s : State), (s.engine e.val).work = none ∧ (s.engine e.val).slot = none ∧ s.get (CE_STATUS_STRIKES.part 2 e.val) = 2 ∧ s.get CE_STATUS_IN_SERVICE = 2 ^ e.val) ∧
    (∃ (e : CeId) (f : Nat) (m : Nat) (b : Bool) (x : Frame) (s : State), s.Ok ∧ (s.engine e.val).work = some (.bulk f b m) ∧ s.now < m ∧ s.frame f = some x) ∧
    (∃ (e : CeId) (s : State), s.Ok ∧ (s.engine e.val).work = some .service ∧ s.get (CE_STATUS_STRIKES.part 2 e.val) < 2 ∧ s.isSet (CE_STATUS_IN_SERVICE.bit e.val) = true) ∧
    (∃ (a : Agent) (e : CeId) (m : (BitVec 4)) (s : State), s.Ok ∧ s.stopped.contains a = false ∧ a = .tenant ∨ a = .host) ∧
    (∃ (a : Agent) (m : (BitVec 4)) (n : SaId) (b : Bool) (w : Word) (s : State), a ≠ .tenant ∧ a ≠ .host ∧ s.stopped.contains a = false) :=
  ⟨⟨.tenant, 1, 2, State.reset, by decide +kernel⟩,
   ⟨.tenant, 1, mk [(CE_PAWN_HOLDER 1, 2)], by decide +kernel⟩,
   ⟨.tenant, 1, 3, State.reset, by decide +kernel⟩,
   ⟨40, 0, ({ State.reset with aside := (List.range 8).map (fun i => ⟨.tenant, 0x04A00000 + 0x40 * 40 + 4 * i, 0x01020304⟩) }), by decide +kernel⟩,
   ⟨7, 0x80000000, ({ State.reset with aside := (List.range 12).map (fun i => ⟨.tenant, 0x04900000 + 0x40 * 7 + 4 * i, 0x01020304⟩) }), by decide +kernel⟩,
   ⟨.carrier, 40, 0, State.reset, by decide +kernel⟩,
   ⟨false, 40, State.reset, by decide +kernel⟩,
   ⟨1, ({ State.reset with ce := { engines := [(1, { work := some (.bulk 9 true 900) })] } }), by decide +kernel⟩,
   ⟨1, ({ State.reset with ce := { engines := [(1, { work := some (.bulk 9 false 900) })] } }), by decide +kernel⟩,
   ⟨1, 9, 9, true, ({ mk [(CE_STATUS_SUSP.bit 1, 1)] with ce := { engines := [(1, { slot := some (.bulk 9 true 9) })] } }), by decide +kernel⟩,
   ⟨1, State.reset, by decide +kernel⟩,
   ⟨1, mk [(CE_STATUS_STRIKES.part 2 1, 1)], by decide +kernel⟩,
   ⟨1, 2, mk [(CE_STATUS_STRIKES.part 2 1, 2)], by decide +kernel⟩,
   ⟨1, mk [(CE_STATUS_STRIKES.part 2 1, 2), (CE_STATUS_IN_SERVICE, 2)], by decide +kernel⟩,
   ⟨1, 900, 900, true, ({ origin := 5, bytes := List.replicate 100 1, whole := true, checked := true, action := some (2 ^ 62 + 2 * 2 ^ 30 + 5 * 2 ^ 18 + 100 * 2 ^ 49), head := none, queue := some 100 } : Frame), ({ State.reset with frames := [(900, some ({ origin := 5, bytes := List.replicate 100 1, whole := true, checked := true, action := some (2 ^ 62 + 2 * 2 ^ 30 + 5 * 2 ^ 18 + 100 * 2 ^ 49), head := none, queue := some 100 } : Frame))], ce := { engines := [(1, { work := some (.bulk 900 true 900) })] } }), by decide +kernel⟩,
   ⟨1, ({ State.reset with ce := { engines := [(1, { work := some .service, result := some 0 })] } }), by decide +kernel⟩,
   ⟨.tenant, 1, 2, mk [(CE_STATUS_STRIKES.part 2 1, 2), (CE_STATUS_IN_SERVICE, 13)], by decide +kernel⟩,
   ⟨.carrier, 2, 5, true, 5, State.reset, by decide +kernel⟩⟩

/-- What the clauses of `CbrFramers` assume can be met. -/
theorem witness_CbrFramers :
    (∃ (f : Framer) (a : Agent) (s : State), s.cfOn f.val = false ∧ (s.laneCbr (s.get (CF_CFG_LANE f.val)) = false ∨ (s.framerOf (s.get (CF_CFG_LANE f.val))).isSome = true) ∧ s.stopped.contains a = false ∧ a = .tenant ∨ a = .host) ∧
    (∃ (f : Framer) (a : Agent) (s : State), s.Ok ∧ s.cfOn f.val = false ∧ s.laneCbr (s.get (CF_CFG_LANE f.val)) = true ∧ s.framerOf (s.get (CF_CFG_LANE f.val)) = none ∧ s.stopped.contains a = false ∧ a = .tenant ∨ a = .host) ∧
    (∃ (f : Framer) (a : Agent) (g : HeldSeg) (s : State), s.Ok ∧ s.cfOn f.val = true ∧ (s.cf f.val).held = [g] ∧ g.head = none ∧ s.stopped.contains a = false ∧ a = .tenant ∨ a = .host) ∧
    (∃ (f : Framer) (a : Agent) (v : Bool) (s : State), a ≠ .tenant ∧ a ≠ .host ∧ s.stopped.contains a = false) ∧
    (∃ (f : Framer) (p : List Byte) (s : State), s.cfOn f.val = true ∧ p.length = 1024) ∧
    (∃ (f : Framer) (p : List Byte) (s : State), (s.cfOn f.val = false ∨ p.length ≠ 1024)) ∧
    (∃ (g : Nat) (q : Nat) (n : Nat) (d : Nat) (l : Bool) (o : Bool) (i : Bool) (u : Bool), g < 16 ∧ q < 65536 ∧ d < 65536) ∧
    (∃ (f : Framer) (m : Nat) (s : State), s.Ok ∧ s.cfOn f.val = true ∧ (s.cf f.val).aligned = false ∧ s.alignNeed f.val ≤ m) ∧
    (∃ (f : Framer) (m : Nat) (s : State), s.Ok ∧ s.cfOn f.val = true ∧ (s.cf f.val).aligned = true ∧ (if s.get (CF_ALIGN_LOSS_M f.val) = 0 then (if 4 ≤ s.cfSig f.val then 5 else 4) else s.get (CF_ALIGN_LOSS_M f.val)) ≤ m) ∧
    (∃ (f : Framer) (m : Nat) (s : State), (s.cfOn f.val = false ∨ ((s.cf f.val).aligned = false ∧ m < s.alignNeed f.val))) ∧
    (∃ (f : Framer) (v : Bool) (s : State), s.cfOn f.val = true) ∧
    (∃ (f : Framer) (v : Bool) (s : State), s.Ok ∧ s.cfOn f.val = true) ∧
    (∃ (f : Nat) (n : Nat) (v : Bool) (s : State), s.Ok ∧ n < 15 ∧ 0 < n ∧ s.isSet ((CF_STATUS_DEFECT f).bit n) ≠ v ∧ (if v then s.get (CF_INTEG_SET f) else s.get (CF_INTEG_CLEAR f)) ≠ 0) ∧
    (∃ (f : Framer) (n : (Fin 15)) (s : State), s.Ok ∧ 1 < n.val ∧ s.isSet ((CF_FAIL_FAILURE f.val).bit n.val) ≠ s.isSet ((CF_STATUS_DEFECT f.val).bit n.val)) ∧
    (∃ (f : Framer) (n : (Fin 15)) (s : State), (n.val = 1 ∨ s.isSet ((CF_FAIL_FAILURE f.val).bit n.val) = s.isSet ((CF_STATUS_DEFECT f.val).bit n.val)) ∧ n.val ≠ 0) ∧
    (∃ (f : Framer) (o : CbrOverhead) (s : State), s.Ok ∧ s.cfOn f.val = true ∧ (s.cf f.val).aligned = true ∧ s.anyDefect f.val [0, 1, 2] = false ∧ 2 ≤ sget (fun _ => 0) (s.cf f.val).runs 3 ∧ o.code = 7 ∧ s.otn f.val = false ∧ o.trace0 = none ∧ s.get (CF_INTEG_SET f.val) ≠ 0) ∧
    (∃ (f : Framer) (o : CbrOverhead) (s : State), (s.cfOn f.val = false ∨ (s.cf f.val).aligned = false)) ∧
    (∃ (f : Nat) (d : Nat) (m : TraceMsg) (s : State), s.Ok ∧ d < 2 ∧ m.bytes.length = s.traceLen f d ∧ (s.otn f = true ∨ m.bytes.length ≠ 16 ∨ m.crcOk = true) ∧ sget (fun _ => ([], 0)) (s.cf f).cand d = (m.bytes, 2) ∧ sget (fun _ => none) (s.cf f).accepted d ≠ some m.bytes ∧ (if d = 0 then s.get (CF_MON_TMODE0 f) else s.get (CF_MON_TMODE1 f)) = 0) :=
  ⟨⟨3, .tenant, mk [(CF_CFG_LANE 3, 6)], by decide +kernel⟩,
   ⟨3, .tenant, mk [(CL_CFG_MODE 6, 10), (CF_CFG_LANE 3, 6)], by decide +kernel⟩,
   ⟨3, .tenant, ⟨7, 900 * 2 ^ 32, false, false, false, [1], none, 5⟩, ({ mk [(CL_CFG_MODE 6, 10), (CF_CFG_LANE 3, 6), (CF_CFG_EN 3, 1), (CF_CLK_STATE 3, 2)] with cbr := [(3, { held := [⟨7, 900 * 2 ^ 32, false, false, false, [1], none, 5⟩], next := some 4 })] }), by decide +kernel⟩,
   ⟨3, .carrier, true, State.reset, by decide +kernel⟩,
   ⟨3, (List.replicate 1024 5), ({ mk [(CL_CFG_MODE 6, 10), (CF_CFG_LANE 3, 6), (CF_CFG_EN 3, 1)] with cbr := [(3, {})] }), by decide +kernel⟩,
   ⟨3, [], State.reset, by decide +kernel⟩,
   ⟨5, 5, 5, 5, true, true, true, true, by decide +kernel⟩,
   ⟨3, 2, ({ mk [(CL_CFG_MODE 6, 10), (CF_CFG_LANE 3, 6), (CF_CFG_EN 3, 1), ((CF_STATUS_DEFECT 3).bit 1, 1)] with cbr := [(3, {})] }), by decide +kernel⟩,
   ⟨3, 4, ({ mk [(CL_CFG_MODE 6, 10), (CF_CFG_LANE 3, 6), (CF_CFG_EN 3, 1)] with cbr := [(3, { aligned := true })] }), by decide +kernel⟩,
   ⟨3, 1, ({ mk [(CL_CFG_MODE 6, 10), (CF_CFG_LANE 3, 6), (CF_CFG_EN 3, 1)] with cbr := [(3, {})] }), by decide +kernel⟩,
   ⟨3, true, ({ mk [(CL_CFG_MODE 6, 10), (CF_CFG_LANE 3, 6), (CF_CFG_EN 3, 1)] with cbr := [(3, {})] }), by decide +kernel⟩,
   ⟨3, true, ({ mk [(CL_CFG_MODE 6, 10), (CF_CFG_LANE 3, 6), (CF_CFG_EN 3, 1)] with cbr := [(3, {})] }), by decide +kernel⟩,
   ⟨4, 4, true, State.reset, by decide +kernel⟩,
   ⟨3, 4, ({ mk [(CL_CFG_MODE 6, 10), (CF_CFG_LANE 3, 6), (CF_CFG_EN 3, 1), ((CF_STATUS_DEFECT 3).bit 4, 1)] with cbr := [(3, {})] }), by decide +kernel⟩,
   ⟨3, 4, ({ mk [(CL_CFG_MODE 6, 10), (CF_CFG_LANE 3, 6), (CF_CFG_EN 3, 1)] with cbr := [(3, {})] }), by decide +kernel⟩,
   ⟨3, (⟨7, false, false, false, none, false, true, [true], [], none, none⟩ : CbrOverhead), ({ mk [(CL_CFG_MODE 6, 10), (CF_CFG_LANE 3, 6), (CF_CFG_EN 3, 1)] with cbr := [(3, { aligned := true, runs := [(3, 2)] })] }), by decide +kernel⟩,
   ⟨3, (⟨7, false, false, false, none, false, true, [true], [], none, none⟩ : CbrOverhead), ({ mk [(CL_CFG_MODE 6, 10), (CF_CFG_LANE 3, 6), (CF_CFG_EN 3, 1)] with cbr := [(3, {})] }), by decide +kernel⟩,
   ⟨3, 0, ⟨[65], true⟩, ({ mk [(CL_CFG_MODE 6, 10), (CF_CFG_LANE 3, 6), (CF_MON_TLEN0 3, 0)] with cbr := [(3, { cand := [(0, ([65], 2))] })] }), by decide +kernel⟩⟩

/-- What the clauses of `CbrPlayoutAndBins` assume can be met. -/
theorem witness_CbrPlayoutAndBins :
    (∃ (n : Nat) (q : Nat), n < 65536 ∧ q < 65536) ∧
    (∃ (f : Nat) (o : Nat) (x : Frame) (s : State), segOffset s f x.bytes = some o ∧ segBehind (s.cf f).next (sliceNum ((x.bytes.drop o).take 16) 2 2) = true) ∧
    (∃ (f : Nat) (o : Nat) (x : Frame) (s : State), segOffset s f x.bytes = some o ∧ segBehind (s.cf f).next (sliceNum ((x.bytes.drop o).take 16) 2 2) = false ∧ (s.cf f).held.any (fun g => g.seq = sliceNum ((x.bytes.drop o).take 16) 2 2) = false) ∧
    (∃ (f : Framer) (i : Nat) (n : Nat) (x : Frame) (s : State), s.Ok ∧ n = s.get (CF_CFG_LANE f.val) ∧ s.cfOn f.val = true ∧ s.laneCbr n = true ∧ s.stageOf n = [i] ∧ s.frame i = some x ∧ x.ready = true ∧ segOffset s f.val x.bytes = none) ∧
    (∃ (f : Framer) (i : Nat) (n : Nat) (x : Frame) (g : HeldSeg) (s : State), s.Ok ∧ n = s.get (CF_CFG_LANE f.val) ∧ s.cfOn f.val = true ∧ s.laneCbr n = true ∧ s.stageOf n = [i] ∧ s.frame i = some x ∧ x.ready = true ∧ judgeSeg s f.val x = (1, none, some g) ∧ (s.cf f.val).next ≠ none) ∧
    (∃ (f : Framer) (z : Int) (s : State), s.cfOn f.val = false) ∧
    (∃ (f : Framer) (z : Int) (n : Nat) (s : State), s.Ok ∧ s.cfOn f.val = true ∧ (s.cf f.val).next = some n ∧ n < 65536 ∧ (s.cf f.val).held.find? (fun g => g.seq = n) = none) ∧
    (∃ (f : Framer) (z : Int) (g : HeldSeg) (n : Nat) (s : State), s.Ok ∧ s.cfOn f.val = true ∧ (s.cf f.val).next = some n ∧ (s.cf f.val).held = [g] ∧ g.seq = n ∧ g.head = none ∧ g.los = false ∧ g.lof = false ∧ g.tunl = false ∧ (s.cf f.val).sample = none) ∧
    (∃ (f : Framer) (z : Int) (g : HeldSeg) (n : Nat) (s : State), s.cfOn f.val = true ∧ (s.cf f.val).next = some n ∧ (s.cf f.val).held = [g] ∧ g.seq = n ∧ g.head = none ∧ (g.los = true ∨ g.lof = true)) ∧
    (∃ (f : Nat) (z : Int) (p : Int) (s : State), s.Ok ∧ (s.cf f).sample = some p ∧ ((z - (s.cf f).buildOut) - p > 1000 * 2 ^ 32 ∨ p - (z - (s.cf f).buildOut) > 1000 * 2 ^ 32)) ∧
    (∃ (f : Framer) (s : State), s.Ok ∧ s.cfOn f.val = true ∧ (s.cf f.val).sample ≠ none ∧ (s.get (CF_CLK_STATE f.val) = 0 ∨ s.get (CF_CLK_STATE f.val) = 3)) ∧
    (∃ (f : Framer) (m : Nat) (s : State), s.Ok ∧ s.cfOn f.val = true ∧ (s.cf f.val).goodSince = some m ∧ s.get (CF_CLK_STATE f.val) = 1 ∧ s.now ≤ m + 10000000000) ∧
    (∃ (f : Framer) (v : Int) (s : State), s.Ok ∧ s.cfOn f.val = true ∧ (s.cf f.val).sample = some v ∧ s.get (CF_CLK_STATE f.val) = 2) ∧
    (∃ (f : Framer) (s : State), s.Ok ∧ s.cfOn f.val = true ∧ (s.get (CF_CLK_STATE f.val) = 1 ∨ s.get (CF_CLK_STATE f.val) = 2)) ∧
    (∃ (f : Framer) (y : ResyncCause) (s : State), s.Ok ∧ s.cfOn f.val = true ∧ (y = .farStep ∨ (y = .drift ∧ 16 ≤ (s.cf f.val).farOff)) ∧ (s.cf f.val).held = []) ∧
    (∃ (f : Framer) (a : Agent) (s : State), s.cfOn f.val = true ∧ s.stopped.contains a = false ∧ a = .tenant ∨ a = .host) ∧
    (∃ (f : Nat) (l : Nat) (s : State), s.usedLayer f l = true) ∧
    (∃ (f : Framer) (s : State), s.cfOn f.val = true) ∧
    (∃ (f : Framer) (y : PmSecond) (ys : List PmSecond) (s : State), s.Ok ∧ (s.cf f.val).seconds = y :: ys ∧ 9 ≤ ys.length ∧ y.gen15 = (s.cf f.val).gen15 ∧ y.gen24 = (s.cf f.val).gen24) ∧
    (∃ (f : Framer) (s : State), ((s.cf f.val).seconds = [] ∨ ((s.cf f.val).seconds.length < 10 ∧ s.cfOn f.val = true))) :=
  ⟨⟨5, 5, by decide +kernel⟩,
   ⟨3, 14, ({ origin := 6, bytes := (List.replicate 12 (1 : Byte) ++ [0x88, 0xB5] ++ [18, 0, 0, 7, 0, 0, 0, 0, 0, 0, 0, 0, 0, 0, 176, 226] ++ List.replicate 1028 5), whole := true, checked := true, head := none } : Frame), ({ mk [(CL_CFG_MODE 6, 10), (CF_CFG_LANE 3, 6), (CF_CFG_EN 3, 1)] with cbr := [(3, { next := some 9 })] }), by decide +kernel⟩,
   ⟨3, 14, ({ origin := 6, bytes := (List.replicate 12 (1 : Byte) ++ [0x88, 0xB5] ++ [18, 0, 0, 7, 0, 0, 0, 0, 0, 0, 0, 0, 0, 0, 176, 226] ++ List.replicate 1028 5), whole := true, checked := true, head := none } : Frame), ({ mk [(CL_CFG_MODE 6, 10), (CF_CFG_LANE 3, 6), (CF_CFG_EN 3, 1)] with cbr := [(3, { next := some 7 })] }), by decide +kernel⟩,
   ⟨3, 9, 6, ({ origin := 6, bytes := List.replicate 100 1, whole := true, checked := true, head := none } : Frame), ({ mk [(CL_CFG_MODE 6, 10), (CF_CFG_LANE 3, 6), (CF_CFG_EN 3, 1)] with cbr := [(3, {})], frames := [(9, some ({ origin := 6, bytes := List.replicate 100 1, whole := true, checked := true, head := none } : Frame))], qs := { egress := [(6, [9])] } }), by decide +kernel⟩,
   ⟨3, 9, 6, ({ origin := 6, bytes := (List.replicate 12 (1 : Byte) ++ [0x88, 0xB5] ++ [18, 0, 0, 7, 0, 0, 0, 0, 0, 0, 0, 0, 0, 0, 176, 226] ++ List.replicate 1028 5), whole := true, checked := true, head := none } : Frame), ⟨7, 0, false, false, false, (List.replicate 1024 5), none, 0⟩, ({ mk [(CL_CFG_MODE 6, 10), (CF_CFG_LANE 3, 6), (CF_CFG_EN 3, 1)] with cbr := [(3, { next := some 7 })], frames := [(9, some ({ origin := 6, bytes := (List.replicate 12 (1 : Byte) ++ [0x88, 0xB5] ++ [18, 0, 0, 7, 0, 0, 0, 0, 0, 0, 0, 0, 0, 0, 176, 226] ++ List.replicate 1028 5), whole := true, checked := true, head := none } : Frame))], qs := { egress := [(6, [9])] } }), by decide +kernel⟩,
   ⟨3, 0, State.reset, by decide +kernel⟩,
   ⟨3, 0, 65535, ({ mk [(CL_CFG_MODE 6, 10), (CF_CFG_LANE 3, 6), (CF_CFG_EN 3, 1)] with cbr := [(3, { next := some 65535 })] }), by decide +kernel⟩,
   ⟨3, 50, ⟨7, 900 * 2 ^ 32, false, false, false, [1], none, 5⟩, 7, ({ mk [(CL_CFG_MODE 6, 10), (CF_CFG_LANE 3, 6), (CF_CFG_EN 3, 1)] with cbr := [(3, { next := some 7, held := [⟨7, 900 * 2 ^ 32, false, false, false, [1], none, 5⟩] })] }), by decide +kernel⟩,
   ⟨3, 50, ⟨7, 900 * 2 ^ 32, true, false, false, [1], none, 5⟩, 7, ({ mk [(CL_CFG_MODE 6, 10), (CF_CFG_LANE 3, 6), (CF_CFG_EN 3, 1)] with cbr := [(3, { next := some 7, held := [⟨7, 900 * 2 ^ 32, true, false, false, [1], none, 5⟩] })] }), by decide +kernel⟩,
   ⟨3, 0, 21474836480000, ({ mk [(CL_CFG_MODE 6, 10), (CF_CFG_LANE 3, 6), (CF_CFG_EN 3, 1)] with cbr := [(3, { sample := some (5000 * 2 ^ 32) })] }), by decide +kernel⟩,
   ⟨3, ({ mk [(CL_CFG_MODE 6, 10), (CF_CFG_LANE 3, 6), (CF_CFG_EN 3, 1)] with cbr := [(3, { sample := some 5 })] }), by decide +kernel⟩,
   ⟨3, 5, ({ mk [(CL_CFG_MODE 6, 10), (CF_CFG_LANE 3, 6), (CF_CFG_EN 3, 1), (CF_CLK_STATE 3, 1)] with cbr := [(3, { goodSince := some 5 })] }), by decide +kernel⟩,
   ⟨3, 5000000000000, ({ mk [(CL_CFG_MODE 6, 10), (CF_CFG_LANE 3, 6), (CF_CFG_EN 3, 1), (CF_CLK_STATE 3, 2)] with cbr := [(3, { sample := some 5000000000000 })] }), by decide +kernel⟩,
   ⟨3, ({ mk [(CL_CFG_MODE 6, 10), (CF_CFG_LANE 3, 6), (CF_CFG_EN 3, 1), (CF_CLK_STATE 3, 2)] with cbr := [(3, {})] }), by decide +kernel⟩,
   ⟨3, .farStep, ({ mk [(CL_CFG_MODE 6, 10), (CF_CFG_LANE 3, 6), (CF_CFG_EN 3, 1)] with cbr := [(3, { next := some 4, buildOut := 9 })] }), by decide +kernel⟩,
   ⟨3, .tenant, ({ mk [(CL_CFG_MODE 6, 10), (CF_CFG_LANE 3, 6), (CF_CFG_EN 3, 1)] with cbr := [(3, { next := some 4 })] }), by decide +kernel⟩,
   ⟨0, 0, ({ mk [(CL_CFG_MODE 6, 10), (CF_CFG_LANE 3, 6), (CF_CFG_EN 3, 1)] with cbr := [(3, { blocks := 10, errored := [(0, 3)] })] }), by decide +kernel⟩,
   ⟨3, ({ mk [(CL_CFG_MODE 6, 10), (CF_CFG_LANE 3, 6), (CF_CFG_EN 3, 1)] with cbr := [(3, { blocks := 10, errored := [(0, 3)] })] }), by decide +kernel⟩,
   ⟨3, ⟨0, 0, List.replicate 8 ⟨true, true, 0, true⟩⟩, (List.replicate 9 ⟨0, 0, []⟩), ({ mk [(CL_CFG_MODE 6, 10), (CF_CFG_LANE 3, 6), (CF_CFG_EN 3, 1)] with cbr := [(3, { seconds := ⟨0, 0, List.replicate 8 ⟨true, true, 0, true⟩⟩ :: List.replicate 9 ⟨0, 0, []⟩ })] }), by decide +kernel⟩,
   ⟨3, State.reset, by decide +kernel⟩⟩

end Sys2Proof.Machine
end

