-- ==== Sys2Proof/Tests/WitnessLine.lean ====
section
/-! SUPPORT. Witnesses: for each statement a state and operands that meet the hypotheses of each of its clauses, clause by
clause (line engines, protection and time). -/
namespace Sys2Proof.Machine

-- One after another: theorems that wait for the kernel side by side each hold a thread.
set_option Elab.async false
set_option linter.unusedVariables false

/-- What the clauses of `StepRunsFront` assume can be met. -/
theorem witness_StepRunsFront :
    (∃ (i : Instr) (q : List Instr) (s : State), s.pending = i :: q) :=
  ⟨.skewWindowExpiry .la 5, [], ({ State.reset with pending := [.skewWindowExpiry .la 5] }), by decide +kernel⟩

/-- What the clauses of `IdleTick` assume can be met. -/
theorem witness_IdleTick :
    (∃ (s : State), s.pending = []) :=
  ⟨State.reset, by decide +kernel⟩

/-- What the clauses of `QueueUntouched` assume can be met. -/
theorem witness_QueueUntouched :
    (∃ (i : Instr) (s : State) (t : State), exec i s = .next t) ∧
    (∃ (s : State) (t : State), step s = .next t) :=
  ⟨⟨.bondIn .la 1, State.reset, _, rfl⟩,
   ⟨({ State.reset with pending := [.bondIn .la 1] }), _, rfl⟩⟩

/-- What the clauses of `StepKeepsCanonical` assume can be met. -/
theorem witness_StepKeepsCanonical :
    (∃ (s : State) (t : State), s.Ok ∧ step s = .next t) :=
  ⟨State.reset, _, by decide, rfl⟩

/-- What the clauses of `ResetState` assume can be met. -/
theorem witness_ResetState :
    (∃ (n : Nat), n < 4) :=
  ⟨3, by decide +kernel⟩

/-- What the clauses of `RefusedAccesses` assume can be met. -/
theorem witness_RefusedAccesses :
    (∃ (a : Agent) (x : Nat) (n : Nat) (w : Word) (s : State), s.stopped.contains a = false ∧ (n ≠ 4 ∨ x % 4 ≠ 0 ∨ a ∉ s.writersOf x)) ∧
    (∃ (a : Agent) (x : Nat) (n : Nat) (s : State), s.stopped.contains a = false ∧ (n ≠ 4 ∨ x % 4 ≠ 0 ∨ a ∉ s.readersOf x)) ∧
    (∃ (a : Agent) (x : Nat) (n : Nat) (w : Word) (s : State), s.stopped.contains a = true) ∧
    (∃ (a : Agent) (m : Nat) (s : State), s.Ok ∧ agentBlock a = some m) :=
  ⟨⟨.carrier, 6, 4, 1, State.reset, by decide +kernel⟩,
   ⟨.carrier, 6, 4, State.reset, by decide +kernel⟩,
   ⟨.carrier, 4, 4, 1, ({ State.reset with stopped := [.carrier] }), by decide +kernel⟩,
   ⟨.carrier, 0, State.reset, by decide +kernel⟩⟩

/-- What the clauses of `AccessCodes` assume can be met. -/
theorem witness_AccessCodes :
    (∃ (r : RegDesc) (f : FieldDesc) (i : Nat) (a : Agent) (old : Word) (w : Word), r.wellMade = true ∧ f ∈ r.fields ∧ f.word = i ∧ f.takesFrom a = true ∧ (f.acc = .rw ∨ f.acc = .wo)) ∧
    (∃ (r : RegDesc) (f : FieldDesc) (i : Nat) (a : Agent) (old : Word) (w : Word) (b : Nat), r.wellMade = true ∧ f ∈ r.fields ∧ f.word = i ∧ f.takesFrom a = true ∧ f.lo ≤ b ∧ b ≤ f.hi) ∧
    (∃ (r : RegDesc) (f : FieldDesc) (i : Nat) (a : Agent) (old : Word) (w : Word), r.wellMade = true ∧ f ∈ r.fields ∧ f.word = i ∧ (f.acc = .ro ∨ f.acc = .rc ∨ f.takesFrom a = false)) ∧
    (∃ (r : RegDesc) (i : Nat) (a : Agent) (old : Word) (w : Word) (b : Nat), r.wellMade = true ∧ (∀ f ∈ r.fields, f.word = i → b < f.lo ∨ f.hi < b)) ∧
    (∃ (r : RegDesc) (f : FieldDesc) (i : Nat) (w : Word), r.wellMade = true ∧ f ∈ r.fields ∧ f.word = i) :=
  ⟨⟨{ base := 0x08C00000, dims := [], readers := [.carrier], writers := [.carrier], wide := 1, fields := [{ hi := 31, lo := 24, acc := .rw }, { hi := 23, lo := 16, acc := .w1c }, { hi := 7, lo := 0, acc := .ro }] }, { hi := 31, lo := 24, acc := .rw }, 0, .carrier, 0xA5A5A5A5, 0x5A5A5A5A, by decide +kernel⟩,
   ⟨{ base := 0x08C00000, dims := [], readers := [.carrier], writers := [.carrier], wide := 1, fields := [{ hi := 31, lo := 24, acc := .rw }, { hi := 23, lo := 16, acc := .w1c }, { hi := 7, lo := 0, acc := .ro }] }, { hi := 23, lo := 16, acc := .w1c }, 0, .carrier, 0xA5A5A5A5, 0x5A5A5A5A, 23, by decide +kernel⟩,
   ⟨{ base := 0x08C00000, dims := [], readers := [.carrier], writers := [.carrier], wide := 1, fields := [{ hi := 31, lo := 24, acc := .rw }, { hi := 23, lo := 16, acc := .w1c }, { hi := 7, lo := 0, acc := .ro }] }, { hi := 7, lo := 0, acc := .ro }, 0, .carrier, 0xA5A5A5A5, 0x5A5A5A5A, by decide +kernel⟩,
   ⟨{ base := 0x08C00000, dims := [], readers := [.carrier], writers := [.carrier], wide := 1, fields := [{ hi := 31, lo := 24, acc := .rw }, { hi := 23, lo := 16, acc := .w1c }, { hi := 7, lo := 0, acc := .ro }] }, 0, .carrier, 0xA5A5A5A5, 0x5A5A5A5A, 8, by decide +kernel⟩,
   ⟨{ base := 0x08C00000, dims := [], readers := [.carrier], writers := [.carrier], wide := 1, fields := [{ hi := 31, lo := 24, acc := .rw }, { hi := 23, lo := 16, acc := .w1c }, { hi := 7, lo := 0, acc := .ro }] }, { hi := 23, lo := 16, acc := .w1c }, 0, 0x5A5A5A5A, by decide +kernel⟩⟩

/-- What the clauses of `RegisterWrites` assume can be met. -/
theorem witness_RegisterWrites :
    (∃ (x : Nat) (w : Word) (r : RegDesc) (i : Nat) (s : State), s.stopped.contains .carrier = false ∧ x % 4 = 0 ∧ regAt x = some (r, i) ∧ r.wide = 1 ∧ Agent.carrier ∈ r.writers ∧ s.reachable x ∧ (0x08400000 ≤ x ∧ x < 0x08800000 ∨ 0x0C400000 ≤ x ∧ x < 0x0C800000) ∧ x ≠ BOND_CTRL 0 ∧ x ≠ BOND_CTRL 1) ∧
    (∃ (x : Nat) (w : Word) (r : RegDesc) (i : Nat) (s : State), s.stopped.contains .carrier = false ∧ x % 4 = 0 ∧ regAt x = some (r, i) ∧ r.wide = 1 ∧ Agent.carrier ∈ r.writers ∧ s.reachable x ∧ (0x08C00000 ≤ x ∧ x < 0x09000000 ∨ 0x0CC00000 ≤ x ∧ x < 0x0D000000) ∧ x ≠ PFE_CTRL 0 ∧ x ≠ PFE_CTRL 1) :=
  ⟨⟨0x08400004, 0x7D00, ((regAt 0x08400004).getD ({ base := 0, dims := [], readers := [], writers := [], wide := 1, fields := [] }, 0)).1, 0, State.reset, by decide +kernel⟩,
   ⟨0x08C0000C, 0x7D00, ((regAt 0x08C0000C).getD ({ base := 0, dims := [], readers := [], writers := [], wide := 1, fields := [] }, 0)).1, 0, State.reset, by decide +kernel⟩⟩

/-- What the clauses of `WideReads` assume can be met. -/
theorem witness_WideReads :
    (∃ (x : Nat) (r : RegDesc) (s : State), s.stopped.contains .carrier = false ∧ x % 4 = 0 ∧ regAt x = some (r, 0) ∧ 1 < r.wide ∧ Agent.carrier ∈ r.readers ∧ s.reachable x ∧ 0x08000000 ≤ x ∧ x < 0x10000000) ∧
    (∃ (x : Nat) (r : RegDesc) (i : Nat) (y : Snapshot) (s : State), s.stopped.contains .carrier = false ∧ x % 4 = 0 ∧ regAt x = some (r, i) ∧ 1 < r.wide ∧ 0 < i ∧ Agent.carrier ∈ r.readers ∧ s.reachable x ∧ 0x08000000 ≤ x ∧ x < 0x10000000 ∧ s.snaps.find? (fun z => z.agent = .carrier && z.addr = x - 4 * i) = some y) ∧
    (∃ (x : Nat) (r : RegDesc) (i : Nat) (s : State), s.stopped.contains .carrier = false ∧ x % 4 = 0 ∧ regAt x = some (r, i) ∧ 1 < r.wide ∧ 0 < i ∧ Agent.carrier ∈ r.readers ∧ s.reachable x ∧ 0x08000000 ≤ x ∧ x < 0x10000000 ∧ s.snaps.find? (fun z => z.agent = .carrier && z.addr = x - 4 * i) = none) ∧
    (∃ (b : Nat) (s : State), b < 64 ∧ s.stopped.contains .tenant = false ∧ s.reachable (BM_BAG_LOW b)) ∧
    (∃ (e : Engine) (s : State), s.stopped.contains .carrier = false ∧ s.reachable (BOND_BUF e.n)) ∧
    (∃ (e : Engine) (s : State), s.stopped.contains .carrier = false ∧ s.reachable (BURST_ROOM e.n)) :=
  ⟨⟨0x08400100, ((regAt 0x08400100).getD ({ base := 0, dims := [], readers := [], writers := [], wide := 1, fields := [] }, 0)).1, State.reset, by decide +kernel⟩,
   ⟨0x08400104, ((regAt 0x08400104).getD ({ base := 0, dims := [], readers := [], writers := [], wide := 1, fields := [] }, 0)).1, 1, ⟨.carrier, 0x08400100, [5, 6]⟩, { State.reset with snaps := [⟨.carrier, 0x08400100, [5, 6]⟩] }, by decide +kernel⟩,
   ⟨0x08400104, ((regAt 0x08400104).getD ({ base := 0, dims := [], readers := [], writers := [], wide := 1, fields := [] }, 0)).1, 1, State.reset, by decide +kernel⟩,
   ⟨3, mk [(BM_BAG_LOW_LOW 3, 5), (BM_BAG_FREE_FREE 3, 9)], by decide +kernel⟩,
   ⟨.la, mk [(⟨BOND_BUF 0, 31, 16⟩, 5), (⟨BOND_BUF 0, 15, 0⟩, 2)], by decide +kernel⟩,
   ⟨.la, mk [(⟨BURST_ROOM 0, 28, 16⟩, 5), (⟨BURST_ROOM 0, 12, 0⟩, 2)], by decide +kernel⟩⟩

/-- What the clauses of `WideWrites` assume can be met. -/
theorem witness_WideWrites :
    (∃ (e : Engine) (i : Nat) (w : Word) (s : State), i < 3 ∧ s.stopped.contains .carrier = false ∧ s.reachable (TC_TOD_TIME e.n + 4 * i)) ∧
    (∃ (e : Engine) (w : Word) (ws : List Word) (s : State), s.Ok ∧ s.stopped.contains .carrier = false ∧ s.reachable (TC_TOD_TIME e.n + 12) ∧ ws = s.wideWords .carrier (TC_TOD_TIME e.n) 4 w ∧ (ws.getD 2 0).field 29 0 ≤ 999999999) ∧
    (∃ (e : Engine) (w : Word) (s : State), s.stopped.contains .carrier = false ∧ s.reachable (TC_TOD_TIME e.n + 12) ∧ 999999999 < ((s.wideWords .carrier (TC_TOD_TIME e.n) 4 w).getD 2 0).field 29 0) :=
  ⟨⟨.la, 1, 9, State.reset, by decide +kernel⟩,
   ⟨.la, 9, [7, 0, 5, 9], ({ State.reset with aside := [⟨.carrier, 0x08000304, 7⟩, ⟨.carrier, 0x0800030C, 5⟩, ⟨.tenant, 0x08000304, 1⟩] }), by decide +kernel⟩,
   ⟨.la, 9, ({ State.reset with aside := [⟨.carrier, 0x0800030C, 1000000000⟩] }), by decide +kernel⟩⟩

/-- What the clauses of `InhibitAndRogueLight` assume can be met. -/
theorem witness_InhibitAndRogueLight :
    (∃ (n : Nat) (s : State), n < 20) ∧
    (∃ (n : Nat) (s : State), 20 ≤ n ∧ n < 100) ∧
    (∃ (n : Nat) (s : State), 100 ≤ n ∧ (∀ e c, (s.ch e c).gate = false)) ∧
    (∃ (n : Nat) (s : State), 100 ≤ n ∧ s.inhibited .la = true ∧ s.engineHeld .la = false ∧ s.Ok) ∧
    (∃ (n : Nat) (s : State), n < 100) ∧
    (∃ (e : Engine) (c : Ch) (n : Nat) (s : State), s.mayEmit e c = false ∧ 200 ≤ n ∧ (s.ch e c).gate = false) ∧
    (∃ (e : Engine) (c : Ch) (n : Nat) (s : State), (s.mayEmit e c = true ∨ n < 200)) ∧
    (∃ (e : Engine) (m : BitVec 4) (s : State), s.Ok ∧ s.stopped.contains .carrier = false) ∧
    (∃ (a : Agent) (e : Engine) (m : BitVec 4) (s : State), a ≠ .carrier ∧ s.stopped.contains a = false) :=
  ⟨⟨19, State.reset, by decide +kernel⟩,
   ⟨20, State.reset, by decide +kernel⟩,
   ⟨100, State.reset, by decide +kernel, fun _ _ => rfl⟩,
   ⟨100, State.reset, by decide +kernel⟩,
   ⟨99, State.reset, by decide +kernel⟩,
   ⟨.lb, 1, 200, State.reset, by decide +kernel⟩,
   ⟨.la, 1, 199, State.reset, by decide +kernel⟩,
   ⟨.la, 5, mk [(PFE_STATUS_ROGUE_OFF 0, 7)], by decide +kernel⟩,
   ⟨.tenant, .la, 5, State.reset, by decide +kernel⟩⟩

/-- What the clauses of `CoolerAndReceivers` assume can be met. -/
theorem witness_CoolerAndReceivers :
    (∃ (e : Engine) (d : Int) (s : State), -100 ≤ d ∧ d ≤ 100) ∧
    (∃ (e : Engine) (d : Int) (s : State), (d < -100 ∨ 100 < d)) ∧
    (∃ (e : Engine) (d : Int) (s : State), s.Ok ∧ (d < -300 ∨ 300 < d) ∧ s.isSet (PFE_STATUS_TEMP_GATE e.n) = false ∧ (s.ch e 0).gate = false ∧ (s.ch e 1).gate = false ∧ (s.ch e 2).gate = false ∧ (s.ch e 3).gate = false) ∧
    (∃ (e : Engine) (d : Int) (s : State), s.Ok ∧ -100 < d ∧ d < 100 ∧ s.isSet (PFE_STATUS_TEMP_GATE e.n) = true) ∧
    (∃ (e : Engine) (d : Int) (s : State), s.Ok ∧ (if s.isSet (PFE_STATUS_TEMP_GATE e.n) then d ≤ -100 ∨ 100 ≤ d else -300 ≤ d ∧ d ≤ 300)) ∧
    (∃ (e : Engine) (c : Ch) (p : Int) (s : State), s.defectsMuted e c = false ∧ s.isSet ((PFE_STATUS_RX_LOS e.n).bit c.val) = false ∧ (s.isSet ((PFE_CTRL_RX_EN e.n).bit c.val) = false ∨ p < -2800)) ∧
    (∃ (e : Engine) (c : Ch) (p : Int) (s : State), s.defectsMuted e c = false ∧ s.isSet ((PFE_STATUS_RX_LOS e.n).bit c.val) = true ∧ s.isSet ((PFE_CTRL_RX_EN e.n).bit c.val) = true ∧ -2700 < p) ∧
    (∃ (e : Engine) (c : Ch) (p : Int) (s : State), (s.defectsMuted e c = true ∨ (if s.isSet ((PFE_STATUS_RX_LOS e.n).bit c.val) then s.isSet ((PFE_CTRL_RX_EN e.n).bit c.val) = false ∨ p ≤ -2700 else s.isSet ((PFE_CTRL_RX_EN e.n).bit c.val) = true ∧ -2800 ≤ p))) ∧
    (∃ (e : Engine) (c : Ch) (s : State), s.locked e c = true ∧ (s.ch e c).wakeReturn = false) ∧
    (∃ (e : Engine) (c : Ch) (s : State), s.locked e c = false) ∧
    (∃ (e : Engine) (t0 : Telemetry) (s : State), s.Ok ∧ t0.wf = true ∧ s.engineHeld e = false) :=
  ⟨⟨.la, 50, State.reset, by decide +kernel⟩,
   ⟨.la, -101, State.reset, by decide +kernel⟩,
   ⟨.la, 301, State.reset, by decide +kernel⟩,
   ⟨.la, 99, mk [(PFE_STATUS_TEMP_GATE 0, 1)], by decide +kernel⟩,
   ⟨.la, 300, State.reset, by decide +kernel⟩,
   ⟨.la, 1, -2801, mk [(PFE_CTRL_RX_EN 0, 15), (PFE_STATUS_RX_LOS 0, 0)], by decide +kernel⟩,
   ⟨.la, 1, -2699, mk [(PFE_CTRL_RX_EN 0, 15)], by decide +kernel⟩,
   ⟨.la, 1, -2700, mk [(PFE_CTRL_RX_EN 0, 15)], by decide +kernel⟩,
   ⟨.la, 1, mk [(TC_DS_STATUS_LOCK 0, 15)], by decide +kernel⟩,
   ⟨.la, 1, State.reset, by decide +kernel⟩,
   ⟨.la, ⟨[700, 0, 650, 0], [5, 6, 7, 8], [-4001, -2000, -4000, -500], [1, 2, 3, 4], 4510, -20⟩, mk [(PFE_CTRL_RX_EN 0, 15)], by decide +kernel⟩⟩

/-- What the clauses of `ActivationByFirmware` assume can be met. -/
theorem witness_ActivationByFirmware :
    (∃ (e : Engine) (s : State), s.Ok ∧ s.stopped.contains .carrier = false ∧ s.engineHeld e = false ∧ s.act e 0 = 0) ∧
    (∃ (e : Engine) (s : State), s.Ok ∧ s.stopped.contains .carrier = false ∧ s.engineHeld e = false) ∧
    (∃ (e : Engine) (c : Ch) (s : State), s.Ok ∧ s.stopped.contains .carrier = false ∧ s.engineHeld e = false ∧ c ≠ 0 ∧ s.act e 0 = 5 ∧ s.act e c = 0 ∧ (s.ch e c).hold = false) ∧
    (∃ (e : Engine) (c : Ch) (s : State), s.Ok ∧ s.stopped.contains .carrier = false ∧ s.engineHeld e = false ∧ c ≠ 0) ∧
    (∃ (e : Engine) (s : State), s.Ok ∧ s.stopped.contains .carrier = false ∧ s.engineHeld e = false ∧ s.act e 0 = 5) ∧
    (∃ (e : Engine) (s : State), s.stopped.contains .carrier = false ∧ (s.act e 0 = 7 ∨ s.act e 0 = 0)) ∧
    (∃ (e : Engine) (c : Ch) (v : Bool) (s : State), s.stopped.contains .carrier = false ∧ s.engineHeld e = true) ∧
    (∃ (a : Agent) (e : Engine) (c : Ch) (v : Bool) (s : State), s.stopped.contains a = false ∧ a ≠ .carrier) :=
  ⟨⟨.la, State.reset, by decide +kernel⟩,
   ⟨.la, mk [(actStateF .la 0, 5), (actStateF .la 2, 4)], by decide +kernel⟩,
   ⟨.la, 1, mk [(actStateF .la 0, 5)], by decide +kernel⟩,
   ⟨.la, 1, mk [(actStateF .la 0, 5), (actStateF .la 1, 5)], by decide +kernel⟩,
   ⟨.la, mk [(actStateF .la 0, 5), (actStateF .la 1, 5), (TC_ONU_ID_ONU_ID 0, 37)], by decide +kernel⟩,
   ⟨.la, mk [(actStateF .la 0, 7)], by decide +kernel⟩,
   ⟨.la, 1, true, ({ State.reset with kp := { State.reset.kp with asserted := 24576 } }), by decide +kernel⟩,
   ⟨.tenant, .la, 1, true, State.reset, by decide +kernel⟩⟩

/-- What the clauses of `PloamMessages` assume can be met. -/
theorem witness_PloamMessages :
    (∃ (e : Engine) (c : Ch) (p : ProfileMsg) (q : Nat) (s : State), s.Ok ∧ s.engineHeld e = false ∧ s.act e c = 2 ∧ p.index ≤ 3 ∧ (p.profile.rate = 124416 ∨ p.profile.rate = 248832 ∨ p.profile.rate = 497664)) ∧
    (∃ (e : Engine) (c : Ch) (p : ProfileMsg) (q : Nat) (s : State), 1 < s.act e c ∧ (3 < p.index ∨ (p.profile.rate ≠ 124416 ∧ p.profile.rate ≠ 248832 ∧ p.profile.rate ≠ 497664))) ∧
    (∃ (e : Engine) (id : Nat) (q : Nat) (s : State), s.Ok ∧ s.engineHeld e = false ∧ s.act e 0 = 3 ∧ id ≤ 1020) ∧
    (∃ (e : Engine) (c : Ch) (v : Int) (q : Nat) (s : State), s.Ok ∧ s.engineHeld e = false ∧ s.act e c = 4 ∧ 0 ≤ v ∧ v < 2 ^ 26) ∧
    (∃ (e : Engine) (c : Ch) (v : Int) (q : Nat) (s : State), s.Ok ∧ s.act e c = 5 ∧ (s.eqd e c : Int) + v < 0) ∧
    (∃ (e : Engine) (c : Ch) (q : Nat) (s : State), s.Ok ∧ c ≠ 0 ∧ 1 < s.act e c ∧ s.act e 0 ≠ 7) ∧
    (∃ (e : Engine) (q : Nat) (s : State), s.Ok ∧ s.engineHeld e = false ∧ s.act e 0 = 5) ∧
    (∃ (e : Engine) (q : Nat) (s : State), s.Ok ∧ s.engineHeld e = false ∧ s.act e 0 = 7) ∧
    (∃ (e : Engine) (c : Ch) (q : Nat) (s : State), 1 < s.act e c) ∧
    (∃ (e : Engine) (c : Ch) (q : Nat) (s : State), 1 < s.act e c) ∧
    (∃ (e : Engine) (c : Ch) (q : Nat) (ty : Nat) (s : State), 1 < s.act e c) ∧
    (∃ (e : Engine) (c : Ch) (h : PloamHdr) (s : State), (s.act e c ≤ 1 ∨ (h.onuId ≠ 1023 ∧ h.onuId ≠ s.onuId e))) ∧
    (∃ (e : Engine) (c : Ch) (q : Nat) (s : State), 1 < s.act e c) :=
  ⟨⟨.la, 1, ⟨2, ⟨64, 32, true, 248832, []⟩⟩, 5, mk [(actStateF .la 1, 2)], by decide +kernel⟩,
   ⟨.la, 1, ⟨4, ⟨64, 32, true, 248832, []⟩⟩, 5, mk [(actStateF .la 1, 2)], by decide +kernel⟩,
   ⟨.la, 37, 5, mk [(actStateF .la 0, 3)], by decide +kernel⟩,
   ⟨.la, 1, 5000, 5, mk [(actStateF .la 0, 5), (actStateF .la 1, 4)], by decide +kernel⟩,
   ⟨.la, 1, -1, 5, mk [(actStateF .la 1, 5)], by decide +kernel⟩,
   ⟨.la, 1, 5, mk [(actStateF .la 0, 5), (actStateF .la 1, 5)], by decide +kernel⟩,
   ⟨.la, 5, mk [(actStateF .la 0, 5), (actStateF .la 1, 5), (TC_ONU_ID_ONU_ID 0, 37)], by decide +kernel⟩,
   ⟨.la, 5, mk [(actStateF .la 0, 7), (actStateF .la 1, 7), (TC_ACT_STATUS_DISABLED 0, 1)], by decide +kernel⟩,
   ⟨.la, 1, 5, mk [(actStateF .la 1, 5)], by decide +kernel⟩,
   ⟨.la, 1, 5, mk [(actStateF .la 1, 5)], by decide +kernel⟩,
   ⟨.la, 1, 5, 200, mk [(actStateF .la 1, 5)], by decide +kernel⟩,
   ⟨.la, 1, ⟨40, true, 5⟩, mk [(actStateF .la 1, 5)], by decide +kernel⟩,
   ⟨.la, 1, 5, mk [(actStateF .la 1, 5)], by decide +kernel⟩⟩

/-- What the clauses of `ActivationTimers` assume can be met. -/
theorem witness_ActivationTimers :
    (∃ (e : Engine) (s : State), s.Ok ∧ s.act e 0 = 3 ∧ (s.line e).discWait = true ∧ s.isSet (TC_ACT_CTRL_BACKOFF_EN e.n) = false) ∧
    (∃ (e : Engine) (s : State), s.Ok ∧ s.act e 0 = 3 ∧ (s.line e).discWait = true) ∧
    (∃ (e : Engine) (s : State), (s.act e 0 ≠ 3 ∨ (s.line e).discWait = false)) ∧
    (∃ (e : Engine) (s : State), s.Ok ∧ s.engineHeld e = false ∧ (s.ch e 0).to1 = true ∧ s.act e 0 = 4) ∧
    (∃ (e : Engine) (c : Ch) (s : State), s.Ok ∧ s.engineHeld e = false ∧ c ≠ 0 ∧ (s.ch e c).to2 = true) ∧
    (∃ (e : Engine) (c : Ch) (s : State), (s.ch e c).to1 = false ∧ (s.ch e c).to2 = false ∧ (s.ch e c).gate = false) ∧
    (∃ (e : Engine) (c : Ch) (s : State), s.Ok ∧ s.engineHeld e = false ∧ (s.ch e c).gate = true) ∧
    (∃ (e : Engine) (c : Ch) (g : Alloc) (s : State), s.act e 0 ≠ 3 ∧ s.act e c ≠ 4) ∧
    (∃ (e : Engine) (c : Ch) (g : Alloc) (p : Profile) (s : State), s.act e c = 4 ∧ g.allocId = s.onuId e ∧ (s.ch e c).grants = [] ∧ s.profileOf e c (soleGrant s e c g) = some p ∧ impossible s e c (soleGrant s e c g) true = false ∧ lateGrant p (soleGrant s e c g) = false ∧ overlaps s e c p (soleGrant s e c g) = false) ∧
    (∃ (e : Engine) (g : Alloc) (p : Profile) (s : State), s.act e 0 = 3 ∧ (s.ch e 0).grants = [] ∧ s.profileOf e 0 (soleGrant s e 0 g) = some p ∧ impossible s e 0 (soleGrant s e 0 g) true = false ∧ lateGrant p (soleGrant s e 0 g) = false ∧ (s.line e).discWait = false ∧ ((s.line e).skip = 0 ∨ s.isSet (TC_ACT_CTRL_BACKOFF_EN e.n) = false) ∧ (s.ch e 0).lastSpan = none ∧ (s.ch e 0).bursts = []) :=
  ⟨⟨.la, ({ mk [(actStateF .la 0, 3), (TC_ACT_CTRL_BACKOFF_EN 0, 0)] with lines := [(0, { discWait := true, skip := 4 })] }), by decide +kernel⟩,
   ⟨.la, ({ mk [(actStateF .la 0, 3)] with lines := [(0, { discWait := true, skip := 4 })] }), by decide +kernel⟩,
   ⟨.la, State.reset, by decide +kernel⟩,
   ⟨.la, ({ mk [(actStateF .la 0, 4), (actStateF .la 1, 5), (TC_ONU_ID_ONU_ID 0, 37)] with chans := [(0, { to1 := true })] }), by decide +kernel⟩,
   ⟨.la, 1, ({ mk [(actStateF .la 0, 5), (actStateF .la 1, 6), (TC_EQD_EQD 0 1, 37), (TC_EQD_VALID 0 1, 1)] with chans := [(1, { to2 := true })] }), by decide +kernel⟩,
   ⟨.la, 1, State.reset, by decide +kernel⟩,
   ⟨.la, 1, ({ mk [(actStateF .la 0, 5), (actStateF .la 1, 5)] with chans := [(1, { gate := true })] }), by decide +kernel⟩,
   ⟨.la, 1, ⟨1023, false, true, 100, 20, false, 0, true⟩, State.reset, by decide +kernel⟩,
   ⟨.la, 1, ⟨37, false, true, 2000, 13, false, 0, true⟩, ⟨64, 32, false, 497664, []⟩, ({ mk [(actStateF .la 0, 5), (actStateF .la 1, 4), (TC_ONU_ID_ONU_ID 0, 37), (PFE_STATUS_INHIBIT 0, 0)] with chans := [(1, { profiles := [(0, ⟨64, 32, false, 497664, []⟩)] })] }), by decide +kernel⟩,
   ⟨.la, ⟨1023, false, true, 2000, 13, false, 0, true⟩, ⟨64, 32, false, 497664, []⟩, ({ mk [(actStateF .la 0, 3), (PFE_STATUS_INHIBIT 0, 0)] with chans := [(0, { profiles := [(0, ⟨64, 32, false, 497664, []⟩)] })] }), by decide +kernel⟩⟩

/-- What the clauses of `FrameLockAndLoss` assume can be met. -/
theorem witness_FrameLockAndLoss :
    (∃ (e : Engine) (c : Ch) (m : List Nat) (v : Nat) (s : State), s.Ok ∧ s.engineHeld e = false ∧ c ≠ 0 ∧ s.hunts e c = true ∧ s.locked e c = false ∧ s.act e c = 1 ∧ s.lockNeed e c ≤ s.psyncMatches e m ∧ v < 2 ^ 51) ∧
    (∃ (e : Engine) (c : Ch) (m : List Nat) (s : State), s.Ok ∧ s.engineHeld e = false ∧ c ≠ 0 ∧ s.hunts e c = true ∧ s.locked e c = false ∧ s.act e c = 6 ∧ s.lockNeed e c ≤ s.psyncMatches e m) ∧
    (∃ (e : Engine) (c : Ch) (m : List Nat) (v : Option Nat) (s : State), (s.hunts e c = false ∨ s.locked e c = true ∨ s.psyncMatches e m < s.lockNeed e c)) ∧
    (∃ (e : Engine) (m : List Nat) (s : State), s.get (TC_SYNC_CFG_PSYNC_TOL e.n) = 4 ∧ m = [4, 0, 5, 0]) ∧
    (∃ (e : Engine) (c : Ch) (s : State), s.Ok ∧ s.engineHeld e = false ∧ c ≠ 0 ∧ s.locked e c = true ∧ s.get (TC_SYNC_CFG_LOSS_M e.n) ≤ (s.ch e c).misses + 1 ∧ s.act e c = 5 ∧ s.defectsMuted e c = false ∧ (s.ch e c).flying = none) ∧
    (∃ (e : Engine) (c : Ch) (s : State), (s.locked e c = false ∨ (s.ch e c).misses + 1 < s.get (TC_SYNC_CFG_LOSS_M e.n))) :=
  ⟨⟨.la, 1, [0, 3, 9], 77, mk [(actStateF .la 0, 5), (actStateF .la 1, 1), (PFE_CTRL_RX_EN 0, 15)], by decide +kernel⟩,
   ⟨.la, 1, [0, 3, 9], mk [(actStateF .la 0, 5), (actStateF .la 1, 6), (PFE_CTRL_RX_EN 0, 15), (TC_EQD_EQD 0 1, 9), (TC_EQD_VALID 0 1, 1)], by decide +kernel⟩,
   ⟨.la, 1, [0, 30, 0], none, mk [(actStateF .la 0, 5), (actStateF .la 1, 1), (PFE_CTRL_RX_EN 0, 15)], by decide +kernel⟩,
   ⟨.la, [4, 0, 5, 0], mk [(TC_SYNC_CFG_PSYNC_TOL 0, 4)], by decide +kernel⟩,
   ⟨.la, 1, ({ mk [(actStateF .la 0, 5), (actStateF .la 1, 5), (TC_DS_STATUS_LOCK 0, 15), (TC_DS_STATUS_SFC_VALID 0, 15), (TC_SFC_SFC_LO 0 1, 7), (PFE_CTRL_RX_EN 0, 15), (PFE_STATUS_RX_LOS 0, 0)] with chans := [(1, { misses := 3 })] }), by decide +kernel⟩,
   ⟨.la, 1, State.reset, by decide +kernel⟩⟩

/-- What the clauses of `DownstreamFrames` assume can be met. -/
theorem witness_DownstreamFrames :
    (∃ (e : Engine) (c : Ch) (f : DsFrame) (s : State), s.Ok ∧ c ≠ 0 ∧ s.hunts e c = true ∧ s.locked e c = true ∧ s.pm e ≠ 2 ∧ s.isSet ((TC_DS_STATUS_SFC_VALID e.n).bit c.val) = true ∧ f.psyncDiff ≤ s.get (TC_SYNC_CFG_PSYNC_TOL e.n) ∧ f.hlendHecOk = false) ∧
    (∃ (e : Engine) (c : Ch) (f : DsFrame) (s : State), s.Ok ∧ c ≠ 0 ∧ s.hunts e c = true ∧ s.locked e c = true ∧ s.pm e ≠ 2 ∧ s.get (TC_SYNC_CFG_PSYNC_TOL e.n) < f.psyncDiff ∧ (s.ch e c).misses + 1 < s.get (TC_SYNC_CFG_LOSS_M e.n) ∧ f.hlendHecOk = false) ∧
    (∃ (e : Engine) (c : Ch) (f : DsFrame) (u : XgemUnit) (w : Word) (s : State), s.Ok ∧ c ≠ 0 ∧ s.hunts e c = true ∧ s.locked e c = true ∧ s.pm e ≠ 2 ∧ s.isSet ((TC_DS_STATUS_SFC_VALID e.n).bit c.val) = true ∧ f.psyncDiff ≤ s.get (TC_SYNC_CFG_PSYNC_TOL e.n) ∧ f.hlendHecOk = true ∧ f.bwmap = [] ∧ f.ploam = [] ∧ f.xgem = [u] ∧ (s.ch e c).frag = none ∧ u.hecOk = true ∧ u.lf = true ∧ u.marked = false ∧ u.parity = false ∧ u.keyIdx = 0 ∧ u.portId ≠ 0xFFFF ∧ s.portEntry e u.portId = some w ∧ w.field (24 + c.val) (24 + c.val) = 1 ∧ w.field 29 29 = 0 ∧ w.field 30 30 = 0 ∧ u.data.length = u.pli ∧ 64 ≤ u.pli ∧ u.pli ≤ 12320 ∧ fcsGood u.data = true) ∧
    (∃ (e : Engine) (c : Ch) (f : DsFrame) (s : State), s.locked e c = false) :=
  ⟨⟨.la, 1, ⟨3, 8, true, 0, true, false, [], [], [], 2, 5, 1⟩, mk [(actStateF .la 0, 5), (actStateF .la 1, 5), (TC_DS_STATUS_LOCK 0, 15), (TC_DS_STATUS_SFC_VALID 0, 15), (TC_SFC_SFC_LO 0 1, 7), (PFE_CTRL_RX_EN 0, 15), (PFE_STATUS_RX_LOS 0, 0)], by decide +kernel⟩,
   ⟨.la, 1, ⟨9, 8, true, 0, true, false, [], [], [], 2, 5, 1⟩, mk [(actStateF .la 0, 5), (actStateF .la 1, 5), (TC_DS_STATUS_LOCK 0, 15), (TC_DS_STATUS_SFC_VALID 0, 15), (TC_SFC_SFC_LO 0 1, 7), (PFE_CTRL_RX_EN 0, 15), (PFE_STATUS_RX_LOS 0, 0)], by decide +kernel⟩,
   ⟨.la, 1, ⟨3, 8, true, 0, true, true, [], [], [⟨true, 72, 0, 0x412, true, (List.replicate 68 0x55) ++ fcsBytes (List.replicate 68 0x55), false, false⟩], 2, 5, 1⟩, ⟨true, 72, 0, 0x412, true, (List.replicate 68 0x55) ++ fcsBytes (List.replicate 68 0x55), false, false⟩, 0x8F000412, ({ mk [(actStateF .la 0, 5), (actStateF .la 1, 5), (TC_DS_STATUS_LOCK 0, 15), (TC_DS_STATUS_SFC_VALID 0, 15), (TC_SFC_SFC_LO 0 1, 7), (PFE_CTRL_RX_EN 0, 15), (PFE_STATUS_RX_LOS 0, 0)] with regs := (mk ([(actStateF .la 0, 5), (actStateF .la 1, 5), (TC_DS_STATUS_LOCK 0, 15), (TC_DS_STATUS_SFC_VALID 0, 15), (TC_SFC_SFC_LO 0 1, 7), (PFE_CTRL_RX_EN 0, 15), (PFE_STATUS_RX_LOS 0, 0)] ++ [(⟨TC_PORT_FILTER 0 5, 31, 0⟩, 0x8F000412)])).regs }), by decide +kernel⟩,
   ⟨.la, 1, ⟨3, 8, true, 0, true, true, [], [], [], 2, 5, 1⟩, State.reset, by decide +kernel⟩⟩

/-- What the clauses of `DefectsAndPonKeys` assume can be met. -/
theorem witness_DefectsAndPonKeys :
    (∃ (e : Engine) (c : Ch) (s : State), s.Ok ∧ s.defectsMuted e c = false ∧ (s.ch e c).winCfg = none ∧ s.los e c = false ∧ s.lof e c = false ∧ s.isSet ((TC_DS_STATUS_SD e.n).bit c.val) = false ∧ s.get (TC_DEF_CFG_SD_THR e.n) * (s.ch e c).winBits < (s.ch e c).winErr * 10000 ∧ s.get (TC_DEF_CFG_SET e.n) ≤ (s.ch e c).sdTrue + 1) ∧
    (∃ (e : Engine) (c : Ch) (s : State), s.defectsMuted e c = false ∧ (s.ch e c).winCfg = none ∧ (s.los e c = true ∨ s.lof e c = true)) ∧
    (∃ (e : Engine) (sl : Fin 2) (s : State), s.Ok ∧ s.stopped.contains .carrier = false) ∧
    (∃ (e : Engine) (sl : Fin 2) (s : State), s.Ok ∧ s.stopped.contains .carrier = false) ∧
    (∃ (a : Agent) (e : Engine) (sl : Fin 2) (s : State), s.stopped.contains a = false ∧ a ≠ .carrier) ∧
    (∃ (e : Engine) (q : Nat) (sl : Fin 2) (s : State), s.Ok ∧ 1 < s.act e 0) ∧
    (∃ (e : Engine) (c : Ch) (q : Nat) (sl : Fin 2) (s : State), c ≠ 0 ∧ 1 < s.act e c) :=
  ⟨⟨.la, 1, ({ mk [(actStateF .la 0, 5), (actStateF .la 1, 5), (TC_DS_STATUS_LOCK 0, 15), (TC_DS_STATUS_SFC_VALID 0, 15), (TC_SFC_SFC_LO 0 1, 7), (PFE_CTRL_RX_EN 0, 15), (PFE_STATUS_RX_LOS 0, 0), (TC_DEF_CFG_SET 0, 1)] with chans := [(1, { winBits := 10000, winErr := 60 })] }), by decide +kernel⟩,
   ⟨.la, 1, mk [(actStateF .la 1, 5)], by decide +kernel⟩,
   ⟨.la, 1, State.reset, by decide +kernel⟩,
   ⟨.la, 1, State.reset, by decide +kernel⟩,
   ⟨.tenant, .la, 0, State.reset, by decide +kernel⟩,
   ⟨.la, 3, 0, mk [(actStateF .la 0, 5)], by decide +kernel⟩,
   ⟨.la, 1, 3, 0, mk [(actStateF .la 1, 5)], by decide +kernel⟩⟩

/-- What the clauses of `ReorderBuffer` assume can be met. -/
theorem witness_ReorderBuffer :
    (∃ (e : Engine) (c : Ch) (x : BondSdu) (s : State), tagGood x.tag = false ∧ (s.line e).bondIn = []) ∧
    (∃ (e : Engine) (c : Ch) (x : BondSdu) (n : Nat) (s : State), s.Ok ∧ tagGood x.tag = true ∧ tagRs x.tag = false ∧ s.stream e (tagStream x.tag) = ⟨some n, []⟩ ∧ tagSeq x.tag = n) ∧
    (∃ (e : Engine) (c : Ch) (x : BondSdu) (n : Nat) (s : State), s.Ok ∧ tagGood x.tag = true ∧ tagRs x.tag = false ∧ s.stream e (tagStream x.tag) = ⟨some n, []⟩ ∧ 0 < (tagSeq x.tag + 2 ^ 24 - n) % 2 ^ 24 ∧ (tagSeq x.tag + 2 ^ 24 - n) % 2 ^ 24 < 2 ^ 23 ∧ s.bondCells e + (8 + x.data.length + 63) / 64 ≤ 32768) ∧
    (∃ (e : Engine) (c : Ch) (x : BondSdu) (n : Nat) (s : State), s.Ok ∧ tagGood x.tag = true ∧ tagRs x.tag = false ∧ s.stream e (tagStream x.tag) = ⟨some n, []⟩ ∧ 2 ^ 23 ≤ (tagSeq x.tag + 2 ^ 24 - n) % 2 ^ 24) ∧
    (∃ (e : Engine) (c : Ch) (x : BondSdu) (s : State), s.Ok ∧ tagGood x.tag = true ∧ tagRs x.tag = false ∧ s.stream e (tagStream x.tag) = ⟨none, []⟩) ∧
    (∃ (e : Engine) (st : Slot) (n : Nat) (h : HeldSdu) (s : State), s.Ok ∧ s.stream e st.val = ⟨some n, [h]⟩ ∧ h.sdu.parity = false) ∧
    (∃ (e : Engine) (st : Slot) (s : State), (s.stream e st.val).held = []) :=
  ⟨⟨.la, 1, ⟨[0x20, 0, 0, 0, 0, 0, 0, 0], [], 0, 0, false⟩, State.reset, by decide +kernel⟩,
   ⟨.la, 1, (⟨(let b : List Byte := [16, 48, 5] ++ bytesBE 3 100; b ++ bytesBE 2 (crc16 b)), List.replicate 64 0, 0x412, 0, false⟩ : BondSdu), 100, ({ mk [(BOND_DS_CHMAP_VALID 0, 1), (BOND_DS_CHMAP_CHMAP 0, 3)] with now := 50, lines := [(0, { streams := [(5, ⟨some 100, []⟩)] })] }), by decide +kernel⟩,
   ⟨.la, 1, (⟨(let b : List Byte := [16, 48, 5] ++ bytesBE 3 103; b ++ bytesBE 2 (crc16 b)), List.replicate 64 0, 0x412, 0, false⟩ : BondSdu), 100, ({ mk [(BOND_DS_CHMAP_VALID 0, 1), (BOND_DS_CHMAP_CHMAP 0, 3)] with now := 50, lines := [(0, { streams := [(5, ⟨some 100, []⟩)] })] }), by decide +kernel⟩,
   ⟨.la, 1, (⟨(let b : List Byte := [16, 48, 5] ++ bytesBE 3 99; b ++ bytesBE 2 (crc16 b)), List.replicate 64 0, 0x412, 0, false⟩ : BondSdu), 100, ({ mk [(BOND_DS_CHMAP_VALID 0, 1), (BOND_DS_CHMAP_CHMAP 0, 3)] with now := 50, lines := [(0, { streams := [(5, ⟨some 100, []⟩)] })] }), by decide +kernel⟩,
   ⟨.la, 1, (⟨(let b : List Byte := [16, 48, 5] ++ bytesBE 3 7; b ++ bytesBE 2 (crc16 b)), List.replicate 64 0, 0x412, 0, false⟩ : BondSdu), State.reset, by decide +kernel⟩,
   ⟨.la, 5, 100, ⟨103, (⟨(let b : List Byte := [16, 48, 5] ++ bytesBE 3 103; b ++ bytesBE 2 (crc16 b)), List.replicate 64 0, 0x412, 0, false⟩ : BondSdu), 0, 32000, 1⟩, ({ State.reset with lines := [(0, { streams := [(5, ⟨some 100, [⟨103, (⟨(let b : List Byte := [16, 48, 5] ++ bytesBE 3 103; b ++ bytesBE 2 (crc16 b)), List.replicate 64 0, 0x412, 0, false⟩ : BondSdu), 0, 32000, 1⟩]⟩)] })] }), by decide +kernel⟩,
   ⟨.la, 5, State.reset, by decide +kernel⟩⟩

/-- What the clauses of `BondMembership` assume can be met. -/
theorem witness_BondMembership :
    (∃ (e : Engine) (c : Ch) (s : State), s.bond e c = 0 ∧ s.canBeIn e c = true) ∧
    (∃ (e : Engine) (c : Ch) (s : State), s.bond e c = 2 ∧ s.canBeIn e c = true) ∧
    (∃ (e : Engine) (c : Ch) (s : State), s.canBeIn e c = false) ∧
    (∃ (e : Engine) (c : Ch) (s : State), s.Ok ∧ s.bond e c = 1 ∧ s.sitCause e c ≠ 0 ∧ (s.ch e c).wakeReturn = false ∧ s.get (bondStrikesF e c) < 2) ∧
    (∃ (e : Engine) (c : Ch) (s : State), s.Ok ∧ s.bond e c = 1 ∧ s.sitCause e c ≠ 0 ∧ (s.ch e c).wakeReturn = false ∧ s.get (bondStrikesF e c) = 2) ∧
    (∃ (e : Engine) (c : Ch) (s : State), (s.bond e c ≠ 1 ∨ s.sitCause e c = 0)) ∧
    (∃ (e : Engine) (c : Ch) (s : State), s.isSet ((BOND_CTRL_MEMBER e.n).bit c.val) = false ∧ (s.bond e c = 1 ∨ s.bond e c = 2)) ∧
    (∃ (e : Engine) (c : Ch) (s : State), (s.bond e c = 0 ∨ s.bond e c = 3)) ∧
    (∃ (e : Engine) (c : Ch) (s : State), 0 < s.get (bondStrikesF e c)) ∧
    (∃ (e : Engine) (m : BitVec 4) (s : State), s.Ok ∧ s.stopped.contains .carrier = false) ∧
    (∃ (a : Agent) (e : Engine) (m : BitVec 4) (s : State), a ≠ .carrier ∧ s.stopped.contains a = false) ∧
    (∃ (e : Engine) (s : State), s.stopped.contains .carrier = false) ∧
    (∃ (e : Engine) (m : BitVec 4) (s : State), s.Ok) :=
  ⟨⟨.la, 1, mk [(actStateF .la 1, 5), (BOND_CTRL_MEMBER 0, 15), (TC_DS_STATUS_LOCK 0, 15), (PFE_STATUS_RX_LOS 0, 0)], by decide +kernel⟩,
   ⟨.la, 1, mk [(actStateF .la 1, 5), (BOND_CTRL_MEMBER 0, 15), (TC_DS_STATUS_LOCK 0, 15), (PFE_STATUS_RX_LOS 0, 0), (bondStateF .la 1, 2)], by decide +kernel⟩,
   ⟨.la, 1, State.reset, by decide +kernel⟩,
   ⟨.la, 1, mk [(actStateF .la 1, 5), (bondStateF .la 1, 1)], by decide +kernel⟩,
   ⟨.la, 1, mk [(actStateF .la 1, 5), (bondStateF .la 1, 1), (bondStrikesF .la 1, 2)], by decide +kernel⟩,
   ⟨.la, 1, State.reset, by decide +kernel⟩,
   ⟨.la, 1, mk [(bondStateF .la 1, 1)], by decide +kernel⟩,
   ⟨.la, 1, mk [(bondStateF .la 1, 3)], by decide +kernel⟩,
   ⟨.la, 1, mk [(bondStrikesF .la 1, 2)], by decide +kernel⟩,
   ⟨.la, 2, mk [(bondStateF .la 1, 3), (bondStrikesF .la 1, 2), (bondStrikesF .la 2, 1)], by decide +kernel⟩,
   ⟨.tenant, .la, 2, State.reset, by decide +kernel⟩,
   ⟨.la, State.reset, by decide +kernel⟩,
   ⟨.la, 0b0101, mk [(actStateF .la 0, 5)], by decide +kernel⟩⟩

/-- What the clauses of `UpstreamSlots` assume can be met. -/
theorem witness_UpstreamSlots :
    (∃ (e : Engine) (sl : Slot) (b : SlotBinding) (s : State), s.Ok ∧ b.valid = true ∧ (b.ports.map (·.1)).Nodup) ∧
    (∃ (e : Engine) (sl : Slot) (b : SlotBinding) (s : State), b.valid = false ∧ s.stopped.contains .carrier = false) ∧
    (∃ (e : Engine) (sl : Slot) (s : State), s.Ok ∧ s.stopped.contains .carrier = false) ∧
    (∃ (e : Engine) (q : LineQ) (s : State), s.stopped.contains .carrier = false) ∧
    (∃ (e : Engine) (q : Nat) (f : UpFrame) (fs : List UpFrame) (s : State), s.queue e q = f :: fs) ∧
    (∃ (a : Agent) (e : Engine) (sl : Slot) (q : LineQ) (s : State), a ≠ .carrier ∧ s.stopped.contains a = false) ∧
    (∃ (e : Engine) (c : Ch) (g : Alloc) (s : State), g.hecOk = true ∧ s.act e c = 5 ∧ s.keeps e c g.allocId = true ∧ (c = 0 ∨ g.allocId ≠ 1023) ∧ g.fwi = false ∧ g.start ≠ 0xFFFF) ∧
    (∃ (e : Engine) (c : Ch) (g : Alloc) (gs : List Grant) (l : Grant) (s : State), g.hecOk = true ∧ s.act e c = 5 ∧ s.keeps e c g.allocId = true ∧ (c = 0 ∨ g.allocId ≠ 1023) ∧ g.fwi = false ∧ g.start = 0xFFFF ∧ (s.ch e c).prevKept = true ∧ (s.ch e c).grants = gs ++ [l]) ∧
    (∃ (e : Engine) (c : Ch) (g : Alloc) (s : State), g.hecOk = true ∧ s.act e c = 5 ∧ s.keeps e c g.allocId = true ∧ (c = 0 ∨ g.allocId ≠ 1023) ∧ g.fwi = false ∧ g.start = 0xFFFF ∧ (s.ch e c).prevKept = false) ∧
    (∃ (e : Engine) (c : Ch) (g : Alloc) (s : State), (g.hecOk = false ∨ s.keeps e c g.allocId = false ∧ (c = 0 ∨ g.allocId ≠ 1023))) ∧
    (∃ (e : Engine) (c : Ch) (g : Alloc) (s : State), g.hecOk = true ∧ s.keeps e c g.allocId = true ∧ g.fwi = true ∧ g.allocId ≠ 1023) ∧
    (∃ (e : Engine) (c : Ch) (g : Alloc) (s : State), g.hecOk = true ∧ c ≠ 0 ∧ g.allocId = 1023) :=
  ⟨⟨.la, 3, ⟨true, 1, 200, 1200, [(7, true, 300), (0, false, 65535)]⟩, State.reset, by decide +kernel⟩,
   ⟨.la, 3, ⟨false, 1, 200, 1200, []⟩, State.reset, by decide +kernel⟩,
   ⟨.la, 3, ({ mk [(actStateF .la 1, 5), (BURST_SLOT_VALID 0 3, 1), (BURST_SLOT_ALLOC_ID 0 3, 1200)] with now := 50, chans := [(1, { psync := 5, profiles := [(1, ⟨160, 32, false, 124416, []⟩)] })], lines := [(0, { lq := [(31, [(⟨7, List.replicate 64 0, false⟩ : UpFrame)])] })] }), by decide +kernel⟩,
   ⟨.la, 31, ({ mk [(actStateF .la 1, 5), (BURST_SLOT_VALID 0 3, 1), (BURST_SLOT_ALLOC_ID 0 3, 1200)] with now := 50, chans := [(1, { psync := 5, profiles := [(1, ⟨160, 32, false, 124416, []⟩)] })], lines := [(0, { lq := [(31, [(⟨7, List.replicate 64 0, false⟩ : UpFrame)])] })] }), by decide +kernel⟩,
   ⟨.la, 31, (⟨7, List.replicate 64 0, false⟩ : UpFrame), [], ({ mk [(actStateF .la 1, 5), (BURST_SLOT_VALID 0 3, 1), (BURST_SLOT_ALLOC_ID 0 3, 1200)] with now := 50, chans := [(1, { psync := 5, profiles := [(1, ⟨160, 32, false, 124416, []⟩)] })], lines := [(0, { lq := [(31, [(⟨7, List.replicate 64 0, false⟩ : UpFrame)])] })] }), by decide +kernel⟩,
   ⟨.tenant, .la, 3, 31, State.reset, by decide +kernel⟩,
   ⟨.la, 1, ⟨1200, false, false, 300, 40, false, 1, true⟩, ({ mk [(actStateF .la 1, 5), (BURST_SLOT_VALID 0 3, 1), (BURST_SLOT_ALLOC_ID 0 3, 1200)] with now := 50, chans := [(1, { psync := 5, profiles := [(1, ⟨160, 32, false, 124416, []⟩)] })], lines := [(0, { lq := [(31, [(⟨7, List.replicate 64 0, false⟩ : UpFrame)])] })] }), by decide +kernel⟩,
   ⟨.la, 1, ⟨1200, false, false, 0xFFFF, 40, false, 1, true⟩, [], (⟨[⟨1200, false, false, 300, 40, false, 1, true⟩], false, 9, 12000000000, 0, 0, [some (3, 1)]⟩ : Grant), ({ ({ mk [(actStateF .la 1, 5), (BURST_SLOT_VALID 0 3, 1), (BURST_SLOT_ALLOC_ID 0 3, 1200)] with now := 50, chans := [(1, { psync := 5, profiles := [(1, ⟨160, 32, false, 124416, []⟩)] })], lines := [(0, { lq := [(31, [(⟨7, List.replicate 64 0, false⟩ : UpFrame)])] })] }) with chans := [(1, { grants := [(⟨[⟨1200, false, false, 300, 40, false, 1, true⟩], false, 9, 12000000000, 0, 0, [some (3, 1)]⟩ : Grant)], prevKept := true })] }), by decide +kernel⟩,
   ⟨.la, 1, ⟨1200, false, false, 0xFFFF, 40, false, 1, true⟩, ({ mk [(actStateF .la 1, 5), (BURST_SLOT_VALID 0 3, 1), (BURST_SLOT_ALLOC_ID 0 3, 1200)] with now := 50, chans := [(1, { psync := 5, profiles := [(1, ⟨160, 32, false, 124416, []⟩)] })], lines := [(0, { lq := [(31, [(⟨7, List.replicate 64 0, false⟩ : UpFrame)])] })] }), by decide +kernel⟩,
   ⟨.la, 1, ⟨1200, false, false, 300, 40, false, 1, true⟩, State.reset, by decide +kernel⟩,
   ⟨.la, 1, ⟨1200, false, false, 300, 40, true, 1, true⟩, ({ mk [(actStateF .la 1, 5), (BURST_SLOT_VALID 0 3, 1), (BURST_SLOT_ALLOC_ID 0 3, 1200)] with now := 50, chans := [(1, { psync := 5, profiles := [(1, ⟨160, 32, false, 124416, []⟩)] })], lines := [(0, { lq := [(31, [(⟨7, List.replicate 64 0, false⟩ : UpFrame)])] })] }), by decide +kernel⟩,
   ⟨.la, 1, ⟨1023, false, false, 300, 40, false, 1, true⟩, State.reset, by decide +kernel⟩⟩

/-- What the clauses of `UpstreamBursts` assume can be met. -/
theorem witness_UpstreamBursts :
    (∃ (e : Engine) (c : Ch) (s : State), (s.ch e c).grants = [] ∧ s.act e c ≠ 3 ∧ s.act e c ≠ 4) ∧
    (∃ (e : Engine) (c : Ch) (s : State), (s.ch e c).grants = [] ∧ (s.act e c = 3 ∨ s.act e c = 4)) ∧
    (∃ (e : Engine) (c : Ch) (g : Grant) (n : Nat) (b : Nat) (s : State), (s.ch e c).grants = [g] ∧ s.act e c ≠ 3 ∧ s.act e c ≠ 4 ∧ mustWait s e c g = false ∧ stopCause (s.modCh e c (fun x => { x with grants := [] })) e c g false = some (n, b)) ∧
    (∃ (e : Engine) (c : Ch) (g : Grant) (p : Profile) (s : State), (s.ch e c).grants = [g] ∧ s.act e c ≠ 3 ∧ s.act e c ≠ 4 ∧ mustWait s e c g = false ∧ s.profileOf e c g = some p ∧ stopCause (s.modCh e c (fun x => { x with grants := [] })) e c g false = none) ∧
    (∃ (e : Engine) (c : Ch) (g : Grant) (s : State) (m : Bool), (s.profileOf e c g = none ∨ g.orphan = true ∨ 48600 ≤ g.start)) ∧
    (∃ (e : Engine) (c : Ch) (g : Grant) (a0 : Alloc) (p : Profile) (s : State) (m : Bool), g.allocs = [a0] ∧ s.profileOf e c g = some p ∧ a0.grant * wordBytes p.rate < 8 + (if a0.ploamu then 48 else 0) + (if a0.dbru then 4 else 0)) ∧
    (∃ (e : Engine) (c : Ch) (s : State), (s.ch e c).bursts = []) ∧
    (∃ (e : Engine) (c : Ch) (b : Burst) (s : State), s.Ok ∧ (s.ch e c).bursts = [b] ∧ (s.ch e c).flying = none ∧ (s.pm e = 0 ∨ s.pm e = 3) ∧ s.inhibited e = false ∧ (s.line e).inhFrom * 497664 ≤ b.launch ∧ s.lightReady e c = true ∧ s.locked e c = true ∧ s.live e = true ∧ b.kind = .traffic ∧ b.shadow = false) ∧
    (∃ (e : Engine) (c : Ch) (b : Burst) (s : State), (s.ch e c).bursts = [b] ∧ (s.ch e c).flying = none ∧ (s.pm e = 1 ∨ s.pm e = 2 ∨ s.pm e = 4)) ∧
    (∃ (e : Engine) (c : Ch) (b : Burst) (s : State), (s.ch e c).bursts = [b] ∧ (s.ch e c).flying = none ∧ (s.pm e = 0 ∨ s.pm e = 3) ∧ (s.inhibited e = true ∨ b.launch < (s.line e).inhFrom * 497664 ∨ s.locked e c = false ∨ s.lightReady e c = false)) ∧
    (∃ (e : Engine) (c : Ch) (b : Burst) (s : State), (s.ch e c).bursts = [b] ∧ (s.ch e c).flying = none ∧ (s.pm e = 0 ∨ s.pm e = 3) ∧ s.inhibited e = false ∧ (s.line e).inhFrom * 497664 ≤ b.launch ∧ s.locked e c = true ∧ s.lightReady e c = true ∧ b.kind = .traffic ∧ (b.shadow = true ∨ s.live e = false)) ∧
    (∃ (e : Engine) (c : Ch) (b : Burst) (s : State), (b.shadow = true ∨ b.kind ≠ .traffic)) ∧
    (∃ (e : Engine) (c : Ch) (b : Burst) (s : State), b.shadow = false ∧ b.kind = .traffic) ∧
    (∃ (e : Engine) (c : Ch) (b : Burst) (s : State), (s.ch e c).flying = some b ∧ (s.ch e c).gate = true) ∧
    (∃ (e : Engine) (c : Ch) (s : State), ((s.ch e c).flying = none ∨ (s.ch e c).gate = false)) :=
  ⟨⟨.la, 1, State.reset, by decide +kernel⟩,
   ⟨.la, 1, mk [(actStateF .la 1, 4)], by decide +kernel⟩,
   ⟨.la, 1, (⟨[⟨1200, false, false, 300, 40, false, 1, true⟩], false, 9, 12000000000, 0, 0, [some (3, 1)]⟩ : Grant), 4, 0, ({ ({ ({ mk [(actStateF .la 1, 5), (BURST_SLOT_VALID 0 3, 1), (BURST_SLOT_ALLOC_ID 0 3, 1200)] with now := 50, chans := [(1, { psync := 5, profiles := [(1, ⟨160, 32, false, 124416, []⟩)] })], lines := [(0, { lq := [(31, [(⟨7, List.replicate 64 0, false⟩ : UpFrame)])] })] }) with chans := [(1, { psync := 5, profiles := [(1, ⟨160, 32, false, 124416, []⟩)], grants := [(⟨[⟨1200, false, false, 300, 40, false, 1, true⟩], false, 9, 12000000000, 0, 0, [some (3, 1)]⟩ : Grant)] })] }) with chans := [(1, { grants := [(⟨[⟨1200, false, false, 300, 40, false, 1, true⟩], false, 9, 12000000000, 0, 0, [some (3, 1)]⟩ : Grant)] })] }), by decide +kernel⟩,
   ⟨.la, 1, (⟨[⟨1200, false, false, 300, 40, false, 1, true⟩], false, 9, 12000000000, 0, 0, [some (3, 1)]⟩ : Grant), ⟨160, 32, false, 124416, []⟩, ({ ({ mk [(actStateF .la 1, 5), (BURST_SLOT_VALID 0 3, 1), (BURST_SLOT_ALLOC_ID 0 3, 1200)] with now := 50, chans := [(1, { psync := 5, profiles := [(1, ⟨160, 32, false, 124416, []⟩)] })], lines := [(0, { lq := [(31, [(⟨7, List.replicate 64 0, false⟩ : UpFrame)])] })] }) with chans := [(1, { psync := 5, profiles := [(1, ⟨160, 32, false, 124416, []⟩)], grants := [(⟨[⟨1200, false, false, 300, 40, false, 1, true⟩], false, 9, 12000000000, 0, 0, [some (3, 1)]⟩ : Grant)] })] }), by decide +kernel⟩,
   ⟨.la, 1, (⟨[⟨1200, false, false, 48600, 40, false, 1, true⟩], false, 9, 12000000000, 0, 0, [some (3, 1)]⟩ : Grant), ({ ({ mk [(actStateF .la 1, 5), (BURST_SLOT_VALID 0 3, 1), (BURST_SLOT_ALLOC_ID 0 3, 1200)] with now := 50, chans := [(1, { psync := 5, profiles := [(1, ⟨160, 32, false, 124416, []⟩)] })], lines := [(0, { lq := [(31, [(⟨7, List.replicate 64 0, false⟩ : UpFrame)])] })] }) with chans := [(1, { psync := 5, profiles := [(1, ⟨160, 32, false, 124416, []⟩)], grants := [(⟨[⟨1200, false, false, 300, 40, false, 1, true⟩], false, 9, 12000000000, 0, 0, [some (3, 1)]⟩ : Grant)] })] }), false, by decide +kernel⟩,
   ⟨.la, 1, (⟨[⟨1200, false, false, 300, 0, false, 1, true⟩], false, 9, 12000000000, 0, 0, [some (3, 1)]⟩ : Grant), ⟨1200, false, false, 300, 0, false, 1, true⟩, ⟨160, 32, false, 124416, []⟩, ({ ({ mk [(actStateF .la 1, 5), (BURST_SLOT_VALID 0 3, 1), (BURST_SLOT_ALLOC_ID 0 3, 1200)] with now := 50, chans := [(1, { psync := 5, profiles := [(1, ⟨160, 32, false, 124416, []⟩)] })], lines := [(0, { lq := [(31, [(⟨7, List.replicate 64 0, false⟩ : UpFrame)])] })] }) with chans := [(1, { psync := 5, profiles := [(1, ⟨160, 32, false, 124416, []⟩)], grants := [(⟨[⟨1200, false, false, 300, 40, false, 1, true⟩], false, 9, 12000000000, 0, 0, [some (3, 1)]⟩ : Grant)] })] }), false, by decide +kernel⟩,
   ⟨.la, 1, State.reset, by decide +kernel⟩,
   ⟨.la, 1, (⟨.traffic, 900, 800, 1000, (12, false), none, [⟨some 3, [⟨some 31, 300, 0, [], ⟨7, List.replicate 64 0, true⟩, 0, List.replicate 64 0⟩], 0⟩], 40, ⟨160, 32, false, 124416, []⟩, false⟩ : Burst), ({ mk [(PFE_STATUS_LATCH 0, 15), (PFE_CTRL_TX_EN 0, 15), (TC_DS_STATUS_LOCK 0, 15), (PX_CLAIMS_CLAIM_A, 1), (PFE_STATUS_TEMP_GATE 0, 0), (PFE_STATUS_INHIBIT 0, 0)] with chans := [(1, { bursts := [(⟨.traffic, 900, 800, 1000, (12, false), none, [⟨some 3, [⟨some 31, 300, 0, [], ⟨7, List.replicate 64 0, true⟩, 0, List.replicate 64 0⟩], 0⟩], 40, ⟨160, 32, false, 124416, []⟩, false⟩ : Burst)] })] }), by decide +kernel⟩,
   ⟨.la, 1, (⟨.traffic, 900, 800, 1000, (12, false), none, [⟨some 3, [⟨some 31, 300, 0, [], ⟨7, List.replicate 64 0, true⟩, 0, List.replicate 64 0⟩], 0⟩], 40, ⟨160, 32, false, 124416, []⟩, false⟩ : Burst), ({ mk [(BURST_PM_STATUS_STATE 0, 1)] with chans := [(1, { bursts := [(⟨.traffic, 900, 800, 1000, (12, false), none, [⟨some 3, [⟨some 31, 300, 0, [], ⟨7, List.replicate 64 0, true⟩, 0, List.replicate 64 0⟩], 0⟩], 40, ⟨160, 32, false, 124416, []⟩, false⟩ : Burst)] })] }), by decide +kernel⟩,
   ⟨.la, 1, (⟨.traffic, 900, 800, 1000, (12, false), none, [⟨some 3, [⟨some 31, 300, 0, [], ⟨7, List.replicate 64 0, true⟩, 0, List.replicate 64 0⟩], 0⟩], 40, ⟨160, 32, false, 124416, []⟩, false⟩ : Burst), ({ mk [(PFE_STATUS_INHIBIT 0, 1)] with chans := [(1, { bursts := [(⟨.traffic, 900, 800, 1000, (12, false), none, [⟨some 3, [⟨some 31, 300, 0, [], ⟨7, List.replicate 64 0, true⟩, 0, List.replicate 64 0⟩], 0⟩], 40, ⟨160, 32, false, 124416, []⟩, false⟩ : Burst)] })] }), by decide +kernel⟩,
   ⟨.la, 1, (⟨.traffic, 900, 800, 1000, (12, false), none, [⟨some 3, [⟨some 31, 300, 0, [], ⟨7, List.replicate 64 0, true⟩, 0, List.replicate 64 0⟩], 0⟩], 40, ⟨160, 32, false, 124416, []⟩, false⟩ : Burst), ({ ({ mk [(PFE_STATUS_LATCH 0, 15), (PFE_CTRL_TX_EN 0, 15), (TC_DS_STATUS_LOCK 0, 15), (PX_CLAIMS_CLAIM_A, 1), (PFE_STATUS_TEMP_GATE 0, 0), (PFE_STATUS_INHIBIT 0, 0)] with chans := [(1, { bursts := [(⟨.traffic, 900, 800, 1000, (12, false), none, [⟨some 3, [⟨some 31, 300, 0, [], ⟨7, List.replicate 64 0, true⟩, 0, List.replicate 64 0⟩], 0⟩], 40, ⟨160, 32, false, 124416, []⟩, false⟩ : Burst)] })] }) with pair := { ({ mk [(PFE_STATUS_LATCH 0, 15), (PFE_CTRL_TX_EN 0, 15), (TC_DS_STATUS_LOCK 0, 15), (PX_CLAIMS_CLAIM_A, 1), (PFE_STATUS_TEMP_GATE 0, 0), (PFE_STATUS_INHIBIT 0, 0)] with chans := [(1, { bursts := [(⟨.traffic, 900, 800, 1000, (12, false), none, [⟨some 3, [⟨some 31, 300, 0, [], ⟨7, List.replicate 64 0, true⟩, 0, List.replicate 64 0⟩], 0⟩], 40, ⟨160, 32, false, 124416, []⟩, false⟩ : Burst)] })] }).pair with arming := true } }), by decide +kernel⟩,
   ⟨.la, 1, (⟨.traffic, 900, 800, 1000, (12, false), none, [⟨some 3, [⟨some 31, 300, 0, [], ⟨7, List.replicate 64 0, true⟩, 0, List.replicate 64 0⟩], 0⟩], 40, ⟨160, 32, false, 124416, []⟩, true⟩ : Burst), State.reset, by decide +kernel⟩,
   ⟨.la, 1, (⟨.traffic, 900, 800, 1000, (12, false), none, [⟨some 3, [⟨some 31, 300, 0, [], ⟨7, List.replicate 64 0, true⟩, 0, List.replicate 64 0⟩], 0⟩], 40, ⟨160, 32, false, 124416, []⟩, false⟩ : Burst), State.reset, by decide +kernel⟩,
   ⟨.la, 1, (⟨.traffic, 900, 800, 1000, (12, false), none, [⟨some 3, [⟨some 31, 300, 0, [], ⟨7, List.replicate 64 0, true⟩, 0, List.replicate 64 0⟩], 0⟩], 40, ⟨160, 32, false, 124416, []⟩, false⟩ : Burst), ({ ({ mk [(PFE_STATUS_LATCH 0, 15), (PFE_CTRL_TX_EN 0, 15), (TC_DS_STATUS_LOCK 0, 15), (PX_CLAIMS_CLAIM_A, 1), (PFE_STATUS_TEMP_GATE 0, 0), (PFE_STATUS_INHIBIT 0, 0)] with chans := [(1, { bursts := [(⟨.traffic, 900, 800, 1000, (12, false), none, [⟨some 3, [⟨some 31, 300, 0, [], ⟨7, List.replicate 64 0, true⟩, 0, List.replicate 64 0⟩], 0⟩], 40, ⟨160, 32, false, 124416, []⟩, false⟩ : Burst)] })] }) with chans := [(1, { gate := true, flying := some (⟨.traffic, 900, 800, 1000, (12, false), none, [⟨some 3, [⟨some 31, 300, 0, [], ⟨7, List.replicate 64 0, true⟩, 0, List.replicate 64 0⟩], 0⟩], 40, ⟨160, 32, false, 124416, []⟩, false⟩ : Burst) })] }), by decide +kernel⟩,
   ⟨.la, 1, State.reset, by decide +kernel⟩⟩

/-- What the clauses of `PowerManagement` assume can be met. -/
theorem witness_PowerManagement :
    (∃ (e : Engine) (s : State), (s.pm e = 0 ∨ s.pm e = 3) ∧ (s.get (BURST_PM_CFG_MODE e.n) = 1 ∨ s.get (BURST_PM_CFG_MODE e.n) = 2 ∧ s.pair.mode = 0) ∧ (s.pm e = 0 → (s.line e).pmActiveAt + s.get (BURST_PM_CFG_THOLD e.n) * 1000000 ≤ s.now) ∧ s.act e 0 = 5 ∧ (∀ c ∈ sideChannels, s.isSet ((TC_ACT_CTRL_CH_JOIN e.n).bit (c.val - 1)) = true → s.act e c = 5) ∧ s.stopped.contains .carrier = false) ∧
    (∃ (e : Engine) (s : State), (s.pm e = 0 ∨ s.pm e = 3) ∧ (s.get (BURST_PM_CFG_MODE e.n) = 0 ∨ s.act e 0 ≠ 5 ∨ (s.get (BURST_PM_CFG_MODE e.n) = 2 ∧ s.pair.mode ≠ 0) ∨ (∃ c ∈ sideChannels, s.isSet ((TC_ACT_CTRL_CH_JOIN e.n).bit (c.val - 1)) = true ∧ s.act e c ≠ 5) ∨ (s.pm e = 0 ∧ s.now < (s.line e).pmActiveAt + s.get (BURST_PM_CFG_THOLD e.n) * 1000000)) ∧ s.stopped.contains .carrier = false) ∧
    (∃ (e : Engine) (s : State), s.pm e ≠ 0 ∧ s.pm e ≠ 3) ∧
    (∃ (e : Engine) (w : WakeCause) (s : State), s.stopped.contains .carrier = false ∧ (w = .localFrame → s.isSet (BURST_PM_CFG_LOCAL_WAKE e.n) = true)) ∧
    (∃ (e : Engine) (s : State), s.isSet (BURST_PM_CFG_LOCAL_WAKE e.n) = false) ∧
    (∃ (a : Agent) (e : Engine) (s : State), a ≠ .carrier ∧ s.stopped.contains a = false) ∧
    (∃ (e : Engine) (s : State), s.Ok ∧ (s.pm e = 1 ∨ s.pm e = 2 ∨ s.pm e = 3) ∧ s.stopped.contains .carrier = false) ∧
    (∃ (e : Engine) (s : State), (s.pm e = 1 ∨ s.pm e = 2)) ∧
    (∃ (e : Engine) (s : State), s.pm e = 3) ∧
    (∃ (e : Engine) (s : State), s.pm e = 0) ∧
    (∃ (e : Engine) (w : WakeCause) (s : State), s.Ok ∧ (s.pm e = 1 ∨ s.pm e = 2 ∨ s.pm e = 3) ∧ (w = .localFrame → s.isSet (BURST_PM_CFG_LOCAL_WAKE e.n) = true)) ∧
    (∃ (e : Engine) (s : State), s.isSet (BURST_PM_CFG_LOCAL_WAKE e.n) = false) ∧
    (∃ (e : Engine) (s : State), s.Ok ∧ s.pm e = 4) ∧
    (∃ (e : Engine) (q : Nat) (b : Bool) (s : State), 1 < s.act e 0) :=
  ⟨⟨.la, ({ mk [(BURST_PM_CFG_MODE 0, 1), (actStateF .la 0, 5), (BURST_PM_STATUS_STATE 0, 3)] with now := 50 }), by decide +kernel⟩,
   ⟨.la, State.reset, by decide +kernel⟩,
   ⟨.la, mk [(BURST_PM_STATUS_STATE 0, 1)], by decide +kernel⟩,
   ⟨.la, .fwi, State.reset, by decide +kernel⟩,
   ⟨.la, mk [(BURST_PM_CFG_LOCAL_WAKE 0, 0)], by decide +kernel⟩,
   ⟨.tenant, .la, State.reset, by decide +kernel⟩,
   ⟨.la, mk [(BURST_PM_STATUS_STATE 0, 1)], by decide +kernel⟩,
   ⟨.la, mk [(BURST_PM_STATUS_STATE 0, 1)], by decide +kernel⟩,
   ⟨.la, mk [(BURST_PM_STATUS_STATE 0, 3)], by decide +kernel⟩,
   ⟨.la, State.reset, by decide +kernel⟩,
   ⟨.la, .lossOfLock, mk [(BURST_PM_STATUS_STATE 0, 1)], by decide +kernel⟩,
   ⟨.la, mk [(BURST_PM_CFG_LOCAL_WAKE 0, 0)], by decide +kernel⟩,
   ⟨.la, ({ mk [(BURST_PM_STATUS_STATE 0, 4), (BURST_PM_CTRL_EXIT 0, 1)] with now := 50 }), by decide +kernel⟩,
   ⟨.la, 5, true, mk [(actStateF .la 0, 5)], by decide +kernel⟩⟩

/-- What the clauses of `TieHeaders` assume can be met. -/
theorem witness_TieHeaders :
    (∃ (e : Engine) (h : List Byte) (p : TiePayload) (s : State), headerGood h = false) ∧
    (∃ (e : Engine) (h : List Byte) (p : TiePayload) (s : State), headerGood h = false ∧ (s.line e).markIn ≠ some 0) ∧
    (∃ (e : Engine) (h : List Byte) (p : TiePayload) (s : State), s.Ok ∧ headerGood h = true ∧ hdrKind h = 0) ∧
    (∃ (e : Engine) (h : List Byte) (p : TiePayload) (s : State), headerGood h = true ∧ (hdrKind h = 1 ∨ hdrKind h = 2 ∨ hdrKind h = 4)) ∧
    (∃ (e : Engine) (h : List Byte) (p : TiePayload) (s : State), headerGood h = true ∧ hdrKind h = 3) ∧
    (∃ (e : Engine) (h : List Byte) (p : TiePayload) (s : State), headerGood h = true ∧ hdrKind h = 0 ∧ (s.pair.mode ≠ 1 ∨ s.active = e) ∧ s.isSet (BURST_QPORT_VALID e.n (hdrLq h)) = true ∧ frameCells ⟨0, p.bytes, false⟩ ≤ s.slotRoom e (hdrLq h / 8)) ∧
    (∃ (e : Engine) (h : List Byte) (p : TiePayload) (s : State), s.Ok ∧ headerGood h = true ∧ hdrKind h = 0 ∧ (s.pair.mode ≠ 1 ∨ s.active = e) ∧ (s.isSet (BURST_QPORT_VALID e.n (hdrLq h)) = false ∨ s.slotRoom e (hdrLq h / 8) < frameCells ⟨0, p.bytes, false⟩)) ∧
    (∃ (e : Engine) (h : List Byte) (p : TiePayload) (s : State), s.Ok ∧ headerGood h = true ∧ hdrKind h = 0 ∧ s.pair.mode = 1 ∧ s.active ≠ e) ∧
    (∃ (e : Engine) (h : List Byte) (p : TiePayload) (s : State), headerGood h = true ∧ hdrKind h = 1 ∧ ((s.line e).rxLine = none ∨ (s.line e).rxLine = some (hdrSeq h))) ∧
    (∃ (e : Engine) (h : List Byte) (p : TiePayload) (s : State), headerGood h = true ∧ hdrKind h = 2 ∧ ((s.line e).rxLine = none ∨ (s.line e).rxLine = some (hdrSeq h))) ∧
    (∃ (e : Engine) (s : State), s.Ok ∧ (s.line e).claim < 65536 ∧ (s.line e).toHub = []) ∧
    (∃ (e : Engine) (s : State), (s.line e).toHub = []) ∧
    (∃ (e : Engine) (s : State), (s.line e).toLine = []) ∧
    (∃ (e : Engine) (s : State), (s.line e).toLine = []) ∧
    (∃ (e : Engine) (s : State), s.Ok ∧ s.linkGood e = true) ∧
    (∃ (e : Engine) (s : State), s.linkGood e = false) :=
  ⟨⟨.la, [1, 2], ⟨[]⟩, State.reset, by decide +kernel⟩,
   ⟨.la, [1, 2], ⟨[]⟩, State.reset, by decide +kernel⟩,
   ⟨.la, (let b : List Byte := [0, 1, 0, 0, 0, 7, 0, 64, 0, 5, 0, 9] ++ List.replicate 16 0; b ++ bytesBE 4 (crc32 b)), ⟨[1, 2]⟩, ({ mk [(PX_CLAIMS_CLAIM_A, 1)] with pair := { mode := 1, good := [(0, true), (1, true)] } }), by decide +kernel⟩,
   ⟨.la, (let b : List Byte := [0, 1, 2, 0, 0, 7, 0, 64, 0, 5, 0, 9] ++ List.replicate 16 0; b ++ bytesBE 4 (crc32 b)), ⟨[1, 2]⟩, ({ mk [(PX_CLAIMS_CLAIM_A, 1)] with pair := { mode := 1, good := [(0, true), (1, true)] } }), by decide +kernel⟩,
   ⟨.la, (let b : List Byte := [0, 1, 3, 0, 0, 7, 0, 64, 0, 5, 0, 9] ++ List.replicate 16 0; b ++ bytesBE 4 (crc32 b)), ⟨[1, 2]⟩, ({ mk [(PX_CLAIMS_CLAIM_A, 1)] with pair := { mode := 1, good := [(0, true), (1, true)] } }), by decide +kernel⟩,
   ⟨.la, (let b : List Byte := [0, 1, 0, 0, 0, 7, 0, 64, 0, 5, 0, 9] ++ List.replicate 16 0; b ++ bytesBE 4 (crc32 b)), ⟨[1, 2]⟩, (mk [(BURST_SLOT_CELLS 0 0, 20), (BURST_QPORT_VALID 0 5, 1)]), by decide +kernel⟩,
   ⟨.la, (let b : List Byte := [0, 1, 0, 0, 0, 7, 0, 64, 0, 5, 0, 9] ++ List.replicate 16 0; b ++ bytesBE 4 (crc32 b)), ⟨List.replicate 9000 0⟩, (mk [(BURST_SLOT_CELLS 0 0, 20)]), by decide +kernel⟩,
   ⟨.lb, (let b : List Byte := [0, 1, 0, 0, 0, 7, 0, 64, 0, 5, 0, 9] ++ List.replicate 16 0; b ++ bytesBE 4 (crc32 b)), ⟨[1, 2]⟩, ({ mk [(PX_CLAIMS_CLAIM_A, 1)] with pair := { mode := 1, good := [(0, true), (1, true)] } }), by decide +kernel⟩,
   ⟨.la, (let b : List Byte := [0, 1, 1, 0, 0, 7, 0, 64, 0, 5, 0, 9] ++ List.replicate 16 0; b ++ bytesBE 4 (crc32 b)), ⟨[1, 2]⟩, State.reset, by decide +kernel⟩,
   ⟨.la, (let b : List Byte := [0, 1, 34, 0, 0, 7, 0, 64, 0, 5, 0, 9] ++ List.replicate 16 0; b ++ bytesBE 4 (crc32 b)), ⟨[1, 2]⟩, State.reset, by decide +kernel⟩,
   ⟨.lb, ({ ({ mk [(PX_CLAIMS_CLAIM_A, 1)] with pair := { mode := 1, good := [(0, true), (1, true)] } }) with lines := [(1, { claim := 2 })] }), by decide +kernel⟩,
   ⟨.la, State.reset, by decide +kernel⟩,
   ⟨.la, State.reset, by decide +kernel⟩,
   ⟨.lb, ({ ({ mk [(PX_CLAIMS_CLAIM_A, 1)] with pair := { mode := 1, good := [(0, true), (1, true)] } }) with lines := [(0, { claim := 1 })] }), by decide +kernel⟩,
   ⟨.la, ({ mk [(PX_CLAIMS_CLAIM_A, 1)] with pair := { mode := 1, good := [(0, true), (1, true)] } }), by decide +kernel⟩,
   ⟨.la, State.reset, by decide +kernel⟩⟩

set_option maxRecDepth 20000 in
/-- What the clauses of `KeepingInStep` assume can be met. -/
theorem witness_KeepingInStep :
    (∃ (s : State), s.Ok ∧ (s.line .la).toHub = [] ∧ (s.line .lb).toHub = [] ∧ stepDigest s .la ≠ stepDigest s .lb ∧ s.pair.mode = 2 ∧ s.isSet PX_STATUS_STEP = true) ∧
    (∃ (a : Nat) (b : Nat) (s : State), s.Ok ∧ sget (fun _ => none) s.pair.digest 0 = some a ∧ sget (fun _ => none) s.pair.digest 1 = some b ∧ a ≠ b ∧ s.pair.mode = 2 ∧ s.isSet PX_STATUS_STEP = true) ∧
    (∃ (e : Engine) (s : State), (s.line .la).toHub = [] ∧ (s.line .lb).toHub = []) ∧
    (∃ (s : State), (s.line .la).toHub = [] ∧ (s.line .lb).toHub = [] ∧ stepDigest s .la = stepDigest s .lb) ∧
    (∃ (s : State), s.stopped.contains .carrier = false ∧ s.pair.mode = 2) ∧
    (∃ (a : Agent) (s : State), a ≠ .carrier ∧ s.stopped.contains a = false) ∧
    (∃ (s : State), s.pair.mode ≠ 2) ∧
    (∃ (s : State), s.pair.step = .markReady) ∧
    (∃ (e : Engine) (b : Bool) (s : State), s.pair.step = .idle ∧ (s.line e).markIn = none) ∧
    (∃ (e : Engine) (h : List Byte) (bs : List Byte) (s : State), s.pair.step = .marked ∧ s.isSet PX_STATUS_STEP = false ∧ e ∈ s.pair.marksDue ∧ s.active = e ∧ (s.line e).markIn = some 0 ∧ (s.line e).toLine = [(h, bs)]) ∧
    (∃ (e : Engine) (h : List Byte) (bs : List Byte) (s : State), s.Ok ∧ s.pair.step = .marked ∧ e ∈ s.pair.marksDue ∧ s.active ≠ e ∧ (s.line e).markIn = some 0 ∧ (s.line e).toLine = [(h, bs)]) ∧
    (∃ (e : Engine) (h : List Byte) (bs : List Byte) (s : State), s.Ok ∧ (s.line e).markIn = some 0 ∧ (s.line e).toLine = [(h, bs)]) ∧
    (∃ (s : State), s.Ok ∧ s.pair.mode = 2 ∧ s.pair.step = .marked ∧ s.pair.marksDue = [] ∧ (s.line s.active).markAt = some [] ∧ s.cleanStep = true) ∧
    (∃ (s : State), s.pair.mode = 2 ∧ s.pair.step = .marked ∧ s.pair.marksDue = [] ∧ (s.line s.active).markAt = some [] ∧ (s.pair.digestDiff = true ∨ (∃ e ∈ [Engine.la, .lb], (s.line e).gap = true ∨ (s.line e).discarded = true))) :=
  ⟨⟨({ mk [(PX_STATUS_STEP, 1), (BURST_SLOT_VALID 0 3, 1)] with pair := { mode := 2 } }), by decide +kernel⟩,
   ⟨3, 4, ({ mk [(PX_STATUS_STEP, 1)] with pair := { mode := 2, digest := [(0, some 3), (1, some 4)] } }), by decide +kernel⟩,
   ⟨.la, State.reset, by decide +kernel⟩,
   ⟨({ State.reset with pair := { mode := 2, step := .digestWait } }), by decide +kernel⟩,
   ⟨({ mk [(PX_STATUS_STEP, 1)] with pair := { mode := 2, step := .idle, marksDue := [] } }), by decide +kernel⟩,
   ⟨.tenant, State.reset, by decide +kernel⟩,
   ⟨State.reset, by decide +kernel⟩,
   ⟨({ mk [(PX_STATUS_STEP, 1)] with pair := { mode := 2, step := .markReady, marksDue := [] } }), by decide +kernel⟩,
   ⟨.la, true, State.reset, by decide +kernel⟩,
   ⟨.la, [], [], ({ ({ mk [(PX_STATUS_STEP, 0)] with pair := { mode := 2, step := .marked, marksDue := [.la, .lb] } }) with lines := [(0, { markIn := some 0, toLine := [([], [])] })] }), by decide +kernel⟩,
   ⟨.lb, [], [], ({ ({ mk [(PX_STATUS_STEP, 0)] with pair := { mode := 2, step := .marked, marksDue := [.la, .lb] } }) with lines := [(1, { markIn := some 0, toLine := [([], [])] })] }), by decide +kernel⟩,
   ⟨.lb, [], [], ({ ({ mk [(PX_STATUS_STEP, 0)] with pair := { mode := 2, step := .marked, marksDue := [.la, .lb] } }) with lines := [(1, { markIn := some 0, toLine := [([], [])] })] }), by decide +kernel⟩,
   ⟨({ ({ mk [(PX_STATUS_STEP, 1)] with pair := { mode := 2, step := .marked, marksDue := [] } }) with lines := [(0, { markAt := some [] })] }), by decide +kernel⟩,
   ⟨({ ({ mk [(PX_STATUS_STEP, 1)] with pair := { mode := 2, step := .marked, marksDue := [] } }) with lines := [(0, { markAt := some [] }), (1, { gap := true })] }), by decide +kernel⟩⟩

/-- What the clauses of `SwitchOver` assume can be met. -/
theorem witness_SwitchOver :
    (∃ (n : Nat) (s : State), (n = 1 ∨ 5 ≤ n) ∧ n ≤ 7 ∧ s.pair.mode ≠ 0 ∧ s.pair.sw = none ∧ s.pair.judged = [] ∧ s.meets s.active.peer n = true) ∧
    (∃ (n : Nat) (s : State), (n = 1 ∨ 5 ≤ n) ∧ n ≤ 7 ∧ s.pair.sw = none ∧ s.pair.judged = [] ∧ (s.pair.mode = 0 ∨ s.meets s.active.peer n = false)) ∧
    (∃ (n : Nat) (w : SwitchOp) (s : State), 1 ≤ n ∧ n ≤ 7 ∧ s.pair.sw = some w ∧ s.pair.judged = []) ∧
    (∃ (s : State), s.pair.mode ≠ 0 ∧ s.pair.sw = none ∧ s.pair.judged = [] ∧ s.meets s.active.peer 1 = true) ∧
    (∃ (b : Bool) (s : State), s.stopped.contains .carrier = false) ∧
    (∃ (a : Agent) (e : Engine) (b : Bool) (m : Nat) (s : State), a ≠ .carrier ∧ s.stopped.contains a = false) ∧
    (∃ (e : Engine) (w : SwitchOp) (s : State), s.pair.sw = some w) ∧
    (∃ (s : State) (e : Engine), s.pair.sw = none) ∧
    (∃ (e : Engine) (w : SwitchOp) (s : State), s.Ok ∧ s.pair.sw = some w ∧ w.target = e ∧ s.get PX_STATUS_PHASE = 2 ∧ s.pair.waiting = [] ∧ s.pair.undo = none) ∧
    (∃ (e : Engine) (s : State), s.pair.sw = none) ∧
    (∃ (m : Nat) (s : State), s.Ok ∧ s.stopped.contains .carrier = false ∧ s.unclaimed = true ∧ m < 3) ∧
    (∃ (m : Nat) (s : State), 3 ≤ m ∧ s.stopped.contains .carrier = false) ∧
    (∃ (e : Engine) (s : State), s.Ok ∧ s.stopped.contains .carrier = false ∧ s.unclaimed = true) ∧
    (∃ (e : Engine) (s : State), s.Ok ∧ s.stopped.contains .carrier = false ∧ s.get PX_CTRL_MODE = 0 ∧ s.pair.sw = none ∧ s.active ≠ e ∧ (s.line s.active).claim ≠ 0 ∧ s.eligible e = false) ∧
    (∃ (e : Engine) (s : State), s.Ok ∧ s.stopped.contains .carrier = false ∧ s.get PX_CTRL_MODE = 0 ∧ s.pair.sw = none ∧ s.active ≠ e ∧ (s.line s.active).claim ≠ 0 ∧ s.eligible e = true) ∧
    (∃ (s : State), s.pair.sw = none ∧ s.pair.guarded = []) ∧
    (∃ (s : State), s.pair.sw = none ∧ s.pair.guarded = [3] ∧ s.holds 3 = false) ∧
    (∃ (s : State), s.pair.arming = false) ∧
    (∃ (s : State), s.pair.arming = true) :=
  ⟨⟨5, ({ mk [(actStateF .la 0, 5), (actStateF .lb 0, 5), (TC_DS_STATUS_LOCK 0, 1), (TC_DS_STATUS_LOCK 1, 1), (PX_CLAIMS_CLAIM_A, 1)] with pair := { mode := 1, good := [(0, true), (1, true)] }, lines := [(0, { claim := 1 })] }), by decide +kernel⟩,
   ⟨6, State.reset, by decide +kernel⟩,
   ⟨5, ⟨.lb, 6, false⟩, ({ ({ mk [(actStateF .la 0, 5), (actStateF .lb 0, 5), (TC_DS_STATUS_LOCK 0, 1), (TC_DS_STATUS_LOCK 1, 1), (PX_CLAIMS_CLAIM_A, 1)] with pair := { mode := 1, good := [(0, true), (1, true)] }, lines := [(0, { claim := 1 })] }) with pair := { mode := 1, sw := some ⟨.lb, 6, false⟩ } }), by decide +kernel⟩,
   ⟨({ mk [(actStateF .la 0, 5), (actStateF .lb 0, 5), (TC_DS_STATUS_LOCK 0, 1), (TC_DS_STATUS_LOCK 1, 1), (PX_CLAIMS_CLAIM_A, 1)] with pair := { mode := 1, good := [(0, true), (1, true)] }, lines := [(0, { claim := 1 })] }), by decide +kernel⟩,
   ⟨true, State.reset, by decide +kernel⟩,
   ⟨.tenant, .la, true, 1, State.reset, by decide +kernel⟩,
   ⟨.lb, ⟨.lb, 6, false⟩, ({ ({ mk [(actStateF .la 0, 5), (actStateF .lb 0, 5), (TC_DS_STATUS_LOCK 0, 1), (TC_DS_STATUS_LOCK 1, 1), (PX_CLAIMS_CLAIM_A, 1)] with pair := { mode := 1, good := [(0, true), (1, true)] }, lines := [(0, { claim := 1 })] }) with pair := { mode := 1, sw := some ⟨.lb, 6, false⟩ } }), by decide +kernel⟩,
   ⟨State.reset, .la, by decide +kernel⟩,
   ⟨.lb, ⟨.lb, 6, true⟩, ({ mk [(PX_STATUS_ACTIVE, 1), (PX_CLAIMS_CLAIM_B, 2), (PX_STATUS_PHASE, 2), (PX_CTRL_MODE, 1)] with pair := { mode := 1, sw := some ⟨.lb, 6, true⟩ }, lines := [(1, { claim := 2 })] }), by decide +kernel⟩,
   ⟨.la, State.reset, by decide +kernel⟩,
   ⟨2, State.reset, by decide +kernel⟩,
   ⟨3, State.reset, by decide +kernel⟩,
   ⟨.lb, State.reset, by decide +kernel⟩,
   ⟨.lb, ({ mk [(PX_CLAIMS_CLAIM_A, 1)] with pair := { mode := 0 }, lines := [(0, { claim := 1 })] }), by decide +kernel⟩,
   ⟨.lb, ({ ({ mk [(actStateF .la 0, 5), (actStateF .lb 0, 5), (TC_DS_STATUS_LOCK 0, 1), (TC_DS_STATUS_LOCK 1, 1), (PX_CLAIMS_CLAIM_A, 1)] with pair := { mode := 1, good := [(0, true), (1, true)] }, lines := [(0, { claim := 1 })] }) with pair := { mode := 0, good := [(0, true), (1, true)] } }), by decide +kernel⟩,
   ⟨({ State.reset with pair := { guard := true } }), by decide +kernel⟩,
   ⟨({ ({ mk [(actStateF .la 0, 5), (actStateF .lb 0, 5), (TC_DS_STATUS_LOCK 0, 1), (TC_DS_STATUS_LOCK 1, 1), (PX_CLAIMS_CLAIM_A, 1)] with pair := { mode := 1, good := [(0, true), (1, true)] }, lines := [(0, { claim := 1 })] }) with pair := { mode := 1, guard := true, guarded := [3], good := [(0, true), (1, true)] } }), by decide +kernel⟩,
   ⟨State.reset, by decide +kernel⟩,
   ⟨({ mk [(PX_STATUS_ACTIVE, 1)] with pair := { ready := false, arming := true }, chans := [(5, { bursts := [(⟨.traffic, 900, 800, 1000, (12, false), none, [⟨some 3, [⟨some 31, 300, 0, [], ⟨7, List.replicate 64 0, true⟩, 0, List.replicate 64 0⟩], 0⟩], 40, ⟨160, 32, false, 124416, []⟩, false⟩ : Burst)] })] }), by decide +kernel⟩⟩

/-- What the clauses of `HouseSelection` assume can be met. -/
theorem witness_HouseSelection :
    (∃ (d : Dom) (s : State), s.stopped.contains .tenant = false ∧ d ≠ s.te.sel ∧ -(2147483647 * 2 ^ 32) ≤ (s.house : Int) - s.domTime d ∧ (s.house : Int) - s.domTime d ≤ 2147483647 * 2 ^ 32) ∧
    (∃ (s : State) (n : Nat), s.Ok ∧ s.moduleHeld = false ∧ s.offFrozen = false ∧ n = s.get TE_HOUSE_CFG_SLEW * 4295) ∧
    (∃ (s : State), s.Ok ∧ s.te.off ≠ 0 ∧ 0 < s.get TE_HOUSE_CFG_SLEW ∧ s.moduleHeld = false ∧ s.offFrozen = false) ∧
    (∃ (d : Dom) (s : State), d = s.te.sel ∧ s.stopped.contains .tenant = false) ∧
    (∃ (a : Agent) (d : Dom) (s : State), a ≠ .tenant ∧ s.stopped.contains a = false) ∧
    (∃ (s : State), (s.te.off = 0 ∨ s.offFrozen = true)) :=
  ⟨⟨1, ({ State.reset with te := { dom0 := 500, dom1 := 300 } }), by decide +kernel⟩,
   ⟨State.reset, State.reset.get TE_HOUSE_CFG_SLEW * 4295, by decide +kernel⟩,
   ⟨({ State.reset with te := { off := -123456 } }), by decide +kernel⟩,
   ⟨0, State.reset, by decide +kernel⟩,
   ⟨.carrier, 1, State.reset, by decide +kernel⟩,
   ⟨State.reset, by decide +kernel⟩⟩

/-- What the clauses of `Servos` assume can be met. -/
theorem witness_Servos :
    (∃ (d : Dom) (v : Int) (s : State), s.Ok ∧ s.sampleOf d = some v ∧ s.freshSample d = true ∧ v.natAbs ≤ s.get (TE_DOM_CFG_STEP_THR d.val) * 100 * 2 ^ 32) ∧
    (∃ (d : Dom) (v : Int) (s : State), s.Ok ∧ s.sampleOf d = some v ∧ s.freshSample d = true ∧ s.get (TE_DOM_CFG_STEP_THR d.val) * 100 * 2 ^ 32 < v.natAbs ∧ d ≠ s.te.sel) ∧
    (∃ (d : Dom) (s : State), (s.sampleOf d = none ∨ s.freshSample d = false)) ∧
    (∃ (d : Dom) (u : Nat) (s : State), s.get (servoF d) = 1 ∧ s.calmSince d = some u ∧ u + 10 ^ 10 ≤ s.now) ∧
    (∃ (d : Dom) (s : State), (s.get (servoF d) ≠ 1 ∨ s.calmSince d = none)) ∧
    (∃ (d : Dom) (u : Nat) (s : State), s.Ok ∧ s.get (servoF d) = 1 ∧ s.calmSince d = some u) ∧
    (∃ (d : Dom) (s : State), s.Ok ∧ (s.get (servoF d) = 1 ∨ s.get (servoF d) = 2) ∧ (s.source d = 1 ∨ s.source d = 2) ∧ s.lineValid d = false) ∧
    (∃ (d : Dom) (u : Nat) (s : State), s.Ok ∧ (s.get (servoF d) = 1 ∨ s.get (servoF d) = 2) ∧ s.source d ≠ 1 ∧ s.source d ≠ 2 ∧ s.lastSample d = some u) ∧
    (∃ (d : Dom) (s : State), (s.get (servoF d) = 0 ∨ s.get (servoF d) = 3 ∨ s.lineValid d = true)) ∧
    (∃ (d : Dom) (i : Fin 4) (w : Word) (s : State), i.val < 3 ∧ s.source d = 0 ∧ s.stopped.contains .tenant = false) ∧
    (∃ (d : Dom) (i : Fin 4) (w : Word) (s : State), s.source d ≠ 0 ∧ s.stopped.contains .tenant = false) ∧
    (∃ (d : Dom) (w : Word) (ws : List Word) (s : State), s.Ok ∧ s.source d = 0 ∧ s.stopped.contains .tenant = false ∧ ws = (List.range 3).map (fun i => (s.heldWord .tenant (0x00800100 + 0x80 * d.val + 4 * i)).getD ((timeWords (s.domTime d)).getD i 0)) ∧ (ws.getD 2 0).toNat % 2 ^ 30 < 1000000000 ∧ d ≠ s.te.sel) ∧
    (∃ (d : Dom) (w : Word) (s : State), s.source d = 0 ∧ s.stopped.contains .tenant = false ∧ 1000000000 ≤ ((s.heldWord .tenant (0x00800108 + 0x80 * d.val)).getD ((timeWords (s.domTime d)).getD 2 0)).toNat % 2 ^ 30) ∧
    (∃ (d : Dom) (w : Word) (s : State), s.source d = 0 ∧ s.stopped.contains .tenant = false ∧ d = s.te.sel ∧ s.isSet TE_HOUSE_CFG_STEP_EN = false ∧ ((s.heldWord .tenant (0x00800108 + 0x80 * d.val)).getD ((timeWords (s.domTime d)).getD 2 0)).toNat % 2 ^ 30 < 1000000000) ∧
    (∃ (a : Agent) (d : Dom) (i : Fin 4) (b : Bool) (w : Word) (s : State), a ≠ .tenant ∧ s.stopped.contains a = false) ∧
    (∃ (d : Dom) (w : Word) (s : State), s.stopped.contains .tenant = false) ∧
    (∃ (d : Dom) (w : Word) (s : State), s.stopped.contains .tenant = false ∧ s.source d ≠ 3) ∧
    (∃ (d : Dom) (w : Word) (v : Word) (s : State), s.Ok ∧ s.stopped.contains .tenant = false ∧ s.source d = 3 ∧ s.heldWord .tenant (TE_DOM_SAMPLE d.val) = some v ∧ sget (fun _ => none) s.te.ptpAt d.val = none ∧ s.get (servoF d) = 0 ∧ (signed 32 v.toNat * 2 ^ 32 + w.toNat).natAbs ≤ s.get (TE_DOM_CFG_STEP_THR d.val) * 100 * 2 ^ 32) :=
  ⟨⟨0, -400 * 2 ^ 32, ({ mk [(TE_DOM_CFG_SOURCE 0, 1), (TC_TOD_CTRL_VALID 0, 1), (TE_DOM_STATUS_STATE 0, 3)] with te := { dom0 := 10000000000000, calmAt := [(0, some 0)], fresh := [(0, true), (1, true)] }, lines := [(0, { todOut := some (10000000000000 - 400 * 2 ^ 32), todAt := (10000000000000, 0) })] }), by decide +kernel⟩,
   ⟨1, 5000 * 2 ^ 32, ({ mk [(TE_DOM_CFG_SOURCE 1, 1), (TC_TOD_CTRL_VALID 0, 1), (TE_DOM_STATUS_STATE 1, 2)] with te := { dom1 := 10000000000000, fresh := [(1, true)] }, lines := [(0, { todOut := some (10000000000000 + 5000 * 2 ^ 32), todAt := (0, 10000000000000) })] }), by decide +kernel⟩,
   ⟨0, State.reset, by decide +kernel⟩,
   ⟨0, 0, ({ ({ mk [(TE_DOM_CFG_SOURCE 0, 1), (TC_TOD_CTRL_VALID 0, 1), (TE_DOM_STATUS_STATE 0, 1)] with te := { dom0 := 10000000000000, calmAt := [(0, some 0)], fresh := [(0, true), (1, true)] }, lines := [(0, { todOut := some 5, todAt := (10000000000000, 0) })] }) with now := 20000000000 }), by decide +kernel⟩,
   ⟨0, State.reset, by decide +kernel⟩,
   ⟨0, 0, ({ mk [(TE_DOM_CFG_SOURCE 0, 1), (TC_TOD_CTRL_VALID 0, 1), (TE_DOM_STATUS_STATE 0, 1)] with te := { dom0 := 10000000000000, calmAt := [(0, some 0)], fresh := [(0, true), (1, true)] }, lines := [(0, { todOut := some 5, todAt := (10000000000000, 0) })] }), by decide +kernel⟩,
   ⟨0, mk [(TE_DOM_CFG_SOURCE 0, 1), (TE_DOM_STATUS_STATE 0, 2)], by decide +kernel⟩,
   ⟨0, 5, ({ mk [(TE_DOM_CFG_SOURCE 0, 3), (TE_DOM_STATUS_STATE 0, 2)] with te := { smpAt := [(0, some 5)] }, now := 9 }), by decide +kernel⟩,
   ⟨0, State.reset, by decide +kernel⟩,
   ⟨1, 1, 7, State.reset, by decide +kernel⟩,
   ⟨1, 1, 7, mk [(TE_DOM_CFG_SOURCE 1, 3)], by decide +kernel⟩,
   ⟨1, 7, [5, 0, 0], ({ State.reset with aside := [⟨.tenant, 0x00800180, 5⟩] }), by decide +kernel⟩,
   ⟨1, 7, ({ State.reset with aside := [⟨.tenant, 0x00800188, 1000000000⟩] }), by decide +kernel⟩,
   ⟨0, 7, ({ mk [(TE_HOUSE_CFG_STEP_EN, 0)] with te := { dom0 := 500 }, aside := [⟨.tenant, 0x00800100, 5⟩] }), by decide +kernel⟩,
   ⟨.carrier, 1, 1, true, 7, State.reset, by decide +kernel⟩,
   ⟨1, 7, State.reset, by decide +kernel⟩,
   ⟨1, 7, State.reset, by decide +kernel⟩,
   ⟨1, 7, 0xFFFFFFF0, ({ mk [(TE_DOM_CFG_SOURCE 1, 3)] with aside := [⟨.tenant, 0x008001A0, 0xFFFFFFF0⟩] }), by decide +kernel⟩⟩

/-- What the clauses of `TimeOfDay` assume can be met. -/
theorem witness_TimeOfDay :
    (∃ (e : Engine) (s : State), s.Ok ∧ s.stopped.contains .carrier = false ∧ 2 ^ 31 ≤ ((s.reg (TC_SFC e.n 0)).toNat + 2 ^ 32 - (s.reg (TC_TOD_SFC e.n)).toNat) % 2 ^ 32) ∧
    (∃ (e : Engine) (s : State), s.Ok ∧ s.stopped.contains .carrier = false ∧ ((s.reg (TC_SFC e.n 0)).toNat + 2 ^ 32 - (s.reg (TC_TOD_SFC e.n)).toNat) % 2 ^ 32 < 2 ^ 31) ∧
    (∃ (a : Agent) (e : Engine) (s : State), a ≠ .carrier ∧ s.stopped.contains a = false) ∧
    (∃ (e : Engine) (s : State), s.Ok ∧ s.isSet (TC_TOD_CTRL_ARM e.n) = true ∧ s.reg (TC_SFC e.n 0) = s.reg (TC_TOD_SFC e.n)) ∧
    (∃ (e : Engine) (s : State), (s.isSet (TC_TOD_CTRL_ARM e.n) = false ∨ s.reg (TC_SFC e.n 0) ≠ s.reg (TC_TOD_SFC e.n))) ∧
    (∃ (s : State), s.get TE_FREQ_CFG_FSRC ≠ 0 ∧ s.te.freqHold = false) ∧
    (∃ (s : State), (s.get TE_FREQ_CFG_FSRC = 0 ∨ s.te.freqHold = true)) :=
  ⟨⟨.la, ({ mk [(TC_TOD_CTRL_VALID 0, 1)] with regs := [(0x08000300, 5)] }), by decide +kernel⟩,
   ⟨.la, mk [(TC_TOD_CTRL_VALID 0, 1)], by decide +kernel⟩,
   ⟨.host, .la, State.reset, by decide +kernel⟩,
   ⟨.la, mk [(TC_TOD_CTRL_ARM 0, 1)], by decide +kernel⟩,
   ⟨.la, State.reset, by decide +kernel⟩,
   ⟨mk [(TE_FREQ_CFG_FSRC, 2)], by decide +kernel⟩,
   ⟨State.reset, by decide +kernel⟩⟩

/-- What the clauses of `StampsOutputsActions` assume can be met. -/
theorem witness_StampsOutputsActions :
    (∃ (a : Agent) (p : Port) (x : TxStamp) (xs : List TxStamp) (s : State), (a = .tenant ∨ a = .host) ∧ s.stopped.contains a = false ∧ s.stampQueue p.val = x :: xs) ∧
    (∃ (a : Agent) (p : Port) (s : State), (a = .tenant ∨ a = .host) ∧ s.stopped.contains a = false ∧ s.stampQueue p.val = []) ∧
    (∃ (n : Fin 8) (b : Bool) (ph : Fin 8) (s : State), (s.get (TE_TIN_CFG_EDGE n.val) = 3 ∨ s.get (TE_TIN_CFG_EDGE n.val) = (if b then 1 else 2)) ∧ (∀ t, sget (fun _ => none) s.te.tinAt n.val = some t → t + 64 ≤ 8 * s.now + ph.val) ∧ (s.tinQueue n.val).length < 8 ∧ (s.get (TE_TIN_CFG_REF n.val) = 0 ∨ s.get (TE_TIN_CFG_REF n.val) = 1 ∨ s.get (TE_TIN_CFG_REF n.val) = 2)) ∧
    (∃ (n : Fin 8) (b : Bool) (ph : Fin 8) (s : State), s.Ok ∧ s.get (TE_TIN_CFG_EDGE n.val) = 3 ∧ sget (fun _ => none) s.te.tinAt n.val = none ∧ 8 ≤ (s.tinQueue n.val).length) ∧
    (∃ (n : Fin 8) (b : Bool) (ph : Fin 8) (s : State), (s.get (TE_TIN_CFG_EDGE n.val) = 0 ∨ s.get (TE_TIN_CFG_EDGE n.val) = (if b then 2 else 1))) ∧
    (∃ (n : Fin 8) (x : TinStamp) (xs : List TinStamp) (s : State), s.stopped.contains .tenant = false ∧ s.tinQueue n.val = x :: xs) ∧
    (∃ (a : Agent) (n : Fin 8) (s : State), a ≠ .tenant ∧ s.stopped.contains a = false) ∧
    (∃ (n : Fin 4) (u : Nat) (s : State), s.toutFalls n.val = none ∧ sget (fun _ => none) s.te.toutNext n.val = some u ∧ ((u : Int) + s.toutComp n.val).toNat ≤ s.house) ∧
    (∃ (n : Fin 4) (u : Nat) (s : State), s.toutFalls n.val = none ∧ sget (fun _ => none) s.te.toutNext n.val = some u) ∧
    (∃ (n : Fin 4) (u : Nat) (s : State), s.toutFalls n.val = some u ∧ ((u : Int) + s.toutComp n.val).toNat ≤ s.house) ∧
    (∃ (n : Fin 4) (u : Nat) (s : State), s.toutFalls n.val = some u) ∧
    (∃ (n : Fin 4) (s : State), s.toutFalls n.val = none ∧ sget (fun _ => none) s.te.toutNext n.val = none) ∧
    (∃ (a : Agent) (i : Fin 64) (w : Word) (s : State), a ∈ actAgents i.val ∧ s.stopped.contains a = false ∧ (a = .host → s.hostMay = true) ∧ kindOk i.val (w.field 19 16) = true ∧ (w.field 31 31 = 0 → s.armed i.val = false ∨ s.house < s.timeAt (actTime i.val)) ∧ (w.field 31 31 = 0 ∨ s.house + micro ≤ (((s.put ⟨actCtrl i.val, 19, 16⟩ (w.field 19 16)).put ⟨actCtrl i.val, 15, 0⟩ (w.field 15 0)).put ⟨actCtrl i.val, 31, 31⟩ (w.field 31 31)).timeAt (actTime i.val))) ∧
    (∃ (a : Agent) (i : Fin 64) (w : Word) (s : State), a ∉ actAgents i.val ∧ s.stopped.contains a = false) ∧
    (∃ (i : Fin 64) (w : Word) (s : State), s.Ok ∧ s.stopped.contains .tenant = false ∧ i.val < 48 ∧ kindOk i.val (w.field 19 16) = false ∧ w.field 31 31 = 0 ∧ (s.armed i.val = false ∨ s.house < s.timeAt (actTime i.val))) ∧
    (∃ (i : Fin 64) (w : Word) (s : State), s.Ok ∧ s.stopped.contains .tenant = false ∧ i.val < 48 ∧ (w.field 19 16 = 0 ∨ w.field 19 16 = 5) ∧ w.field 31 31 = 1 ∧ s.timeAt (actTime i.val) < s.house + micro ∧ s.actPeriod i.val = 0) ∧
    (∃ (i : Fin 64) (s : State), s.Ok ∧ s.armed i.val = true ∧ s.timeAt (actTime i.val) ≤ s.house ∧ (s.get ⟨actCtrl i.val, 19, 16⟩ = 0 ∨ s.get ⟨actCtrl i.val, 19, 16⟩ = 5)) ∧
    (∃ (i : Fin 64) (w : Word) (s : State), s.Ok ∧ s.stopped.contains .tenant = false ∧ i.val < 48 ∧ w.field 31 31 = 0 ∧ s.armed i.val = true ∧ s.timeAt (actTime i.val) ≤ s.house ∧ (s.get ⟨actCtrl i.val, 19, 16⟩ = 0 ∨ s.get ⟨actCtrl i.val, 19, 16⟩ = 5)) ∧
    (∃ (i : Fin 64) (s : State), s.armed i.val = false) :=
  ⟨⟨.host, 3, ⟨5 * second + 7 * 2 ^ 32, 9, 1, 2⟩, [], ({ State.reset with te := { tsTx := [(3, [⟨5 * second + 7 * 2 ^ 32, 9, 1, 2⟩])] } }), by decide +kernel⟩,
   ⟨.host, 3, State.reset, by decide +kernel⟩,
   ⟨2, true, 5, ({ mk [(TE_TIN_CFG_EDGE 2, 3)] with now := 100, te := { dom0 := 3000000000 } }), by decide +kernel⟩,
   ⟨2, true, 5, ({ mk [(TE_TIN_CFG_EDGE 2, 3)] with te := { tin := [(2, List.replicate 8 ⟨0, true⟩)] } }), by decide +kernel⟩,
   ⟨2, true, 5, State.reset, by decide +kernel⟩,
   ⟨2, ⟨5 * second + 7 * 2 ^ 32, true⟩, [], ({ State.reset with te := { tin := [(2, [⟨5 * second + 7 * 2 ^ 32, true⟩])] } }), by decide +kernel⟩,
   ⟨.host, 2, State.reset, by decide +kernel⟩,
   ⟨1, 500, ({ State.reset with te := { dom0 := 700, toutNext := [(1, some 500)] } }), by decide +kernel⟩,
   ⟨1, 500, ({ State.reset with te := { dom0 := 700, toutNext := [(1, some 500)] } }), by decide +kernel⟩,
   ⟨1, 500, ({ State.reset with te := { dom0 := 7 * second, toutFall := [(1, some 500)], tout := [(1, true)] } }), by decide +kernel⟩,
   ⟨1, 500, ({ State.reset with te := { dom0 := 700, toutFall := [(1, some 500)], tout := [(1, true)] } }), by decide +kernel⟩,
   ⟨1, State.reset, by decide +kernel⟩,
   ⟨.tenant, 3, 0x80050000, ({ State.reset with regs := [(0x00801060, 100)] }), by decide +kernel⟩,
   ⟨.carrier, 3, 0x80050000, State.reset, by decide +kernel⟩,
   ⟨3, 0x60000, State.reset, by decide +kernel⟩,
   ⟨3, 0x80050000, ({ State.reset with te := { dom0 := 7 * second } }), by decide +kernel⟩,
   ⟨0, ({ regs := [(0x00801000, 100), (0x00801010, 0x80000000)], te := { dom0 := 100 * second } } : State), by decide +kernel⟩,
   ⟨0, 5, ({ regs := [(0x00801000, 100), (0x00801010, 0x80000000)], te := { dom0 := 100 * second } } : State), by decide +kernel⟩,
   ⟨0, State.reset, by decide +kernel⟩⟩

end Sys2Proof.Machine
end

section
/-! Reads after the shared updates, in terms of the addresses that an update may change: what a field, a flag and a 48-bit
counter show when their words are not among them, and what flags and refusals do. -/
namespace Sys2Proof.Proofs.Downstream
open Sys2Proof Sys2Proof.Machine

variable {s t u : State} {as bs : List Nat}

/-! ### Registers kept -/

theorem regsKept_refl (as : List Nat) (s : State) : regsKept as s s := fun _ _ => rfl

theorem regsKept_trans (h : regsKept as s t) (k : regsKept as t u) : regsKept as s u :=
  fun a ha => (k a ha).trans (h a ha)

theorem regsKept_of_regs_eq (h : t.regs = s.regs) : regsKept as s t := fun a _ => State.reg_congr h a

theorem regsKept_mono (h : regsKept as s t) (hs : as ⊆ bs) : regsKept bs s t := fun a ha => h a (fun m => ha (hs m))

theorem regsKept_setReg {a : Nat} (w : Word) (h : a ∈ as) : regsKept as s (s.setReg a w) :=
  fun _ ha => State.reg_setReg_other s w (fun e => ha (e ▸ h))

theorem regsKept_put {f : Fld} (v : Nat) (h : f.addr ∈ as) : regsKept as s (s.put f v) :=
  fun _ ha => State.reg_put_other s v (fun e => ha (e ▸ h))

theorem regsKept_putB {f : Fld} (b : Bool) (h : f.addr ∈ as) : regsKept as s (s.putB f b) := regsKept_put _ h

theorem regsKept_raise {a : Nat} (b src : Nat) (h : a ∈ as) : regsKept as s (s.raise a b src) :=
  regsKept_putB (f := ⟨a, b, b⟩) true h

theorem regsKept_bump {a : Nat} (n : Nat) (h : a ∈ as) (h' : a + 4 ∈ as) : regsKept as s (s.bump a n) :=
  fun _ ha => State.reg_bump_other s n (fun e => ha (e ▸ h)) (fun e => ha (e ▸ h'))

theorem regsKept_when (b : Bool) {f : State → State} (h : regsKept as s (f s)) : regsKept as s (s.when b f) := by
  cases b
  · exact regsKept_refl _ _
  · exact h

theorem regsKept_each {α : Type} (xs : List α) {f : α → State → State} (h : ∀ x ∈ xs, ∀ s, regsKept as s (f x s)) :
    ∀ s : State, regsKept as s (s.each xs f) := by
  induction xs with
  | nil => exact fun s => regsKept_refl _ s
  | cons x xs ih =>
    exact fun s => regsKept_trans (h x List.mem_cons_self s) (ih (fun y hy => h y (List.mem_cons_of_mem x hy)) (f x s))

theorem each_cons {α : Type} (x : α) (xs : List α) (f : α → State → State) (s : State) :
    s.each (x :: xs) f = (f x s).each xs f := rfl

/-- What no operation of a list changes is as before it. -/
theorem each_keeps {α β : Type} (g : State → β) (xs : List α) {f : α → State → State} (h : ∀ x ∈ xs, ∀ s, g (f x s) = g s) :
    ∀ s : State, g (s.each xs f) = g s := by
  induction xs with
  | nil => exact fun _ => rfl
  | cons x xs ih =>
    exact fun s => (ih (fun y hy => h y (List.mem_cons_of_mem x hy)) (f x s)).trans (h x List.mem_cons_self s)

/-! ### What is read of kept registers -/

theorem get_of_regsKept (h : regsKept as s t) {f : Fld} (hf : f.addr ∉ as) : t.get f = s.get f := by
  simp only [State.get, h _ hf]

theorem isSet_of_regsKept (h : regsKept as s t) {f : Fld} (hf : f.addr ∉ as) : t.isSet f = s.isSet f := by
  simp only [State.isSet, get_of_regsKept h hf]

theorem count_of_regsKept (h : regsKept as s t) {a : Nat} (ha : a ∉ as) (ha' : a + 4 ∉ as) : t.count a = s.count a := by
  simp only [State.count, h _ ha, h _ ha']

theorem get_of_reg_eq (h : ∀ a, t.reg a = s.reg a) (f : Fld) : t.get f = s.get f := by simp only [State.get, h]

theorem count_lt (s : State) (a : Nat) : s.count a < 2 ^ 48 := by
  have h := (s.reg a).isLt
  simp only [State.count]
  omega

/-! ### Single updates -/

theorem bit_ok {f : Fld} {i : Nat} (h : f.lo + i < 32) : (f.bit i).ok = true := by simp [Fld.ok, Fld.bit, h]

theorem bit_apart {f g : Fld} {i j : Nat} (h : f.lo + i ≠ g.lo + j) : (f.bit i).apart (g.bit j) = true := by
  rcases Nat.lt_or_gt_of_ne h with h | h <;> simp [Fld.apart, Fld.bit, h]

theorem get_put_other (s : State) {f g : Fld} (v : Nat) (h : g.addr ≠ f.addr) : (s.put f v).get g = s.get g := by
  simp only [State.get, State.reg_put_other s v h]

theorem get_putB_same (s : State) {f : Fld} (hf : f.ok = true) (h1 : f.hi = f.lo) (b : Bool) : (s.putB f b).get f = b.toNat := by
  rw [State.putB, State.get_put_same s hf, h1]
  cases b <;> simp

theorem get_putB_apart (s : State) {f g : Fld} (hf : f.ok = true) (hg : g.ok = true) (ha : f.apart g = true) (b : Bool) :
    (s.putB f b).get g = s.get g := State.get_put_apart s hf hg ha _

theorem isSet_put_other (s : State) {f g : Fld} (v : Nat) (h : g.addr ≠ f.addr) : (s.put f v).isSet g = s.isSet g := by
  simp only [State.isSet, get_put_other s _ h]

theorem isSet_putB_other (s : State) {f g : Fld} (b : Bool) (h : g.addr ≠ f.addr) : (s.putB f b).isSet g = s.isSet g :=
  isSet_put_other s _ h

theorem isSet_put_apart (s : State) {f g : Fld} (hf : f.ok = true) (hg : g.ok = true) (ha : f.apart g = true) (v : Nat) :
    (s.put f v).isSet g = s.isSet g := by
  simp only [State.isSet, State.get_put_apart s hf hg ha]

theorem isSet_putB_apart (s : State) {f g : Fld} (hf : f.ok = true) (hg : g.ok = true) (ha : f.apart g = true) (b : Bool) :
    (s.putB f b).isSet g = s.isSet g := isSet_put_apart s hf hg ha _

theorem isSet_raise_other (s : State) {f : Fld} {a : Nat} (b src : Nat) (h : f.addr ≠ a) :
    (s.raise a b src).isSet f = s.isSet f := isSet_putB_other s _ h

/-- A flag once set stays set whatever flag of the word is raised. -/
theorem isSet_raise (s : State) (a b src k : Nat) (hb : b < 32) (hk : k < 32) :
    (s.raise a b src).isSet ⟨a, k, k⟩ = (decide (k = b) || s.isSet ⟨a, k, k⟩) := by
  by_cases h : k = b
  · subst h
    simp only [decide_true, Bool.true_or]
    exact State.isSet_putB_same s a k hk true
  · have hd : (⟨a, b, b⟩ : Fld).apart ⟨a, k, k⟩ = true := by
      simp only [Fld.apart, Bool.or_eq_true, decide_eq_true_eq]; omega
    simp only [h, decide_false, Bool.false_or]
    exact isSet_putB_apart s (f := ⟨a, b, b⟩) (g := ⟨a, k, k⟩) (by simp [Fld.ok, hb]) (by simp [Fld.ok, hk]) hd true

theorem when_false (s : State) (f : State → State) : s.when false f = s := rfl

theorem when_true (s : State) (f : State → State) : s.when true f = f s := rfl

/-! ### Accesses by an agent -/

theorem byAgent_carrier (h : s.stopped.contains .carrier = false) (f : State → State) :
    s.byAgent [.carrier] .carrier f = f s := by
  unfold State.byAgent
  rw [h]
  rfl

theorem byAgent_refused {a : Agent} (h : s.stopped.contains a = false) (ha : a ≠ .carrier) (f : State → State) :
    s.byAgent [.carrier] a f = s.refuse a := by
  have hs : s.served [.carrier] a = false := by simp [State.served, ha]
  unfold State.byAgent
  rw [h, hs]
  rfl

/-! ### Records of a channel -/

theorem sput_sput {α : Type} (st : Store α) (k : Nat) (v w : α) : sput (sput st k v) k w = sput st k w := by
  induction st with
  | nil => simp [sput]
  | cons x xs ih =>
    obtain ⟨i, y⟩ := x
    rcases Nat.lt_trichotomy k i with h | h | h
    · simp [sput, h]
    · simp [sput, h]
    · simp [sput, show ¬ k < i by omega, show k ≠ i by omega, ih]

theorem skeep_sput {α : Type} (st : Store α) (k : Nat) (v : α) :
    skeep (fun i => decide (i ≠ k)) (sput st k v) = skeep (fun i => decide (i ≠ k)) st := by
  induction st with
  | nil => simp [skeep, sput]
  | cons x xs ih =>
    obtain ⟨i, y⟩ := x
    simp only [skeep] at ih
    rcases Nat.lt_trichotomy k i with h | h | h
    · simp [skeep, sput, h]
    · simp [skeep, sput, h]
    · simp only [skeep, sput, show ¬ k < i by omega, show k ≠ i by omega, if_false, List.filter_cons, ih]

/-- Writing an entry twice is writing it once, unless the first write drops it and the second puts another value. -/
theorem sset_sset {α : Type} [DecidableEq α] {d : Nat → α} (st : Store α) (k : Nat) {v w : α} (h : v = d k → w = d k) :
    sset d (sset d st k v) k w = sset d st k w := by
  simp only [sset_eq]
  by_cases hv : v = d k
  · simp [hv, h hv, skeep, List.filter_filter]
  · by_cases hw : w = d k
    · rw [if_pos hw, if_neg hv, if_pos hw, skeep_sput]
    · rw [if_neg hw, if_neg hv, if_neg hw, sput_sput]

/-- Two changes of a channel's record are one, where a record that the first brings back to its initial form is left there by the
second. -/
theorem modCh_modCh (s : State) (e : Engine) (c : Ch) {f g : Chan → Chan}
    (h : f (s.ch e c) = {} → g (f (s.ch e c)) = {}) : (s.modCh e c f).modCh e c g = s.modCh e c (fun x => g (f x)) := by
  have hc : (s.modCh e c f).ch e c = f (s.ch e c) := State.ch_modCh_same s e c f
  have hs := sset_sset (d := fun _ => {}) s.chans (4 * e.n + c.val) h
  rw [State.modCh, hc]
  simp only [State.modCh, hs]

theorem modCh_congr (s : State) (e : Engine) (c : Ch) {f g : Chan → Chan} (h : f (s.ch e c) = g (s.ch e c)) :
    s.modCh e c f = s.modCh e c g := by
  unfold State.modCh
  rw [h]

end Sys2Proof.Proofs.Downstream
end

section
/-! PON-layer keys and defect windows (R96 to R98, R101, R102). -/
namespace Sys2Proof.Proofs.Downstream
open Sys2Proof Sys2Proof.Machine

theorem exec_ponKeyGen (a : Agent) (e : Engine) (sl : Fin 2) (s : State) :
    exec (.ponKeyGen a e sl) s = execPonKeyGen a e sl s := rfl

theorem exec_ponKeyLoad (a : Agent) (e : Engine) (sl : Fin 2) (s : State) :
    exec (.ponKeyLoad a e sl) s = execPonKeyLoad a e sl s := rfl

theorem exec_keyControl (e : Engine) (c : Ch) (h : PloamHdr) (sl : Fin 2) (s : State) :
    exec (.keyControl e c h sl) s = execKeyControl e c h sl s := rfl

theorem exec_defectWindowClose (e : Engine) (c : Ch) (s : State) :
    exec (.defectWindowClose e c) s = execDefectWindowClose e c s := rfl

/-! ### Installing a key (R97) -/

/-- The slot has decrypted a unit within the last 10 ms, under whatever key (R97). -/
def slotBusy (s : State) (e : Engine) (slot : Nat) : Bool :=
  (sget (fun _ => none) (s.line e).keyUse slot).any (fun u => decide (s.now < u + 10000000))

/-- A Boolean read off an optional value by cases is `Option.any`. -/
theorem eq_any_of_cases {α : Type} {o : Option α} {p : α → Bool} {b : Bool} (hs : ∀ t, o = some t → b = p t)
    (hn : o = none → b = false) : b = o.any p := by
  cases o with
  | none => exact hn rfl
  | some t => exact hs t rfl

theorem slotBusy_eq (s : State) (e : Engine) (slot : Nat) :
    (match sget (fun _ => none) (s.line e).keyUse slot with
      | some t => decide (s.now < t + 10000000)
      | none => false) = slotBusy s e slot :=
  eq_any_of_cases (fun t h => by rw [h]) (fun h => by rw [h])

theorem installKey_eq (e : Engine) (slot key : Nat) (s : State) :
    installKey e slot key s =
      ((s.modLine e (fun l => { l with keys := (slot, key) :: l.keys.filter (fun x => x.1 ≠ slot) })).putB
        (keyBit e slot) true).when (slotBusy s e slot) (dsFlag e 16) := by
  rw [← slotBusy_eq]
  rfl

theorem lines_installKey (e : Engine) (slot key : Nat) (s : State) :
    (installKey e slot key s).lines =
      (s.modLine e (fun l => { l with keys := (slot, key) :: l.keys.filter (fun x => x.1 ≠ slot) })).lines := by
  rw [installKey_eq]
  cases slotBusy s e slot <;> rfl

theorem line_installKey (e : Engine) (slot key : Nat) (s : State) :
    (installKey e slot key s).line e =
      { s.line e with keys := (slot, key) :: (s.line e).keys.filter (fun x => x.1 ≠ slot) } := by
  rw [← State.line_modLine_same s e (fun l => { l with keys := (slot, key) :: l.keys.filter (fun x => x.1 ≠ slot) })]
  simp only [State.line, lines_installKey]

/-- The slot holds the key installed. -/
theorem ponKey_installKey (e : Engine) (slot key : Nat) (s : State) : (installKey e slot key s).ponKey e slot = some key := by
  simp [State.ponKey, line_installKey]

theorem regsKept_installKey (e : Engine) (slot key : Nat) (s : State) :
    regsKept [TC_KEY_STATUS e.n, TC_DS_FLAGS e.n] s (installKey e slot key s) := by
  rw [installKey_eq]
  refine regsKept_trans (t := (s.modLine e _).putB (keyBit e slot) true) ?_ (regsKept_when _ (regsKept_raise _ _ (by simp)))
  exact regsKept_putB (s := s.modLine e _) true (by simp [keyBit])

theorem freeCtr_installKey (e : Engine) (slot key : Nat) (s : State) : (installKey e slot key s).freeCtr = s.freeCtr := by
  rw [installKey_eq]
  cases slotBusy s e slot <;> rfl

/-- KEY_STATUS shows the key installed. -/
theorem isSet_keyBit_installKey (e : Engine) {slot : Nat} (hs : slot < 32) (key : Nat) (s : State) :
    (installKey e slot key s).isSet (keyBit e slot) = true := by
  have h : ∀ t : State, (t.putB (keyBit e slot) true).isSet (keyBit e slot) = true :=
    fun t => State.isSet_putB_same t (TC_KEY_STATUS e.n) (slot - 1) (by omega) true
  rw [installKey_eq]
  cases slotBusy s e slot
  · exact h _
  · exact (isSet_raise_other _ _ _ (by simp [keyBit, TC_KEY_STATUS, TC_DS_FLAGS])).trans (h _)

/-- KEY_BUSY is set when the slot was in use, and is left as it was otherwise (R97). -/
theorem isSet_keyBusy_installKey (e : Engine) (slot key : Nat) (s : State) :
    (installKey e slot key s).isSet ⟨TC_DS_FLAGS e.n, 16, 16⟩ =
      (s.isSet ⟨TC_DS_FLAGS e.n, 16, 16⟩ || slotBusy s e slot) := by
  have h : ∀ t : State, (t.putB (keyBit e slot) true).isSet ⟨TC_DS_FLAGS e.n, 16, 16⟩ = t.isSet ⟨TC_DS_FLAGS e.n, 16, 16⟩ :=
    fun t => isSet_putB_other t true (by simp [keyBit, TC_KEY_STATUS, TC_DS_FLAGS])
  rw [installKey_eq]
  cases slotBusy s e slot
  · rw [Bool.or_false]
    exact h _
  · rw [Bool.or_true]
    exact (isSet_raise _ _ _ _ _ (by decide) (by decide)).trans (by simp)

/-! ### GEN and LOAD (R96, R98) -/

theorem regsKept_putKeyOut (e : Engine) (ws : List Word) (s : State) :
    regsKept ((List.range 6).map (TC_KEY_OUT e.n)) s (putKeyOut e ws s) :=
  regsKept_each _ (fun _ hw _ => regsKept_setReg _ (List.mem_map_of_mem hw)) s

theorem lines_putKeyOut (e : Engine) (ws : List Word) (s : State) : (putKeyOut e ws s).lines = s.lines :=
  each_keeps State.lines _ (fun _ _ _ => State.setReg_lines _ _ _) s

theorem freeCtr_putKeyOut (e : Engine) (ws : List Word) (s : State) : (putKeyOut e ws s).freeCtr = s.freeCtr :=
  each_keeps State.freeCtr _ (fun _ _ _ => State.setReg_freeCtr _ _ _) s

/-- GEN is an installation of the drawn key, then writes of KEY_OUT and KEY_CMD (R96). -/
theorem genKey_eq (e : Engine) (slot : Nat) (s : State) :
    ∃ ws, genKey e slot s =
      ((putKeyOut e ws (installKey e slot (s.drawn (2 ^ 128)) s.used)).put (TC_KEY_CMD_SLOT e.n) slot).putB
        (TC_KEY_CMD_GEN e.n) false := ⟨_, rfl⟩

theorem line_genKey (e : Engine) (slot : Nat) (s : State) :
    (genKey e slot s).line e =
      { s.line e with keys := (slot, s.drawn (2 ^ 128)) :: (s.line e).keys.filter (fun x => x.1 ≠ slot) } := by
  obtain ⟨ws, h⟩ := genKey_eq e slot s
  rw [h]
  simp only [State.line, State.putB_lines, State.put_lines, lines_putKeyOut]
  exact line_installKey e slot _ s.used

theorem freeCtr_genKey (e : Engine) (slot : Nat) (s : State) : (genKey e slot s).freeCtr = s.freeCtr + 1 := by
  obtain ⟨ws, h⟩ := genKey_eq e slot s
  rw [h]
  simp only [State.putB_freeCtr, State.put_freeCtr, freeCtr_putKeyOut, freeCtr_installKey]
  rfl

theorem ponKey_genKey (e : Engine) (slot : Nat) (s : State) : (genKey e slot s).ponKey e slot = some (s.drawn (2 ^ 128)) := by
  simp [State.ponKey, line_genKey]

/-- A flag outside KEY_CMD and KEY_OUT is after GEN as the installation of the key left it. -/
theorem isSet_genKey_other (e : Engine) (slot : Nat) (s : State) {f : Fld} (hc : f.addr ≠ TC_KEY_CMD e.n)
    (ho : f.addr ∉ (List.range 6).map (TC_KEY_OUT e.n)) :
    (genKey e slot s).isSet f = (installKey e slot (s.drawn (2 ^ 128)) s.used).isSet f := by
  obtain ⟨ws, h⟩ := genKey_eq e slot s
  rw [h, isSet_putB_other _ _ hc, isSet_put_other _ _ hc]
  exact isSet_of_regsKept (regsKept_putKeyOut e ws _) ho

/-- GEN leaves KEY_CMD's LOAD_ERR as it was (R96). -/
theorem isSet_loadErr_genKey (e : Engine) (slot : Nat) (s : State) :
    (genKey e slot s).isSet (TC_KEY_CMD_LOAD_ERR e.n) = s.isSet (TC_KEY_CMD_LOAD_ERR e.n) := by
  obtain ⟨ws, h⟩ := genKey_eq e slot s
  rw [h, isSet_putB_apart _ rfl rfl (by simp [Fld.apart, TC_KEY_CMD_GEN, TC_KEY_CMD_LOAD_ERR]),
    isSet_put_apart _ rfl rfl (by simp [Fld.apart, TC_KEY_CMD_SLOT, TC_KEY_CMD_LOAD_ERR]),
    isSet_of_regsKept (regsKept_putKeyOut e ws _) (by simp [TC_KEY_CMD_LOAD_ERR, TC_KEY_CMD, TC_KEY_OUT]; omega),
    isSet_of_regsKept (regsKept_installKey e slot _ s.used)
      (by simp [TC_KEY_CMD_LOAD_ERR, TC_KEY_CMD, TC_KEY_STATUS, TC_DS_FLAGS])]
  rfl

/-- What GEN shows: KEY_BUSY by the slot's use, the key installed, GEN clear, LOAD_ERR as it was (R96, R97). -/
theorem genKey_shown (e : Engine) {slot : Nat} (hs : slot < 32) (s : State) :
    (genKey e slot s).isSet ⟨TC_DS_FLAGS e.n, 16, 16⟩ = (s.isSet ⟨TC_DS_FLAGS e.n, 16, 16⟩ || slotBusy s e slot) ∧
      (genKey e slot s).isSet (keyBit e slot) = true ∧ (genKey e slot s).isSet (TC_KEY_CMD_GEN e.n) = false ∧
      (genKey e slot s).isSet (TC_KEY_CMD_LOAD_ERR e.n) = s.isSet (TC_KEY_CMD_LOAD_ERR e.n) := by
  refine ⟨?_, ?_, State.isSet_putB_same _ _ 0 (by decide) false, isSet_loadErr_genKey e slot s⟩
  · rw [isSet_genKey_other e slot s (by simp [TC_KEY_CMD, TC_DS_FLAGS]) (by simp [TC_KEY_OUT, TC_DS_FLAGS]; omega)]
    exact isSet_keyBusy_installKey e slot _ s.used
  · rw [isSet_genKey_other e slot s (by simp [keyBit, TC_KEY_CMD, TC_KEY_STATUS])
      (by simp [keyBit, TC_KEY_OUT, TC_KEY_STATUS]; omega)]
    exact isSet_keyBit_installKey e hs _ s.used

/-- The words of KEY_IN, as the bytes to unwrap (R98). -/
abbrev keyIn (s : State) (e : Engine) : List Byte :=
  wordsOctets ((List.range 6).map (fun w => s.reg (TC_KEY_IN e.n w)))

/-- LOAD installs what KEY_IN unwraps to. -/
theorem loadKey_some (e : Engine) (slot : Nat) (s : State) {k : List Byte} (h : aesUnwrap (s.kek e) (keyIn s e) = some k) :
    loadKey e slot s = installKey e (slot + 2) (numBE k)
      ((s.put (TC_KEY_CMD_SLOT e.n) slot).putB (TC_KEY_CMD_LOAD e.n) false) := by
  have h' : aesUnwrap (((s.put (TC_KEY_CMD_SLOT e.n) slot).putB (TC_KEY_CMD_LOAD e.n) false).kek e) (keyIn s e) = some k := h
  simp only [loadKey, h']

/-- LOAD of words that do not unwrap sets LOAD_ERR and leaves the keys. -/
theorem loadKey_none (e : Engine) (slot : Nat) (s : State) (h : aesUnwrap (s.kek e) (keyIn s e) = none) :
    loadKey e slot s = ((s.put (TC_KEY_CMD_SLOT e.n) slot).putB (TC_KEY_CMD_LOAD e.n) false).putB
      (TC_KEY_CMD_LOAD_ERR e.n) true := by
  have h' : aesUnwrap (((s.put (TC_KEY_CMD_SLOT e.n) slot).putB (TC_KEY_CMD_LOAD e.n) false).kek e) (keyIn s e) = none := h
  simp only [loadKey, h']

/-! ### Key_Control (R96, Table 03-4) -/

theorem toCarrier_sendUp_ploam (e : Engine) (c : Nat) (m : PloamMsg) (s : State) :
    ((sendUp e (.ploam c m) s).line e).toCarrier = (s.line e).toCarrier ++ [.ploam c m] := by
  simp [line_sendUp, Line.toCarrier]

/-- A broadcast Key_Control on channel 0 goes toward the carrier controller as a copy, and nothing else happens yet (R67, R96). -/
theorem receivePloam_keyControl_zero {e : Engine} {s : State} (h : 1 < s.act e 0) (q : Nat) (sl : Fin 2) :
    receivePloam e 0 ⟨1023, true, q⟩ (.keyControl sl) s = sendUp e (.ploam 0 ⟨⟨1023, true, q⟩, .keyControl sl⟩) s := by
  have hu : s.unicast e ⟨1023, true, q⟩ = false := by simp [State.unicast]; omega
  simp [receivePloam, hu, Nat.not_le.mpr h, State.when, ploamSupported, actPloam]

/-- A broadcast Key_Control on a side channel is refused (R53). -/
theorem receivePloam_keyControl_side {e : Engine} {c : Ch} {s : State} (hc : c ≠ 0) (h : 1 < s.act e c) (q : Nat)
    (sl : Fin 2) : receivePloam e c ⟨1023, true, q⟩ (.keyControl sl) s = actFlag e 14 s := by
  have hu : s.unicast e ⟨1023, true, q⟩ = false := by simp [State.unicast]; omega
  simp [receivePloam, hu, Nat.not_le.mpr h, State.when, engineWide, hc, ploamBad]

theorem execKeyControl_zero {e : Engine} {s : State} (h : 1 < s.act e 0) (q : Nat) (sl : Fin 2) :
    execKeyControl e 0 ⟨1023, true, q⟩ sl s =
      .next (genKey e (sl.val + 1) (sendUp e (.ploam 0 ⟨⟨1023, true, q⟩, .keyControl sl⟩) s)) := by
  simp [execKeyControl, receivePloam_keyControl_zero h, toCarrier_sendUp_ploam]

theorem execKeyControl_side {e : Engine} {c : Ch} {s : State} (hc : c ≠ 0) (h : 1 < s.act e c) (q : Nat) (sl : Fin 2) :
    execKeyControl e c ⟨1023, true, q⟩ sl s = .next (actFlag e 14 s) := by
  have hl : (actFlag e 14 s).line e = s.line e := rfl
  simp [execKeyControl, receivePloam_keyControl_side hc h, hl]

/-! ### Defect windows (R101, R102) -/

/-- A window that closes under LOS or LOF judges nothing: every run starts again and the sums are emptied (R102). -/
theorem defectWindowClose_under_loss {e : Engine} {c : Ch} {s : State} (hm : s.defectsMuted e c = false)
    (hw : (s.ch e c).winCfg = none) (hl : s.los e c = true ∨ s.lof e c = true) :
    execDefectWindowClose e c s = .next (s.modCh e c (fun x =>
      { x with sdTrue := 0, sdFalse := 0, sfTrue := 0, sfFalse := 0, winBits := 0, winErr := 0, winUncorr := 0 })) := by
  have hl' : (s.los e c || s.lof e c) = true := by simpa using hl
  unfold execDefectWindowClose
  rw [if_neg (by simp [hm]), if_pos hl', breakRuns, modCh_modCh]
  · exact congrArg _ (modCh_congr s e c (by simp [hw]))
  · intro h
    rw [h]

/-- A window that is true, with the defect absent and the run grown to SET: the defect is set (R101). -/
theorem judge_set {t f set clear : Nat} (h : set ≤ t + 1) : judge true false t f set clear = (t + 1, 0, true) := by
  simp [judge, h]

/-- SF as a window judges it with the SET and CLEAR of DEF_CFG (R101). -/
def sfJudged (s : State) (e : Engine) (c : Ch) : Nat × Nat × Bool :=
  judge (decide (s.get (TC_DEF_CFG_SF_CW e.n) ≤ (s.ch e c).winUncorr)) (s.isSet ((TC_DS_STATUS_SF e.n).bit c.val))
    (s.ch e c).sfTrue (s.ch e c).sfFalse (s.get (TC_DEF_CFG_SET e.n)) (s.get (TC_DEF_CFG_CLEAR e.n))

/-- SD is set and its flag raised; the sums are emptied and the runs of both defects stand after the window. -/
def sdShown (e : Engine) (c : Ch) (s : State) : State :=
  dsFlag e (4 + c.val) ((s.modCh e c (fun y => { y with
    winBits := 0, winErr := 0, winUncorr := 0, winCfg := none, sdTrue := (s.ch e c).sdTrue + 1, sdFalse := 0,
    sfTrue := (sfJudged s e c).1, sfFalse := (sfJudged s e c).2.1 })).putB ((TC_DS_STATUS_SD e.n).bit c.val) true)

/-- SF is shown as judged, with its flag where it changed. -/
def sfShown (e : Engine) (c : Ch) (sf changed : Bool) (t : State) : State :=
  (t.putB ((TC_DS_STATUS_SF e.n).bit c.val) sf).when changed (dsFlag e (8 + c.val))

/-- The window in which SD is set (R101). -/
theorem defectWindowClose_sd_set {e : Engine} {c : Ch} {s : State} (hm : s.defectsMuted e c = false)
    (hw : (s.ch e c).winCfg = none) (hlos : s.los e c = false) (hlof : s.lof e c = false)
    (hsd : s.isSet ((TC_DS_STATUS_SD e.n).bit c.val) = false)
    (herr : s.get (TC_DEF_CFG_SD_THR e.n) * (s.ch e c).winBits < (s.ch e c).winErr * 10000)
    (hset : s.get (TC_DEF_CFG_SET e.n) ≤ (s.ch e c).sdTrue + 1) :
    execDefectWindowClose e c s = .next (purgeJudged (sfShown e c (sfJudged s e c).2.2
      (decide ((sfJudged s e c).2.2 ≠ s.isSet ((TC_DS_STATUS_SF e.n).bit c.val))) (sdShown e c s))) := by
  unfold execDefectWindowClose
  rw [if_neg (by simp [hm]), if_neg (by simp [hlos, hlof])]
  simp only [hw, Option.getD_none, hsd, decide_eq_true herr, judge_set hset]
  rfl

theorem ch_sdShown (e : Engine) (c : Ch) (s : State) :
    ((sdShown e c s).ch e c).sdTrue = (s.ch e c).sdTrue + 1 ∧ ((sdShown e c s).ch e c).sdFalse = 0 ∧
      ((sdShown e c s).ch e c).winBits = 0 := by
  have h := State.ch_modCh_same s e c (fun y => { y with
    winBits := 0, winErr := 0, winUncorr := 0, winCfg := none, sdTrue := (s.ch e c).sdTrue + 1, sdFalse := 0,
    sfTrue := (sfJudged s e c).1, sfFalse := (sfJudged s e c).2.1 })
  have hs : (sdShown e c s).ch e c = _ := h
  rw [hs]
  exact ⟨rfl, rfl, rfl⟩

theorem isSet_sdShown (e : Engine) (c : Ch) (s : State) :
    (sdShown e c s).isSet ((TC_DS_STATUS_SD e.n).bit c.val) = true ∧
      (sdShown e c s).isSet ⟨TC_DS_FLAGS e.n, 4 + c.val, 4 + c.val⟩ = true := by
  constructor
  · refine (isSet_raise_other _ _ _ ?_).trans (State.isSet_putB_same _ (TC_DS_STATUS e.n) (8 + c.val) (by omega) true)
    simp [Fld.bit, TC_DS_STATUS_SD, TC_DS_STATUS, TC_DS_FLAGS]
  · exact (isSet_raise _ _ _ _ _ (by omega) (by omega)).trans (by simp)

theorem reg_purgeJudged (s : State) (a : Nat) : (purgeJudged s).reg a = s.reg a := by
  unfold purgeJudged
  split <;> rfl

theorem ch_purgeJudged (s : State) (e : Engine) (c : Ch) : (purgeJudged s).ch e c = s.ch e c := by
  unfold purgeJudged
  split <;> rfl

theorem isSet_purgeJudged (s : State) (f : Fld) : (purgeJudged s).isSet f = s.isSet f := by
  simp only [State.isSet, get_of_reg_eq (reg_purgeJudged s)]

theorem ch_sfShown (e : Engine) (c : Ch) (sf b : Bool) (t : State) : (sfShown e c sf b t).ch e c = t.ch e c := by
  cases b <;> rfl

/-- Showing SF leaves SD's bit and flag. -/
theorem isSet_sfShown (e : Engine) (c : Ch) (sf b : Bool) (t : State) :
    (sfShown e c sf b t).isSet ((TC_DS_STATUS_SD e.n).bit c.val) = t.isSet ((TC_DS_STATUS_SD e.n).bit c.val) ∧
      (sfShown e c sf b t).isSet ⟨TC_DS_FLAGS e.n, 4 + c.val, 4 + c.val⟩ =
        t.isSet ⟨TC_DS_FLAGS e.n, 4 + c.val, 4 + c.val⟩ := by
  have hsd : (t.putB ((TC_DS_STATUS_SF e.n).bit c.val) sf).isSet ((TC_DS_STATUS_SD e.n).bit c.val) =
      t.isSet ((TC_DS_STATUS_SD e.n).bit c.val) :=
    isSet_putB_apart t (bit_ok (by simp only [TC_DS_STATUS_SF]; omega)) (bit_ok (by simp only [TC_DS_STATUS_SD]; omega))
      (bit_apart (by simp only [TC_DS_STATUS_SF, TC_DS_STATUS_SD]; omega)) sf
  have hfl : (t.putB ((TC_DS_STATUS_SF e.n).bit c.val) sf).isSet ⟨TC_DS_FLAGS e.n, 4 + c.val, 4 + c.val⟩ =
      t.isSet ⟨TC_DS_FLAGS e.n, 4 + c.val, 4 + c.val⟩ :=
    isSet_putB_other t sf (by simp [Fld.bit, TC_DS_STATUS_SF, TC_DS_STATUS, TC_DS_FLAGS])
  cases b
  · exact ⟨hsd, hfl⟩
  · refine ⟨(isSet_raise_other _ _ _ ?_).trans hsd, (isSet_raise _ _ _ _ _ (by omega) (by omega)).trans ?_⟩
    · simp [Fld.bit, TC_DS_STATUS_SD, TC_DS_STATUS, TC_DS_FLAGS]
    · rw [hfl, decide_eq_false (by omega), Bool.false_or]

/-- Settles O19: one case per clause, from what a defect window, GEN, LOAD and Key_Control each do. -/
theorem defectsAndPonKeys : Obligations.DefectsAndPonKeys := by
  unfold Obligations.DefectsAndPonKeys
  refine ⟨?_, ?_, ?_, ?_, ?_, ?_, ?_⟩
  · intro e c s _ hm hw hlos hlof hsd herr hset
    refine ⟨_, (exec_defectWindowClose e c s).trans (defectWindowClose_sd_set hm hw hlos hlof hsd herr hset), ?_⟩
    simp only [isSet_purgeJudged, ch_purgeJudged, isSet_sfShown, ch_sfShown]
    exact ⟨(isSet_sdShown e c s).1, (isSet_sdShown e c s).2, ch_sdShown e c s⟩
  · intro e c s hm hw hl
    exact defectWindowClose_under_loss hm hw hl
  · intro e sl s _ hs
    refine ⟨genKey e (sl.val + 1) s, ?_, ponKey_genKey e _ s, ?_⟩
    · rw [exec_ponKeyGen, execPonKeyGen, byAgent_carrier hs]
    · obtain ⟨hbusy, hkey, hgen, herr⟩ := genKey_shown e (slot := sl.val + 1) (by omega) s
      exact ⟨hbusy, hkey, hgen, herr, freeCtr_genKey e _ s⟩
  · intro e sl s _ hs
    refine ⟨loadKey e (sl.val + 1) s, ?_, fun k hk => ?_, fun hk => loadKey_none e _ s hk⟩
    · rw [exec_ponKeyLoad, execPonKeyLoad, byAgent_carrier hs]
    · rw [loadKey_some e _ s hk]
      exact ⟨ponKey_installKey e _ _ _, isSet_keyBit_installKey e (by omega) _ _⟩
  · intro a e sl s hs ha
    rw [exec_ponKeyGen, exec_ponKeyLoad, execPonKeyGen, execPonKeyLoad, byAgent_refused hs ha, byAgent_refused hs ha]
    exact ⟨rfl, rfl⟩
  · intro e q sl s _ h
    refine ⟨_, (exec_keyControl e 0 _ sl s).trans (execKeyControl_zero h q sl), ponKey_genKey e _ _, ?_⟩
    rw [line_genKey]
    exact toCarrier_sendUp_ploam e 0 _ s
  · intro e c q sl s hc h
    exact (exec_keyControl e c _ sl s).trans (execKeyControl_side hc h q sl)

end Sys2Proof.Proofs.Downstream
end

section
/-! Slots, line queues and grants (R86, R137, R141, R143, R154). -/
namespace Sys2Proof.Proofs.Downstream
open Sys2Proof Sys2Proof.Machine

theorem exec_assignAllocId (e : Engine) (sl : Slot) (b : SlotBinding) (s : State) :
    exec (.assignAllocId e sl b) s = execAssignAllocId e sl b s := rfl

theorem exec_slotFree (a : Agent) (e : Engine) (sl : Slot) (s : State) :
    exec (.slotFree a e sl) s = execSlotFree a e sl s := rfl

theorem exec_qportDisable (a : Agent) (e : Engine) (q : LineQ) (s : State) :
    exec (.qportDisable a e q) s = execQportDisable a e q s := rfl

theorem exec_grantReceive (e : Engine) (c : Ch) (g : Alloc) (s : State) :
    exec (.grantReceive e c g) s = execGrantReceive e c g s := rfl

/-! ### Binding the line queues of a slot (R137, Table 06-12) -/

/-- What a line queue's entry shows once it is bound: VALID, its ENC, and its Port-ID, which 0xFFFF leaves as it was. -/
def PortShown (e : Engine) (q : Nat) (enc : Bool) (port : Nat) (s t : State) : Prop :=
  t.get (BURST_QPORT_VALID e.n q) = 1 ∧ t.get (BURST_QPORT_ENC e.n q) = enc.toNat ∧
    t.get (BURST_QPORT_PORTID e.n q) = (if port < 65535 then port else s.get (BURST_QPORT_PORTID e.n q))

theorem regsKept_bindPort (e : Engine) (q : Nat) (enc : Bool) (port : Nat) (s : State) :
    regsKept [BURST_QPORT e.n q] s (bindPort e q enc port s) := by
  have h : ∀ t : State, regsKept [BURST_QPORT e.n q] t (if port < 0xFFFF then t.put (BURST_QPORT_PORTID e.n q) port else t) := by
    intro t
    split
    · exact regsKept_put _ List.mem_cons_self
    · exact regsKept_refl _ _
  exact regsKept_trans (regsKept_trans (regsKept_putB (f := BURST_QPORT_ENC e.n q) enc List.mem_cons_self) (h _))
    (regsKept_putB (f := BURST_QPORT_VALID e.n q) true List.mem_cons_self)

theorem portShown_bindPort (e : Engine) (q : Nat) (enc : Bool) (port : Nat) (s : State) :
    PortShown e q enc port s (bindPort e q enc port s) := by
  have hv : ∀ t : State, ∀ f : Fld, f.ok = true → (BURST_QPORT_VALID e.n q).apart f = true →
      (t.putB (BURST_QPORT_VALID e.n q) true).get f = t.get f := fun t f hf ha => get_putB_apart t rfl hf ha true
  unfold PortShown bindPort
  dsimp only
  rw [hv _ (BURST_QPORT_ENC e.n q) rfl (by simp [Fld.apart, BURST_QPORT_VALID, BURST_QPORT_ENC]),
    hv _ (BURST_QPORT_PORTID e.n q) rfl (by simp [Fld.apart, BURST_QPORT_VALID, BURST_QPORT_PORTID])]
  refine ⟨get_putB_same _ rfl rfl true, ?_, ?_⟩
  · have he : (s.putB (BURST_QPORT_ENC e.n q) enc).get (BURST_QPORT_ENC e.n q) = enc.toNat := get_putB_same s rfl rfl enc
    split
    · rw [State.get_put_apart _ rfl rfl (by simp [Fld.apart, BURST_QPORT_PORTID, BURST_QPORT_ENC]), he]
    · exact he
  · split
    · rw [State.get_put_same _ rfl]
      simp only [BURST_QPORT_PORTID]
      omega
    · exact get_putB_apart s rfl rfl (by simp [Fld.apart, BURST_QPORT_PORTID, BURST_QPORT_ENC]) enc

theorem portShown_of_regsKept {e : Engine} {q : Nat} {enc : Bool} {port : Nat} {s t u : State} {as : List Nat}
    (h : PortShown e q enc port s t) (k : regsKept as t u) (hq : BURST_QPORT e.n q ∉ as) : PortShown e q enc port s u := by
  obtain ⟨h1, h2, h3⟩ := h
  exact ⟨(get_of_regsKept k hq).trans h1, (get_of_regsKept k hq).trans h2, (get_of_regsKept k hq).trans h3⟩

/-- The words of the line queues that a list of bindings names. -/
def portWords (e : Engine) (sl : Nat) (ps : List (Fin 8 × Bool × Nat)) : List Nat :=
  ps.map (fun p => BURST_QPORT e.n (8 * sl + p.1.val))

/-- Binding the queues of a list, in order. -/
def bindPorts (e : Engine) (sl : Nat) (ps : List (Fin 8 × Bool × Nat)) (s : State) : State :=
  s.each ps (fun p s => bindPort e (8 * sl + p.1.val) p.2.1 p.2.2 s)

theorem regsKept_bindPorts (e : Engine) (sl : Nat) (ps : List (Fin 8 × Bool × Nat)) (s : State) :
    regsKept (portWords e sl ps) s (bindPorts e sl ps s) :=
  regsKept_each _ (fun _ hp s => regsKept_mono (regsKept_bindPort e _ _ _ s)
    (List.cons_subset.mpr ⟨List.mem_map_of_mem (f := fun p => BURST_QPORT e.n (8 * sl + p.1.val)) hp, List.nil_subset _⟩)) s

theorem portWord_not_mem {e : Engine} {sl : Nat} {k : Fin 8} {ps : List (Fin 8 × Bool × Nat)} (h : k ∉ ps.map (·.1)) :
    BURST_QPORT e.n (8 * sl + k.val) ∉ portWords e sl ps := by
  intro hm
  obtain ⟨p, hp, hq⟩ := List.mem_map.mp hm
  have hk : p.1 = k := Fin.ext (by simp only [BURST_QPORT] at hq; omega)
  exact h (hk ▸ List.mem_map_of_mem hp)

/-- Queues of distinct priorities are bound each as listed: no binding disturbs another. -/
theorem portShown_bindPorts (e : Engine) (sl : Nat) (ps : List (Fin 8 × Bool × Nat)) (hnd : (ps.map (·.1)).Nodup) :
    ∀ s : State, ∀ p ∈ ps, PortShown e (8 * sl + p.1.val) p.2.1 p.2.2 s (bindPorts e sl ps s) := by
  induction ps with
  | nil => exact fun _ _ h => absurd h List.not_mem_nil
  | cons q qs ih =>
    rw [List.map_cons, List.nodup_cons] at hnd
    intro s p hp
    have hrest := regsKept_bindPorts e sl qs (bindPort e (8 * sl + q.1.val) q.2.1 q.2.2 s)
    rcases List.mem_cons.mp hp with rfl | hp'
    · exact portShown_of_regsKept (portShown_bindPort e _ _ _ s) hrest (portWord_not_mem hnd.1)
    · obtain ⟨h1, h2, h3⟩ := ih hnd.2 (bindPort e (8 * sl + q.1.val) q.2.1 q.2.2 s) p hp'
      refine ⟨h1, h2, h3.trans ?_⟩
      have hne : p.1 ≠ q.1 := fun h => hnd.1 (h ▸ List.mem_map_of_mem hp')
      have hq : BURST_QPORT e.n (8 * sl + p.1.val) ∉ [BURST_QPORT e.n (8 * sl + q.1.val)] :=
        portWord_not_mem (ps := [q]) (by simpa using hne)
      rw [get_of_regsKept (regsKept_bindPort e _ _ _ s) (f := BURST_QPORT_PORTID e.n (8 * sl + p.1.val)) hq]

/-! ### Binding a slot (R137, R130) -/

/-- The slot's word as binding writes it: CH, CELLS where legal, Alloc-ID, VALID. -/
def bindWord (e : Engine) (sl : Nat) (b : SlotBinding) (s : State) : State :=
  let s := s.put (BURST_SLOT_CH e.n sl) b.ch.val
  let s := if 0 < b.cells ∧ b.cells < 4096 then s.put (BURST_SLOT_CELLS e.n sl) b.cells else s
  (s.put (BURST_SLOT_ALLOC_ID e.n sl) b.allocId).putB (BURST_SLOT_VALID e.n sl) true

/-- RS is due on the slot's next bonded frame. -/
def dueRs (e : Engine) (sl : Nat) (s : State) : State :=
  s.modLine e (fun l => { l with rsDone := sset (fun _ => false) l.rsDone sl false })

theorem bindSlot_eq (e : Engine) (sl : Nat) (b : SlotBinding) (s : State) :
    bindSlot e sl b s = bindPorts e sl b.ports (dueRs e sl (bindWord e sl b s)) := rfl

theorem regsKept_bindWord (e : Engine) (sl : Nat) (b : SlotBinding) (s : State) :
    regsKept [BURST_SLOT e.n sl] s (bindWord e sl b s) := by
  have hm : BURST_SLOT e.n sl ∈ [BURST_SLOT e.n sl] := List.mem_cons_self
  have h : ∀ t : State, regsKept [BURST_SLOT e.n sl] t
      (if 0 < b.cells ∧ b.cells < 4096 then t.put (BURST_SLOT_CELLS e.n sl) b.cells else t) := by
    intro t
    split
    · exact regsKept_put _ hm
    · exact regsKept_refl _ _
  exact regsKept_trans (regsKept_trans (regsKept_trans (regsKept_put (f := BURST_SLOT_CH e.n sl) b.ch.val hm) (h _))
    (regsKept_put (f := BURST_SLOT_ALLOC_ID e.n sl) b.allocId hm)) (regsKept_putB (f := BURST_SLOT_VALID e.n sl) true hm)

theorem get_bindWord (e : Engine) (sl : Nat) (b : SlotBinding) (s : State) :
    (bindWord e sl b s).get (BURST_SLOT_VALID e.n sl) = 1 ∧ (bindWord e sl b s).get (BURST_SLOT_CH e.n sl) = b.ch.val ∧
      (bindWord e sl b s).get (BURST_SLOT_ALLOC_ID e.n sl) = b.allocId % 2 ^ 14 ∧
      (bindWord e sl b s).get (BURST_SLOT_CELLS e.n sl) =
        (if 0 < b.cells ∧ b.cells < 4096 then b.cells else s.get (BURST_SLOT_CELLS e.n sl)) := by
  have hch : b.ch.val % 2 ^ 2 = b.ch.val := Nat.mod_eq_of_lt b.ch.isLt
  unfold bindWord
  split <;>
    simp (disch := simp [Fld.ok, Fld.apart, BURST_SLOT_CH, BURST_SLOT_CELLS, BURST_SLOT_ALLOC_ID, BURST_SLOT_VALID]) only
      [State.get_put_apart, get_putB_apart, State.get_put_same]
  next hc =>
    have hcells : b.cells % 2 ^ 12 = b.cells := Nat.mod_eq_of_lt hc.2
    exact ⟨get_putB_same _ rfl rfl true, hch, rfl, hcells⟩
  next => exact ⟨get_putB_same _ rfl rfl true, hch, rfl, trivial⟩

theorem sram_bindPorts (e : Engine) (sl : Nat) (ps : List (Fin 8 × Bool × Nat)) (s : State) :
    (bindPorts e sl ps s).sram = s.sram ∧ (bindPorts e sl ps s).tally = s.tally := by
  have h : ∀ p ∈ ps, ∀ s : State, ((bindPort e (8 * sl + p.1.val) p.2.1 p.2.2 s).sram,
      (bindPort e (8 * sl + p.1.val) p.2.1 p.2.2 s).tally) = (s.sram, s.tally) := by
    intro p _ s
    unfold bindPort
    dsimp only
    split <;> rfl
  exact Prod.mk.inj (each_keeps (fun s => (s.sram, s.tally)) ps h s)

theorem sram_bindWord (e : Engine) (sl : Nat) (b : SlotBinding) (s : State) :
    (bindWord e sl b s).sram = s.sram ∧ (bindWord e sl b s).tally = s.tally := by
  unfold bindWord
  split <;> exact ⟨rfl, rfl⟩

/-- Binding a slot changes no memory of a controller and no tally. -/
theorem sram_bindSlot (e : Engine) (sl : Nat) (b : SlotBinding) (s : State) :
    (bindSlot e sl b s).sram = s.sram ∧ (bindSlot e sl b s).tally = s.tally := by
  obtain ⟨hm, ht⟩ := sram_bindPorts e sl b.ports (dueRs e sl (bindWord e sl b s))
  obtain ⟨hm', ht'⟩ := sram_bindWord e sl b s
  rw [bindSlot_eq, hm, ht, dueRs, State.modLine_sram, State.modLine_tally]
  exact ⟨hm', ht'⟩

/-- A slot's word is none of the words of its line queues. -/
theorem slotWord_not_mem (e : Engine) (sl : Slot) (ps : List (Fin 8 × Bool × Nat)) :
    BURST_SLOT e.n sl.val ∉ portWords e sl.val ps := by
  intro hm
  obtain ⟨p, _, hq⟩ := List.mem_map.mp hm
  simp only [BURST_SLOT, BURST_QPORT] at hq
  omega

theorem portWord_ne_slotWord (e : Engine) (sl : Slot) (k : Fin 8) :
    BURST_QPORT e.n (8 * sl.val + k.val) ∉ [BURST_SLOT e.n sl.val] := by
  simp only [List.mem_singleton, BURST_SLOT, BURST_QPORT]
  omega

/-- Binding a slot: its word, each listed queue, and nothing else among the registers (R137). -/
theorem bindSlot_shown (e : Engine) (sl : Slot) (b : SlotBinding) (s : State) (hnd : (b.ports.map (·.1)).Nodup) :
    (bindSlot e sl.val b s).get (BURST_SLOT_VALID e.n sl.val) = 1 ∧
      (bindSlot e sl.val b s).get (BURST_SLOT_CH e.n sl.val) = b.ch.val ∧
      (bindSlot e sl.val b s).get (BURST_SLOT_ALLOC_ID e.n sl.val) = b.allocId % 2 ^ 14 ∧
      (bindSlot e sl.val b s).get (BURST_SLOT_CELLS e.n sl.val) =
        (if 0 < b.cells ∧ b.cells < 4096 then b.cells else s.get (BURST_SLOT_CELLS e.n sl.val)) ∧
      (∀ p ∈ b.ports, PortShown e (8 * sl.val + p.1.val) p.2.1 p.2.2 s (bindSlot e sl.val b s)) ∧
      regsKept (BURST_SLOT e.n sl.val :: portWords e sl.val b.ports) s (bindSlot e sl.val b s) := by
  have hd : (dueRs e sl.val (bindWord e sl.val b s)).regs = (bindWord e sl.val b s).regs := State.modLine_regs _ _ _
  have hw : regsKept [BURST_SLOT e.n sl.val] s (dueRs e sl.val (bindWord e sl.val b s)) :=
    regsKept_trans (regsKept_bindWord e sl.val b s) (regsKept_of_regs_eq hd)
  have hp := regsKept_bindPorts e sl.val b.ports (dueRs e sl.val (bindWord e sl.val b s))
  have hslot : ∀ f : Fld, f.addr = BURST_SLOT e.n sl.val →
      (bindSlot e sl.val b s).get f = (bindWord e sl.val b s).get f := fun f hf =>
    (get_of_regsKept hp (hf ▸ slotWord_not_mem e sl b.ports)).trans (get_of_reg_eq (State.reg_congr hd) f)
  obtain ⟨h1, h2, h3, h4⟩ := get_bindWord e sl.val b s
  refine ⟨(hslot _ rfl).trans h1, (hslot _ rfl).trans h2, (hslot _ rfl).trans h3, (hslot _ rfl).trans h4, ?_, ?_⟩
  · intro p hpm
    obtain ⟨k1, k2, k3⟩ := portShown_bindPorts e sl.val b.ports hnd (dueRs e sl.val (bindWord e sl.val b s)) p hpm
    refine ⟨k1, k2, k3.trans ?_⟩
    rw [get_of_regsKept hw (f := BURST_QPORT_PORTID e.n (8 * sl.val + p.1.val)) (portWord_ne_slotWord e sl p.1)]
  · exact regsKept_trans (regsKept_mono hw (by simp)) (regsKept_mono hp (by simp))

/-! ### Freeing a slot (R141) -/

theorem flushQueue_nil {e : Engine} {q : Nat} {s : State} (h : s.queue e q = []) : flushQueue e q s = s := by
  unfold flushQueue
  rw [h]

theorem flushQueue_cons {e : Engine} {q : Nat} {f : UpFrame} {fs : List UpFrame} {s : State} (h : s.queue e q = f :: fs) :
    flushQueue e q s = burstFlag e 4
      ((countRemoved e q (fs.length + 1) (setQueue e q [] s)).bump (BURST_FLUSHED e.n) (fs.length + 1)) := by
  unfold flushQueue
  rw [h]
  rfl

/-- Frames leaving a queue for good change no register. -/
theorem regs_removed (e : Engine) (q n : Nat) (s : State) : (countRemoved e q n (setQueue e q [] s)).regs = s.regs := rfl

/-- The words that discarding frames changes. -/
def flushWords (e : Engine) : List Nat := [BURST_FLUSHED e.n, BURST_FLUSHED e.n + 4, BURST_FLAGS e.n]

theorem regsKept_flushQueue (e : Engine) (q : Nat) (s : State) : regsKept (flushWords e) s (flushQueue e q s) := by
  cases h : s.queue e q with
  | nil => rw [flushQueue_nil h]; exact regsKept_refl _ _
  | cons f fs =>
    rw [flushQueue_cons h]
    refine regsKept_trans (regsKept_trans (regsKept_of_regs_eq (regs_removed e q (fs.length + 1) s))
      (regsKept_bump (fs.length + 1) ?_ ?_)) (regsKept_raise _ _ ?_) <;> simp [flushWords]

/-- A discarded queue's frames are counted in FLUSHED (Table 06-12). -/
theorem count_flushQueue (e : Engine) (q : Nat) (s : State) :
    (flushQueue e q s).count (BURST_FLUSHED e.n) = (s.count (BURST_FLUSHED e.n) + (s.queue e q).length) % 2 ^ 48 := by
  cases h : s.queue e q with
  | nil => rw [flushQueue_nil h, List.length_nil, Nat.add_zero, Nat.mod_eq_of_lt (count_lt s _)]
  | cons f fs =>
    rw [flushQueue_cons h]
    refine (count_of_regsKept (as := [BURST_FLAGS e.n]) (regsKept_raise _ _ List.mem_cons_self) ?_ ?_).trans
      ((State.count_bump _ _ _).trans ?_)
    · simp [BURST_FLUSHED, BURST_FLAGS]
    · simp [BURST_FLUSHED, BURST_FLAGS]; omega
    · rw [count_of_regsKept (as := []) (regsKept_of_regs_eq (regs_removed e q _ s)) List.not_mem_nil List.not_mem_nil,
        List.length_cons]

theorem line_burstFlag_bump (e : Engine) (b a n : Nat) (s : State) : (burstFlag e b (s.bump a n)).line e = s.line e := rfl

theorem queue_flushQueue_other (e : Engine) {q r : Nat} (s : State) (h : r ≠ q) :
    (flushQueue e q s).queue e r = s.queue e r := by
  cases hq : s.queue e q with
  | nil => rw [flushQueue_nil hq]
  | cons f fs =>
    rw [flushQueue_cons hq]
    rw [State.queue, State.queue, line_burstFlag_bump, countRemoved, setQueue, State.line_modLine_same, State.line_modLine_same]
    exact sget_sset_other _ _ h

/-- The frames of several queues of a slot are discarded one queue after another, and FLUSHED counts them all. -/
theorem count_flushQueues (e : Engine) (sl : Nat) (ks : List Nat) (hnd : ks.Nodup) :
    ∀ s : State, (s.each ks (fun k s => flushQueue e (8 * sl + k) s)).count (BURST_FLUSHED e.n) =
      (s.count (BURST_FLUSHED e.n) + (ks.map (fun k => (s.queue e (8 * sl + k)).length)).sum) % 2 ^ 48 := by
  induction ks with
  | nil =>
    intro s
    rw [List.map_nil, List.sum_nil, Nat.add_zero, Nat.mod_eq_of_lt (count_lt s _)]
    rfl
  | cons k ks ih =>
    intro s
    rw [List.nodup_cons] at hnd
    have hq : ks.map (fun j => ((flushQueue e (8 * sl + k) s).queue e (8 * sl + j)).length) =
        ks.map (fun j => (s.queue e (8 * sl + j)).length) := by
      refine List.map_congr_left (fun j hj => ?_)
      have hne : j ≠ k := fun h => hnd.1 (h ▸ hj)
      rw [queue_flushQueue_other e s (by omega)]
    have h := ih hnd.2 (flushQueue e (8 * sl + k) s)
    rw [hq, count_flushQueue] at h
    rw [each_cons, h, List.map_cons, List.sum_cons]
    omega

theorem regsKept_showRoom (e : Engine) (s : State) : regsKept [BURST_ROOM e.n] s (showRoom e s) := by
  unfold showRoom
  have h := regsKept_put (s := s) (f := BURST_ROOM_FREE e.n) (as := [BURST_ROOM e.n]) (s.cellsFree e) List.mem_cons_self
  dsimp only
  split
  · exact regsKept_trans h (regsKept_put (f := BURST_ROOM_LOW e.n) _ List.mem_cons_self)
  · exact h

/-- A freed slot: VALID clear, the frames of its queues counted in FLUSHED, and the registers it leaves alone (R141). -/
theorem freeSlot_shown (e : Engine) (sl : Slot) (s : State) :
    (freeSlot e sl.val s).get (BURST_SLOT_VALID e.n sl.val) = 0 ∧
      (freeSlot e sl.val s).count (BURST_FLUSHED e.n) = (s.count (BURST_FLUSHED e.n) +
        ((List.range 8).map (fun k => (s.queue e (8 * sl.val + k)).length)).sum) % 2 ^ 48 ∧
      regsKept [BURST_SLOT e.n sl.val, BURST_FLUSHED e.n, BURST_FLUSHED e.n + 4, BURST_FLAGS e.n, BURST_ROOM e.n] s
        (freeSlot e sl.val s) := by
  have hv : regsKept [BURST_SLOT e.n sl.val] s (s.putB (BURST_SLOT_VALID e.n sl.val) false) :=
    regsKept_putB false List.mem_cons_self
  have hf : regsKept (flushWords e) (s.putB (BURST_SLOT_VALID e.n sl.val) false)
      ((s.putB (BURST_SLOT_VALID e.n sl.val) false).each (List.range 8) (fun k s => flushQueue e (8 * sl.val + k) s)) :=
    regsKept_each _ (fun _ _ s => regsKept_flushQueue e _ s) _
  have hr := regsKept_showRoom e
    ((s.putB (BURST_SLOT_VALID e.n sl.val) false).each (List.range 8) (fun k s => flushQueue e (8 * sl.val + k) s))
  refine ⟨?_, ?_, ?_⟩
  · refine (get_of_regsKept hr ?_).trans ((get_of_regsKept hf ?_).trans (get_putB_same s rfl rfl false))
    · simp [BURST_SLOT_VALID, BURST_SLOT, BURST_ROOM]; omega
    · simp [BURST_SLOT_VALID, BURST_SLOT, flushWords, BURST_FLUSHED, BURST_FLAGS]; omega
  · refine (count_of_regsKept hr ?_ ?_).trans ((count_flushQueues e sl.val _ List.nodup_range _).trans ?_)
    · simp [BURST_FLUSHED, BURST_ROOM]
    · simp [BURST_FLUSHED, BURST_ROOM]; omega
    · rw [count_of_regsKept hv]
      · simp only [State.queue, State.line, State.putB_lines]
      · simp [BURST_FLUSHED, BURST_SLOT]; omega
      · simp [BURST_FLUSHED, BURST_SLOT]; omega
  · refine regsKept_trans (regsKept_trans (regsKept_mono hv ?_) (regsKept_mono hf ?_)) (regsKept_mono hr ?_) <;>
      simp [flushWords]

/-! ### Grants (R86, R143, R154) -/

theorem strayGrant_eq_false {c : Ch} {g : Alloc} (h : c = 0 ∨ g.allocId ≠ 1023) : strayGrant c g = false := by
  rcases h with h | h <;> simp [strayGrant, h]

theorem execGrantReceive_kept {e : Engine} {c : Ch} {g : Alloc} {s : State} (hh : g.hecOk = true)
    (hk : s.keeps e c g.allocId = true) (hc : c = 0 ∨ g.allocId ≠ 1023) :
    execGrantReceive e c g s = .next (keepGrant e c g (s.when (g.fwi && g.allocId ≠ 1023) (wakeEvent e 1))) := by
  simp [execGrantReceive, strayGrant_eq_false hc, hh, hk]

theorem execGrantReceive_not_kept {e : Engine} {c : Ch} {g : Alloc} {s : State}
    (h : g.hecOk = false ∨ s.keeps e c g.allocId = false ∧ (c = 0 ∨ g.allocId ≠ 1023)) :
    execGrantReceive e c g s = .next (skipGrant e c s) := by
  rcases h with hh | ⟨hk, hc⟩
  · simp [execGrantReceive, strayGrant, hh]
  · simp [execGrantReceive, strayGrant_eq_false hc, hk]

theorem execGrantReceive_stray {e : Engine} {c : Ch} {g : Alloc} (s : State) (hh : g.hecOk = true) (hc : c ≠ 0)
    (hg : g.allocId = 1023) : execGrantReceive e c g s = .next (skipGrant e c (ploamBad e s)) := by
  simp [execGrantReceive, strayGrant, hh, hc, hg]

/-- A structure that is not chained to one kept before it starts a grant of its own. -/
theorem keepGrant_own (e : Engine) (c : Ch) {g : Alloc} {s : State} (h : g.start ≠ 0xFFFF ∨ (s.ch e c).prevKept = false) :
    keepGrant e c g s =
      s.modCh e c (fun x => { x with grants := x.grants ++ [soleGrant s e c g], prevKept := true }) := by
  have hd : (decide (g.start = 0xFFFF) && (s.ch e c).prevKept) = false := by
    rcases h with h | h <;> simp [h]
  refine modCh_congr s e c ?_
  dsimp only
  rw [hd]

/-- A structure chained to one that was kept joins the last grant. -/
theorem keepGrant_chained {e : Engine} {c : Ch} {g : Alloc} {gs : List Grant} {l : Grant} {s : State} (h : g.start = 0xFFFF)
    (hp : (s.ch e c).prevKept = true) (hg : (s.ch e c).grants = gs ++ [l]) :
    keepGrant e c g s = s.modCh e c (fun x => { x with
      grants := gs ++ [{ l with allocs := l.allocs ++ [g], binds := l.binds ++ [s.bindOf e g] }], prevKept := true }) := by
  refine modCh_congr s e c ?_
  simp [h, hp, hg, soleGrant]

/-- Settles O22: binding and freeing a slot from what each does to the words of slots and queues, grants from what a kept
structure becomes. -/
theorem upstreamSlots : Obligations.UpstreamSlots := by
  unfold Obligations.UpstreamSlots
  refine ⟨?_, ?_, ?_, ?_, ?_, ?_, ?_, ?_, ?_, ?_, ?_, ?_⟩
  · intro e sl b s _ hv hnd
    obtain ⟨h1, h2, h3, h4, h5, h6⟩ := bindSlot_shown e sl b s hnd
    refine ⟨bindSlot e sl.val b s, ?_, h1, h2, h3, h4, h5, h6, sram_bindSlot e sl.val b s⟩
    rw [exec_assignAllocId, execAssignAllocId, if_pos hv]
  · intro e sl b s hv hs
    rw [exec_assignAllocId, exec_slotFree, execAssignAllocId, execSlotFree, byAgent_carrier hs, if_neg (by simp [hv])]
    exact ⟨rfl, rfl⟩
  · intro e sl s _ hs
    refine ⟨freeSlot e sl.val s, ?_, freeSlot_shown e sl s⟩
    rw [exec_slotFree, execSlotFree, byAgent_carrier hs]
  · intro e q s hs
    rw [exec_qportDisable, execQportDisable, byAgent_carrier hs, disableQport]
  · intro e q f fs s h
    exact flushQueue_cons h
  · intro a e sl q s ha hs
    rw [exec_slotFree, exec_qportDisable, execSlotFree, execQportDisable, byAgent_refused hs ha, byAgent_refused hs ha]
    exact ⟨rfl, rfl⟩
  · intro e c g s hh _ hk hc hf hst
    rw [exec_grantReceive, execGrantReceive_kept hh hk hc, hf, Bool.false_and, when_false, keepGrant_own e c (.inl hst)]
    simp only [soleGrant, hst, decide_false]
  · intro e c g gs l s hh _ hk hc hf hst hp hg
    rw [exec_grantReceive, execGrantReceive_kept hh hk hc, hf, Bool.false_and, when_false]
    exact congrArg _ (keepGrant_chained hst hp hg)
  · intro e c g s hh _ hk hc hf hst hp
    refine ⟨s.modCh e c (fun x => { x with grants := x.grants ++ [soleGrant s e c g], prevKept := true }),
      soleGrant s e c g, ?_, ?_⟩
    · rw [exec_grantReceive, execGrantReceive_kept hh hk hc, hf, Bool.false_and, when_false,
        keepGrant_own e c (.inr hp)]
    · rw [State.ch_modCh_same]
      exact ⟨rfl, by simp [soleGrant, hst], rfl, rfl⟩
  · intro e c g s h
    exact execGrantReceive_not_kept h
  · intro e c g s hh hk hf hg
    rw [exec_grantReceive, execGrantReceive_kept hh hk (.inr hg), hf, Bool.true_and, decide_eq_true hg, when_true]
  · intro e c g s hh hc hg
    exact execGrantReceive_stray s hh hc hg

end Sys2Proof.Proofs.Downstream
end

section
/-! The stages through which a downstream frame goes (Table 04-1): which register words each writes, and that it leaves the
channel's held fragments, its run of missing PSyncs and the data units on their way to the hub. -/
namespace Sys2Proof.Proofs.Downstream
open Sys2Proof Sys2Proof.Machine

variable {s t u : State} {e : Engine} {c : Ch} {as bs : List Nat}

/-! ### Words written -/

/-- No register word but those listed has been written: every search of the register file for other words finds what it found
before. -/
def OnlyWrites (as : List Nat) (s t : State) : Prop :=
  ∀ p : Nat × Word → Bool, (∀ x, p x = true → x.1 ∉ as) → t.regs.find? p = s.regs.find? p

theorem onlyWrites_of_regs_eq (h : t.regs = s.regs) : OnlyWrites as s t := fun p _ => by rw [h]

theorem OnlyWrites.trans (h : OnlyWrites as s t) (k : OnlyWrites as t u) : OnlyWrites as s u :=
  fun p hp => (k p hp).trans (h p hp)

theorem OnlyWrites.mono (h : OnlyWrites as s t) (hs : as ⊆ bs) : OnlyWrites bs s t :=
  fun p hp => h p (fun x hx m => hp x hx (hs m))

theorem find?_sput {α : Type} (st : Store α) {k : Nat} (v : α) {p : Nat × α → Bool} (hp : ∀ w, p (k, w) = false) :
    (sput st k v).find? p = st.find? p := by
  induction st with
  | nil => simp [sput, hp]
  | cons x xs ih =>
    obtain ⟨i, y⟩ := x
    simp only [sput]
    split
    · simp [List.find?_cons, hp]
    · split
      next hk => subst hk; simp [hp]
      next => simp only [List.find?_cons, ih]

theorem find?_skeep {α : Type} (st : Store α) {k : Nat} {p : Nat × α → Bool} (hp : ∀ w, p (k, w) = false) :
    (skeep (fun i => decide (i ≠ k)) st).find? p = st.find? p := by
  have h : (fun x : Nat × α => decide (decide (x.1 ≠ k) = true ∧ p x = true)) = p := by
    funext ⟨i, y⟩
    by_cases hi : i = k
    · subst hi; simp [hp]
    · simp [hi]
  rw [skeep, List.find?_filter, h]

theorem onlyWrites_setReg (s : State) {a : Nat} (w : Word) (h : a ∈ as) : OnlyWrites as s (s.setReg a w) := by
  intro p hp
  have hk : ∀ v, p (a, v) = false := fun v => by
    cases hv : p (a, v) with
    | false => rfl
    | true => exact absurd h (hp _ hv)
  show (sset regReset s.regs a w).find? p = s.regs.find? p
  rw [sset_eq]
  split
  · exact find?_skeep _ hk
  · exact find?_sput _ _ hk

theorem onlyWrites_put (s : State) {f : Fld} (v : Nat) (h : f.addr ∈ as) : OnlyWrites as s (s.put f v) :=
  onlyWrites_setReg s _ h

theorem onlyWrites_putB (s : State) {f : Fld} (b : Bool) (h : f.addr ∈ as) : OnlyWrites as s (s.putB f b) :=
  onlyWrites_put s _ h

theorem onlyWrites_raise (s : State) {a : Nat} (b src : Nat) (h : a ∈ as) : OnlyWrites as s (s.raise a b src) :=
  (onlyWrites_putB s (f := ⟨a, b, b⟩) true h).trans (onlyWrites_of_regs_eq rfl)

theorem onlyWrites_bump (s : State) {a : Nat} (n : Nat) (h : a ∈ as) (h' : a + 4 ∈ as) : OnlyWrites as s (s.bump a n) :=
  (onlyWrites_setReg s _ h).trans (onlyWrites_setReg _ _ h')

theorem sget_eq_find? {α : Type} (d : Nat → α) (st : Store α) (k : Nat) :
    sget d st k = ((st.find? (fun x => decide (x.1 = k))).map (·.2)).getD (d k) := by
  induction st with
  | nil => rfl
  | cons x xs ih =>
    obtain ⟨i, y⟩ := x
    by_cases h : i = k <;> simp [sget, h, ih]

/-- A word that is not among those written reads as before. -/
theorem OnlyWrites.regsKept (h : OnlyWrites as s t) : regsKept as s t := by
  intro a ha
  have hf := h (fun x => decide (x.1 = a)) (fun x hx => (of_decide_eq_true hx) ▸ ha)
  simp only [State.reg, sget_eq_find?, hf]

/-- The filter entry of a Port-ID is as before, where no word of the filter has been written (R93). -/
theorem OnlyWrites.portEntry (h : OnlyWrites as s t)
    (ha : ∀ a ∈ as, a < TC_PORT_FILTER e.n 0 ∨ TC_PORT_FILTER e.n 1024 ≤ a) (port : Nat) :
    t.portEntry e port = s.portEntry e port := by
  unfold State.portEntry
  rw [h]
  intro x hx hm
  simp only [Bool.and_eq_true, decide_eq_true_eq] at hx
  have := ha _ hm
  omega

/-! ### Stages -/

/-- A stage of a frame's way on channel `c`: the register words that it may write are listed, and it leaves what the channel
holds in fragments, the run of missing PSyncs and the data units on their way to the hub. -/
structure Stage (e : Engine) (c : Ch) (as : List Nat) (s t : State) : Prop where
  writes : OnlyWrites as s t
  frag : (t.ch e c).frag = (s.ch e c).frag
  misses : (t.ch e c).misses = (s.ch e c).misses
  down : (t.line e).down = (s.line e).down

theorem Stage.trans (h : Stage e c as s t) (k : Stage e c as t u) : Stage e c as s u :=
  ⟨h.writes.trans k.writes, k.frag.trans h.frag, k.misses.trans h.misses, k.down.trans h.down⟩

theorem Stage.mono (h : Stage e c as s t) (hs : as ⊆ bs) : Stage e c bs s t := ⟨h.writes.mono hs, h.frag, h.misses, h.down⟩

theorem Stage.kept (h : Stage e c as s t) : regsKept as s t := h.writes.regsKept

/-- What changes neither a channel's nor a line's record is a stage by its writes alone. -/
theorem stage_of_writes (h : OnlyWrites as s t) (hc : t.chans = s.chans) (hl : t.lines = s.lines) : Stage e c as s t := by
  have hch : t.ch e c = s.ch e c := by simp only [State.ch, hc]
  have hln : t.line e = s.line e := by simp only [State.line, hl]
  exact ⟨h, by rw [hch], by rw [hch], by rw [hln]⟩

theorem stage_refl (e : Engine) (c : Ch) (as : List Nat) (s : State) : Stage e c as s s :=
  stage_of_writes (onlyWrites_of_regs_eq rfl) rfl rfl

theorem stage_put (s : State) {f : Fld} (v : Nat) (h : f.addr ∈ as) : Stage e c as s (s.put f v) :=
  stage_of_writes (onlyWrites_put s v h) rfl rfl

theorem stage_putB (s : State) {f : Fld} (b : Bool) (h : f.addr ∈ as) : Stage e c as s (s.putB f b) := stage_put s _ h

theorem stage_raise (s : State) {a : Nat} (b src : Nat) (h : a ∈ as) : Stage e c as s (s.raise a b src) :=
  stage_of_writes (onlyWrites_raise s b src h) rfl rfl

theorem stage_bump (s : State) {a : Nat} (n : Nat) (h : a ∈ as) (h' : a + 4 ∈ as) : Stage e c as s (s.bump a n) :=
  stage_of_writes (onlyWrites_bump s n h h') rfl rfl

/-- A change of the channel's record that keeps its fragments and its run of missing PSyncs. -/
theorem stage_modCh (s : State) {f : Chan → Chan} (hf : ∀ x, (f x).frag = x.frag) (hm : ∀ x, (f x).misses = x.misses) :
    Stage e c as s (s.modCh e c f) := by
  have hc := State.ch_modCh_same s e c f
  exact ⟨onlyWrites_of_regs_eq rfl, by rw [hc, hf], by rw [hc, hm], rfl⟩

/-- A change of the line's record that keeps the data units under way. -/
theorem stage_modLine (s : State) {f : Line → Line} (hf : ∀ l, (f l).down = l.down) : Stage e c as s (s.modLine e f) := by
  have hl := State.line_modLine_same s e f
  exact ⟨onlyWrites_of_regs_eq rfl, rfl, rfl, by rw [hl, hf]⟩

theorem stage_each {α : Type} (xs : List α) {f : α → State → State} (h : ∀ x s, Stage e c as s (f x s)) :
    ∀ s : State, Stage e c as s (s.each xs f) := by
  induction xs with
  | nil => exact fun s => stage_refl e c as s
  | cons x xs ih => exact fun s => (h x s).trans (ih (f x s))

/-! ### Time up to the frame (R192, R205) -/

/-- The words that time passing may write: READY of the bags after a reset, and the flag of a slew that is done. -/
def timeWords : List Nat := [BM_STATUS, TE_FLAGS]

theorem stage_bagsReady (s : State) : Stage e c timeWords s (bagsReady s) := by
  unfold bagsReady
  split
  · exact stage_refl e c _ s
  · exact stage_putB s true (by simp [timeWords, BM_STATUS_READY])

theorem stage_setOff (o : Int) (s : State) : Stage e c timeWords s (setOff o s) := by
  have h : Stage e c timeWords s { s with te := { s.te with off := o } } :=
    stage_of_writes (onlyWrites_of_regs_eq rfl) rfl rfl
  unfold setOff
  dsimp only
  split
  · exact h.trans (stage_raise _ _ _ (by simp [timeWords]))
  · exact h

theorem stage_elapse (s : State) (n : Nat) : Stage e c timeWords s (s.elapse n) := by
  have h0 : Stage e c timeWords s { s with now := s.now + n } := stage_of_writes (onlyWrites_of_regs_eq rfl) rfl rfl
  have hb := h0.trans (stage_bagsReady _)
  have ht : ∀ (b : State) (te : TimeEngine), Stage e c timeWords b { b with te := te } :=
    fun b te => stage_of_writes (onlyWrites_of_regs_eq rfl) rfl rfl
  unfold State.elapse
  dsimp only
  split
  · exact hb
  · split
    · exact hb.trans (ht _ _)
    · exact (hb.trans (ht _ _)).trans (stage_setOff _ _)

theorem stage_until (s : State) (n : Nat) : Stage e c timeWords s (s.until n) := by
  unfold State.until
  split
  · exact stage_elapse s _
  · exact stage_refl e c _ s

end Sys2Proof.Proofs.Downstream
end

section
/-! The receive stages ahead of a frame's units, and what they count (R77, R82 to R86, R103). -/
namespace Sys2Proof.Proofs.Downstream
open Sys2Proof Sys2Proof.Machine

variable {s t u : State} {e : Engine} {c : Ch} {as bs : List Nat}

/-! ### The superframe counter (R82) -/

/-- The words of the counter check: the counter, SFC_ERR's count, and the flag of a counter taken over. -/
def sfcWords (e : Engine) (c : Ch) : List Nat :=
  [TC_SFC e.n c.val, TC_SFC e.n c.val + 4, TC_CNT e.n c.val 2, TC_CNT e.n c.val 2 + 4, TC_DS_FLAGS e.n]

theorem stage_setSfc (v : Nat) (s : State) : Stage e c (sfcWords e c) s (setSfc e c v s) :=
  (stage_put s (f := TC_SFC_SFC_LO e.n c.val) v (by simp [sfcWords, TC_SFC_SFC_LO])).trans
    (stage_put _ (f := TC_SFC_SFC_HI e.n c.val) _ (by simp [sfcWords, TC_SFC_SFC_HI]))

theorem stage_sfcCand (o : Option Nat) (s : State) :
    Stage e c (sfcWords e c) s (s.modCh e c (fun x => { x with sfcCand := o })) :=
  stage_modCh s (fun _ => by rfl) (fun _ => by rfl)

/-- The counter check of a side channel that holds a counter. -/
theorem stage_checkSfc_valid (hc : c ≠ 0) (f : DsFrame)
    (hv : s.isSet ((TC_DS_STATUS_SFC_VALID e.n).bit c.val) = true) : Stage e c (sfcWords e c) s (checkSfc e c f s) := by
  unfold checkSfc
  rw [if_pos hv]
  dsimp only
  split
  · exact (stage_sfcCand _ _).trans (stage_setSfc _ _)
  · split
    · rw [decide_eq_false hc, when_false]
      exact ((stage_sfcCand _ _).trans (stage_setSfc _ _)).trans (stage_raise _ _ _ (by simp [sfcWords]))
    · exact ((stage_bump s 1 (by simp [sfcWords]) (by simp [sfcWords])).trans (stage_setSfc _ _)).trans (stage_sfcCand _ _)

/-- The counter check of a side channel, which may adopt a counter where it holds none. -/
theorem stage_checkSfc (hc : c ≠ 0) (f : DsFrame) (s : State) :
    Stage e c (TC_DS_STATUS e.n :: sfcWords e c) s (checkSfc e c f s) := by
  cases hv : s.isSet ((TC_DS_STATUS_SFC_VALID e.n).bit c.val) with
  | true => exact (stage_checkSfc_valid hc f hv).mono (List.subset_cons_self _ _)
  | false =>
    unfold checkSfc
    rw [if_neg (by simp [hv])]
    split
    · exact ((stage_setSfc _ _).mono (List.subset_cons_self _ _)).trans
        (stage_putB _ true (by simp [Fld.bit, TC_DS_STATUS_SFC_VALID]))
    · exact stage_refl e c _ s

/-- The counter check leaves LOCK. -/
theorem locked_checkSfc (hc : c ≠ 0) (f : DsFrame) (s : State) : (checkSfc e c f s).locked e c = s.locked e c := by
  have hlock : ((TC_DS_STATUS_LOCK e.n).bit c.val).addr ∉ sfcWords e c := by
    simp [Fld.bit, TC_DS_STATUS_LOCK, TC_DS_STATUS, sfcWords, TC_SFC, TC_CNT, TC_DS_FLAGS]; omega
  cases hv : s.isSet ((TC_DS_STATUS_SFC_VALID e.n).bit c.val) with
  | true => exact isSet_of_regsKept (stage_checkSfc_valid hc f hv).kept hlock
  | false =>
    unfold checkSfc
    rw [if_neg (by simp [hv])]
    split
    · refine Eq.trans (isSet_putB_apart _ (bit_ok ?_) (bit_ok ?_) (bit_apart ?_) true)
        (isSet_of_regsKept (stage_setSfc (e := e) (c := c) (f.sfc % 2 ^ 51) s).kept hlock) <;>
        simp only [TC_DS_STATUS_SFC_VALID, TC_DS_STATUS_LOCK] <;> omega
    · rfl

/-! ### Decoder counts and captures (R84, R103, R443) -/

theorem stage_psyncSeen (hc : c ≠ 0) (v : Nat) (s : State) : Stage e c [] s (psyncSeen e c v s) := by
  unfold psyncSeen
  rw [if_neg hc]
  dsimp only
  split
  · exact stage_of_writes (onlyWrites_of_regs_eq rfl) rfl rfl
  · exact stage_refl e c _ s

/-- The words of the decoder's four counters. -/
def fecWords (e : Engine) (c : Ch) : List Nat :=
  [TC_CNT e.n c.val 4, TC_CNT e.n c.val 4 + 4, TC_CNT e.n c.val 5, TC_CNT e.n c.val 5 + 4,
   TC_CNT e.n c.val 6, TC_CNT e.n c.val 6 + 4, TC_CNT e.n c.val 7, TC_CNT e.n c.val 7 + 4]

/-- The decoder's four counters advanced. -/
def bumpFec (e : Engine) (c : Ch) (f : DsFrame) (s : State) : State :=
  (((s.bump (TC_CNT e.n c.val 4) 360).bump (TC_CNT e.n c.val 5) f.cwCorr).bump (TC_CNT e.n c.val 6) f.bitsCorr).bump
    (TC_CNT e.n c.val 7) f.cwUncorr

theorem stage_bumpFec (f : DsFrame) (s : State) : Stage e c (fecWords e c) s (bumpFec e c f s) := by
  refine Stage.trans (Stage.trans (Stage.trans (stage_bump s _ ?_ ?_) (stage_bump _ _ ?_ ?_)) (stage_bump _ _ ?_ ?_))
    (stage_bump _ _ ?_ ?_) <;> simp [fecWords]

/-- A frame's bits, errors and uncorrectable codewords, added to the open window (R101). -/
def addWindow (f : DsFrame) (x : Chan) : Chan :=
  { x with winBits := x.winBits + 6220608, winErr := x.winErr + f.bitsCorr, winUncorr := x.winUncorr + f.cwUncorr }

/-- A frame's entry in the ring of decoder counts (Table 16-9). -/
def noteFec (n : Nat) (f : DsFrame) (l : Line) : Line :=
  { l with fecRing := sset (fun _ => 0) l.fecRing n (min f.cwUncorr 255 * 2 ^ 24 + min f.bitsCorr (2 ^ 24 - 1)) }

theorem countCodewords_eq (e : Engine) (c : Ch) (f : DsFrame) (s : State) :
    ∃ n, countCodewords e c f s = ((bumpFec e c f s).modCh e c (addWindow f)).modLine e (noteFec n f) := ⟨_, rfl⟩

/-- Beside the four counters, the decoder's counts move records alone. -/
theorem stage_countCodewords_records (f : DsFrame) (s : State) :
    Stage e c [] (bumpFec e c f s) (countCodewords e c f s) := by
  obtain ⟨n, h⟩ := countCodewords_eq e c f s
  rw [h]
  exact Stage.trans (stage_modCh _ (f := addWindow f) (fun _ => rfl) (fun _ => rfl)) (stage_modLine _ (fun _ => rfl))

theorem stage_countCodewords (f : DsFrame) (s : State) : Stage e c (fecWords e c) s (countCodewords e c f s) :=
  (stage_bumpFec f s).trans ((stage_countCodewords_records f s).mono (List.nil_subset _))

theorem count_bump_other_cnt (n c j k m : Nat) (s : State) (h : j ≠ k) :
    (s.bump (TC_CNT n c j) m).count (TC_CNT n c k) = s.count (TC_CNT n c k) := by
  refine count_of_regsKept (as := [TC_CNT n c j, TC_CNT n c j + 4]) (regsKept_bump m (by simp) (by simp)) ?_ ?_ <;>
    simp [TC_CNT] <;> omega

/-- The counters of a frame's codewords (R84, R103). -/
theorem count_countCodewords (e : Engine) (c : Ch) (f : DsFrame) (s : State) :
    (countCodewords e c f s).count (TC_CNT e.n c.val 4) = (s.count (TC_CNT e.n c.val 4) + 360) % 2 ^ 48 ∧
      (countCodewords e c f s).count (TC_CNT e.n c.val 6) = (s.count (TC_CNT e.n c.val 6) + f.bitsCorr) % 2 ^ 48 ∧
      (countCodewords e c f s).count (TC_CNT e.n c.val 7) = (s.count (TC_CNT e.n c.val 7) + f.cwUncorr) % 2 ^ 48 := by
  have hk : ∀ a, (countCodewords e c f s).count a = (bumpFec e c f s).count a := fun a =>
    count_of_regsKept (stage_countCodewords_records f s).kept List.not_mem_nil List.not_mem_nil
  simp only [hk, bumpFec]
  refine ⟨?_, ?_, ?_⟩
  · rw [count_bump_other_cnt _ _ _ _ _ _ (by decide), count_bump_other_cnt _ _ _ _ _ _ (by decide),
      count_bump_other_cnt _ _ _ _ _ _ (by decide), State.count_bump]
  · rw [count_bump_other_cnt _ _ _ _ _ _ (by decide), State.count_bump, count_bump_other_cnt _ _ _ _ _ _ (by decide),
      count_bump_other_cnt _ _ _ _ _ _ (by decide)]
  · rw [State.count_bump, count_bump_other_cnt _ _ _ _ _ _ (by decide), count_bump_other_cnt _ _ _ _ _ _ (by decide),
      count_bump_other_cnt _ _ _ _ _ _ (by decide)]

/-! ### Operation control structures and maps (R83, R86) -/

theorem stage_checkOpctl (f : DsFrame) (s : State) : Stage e c [] s (checkOpctl e c f s) := by
  unfold checkOpctl
  split
  · exact (stage_modCh s (fun _ => by rfl) (fun _ => by rfl)).trans (stage_modLine _ (fun l => by simp [Line.down]))
  · exact stage_refl e c _ s

/-- The words that answers of the activation state machine may write: what stopped bursts count and flag, and the last roll. -/
def answerWords (e : Engine) (c : Ch) : List Nat :=
  [BURST_CNT e.n c.val 4, BURST_CNT e.n c.val 4 + 4, BURST_CNT e.n c.val 5, BURST_CNT e.n c.val 5 + 4,
   BURST_CNT e.n c.val 6, BURST_CNT e.n c.val 6 + 4, BURST_FLAGS e.n, TC_DISC_STAT e.n]

theorem stage_stopBurst {k : Nat} (hk : k = 4 ∨ k = 5 ∨ k = 6) (b : Nat) (s : State) :
    Stage e c (answerWords e c) s (stopBurst e c k (some b) s) := by
  have hm : BURST_CNT e.n c.val k ∈ answerWords e c ∧ BURST_CNT e.n c.val k + 4 ∈ answerWords e c := by
    rcases hk with rfl | rfl | rfl <;> simp [answerWords]
  exact (stage_bump s 1 hm.1 hm.2).trans (stage_raise _ _ _ (by simp [answerWords]))

theorem stage_answerOne (g : Grant) (s : State) : Stage e c (answerWords e c) s (answerOne e c g s).1 := by
  unfold answerOne
  split
  · exact stage_stopBurst (.inl rfl) _ s
  · exact stage_stopBurst (.inl rfl) _ s
  · split
    · exact stage_stopBurst (.inr (.inl rfl)) _ s
    · split
      · split
        · exact stage_refl e c _ s
        · split
          · dsimp only
            exact stage_modLine s (fun _ => by rfl)
          · have hu : Stage e c (answerWords e c) s s.used := stage_of_writes (onlyWrites_of_regs_eq rfl) rfl rfl
            exact hu.trans (stage_put _ _ (by simp [answerWords, TC_DISC_STAT_LAST_ROLL]))
      · exact stage_refl e c _ s

theorem stage_standBurst (b : Burst) (s : State) : Stage e c (answerWords e c) s (standBurst e c b s) := by
  unfold standBurst
  split
  · exact stage_stopBurst (.inr (.inr rfl)) _ s
  · exact stage_modCh s (fun _ => by rfl) (fun _ => by rfl)

/-- A fold that carries a state beside something else goes through stages when each of its steps does. -/
theorem stage_foldl_fst {α β : Type} (xs : List α) {f : State × β → α → State × β}
    (h : ∀ x y, Stage e c as x.1 (f x y).1) : ∀ x : State × β, Stage e c as x.1 (xs.foldl f x).1 := by
  induction xs with
  | nil => exact fun x => stage_refl e c as x.1
  | cons y ys ih => exact fun x => (h x y).trans (ih (f x y))

theorem stage_answerAll (s : State) : Stage e c (answerWords e c) s (answerAll e c s) := by
  unfold answerAll
  have h0 : Stage e c (answerWords e c) s (s.modCh e c (fun x => { x with grants := [] })) :=
    stage_modCh s (fun _ => by rfl) (fun _ => by rfl)
  refine (h0.trans ?_).trans (stage_each _ (fun b s => stage_standBurst b s) _)
  exact stage_foldl_fst (f := fun (x : State × List Burst) g =>
    ((answerOne e c g x.1).1, (answerOne e c g x.1).2.elim x.2 (fun b => byLaunch b x.2)))
    _ (fun x g => stage_answerOne g x.1) (s.modCh e c (fun x => { x with grants := [] }), [])

/-- A map without structures: what was kept before is answered where the activation state machine does so (R86, R547). -/
theorem stage_readMap_nil {f : DsFrame} (hb : f.bwmap = []) (s : State) :
    Stage e c (answerWords e c) s (readMap e c f false s) := by
  have h0 : Stage e c (answerWords e c) s (skipGrant e c s) := stage_modCh s (fun _ => by rfl) (fun _ => by rfl)
  unfold readMap endMap
  rw [hb, List.foldl_nil, if_neg (by simp)]
  dsimp only
  split
  · exact h0.trans (stage_answerAll _)
  · exact h0

end Sys2Proof.Proofs.Downstream
end

section
/-! A downstream frame from the hunter to the hub (R77, R80, R85, R93, R100, R103). -/
namespace Sys2Proof.Proofs.Downstream
open Sys2Proof Sys2Proof.Machine

variable {s t : State} {e : Engine} {c : Ch}

theorem exec_downstreamFrame (e : Engine) (c : Ch) (f : DsFrame) (s : State) :
    exec (.downstreamFrame e c f) s = execDownstreamFrame e c f s := rfl

/-! ### Ahead of the payload -/

/-- A frame has come: its PSync's instant is kept and FRAMES counts it. -/
def arrive (e : Engine) (c : Ch) (s : State) : State :=
  (s.modCh e c (fun x => { x with psync := s.uiNow })).bump (TC_CNT e.n c.val 0)

/-- The frame's counter has been checked and its PSync seen by the captures. -/
def checkFront (e : Engine) (c : Ch) (f : DsFrame) (s : State) : State :=
  psyncSeen e c ((checkSfc e c f (arrive e c s)).sfcOf e c) (checkSfc e c f (arrive e c s))

/-- Everything that is done with a frame of a side channel before its header is read. -/
def front (e : Engine) (c : Ch) (f : DsFrame) (s : State) : State := countCodewords e c f (checkFront e c f s)

/-- No time-of-day stream runs on a side channel, so a frame of it is its front and, under a valid counter, its payload. -/
theorem processFrame_eq (hc : c ≠ 0) (f : DsFrame) (s : State) :
    processFrame e c f s =
      if (front e c f s).isSet ((TC_DS_STATUS_SFC_VALID e.n).bit c.val) then
        readPayload e c f (checkOpctl e c f (front e c f s))
      else front e c f s := by
  have ht : ∀ t : State, todFrame e c t = t := fun t => by
    unfold todFrame
    rw [if_neg (by simp [hc])]
  unfold processFrame
  dsimp only
  rw [ht]
  rfl

/-- The words of a frame's arrival and counter check. -/
def checkWords (e : Engine) (c : Ch) : List Nat := TC_CNT e.n c.val 0 :: (TC_CNT e.n c.val 0 + 4) :: sfcWords e c

theorem sfcWords_subset (e : Engine) (c : Ch) : sfcWords e c ⊆ checkWords e c :=
  fun _ h => List.mem_cons_of_mem _ (List.mem_cons_of_mem _ h)

theorem stage_arrive (s : State) : Stage e c (checkWords e c) s (arrive e c s) :=
  Stage.trans (stage_modCh s (f := fun x => { x with psync := s.uiNow }) (fun _ => rfl) (fun _ => rfl))
    (stage_bump _ 1 (by simp [checkWords]) (by simp [checkWords]))

theorem count_arrive (s : State) :
    (arrive e c s).count (TC_CNT e.n c.val 0) = (s.count (TC_CNT e.n c.val 0) + 1) % 2 ^ 48 := State.count_bump _ _ _

theorem stage_checkFront (hc : c ≠ 0) (f : DsFrame) (s : State) :
    Stage e c (TC_DS_STATUS e.n :: checkWords e c) s (checkFront e c f s) := by
  have h1 := (stage_arrive (e := e) (c := c) s).mono (List.subset_cons_self (TC_DS_STATUS e.n) _)
  have h2 := (stage_checkSfc (e := e) hc f (arrive e c s)).mono
    (bs := TC_DS_STATUS e.n :: checkWords e c)
    (List.cons_subset_cons _ (sfcWords_subset e c))
  exact (h1.trans h2).trans ((stage_psyncSeen hc _ _).mono (List.nil_subset _))

/-- Counters 0 and 2 apart, the counter check leaves the channel's counters. -/
theorem count_checkFront (hc : c ≠ 0) (f : DsFrame) (s : State) {k : Nat} (h0 : k ≠ 0) (h2 : k ≠ 2) :
    (checkFront e c f s).count (TC_CNT e.n c.val k) = s.count (TC_CNT e.n c.val k) := by
  refine count_of_regsKept (stage_checkFront hc f s).kept ?_ ?_ <;>
    simp [checkWords, sfcWords, TC_CNT, TC_SFC, TC_DS_FLAGS, TC_DS_STATUS] <;> omega

theorem count_checkFront_frames (hc : c ≠ 0) (f : DsFrame) (s : State) :
    (checkFront e c f s).count (TC_CNT e.n c.val 0) = (s.count (TC_CNT e.n c.val 0) + 1) % 2 ^ 48 := by
  have h := (stage_checkSfc (e := e) hc f (arrive e c s)).trans
    ((stage_psyncSeen hc ((checkSfc e c f (arrive e c s)).sfcOf e c) _).mono (List.nil_subset _))
  refine (count_of_regsKept h.kept ?_ ?_).trans (count_arrive s) <;>
    simp [sfcWords, TC_CNT, TC_SFC, TC_DS_FLAGS, TC_DS_STATUS] <;> omega

/-- The words of everything ahead of the payload. -/
def frontWords (e : Engine) (c : Ch) : List Nat := (TC_DS_STATUS e.n :: checkWords e c) ++ fecWords e c

theorem stage_front (hc : c ≠ 0) (f : DsFrame) (s : State) : Stage e c (frontWords e c) s (front e c f s) :=
  ((stage_checkFront hc f s).mono (List.subset_append_left _ _)).trans
    ((stage_countCodewords f _).mono (List.subset_append_right _ _))

/-- The front leaves each of the channel's counters that it does not count in. -/
theorem count_front_other (hc : c ≠ 0) (f : DsFrame) (s : State) {k : Nat} (hk : k = 1 ∨ k = 3 ∨ 8 ≤ k) :
    (front e c f s).count (TC_CNT e.n c.val k) = s.count (TC_CNT e.n c.val k) := by
  refine count_of_regsKept (stage_front hc f s).kept ?_ ?_ <;>
    simp [frontWords, checkWords, sfcWords, fecWords, TC_CNT, TC_SFC, TC_DS_FLAGS, TC_DS_STATUS] <;> omega

theorem count_front_frames (hc : c ≠ 0) (f : DsFrame) (s : State) :
    (front e c f s).count (TC_CNT e.n c.val 0) = (s.count (TC_CNT e.n c.val 0) + 1) % 2 ^ 48 := by
  refine (count_of_regsKept (stage_countCodewords f _).kept ?_ ?_).trans (count_checkFront_frames hc f s)
  · simp [fecWords, TC_CNT]; omega
  · simp [fecWords, TC_CNT]

/-- The decoder's counts of a frame (R84, R103). -/
theorem count_front_codewords (hc : c ≠ 0) (f : DsFrame) (s : State) :
    (front e c f s).count (TC_CNT e.n c.val 4) = (s.count (TC_CNT e.n c.val 4) + 360) % 2 ^ 48 ∧
      (front e c f s).count (TC_CNT e.n c.val 6) = (s.count (TC_CNT e.n c.val 6) + f.bitsCorr) % 2 ^ 48 ∧
      (front e c f s).count (TC_CNT e.n c.val 7) = (s.count (TC_CNT e.n c.val 7) + f.cwUncorr) % 2 ^ 48 := by
  have h := count_countCodewords e c f (checkFront e c f s)
  rwa [count_checkFront hc f s (by decide) (by decide), count_checkFront hc f s (by decide) (by decide),
    count_checkFront hc f s (by decide) (by decide)] at h

theorem locked_front (hc : c ≠ 0) (f : DsFrame) (s : State) : (front e c f s).locked e c = s.locked e c := by
  have ha : (arrive e c s).locked e c = s.locked e c := by
    refine isSet_of_regsKept (stage_arrive s).kept ?_
    simp [Fld.bit, TC_DS_STATUS_LOCK, checkWords, sfcWords, TC_CNT, TC_SFC, TC_DS_FLAGS, TC_DS_STATUS]; omega
  have hk := ((stage_psyncSeen hc ((checkSfc e c f (arrive e c s)).sfcOf e c)
    (checkSfc e c f (arrive e c s))).mono (List.nil_subset (fecWords e c))).trans (stage_countCodewords (e := e) f _)
  refine (isSet_of_regsKept hk.kept ?_).trans ((locked_checkSfc hc f (arrive e c s)).trans ha)
  simp [Fld.bit, TC_DS_STATUS_LOCK, fecWords, TC_CNT, TC_DS_STATUS]
  omega

/-- A counter that is valid stays valid, whatever the frame carries (R82). -/
theorem sfcValid_front (hc : c ≠ 0) (f : DsFrame) {s : State}
    (hv : s.isSet ((TC_DS_STATUS_SFC_VALID e.n).bit c.val) = true) :
    (front e c f s).isSet ((TC_DS_STATUS_SFC_VALID e.n).bit c.val) = true := by
  have hf : ((TC_DS_STATUS_SFC_VALID e.n).bit c.val).addr ∉ checkWords e c ++ fecWords e c := by
    simp [Fld.bit, TC_DS_STATUS_SFC_VALID, checkWords, sfcWords, fecWords, TC_CNT, TC_SFC, TC_DS_FLAGS, TC_DS_STATUS]; omega
  have ha : (arrive e c s).isSet ((TC_DS_STATUS_SFC_VALID e.n).bit c.val) = true :=
    (isSet_of_regsKept (stage_arrive s).kept (fun h => hf (List.mem_append_left _ h))).trans hv
  have h1 := (stage_checkSfc_valid hc f ha).mono (bs := checkWords e c ++ fecWords e c)
    (List.Subset.trans (sfcWords_subset e c) (List.subset_append_left _ _))
  have h2 := (h1.trans ((stage_psyncSeen hc ((checkSfc e c f (arrive e c s)).sfcOf e c) _).mono (List.nil_subset _))).trans
    ((stage_countCodewords (e := e) f _).mono (List.subset_append_right _ _))
  exact (isSet_of_regsKept h2.kept hf).trans ha

/-! ### A lost header (R85) -/

/-- What a frame whose HLend is lost still does: HDR_ERR counts it, its flag is set, and the held fragment goes. -/
def loseHeader (e : Engine) (c : Ch) (s : State) : State := dsFlag e 13 (dropFrag e c (s.bump (TC_CNT e.n c.val 3)))

theorem readPayload_lost {f : DsFrame} (hh : f.hlendHecOk = false) (s : State) : readPayload e c f s = loseHeader e c s := by
  unfold readPayload loseHeader
  rw [if_pos (by simp [hh])]

/-- The words that a lost header writes. -/
def lostWords (e : Engine) (c : Ch) : List Nat := [TC_CNT e.n c.val 3, TC_CNT e.n c.val 3 + 4, TC_DS_FLAGS e.n]

theorem regs_dropFrag (e : Engine) (c : Ch) (s : State) : (dropFrag e c s).regs = s.regs := rfl

theorem regsKept_loseHeader (e : Engine) (c : Ch) (s : State) : regsKept (lostWords e c) s (loseHeader e c s) :=
  regsKept_trans (regsKept_trans (regsKept_bump 1 (by simp [lostWords]) (by simp [lostWords]))
    (regsKept_of_regs_eq (regs_dropFrag e c _))) (regsKept_raise _ _ (by simp [lostWords]))

theorem ch_dsFlag (e : Engine) (b : Nat) (d : Engine) (c : Ch) (s : State) : (dsFlag e b s).ch d c = s.ch d c := rfl

theorem ch_bump (a n : Nat) (e : Engine) (c : Ch) (s : State) : (s.bump a n).ch e c = s.ch e c := rfl

theorem ch_dropFrag (e : Engine) (c : Ch) (s : State) : (dropFrag e c s).ch e c = { s.ch e c with frag := none } :=
  State.ch_modCh_same s e c _

theorem ch_loseHeader (e : Engine) (c : Ch) (s : State) : (loseHeader e c s).ch e c = { s.ch e c with frag := none } := by
  rw [loseHeader, ch_dsFlag, ch_dropFrag, ch_bump]

theorem count_dsFlag (e : Engine) (b n k : Nat) (s : State) :
    (dsFlag e b s).count (TC_CNT e.n n k) = s.count (TC_CNT e.n n k) := by
  refine count_of_regsKept (as := [TC_DS_FLAGS e.n]) (regsKept_raise _ _ List.mem_cons_self) ?_ ?_ <;>
    simp [TC_CNT, TC_DS_FLAGS] <;> omega

theorem count_dropFrag (e : Engine) (c : Ch) (a : Nat) (s : State) : (dropFrag e c s).count a = s.count a := rfl

theorem count_loseHeader (e : Engine) (c : Ch) (s : State) :
    (loseHeader e c s).count (TC_CNT e.n c.val 3) = (s.count (TC_CNT e.n c.val 3) + 1) % 2 ^ 48 := by
  rw [loseHeader, count_dsFlag, count_dropFrag, State.count_bump]

theorem count_loseHeader_other (e : Engine) (c : Ch) (s : State) {k : Nat} (hk : k ≠ 3) :
    (loseHeader e c s).count (TC_CNT e.n c.val k) = s.count (TC_CNT e.n c.val k) := by
  refine count_of_regsKept (regsKept_loseHeader e c s) ?_ ?_ <;> simp [lostWords, TC_CNT, TC_DS_FLAGS] <;> omega

theorem isSet_hdrErr_loseHeader (e : Engine) (c : Ch) (s : State) :
    (loseHeader e c s).isSet ⟨TC_DS_FLAGS e.n, 13, 13⟩ = true := by
  rw [loseHeader, dsFlag, isSet_raise _ _ _ _ _ (by decide) (by decide), decide_eq_true rfl, Bool.true_or]

theorem locked_loseHeader (e : Engine) (c : Ch) (s : State) : (loseHeader e c s).locked e c = s.locked e c := by
  refine isSet_of_regsKept (regsKept_loseHeader e c s) ?_
  simp [Fld.bit, TC_DS_STATUS_LOCK, lostWords, TC_CNT, TC_DS_FLAGS, TC_DS_STATUS]; omega

/-! ### The hunter's part (R77, R80) -/

/-- The instant at which the channel's next frame is due, in TIME cycles. -/
def frameDue (s : State) (e : Engine) (c : Ch) : Nat := (s.ch e c).psync / 497664 + 125000

theorem stage_due (s : State) : Stage e c timeWords s (s.until (frameDue s e c)) := stage_until s _

/-- No word of a line engine is written while time passes. -/
theorem lineWord_not_mem_timeWords {a : Nat} (h : 0x08000000 ≤ a) : a ∉ timeWords := by
  simp only [timeWords, List.mem_cons, List.not_mem_nil, or_false, BM_STATUS, TE_FLAGS]
  omega

/-- A field of a line engine is, when the frame is due, as it was. -/
theorem get_due (s : State) (e : Engine) (c : Ch) {f : Fld} (h : 0x08000000 ≤ f.addr) :
    (s.until (frameDue s e c)).get f = s.get f :=
  get_of_regsKept (stage_due (e := e) (c := c) s).kept (lineWord_not_mem_timeWords h)

theorem pm_due (s : State) (e : Engine) (c : Ch) : (s.until (frameDue s e c)).pm e = s.pm e :=
  get_due s e c (by simp only [BURST_PM_STATUS_STATE, BURST_PM_STATUS]; omega)

theorem psyncTol_due (s : State) (e : Engine) (c : Ch) :
    (s.until (frameDue s e c)).get (TC_SYNC_CFG_PSYNC_TOL e.n) = s.get (TC_SYNC_CFG_PSYNC_TOL e.n) :=
  get_due s e c (by simp only [TC_SYNC_CFG_PSYNC_TOL, TC_SYNC_CFG]; omega)

theorem lossM_due (s : State) (e : Engine) (c : Ch) :
    (s.until (frameDue s e c)).get (TC_SYNC_CFG_LOSS_M e.n) = s.get (TC_SYNC_CFG_LOSS_M e.n) :=
  get_due s e c (by simp only [TC_SYNC_CFG_LOSS_M, TC_SYNC_CFG]; omega)

/-- The state in which a frame that was found is processed. -/
def foundState (e : Engine) (c : Ch) (s : State) : State :=
  (s.until (frameDue s e c)).modCh e c (fun x => { x with misses := 0 })

/-- A frame whose PSync is within tolerance breaks the run of missing ones, and is processed. -/
theorem execDownstreamFrame_found {f : DsFrame} {s : State} (hh : s.hunts e c = true) (hl : s.locked e c = true)
    (hp : s.pm e ≠ 2) (ht : f.psyncDiff ≤ s.get (TC_SYNC_CFG_PSYNC_TOL e.n)) :
    execDownstreamFrame e c f s = .next (processFrame e c f (foundState e c s)) := by
  rw [← psyncTol_due s e c] at ht
  rw [← pm_due s e c] at hp
  unfold execDownstreamFrame foundState
  unfold frameDue at ht hp ⊢
  rw [if_pos (by simp [hh, hl])]
  dsimp only
  rw [if_pos ht, if_neg hp]

theorem regsKept_countMiss (e : Engine) (c : Ch) (s : State) : regsKept [TC_CNT e.n c.val 1, TC_CNT e.n c.val 1 + 4] s
    (countMiss e c s) :=
  regsKept_trans (regsKept_bump 1 (by simp) (by simp)) (regsKept_of_regs_eq (State.modCh_regs _ _ _ _))

theorem ch_countMiss (e : Engine) (c : Ch) (s : State) :
    (countMiss e c s).ch e c = { s.ch e c with misses := (s.ch e c).misses + 1 } :=
  State.ch_modCh_same (s.bump (TC_CNT e.n c.val 1)) e c (fun x => { x with misses := x.misses + 1 })

theorem count_countMiss (e : Engine) (c : Ch) (s : State) :
    (countMiss e c s).count (TC_CNT e.n c.val 1) = (s.count (TC_CNT e.n c.val 1) + 1) % 2 ^ 48 := by
  have h : (countMiss e c s).regs = (s.bump (TC_CNT e.n c.val 1)).regs := State.modCh_regs _ _ _ _
  rw [count_of_regsKept (as := []) (regsKept_of_regs_eq h) List.not_mem_nil List.not_mem_nil, State.count_bump]

/-- FRAMES is not what a missing PSync counts in. -/
theorem count_countMiss_other (e : Engine) (c : Ch) (s : State) :
    (countMiss e c s).count (TC_CNT e.n c.val 0) = s.count (TC_CNT e.n c.val 0) := by
  refine count_of_regsKept (regsKept_countMiss e c s) ?_ ?_
  · simp [TC_CNT]; omega
  · simp [TC_CNT]

/-- A missing PSync short of LOSS_M is counted, and the frame is processed all the same. -/
theorem execDownstreamFrame_missed {f : DsFrame} {s : State} (hh : s.hunts e c = true) (hl : s.locked e c = true)
    (hp : s.pm e ≠ 2) (ht : s.get (TC_SYNC_CFG_PSYNC_TOL e.n) < f.psyncDiff)
    (hm : (s.ch e c).misses + 1 < s.get (TC_SYNC_CFG_LOSS_M e.n)) :
    execDownstreamFrame e c f s = .next (processFrame e c f (countMiss e c (s.until (frameDue s e c)))) := by
  rw [← psyncTol_due s e c, ← Nat.not_le] at ht
  rw [← pm_due s e c] at hp
  have hm' : ¬ (countMiss e c (s.until (frameDue s e c))).get (TC_SYNC_CFG_LOSS_M e.n) ≤
      ((countMiss e c (s.until (frameDue s e c))).ch e c).misses := by
    rw [get_of_regsKept (regsKept_countMiss e c _) (by simp [TC_SYNC_CFG_LOSS_M, TC_SYNC_CFG, TC_CNT]; omega), lossM_due,
      ch_countMiss, (stage_due (e := e) (c := c) s).misses]
    exact Nat.not_le.mpr hm
  unfold execDownstreamFrame
  unfold frameDue at ht hp hm' ⊢
  rw [if_pos (by simp [hh, hl])]
  dsimp only
  rw [if_neg ht, if_neg hp, if_neg hp, if_neg hm']

end Sys2Proof.Proofs.Downstream
end

section
/-! A whole clear unit on its way to the hub, and the settlement of O18 (R80, R82, R85, R93, R100, R103). -/
namespace Sys2Proof.Proofs.Downstream
open Sys2Proof Sys2Proof.Machine

variable {s t : State} {e : Engine} {c : Ch}

/-! ### A frame whose header is lost -/

/-- A frame whose header is lost, from the state after its PSync was judged. -/
theorem processFrame_lost (hc : c ≠ 0) {f : DsFrame} (hh : f.hlendHecOk = false) (s : State) :
    processFrame e c f s = if (front e c f s).isSet ((TC_DS_STATUS_SFC_VALID e.n).bit c.val) then
      loseHeader e c (checkOpctl e c f (front e c f s)) else front e c f s := by
  rw [processFrame_eq hc, readPayload_lost hh]

/-- A counter that is neither of the front nor HDR_ERR is left by a frame whose header is lost, as are the run of missing PSyncs
and LOCK; FRAMES counts it. -/
theorem processFrame_lost_keeps (hc : c ≠ 0) {f : DsFrame} (hh : f.hlendHecOk = false) (s : State) :
    (processFrame e c f s).count (TC_CNT e.n c.val 1) = s.count (TC_CNT e.n c.val 1) ∧
      (processFrame e c f s).count (TC_CNT e.n c.val 0) = (s.count (TC_CNT e.n c.val 0) + 1) % 2 ^ 48 ∧
      ((processFrame e c f s).ch e c).misses = (s.ch e c).misses ∧ (processFrame e c f s).locked e c = s.locked e c := by
  have hf := stage_front hc f s (e := e)
  have ho := stage_checkOpctl f (front e c f s) (e := e) (c := c)
  have hcnt : ∀ a, (checkOpctl e c f (front e c f s)).count a = (front e c f s).count a := fun a =>
    count_of_regsKept ho.kept List.not_mem_nil List.not_mem_nil
  have hlock : (checkOpctl e c f (front e c f s)).locked e c = (front e c f s).locked e c :=
    isSet_of_regsKept ho.kept List.not_mem_nil
  rw [processFrame_lost hc hh]
  split
  · rw [count_loseHeader_other e c _ (by decide), count_loseHeader_other e c _ (by decide), ch_loseHeader, locked_loseHeader,
      hcnt, hcnt, hlock, count_front_other hc f s (.inl rfl), count_front_frames hc, locked_front hc]
    exact ⟨rfl, rfl, ho.misses.trans hf.misses, rfl⟩
  · exact ⟨count_front_other hc f s (.inl rfl), count_front_frames hc f s, hf.misses, locked_front hc f s⟩

/-- What a frame whose header is lost counts, shows and drops under a valid counter (R85, R103). -/
theorem processFrame_lost_counts (hc : c ≠ 0) {f : DsFrame} (hh : f.hlendHecOk = false) {s : State}
    (hv : s.isSet ((TC_DS_STATUS_SFC_VALID e.n).bit c.val) = true) :
    (processFrame e c f s).count (TC_CNT e.n c.val 4) = (s.count (TC_CNT e.n c.val 4) + 360) % 2 ^ 48 ∧
      (processFrame e c f s).count (TC_CNT e.n c.val 6) = (s.count (TC_CNT e.n c.val 6) + f.bitsCorr) % 2 ^ 48 ∧
      (processFrame e c f s).count (TC_CNT e.n c.val 7) = (s.count (TC_CNT e.n c.val 7) + f.cwUncorr) % 2 ^ 48 ∧
      (processFrame e c f s).count (TC_CNT e.n c.val 3) = (s.count (TC_CNT e.n c.val 3) + 1) % 2 ^ 48 ∧
      (processFrame e c f s).isSet ⟨TC_DS_FLAGS e.n, 13, 13⟩ = true ∧ ((processFrame e c f s).ch e c).frag = none ∧
      (processFrame e c f s).act e c = s.act e c := by
  have hcnt : ∀ a, (checkOpctl e c f (front e c f s)).count a = (front e c f s).count a := fun a =>
    count_of_regsKept (stage_checkOpctl f (front e c f s) (e := e) (c := c)).kept List.not_mem_nil List.not_mem_nil
  obtain ⟨h4, h6, h7⟩ := count_front_codewords hc f s (e := e)
  have hact : (loseHeader e c (checkOpctl e c f (front e c f s))).act e c = s.act e c := by
    refine (get_of_regsKept (regsKept_loseHeader e c _) ?_).trans
      ((get_of_regsKept (stage_checkOpctl f _).kept List.not_mem_nil).trans (get_of_regsKept (stage_front hc f s).kept ?_))
    · simp [actStateF, lostWords, TC_ACT_STATUS, TC_CNT, TC_DS_FLAGS]; omega
    · simp [actStateF, frontWords, checkWords, sfcWords, fecWords, TC_ACT_STATUS, TC_CNT, TC_DS_FLAGS, TC_SFC, TC_DS_STATUS]
      omega
  rw [processFrame_lost hc hh, if_pos (sfcValid_front hc f hv), count_loseHeader_other e c _ (by decide),
    count_loseHeader_other e c _ (by decide), count_loseHeader_other e c _ (by decide), count_loseHeader, hcnt, hcnt, hcnt, hcnt,
    h4, h6, h7, count_front_other hc f s (.inr (.inl rfl)), ch_loseHeader]
  exact ⟨rfl, rfl, rfl, rfl, isSet_hdrErr_loseHeader e c _, rfl, hact⟩

/-! ### A whole clear unit (R88, R90, R93, R95, R100) -/

/-- A whole clear unit of a side channel, for an unbonded, unencrypted Port-ID of the filter, with a good FCS. -/
structure CleanUnit (e : Engine) (c : Ch) (u : XgemUnit) (w : Word) (s : State) : Prop where
  side : c ≠ 0
  frag : (s.ch e c).frag = none
  whole : u.lf = true
  unmarked : u.marked = false
  noParity : u.parity = false
  clear : u.keyIdx = 0
  port : u.portId ≠ 0xFFFF
  entry : s.portEntry e u.portId = some w
  onChannel : w.field (24 + c.val) (24 + c.val) = 1
  plain : w.field 29 29 = 0
  unbonded : w.field 30 30 = 0
  length : u.data.length = u.pli
  short : 64 ≤ u.pli
  fits : u.pli ≤ 12320
  fcs : fcsGood u.data = true

variable {u : XgemUnit} {w : Word}

theorem CleanUnit.route_eq (h : CleanUnit e c u w s) : s.route e c u.portId = .data w := by
  simp [State.route, h.side, h.entry, h.onChannel]

theorem CleanUnit.sduOf_eq (h : CleanUnit e c u w s) : s.sduOf e c (.data w) u =
    { port := u.portId, limit := 12320, bonded := false, len := 0, bytes := [], keyIdx := 0, lost := false, skip := false } := by
  have hb : s.portBonded e (.data w) u.portId = false := by simp [State.portBonded, h.entry, h.unbonded]
  simp [State.sduOf, h.frag, hb, sduLimit, h.clear]

theorem CleanUnit.decrypt_eq (h : CleanUnit e c u w s) (pos : Nat) : decryptUnit e c (.data w) pos u s = some (u.data, s) := by
  have ht : u.data.take u.pli = u.data := List.take_of_length_le (Nat.le_of_eq h.length)
  unfold decryptUnit
  rw [h.clear]
  dsimp only
  rw [h.plain, ht, if_neg (by decide)]
  rfl

/-- A unit that is handed on is counted in XGEM_OK and its bytes in BYTES_OK. -/
def countOk (e : Engine) (c : Ch) (n : Nat) (s : State) : State := (s.bump (TC_CNT e.n c.val 10)).bump (TC_CNT e.n c.val 15) n

theorem CleanUnit.handOn_eq (h : CleanUnit e c u w s) (t : State) :
    handOn e c (.data w) false u.portId 0 false u.data t =
      sendUp e (.data ⟨c.val, false, u.portId, 0, u.data⟩) (countOk e c u.data.length t) := by
  have hl : ¬ u.data.length < 64 := by rw [h.length]; exact Nat.not_lt.mpr h.short
  simp [handOn, hl, h.fcs, countOk]

/-- The SDU that a whole clear unit makes by itself. -/
def wholeSdu (u : XgemUnit) : HeldFrag :=
  { port := u.portId, limit := 12320, bonded := false, len := 0 + u.pli, bytes := u.data, keyIdx := 0, lost := false,
    skip := false }

/-- The unit is counted and sent toward the hub. -/
theorem CleanUnit.takeUnit_eq (h : CleanUnit e c u w s) (pos : Nat) : takeUnit e c pos u s =
    sendUp e (.data ⟨c.val, false, u.portId, 0, u.data⟩) (countOk e c u.data.length (holdSdu e c true (wholeSdu u) s)) := by
  have hp : u.pli ≠ 0 := by have := h.short; omega
  have hfits : ¬ 12320 < 0 + u.pli := by have := h.fits; omega
  unfold takeUnit
  rw [if_neg h.port, if_neg hp]
  dsimp only
  rw [h.route_eq, h.sduOf_eq, if_neg (by simp), if_neg hfits, if_neg (by simp [h.unmarked]), if_neg (by simp), h.decrypt_eq]
  dsimp only
  rw [h.whole, if_pos (by simp), h.clear, h.noParity, List.nil_append, h.handOn_eq]
  rfl

/-- A payload that is this unit alone. -/
theorem CleanUnit.readUnits_eq (h : CleanUnit e c u w s) (hh : u.hecOk = true) {pos : Nat} (hpos : pos ≤ 4) :
    readUnits e c pos true [u] s = takeUnit e c pos u s := by
  have hfirst : firstHeader e c u s = s := by
    unfold firstHeader
    rw [h.frag]
  have hend : ¬ 656616 < nextPos pos u.pli := by have := h.fits; simp only [nextPos]; omega
  simp [readUnits, hh, h.whole, hend, hfirst]

/-- The state that a whole clear unit is taken in has the channel's view of it from before, where the stages between wrote neither
the filter nor the channel's fragments. -/
theorem CleanUnit.of_stage (h : CleanUnit e c u w s) {as : List Nat} (k : Stage e c as s t)
    (ha : ∀ a ∈ as, a < TC_PORT_FILTER e.n 0 ∨ TC_PORT_FILTER e.n 1024 ≤ a) : CleanUnit e c u w t :=
  { h with frag := k.frag.trans h.frag, entry := (k.writes.portEntry ha _).trans h.entry }

theorem down_sendUp_data (e : Engine) (x : DownSdu) (s : State) :
    ((sendUp e (.data x) s).line e).down = (s.line e).down ++ [x] := by
  simp [line_sendUp, Line.down]

theorem count_sendUp (e : Engine) (x : ToHub) (a : Nat) (s : State) : (sendUp e x s).count a = s.count a := rfl

theorem count_holdSdu (e : Engine) (c : Ch) (lf : Bool) (x : HeldFrag) (a : Nat) (s : State) :
    (holdSdu e c lf x s).count a = s.count a := rfl

theorem count_countOk (e : Engine) (c : Ch) (n : Nat) (s : State) :
    (countOk e c n s).count (TC_CNT e.n c.val 10) = (s.count (TC_CNT e.n c.val 10) + 1) % 2 ^ 48 ∧
      (countOk e c n s).count (TC_CNT e.n c.val 15) = (s.count (TC_CNT e.n c.val 15) + n) % 2 ^ 48 := by
  rw [countOk, count_bump_other_cnt _ _ _ _ _ _ (by decide), State.count_bump, State.count_bump,
    count_bump_other_cnt _ _ _ _ _ _ (by decide)]
  exact ⟨rfl, rfl⟩

theorem lines_countOk_holdSdu (e : Engine) (c : Ch) (n : Nat) (lf : Bool) (x : HeldFrag) (s : State) :
    (countOk e c n (holdSdu e c lf x s)).lines = s.lines := rfl

/-- What taking the unit sends and counts (R77, R100, R103). -/
theorem CleanUnit.taken (h : CleanUnit e c u w s) (pos : Nat) :
    ((takeUnit e c pos u s).line e).down = (s.line e).down ++ [⟨c.val, false, u.portId, 0, u.data⟩] ∧
      (takeUnit e c pos u s).count (TC_CNT e.n c.val 10) = (s.count (TC_CNT e.n c.val 10) + 1) % 2 ^ 48 ∧
      (takeUnit e c pos u s).count (TC_CNT e.n c.val 15) = (s.count (TC_CNT e.n c.val 15) + u.pli) % 2 ^ 48 := by
  obtain ⟨h10, h15⟩ := count_countOk e c u.data.length (holdSdu e c true (wholeSdu u) s)
  have hl : (countOk e c u.data.length (holdSdu e c true (wholeSdu u) s)).line e = s.line e := by
    simp only [State.line, lines_countOk_holdSdu]
  rw [h.takeUnit_eq, down_sendUp_data, count_sendUp, count_sendUp, h10, h15, count_holdSdu, count_holdSdu, hl, h.length]
  exact ⟨rfl, rfl, rfl⟩

/-! ### The frame that carries it -/

/-- The words that may be written between the PSync of a frame without map or PLOAM partitions and its first unit. -/
def headWords (e : Engine) (c : Ch) : List Nat := frontWords e c ++ answerWords e c

/-- The state in which the first unit of such a frame is read. -/
def atUnits (e : Engine) (c : Ch) (f : DsFrame) (s : State) : State :=
  readMap e c f false (checkOpctl e c f (front e c f s))

theorem stage_atUnits (hc : c ≠ 0) {f : DsFrame} (hb : f.bwmap = []) (s : State) :
    Stage e c (headWords e c) s (atUnits e c f s) :=
  (((stage_front hc f s).mono (List.subset_append_left _ _)).trans ((stage_checkOpctl f _).mono (List.nil_subset _))).trans
    ((stage_readMap_nil hb _).mono (List.subset_append_right _ _))

theorem processFrame_units (hc : c ≠ 0) {f : DsFrame} (hh : f.hlendHecOk = true) (hb : f.bwmap = []) (hp : f.ploam = [])
    {s : State} (hv : s.isSet ((TC_DS_STATUS_SFC_VALID e.n).bit c.val) = true) :
    processFrame e c f s = readUnits e c 4 true f.xgem (atUnits e c f s) := by
  rw [processFrame_eq hc, if_pos (sfcValid_front hc f hv), atUnits]
  unfold readPayload readPloam
  rw [if_neg (by simp [hh]), hb, hp]
  rfl

/-- No word ahead of the units is one of the filter's, nor one of the two counters of units handed on. -/
theorem headWords_apart (e : Engine) (c : Ch) :
    (∀ a ∈ headWords e c, a < TC_PORT_FILTER e.n 0 ∨ TC_PORT_FILTER e.n 1024 ≤ a) ∧
      (∀ k, 8 ≤ k → k < 16 → TC_CNT e.n c.val k ∉ headWords e c ∧ TC_CNT e.n c.val k + 4 ∉ headWords e c) := by
  constructor
  · intro a ha
    simp only [headWords, frontWords, checkWords, sfcWords, fecWords, answerWords, List.mem_append, List.mem_cons,
      List.not_mem_nil, or_false, TC_CNT, TC_DS_FLAGS, TC_SFC, TC_DS_STATUS, BURST_CNT, BURST_FLAGS, TC_DISC_STAT] at ha
    simp only [TC_PORT_FILTER]
    omega
  · intro k h8 h16
    simp only [headWords, frontWords, checkWords, sfcWords, fecWords, answerWords, List.mem_append, List.mem_cons,
      List.not_mem_nil, or_false, TC_CNT, TC_DS_FLAGS, TC_SFC, TC_DS_STATUS, BURST_CNT, BURST_FLAGS, TC_DISC_STAT]
    omega

/-- A frame whose payload is one whole clear unit: the unit is handed toward the hub and counted. -/
theorem processFrame_cleanUnit {f : DsFrame} (h : CleanUnit e c u w s) (hh : f.hlendHecOk = true) (hb : f.bwmap = [])
    (hp : f.ploam = []) (hx : f.xgem = [u]) (hu : u.hecOk = true)
    (hv : s.isSet ((TC_DS_STATUS_SFC_VALID e.n).bit c.val) = true) :
    ((processFrame e c f s).line e).down = (s.line e).down ++ [⟨c.val, false, u.portId, 0, u.data⟩] ∧
      (processFrame e c f s).count (TC_CNT e.n c.val 10) = (s.count (TC_CNT e.n c.val 10) + 1) % 2 ^ 48 ∧
      (processFrame e c f s).count (TC_CNT e.n c.val 15) = (s.count (TC_CNT e.n c.val 15) + u.pli) % 2 ^ 48 := by
  have hs := stage_atUnits (e := e) h.side hb s
  obtain ⟨hfilter, hcnt⟩ := headWords_apart e c
  have hr := h.of_stage hs hfilter
  obtain ⟨m10, m10'⟩ := hcnt 10 (by decide) (by decide)
  obtain ⟨m15, m15'⟩ := hcnt 15 (by decide) (by decide)
  obtain ⟨hd, h10, h15⟩ := hr.taken 4
  rw [processFrame_units h.side hh hb hp hv, hx, hr.readUnits_eq hu (Nat.le_refl 4), hd, h10, h15, hs.down,
    count_of_regsKept hs.kept m10 m10', count_of_regsKept hs.kept m15 m15']
  exact ⟨rfl, rfl, rfl⟩

/-! ### The statement -/

/-- Up to a frame's PSync only time passes, and a run of missing ones may end. -/
theorem foundState_kept (e : Engine) (c : Ch) (s : State) : OnlyWrites timeWords s (foundState e c s) :=
  (stage_due (e := e) (c := c) s).writes.trans (onlyWrites_of_regs_eq (State.modCh_regs _ _ _ _))

theorem frag_foundState (e : Engine) (c : Ch) (s : State) : ((foundState e c s).ch e c).frag = (s.ch e c).frag := by
  rw [foundState, State.ch_modCh_same]
  exact (stage_due (e := e) (c := c) s).frag

theorem lines_foundState (e : Engine) (c : Ch) (s : State) : (foundState e c s).lines = (s.until (frameDue s e c)).lines :=
  State.modCh_lines _ _ _ _

theorem down_foundState (e : Engine) (c : Ch) (s : State) : ((foundState e c s).line e).down = (s.line e).down := by
  rw [State.line, lines_foundState]
  exact (stage_due (e := e) (c := c) s).down

theorem count_foundState (e : Engine) (c : Ch) (s : State) (k : Nat) :
    (foundState e c s).count (TC_CNT e.n c.val k) = s.count (TC_CNT e.n c.val k) :=
  count_of_regsKept (foundState_kept e c s).regsKept (lineWord_not_mem_timeWords (by simp only [TC_CNT]; omega))
    (lineWord_not_mem_timeWords (by simp only [TC_CNT]; omega))

theorem sfcValid_foundState {e : Engine} {c : Ch} {s : State}
    (hv : s.isSet ((TC_DS_STATUS_SFC_VALID e.n).bit c.val) = true) :
    (foundState e c s).isSet ((TC_DS_STATUS_SFC_VALID e.n).bit c.val) = true :=
  (isSet_of_regsKept (foundState_kept e c s).regsKept (lineWord_not_mem_timeWords
    (by simp only [Fld.bit, TC_DS_STATUS_SFC_VALID, TC_DS_STATUS]; omega))).trans hv

theorem CleanUnit.found (h : CleanUnit e c u w s) : CleanUnit e c u w (foundState e c s) :=
  { h with
    frag := (frag_foundState e c s).trans h.frag
    entry := ((foundState_kept e c s).portEntry (fun a ha => .inl (by
      simp only [timeWords, List.mem_cons, List.not_mem_nil, or_false, BM_STATUS, TE_FLAGS] at ha
      simp only [TC_PORT_FILTER]
      omega)) _).trans h.entry }

/-- Settles O18: a lost header and a missed PSync from what a frame counts ahead of its payload, a sound unit from its way through
the receive stages, none of which touches the filter or the channel's fragments. -/
theorem downstreamFrames : Obligations.DownstreamFrames := by
  unfold Obligations.DownstreamFrames
  refine ⟨?_, ?_, ?_, ?_⟩
  · intro e c f s _ hc hunt hlock hpm hv htol hh
    refine ⟨_, (exec_downstreamFrame e c f s).trans (execDownstreamFrame_found hunt hlock hpm htol), ?_⟩
    obtain ⟨_, h0, _, _⟩ := processFrame_lost_keeps (e := e) hc hh (foundState e c s)
    obtain ⟨h4, h6, h7, h3, hflag, hfrag, hact⟩ := processFrame_lost_counts hc hh (sfcValid_foundState hv)
    rw [count_foundState] at h0 h4 h6 h7 h3
    refine ⟨h0, h4, h6, h7, h3, hflag, hfrag, hact.trans ?_⟩
    exact get_of_regsKept (foundState_kept e c s).regsKept
      (lineWord_not_mem_timeWords (by simp only [actStateF, TC_ACT_STATUS]; omega))
  · intro e c f s _ hc hunt hlock hpm htol hm hh
    refine ⟨_, (exec_downstreamFrame e c f s).trans (execDownstreamFrame_missed hunt hlock hpm htol hm), ?_⟩
    have hd := stage_due (e := e) (c := c) s
    have hk := regsKept_countMiss e c (s.until (frameDue s e c))
    have hcnt : ∀ k, (s.until (frameDue s e c)).count (TC_CNT e.n c.val k) = s.count (TC_CNT e.n c.val k) := fun k =>
      count_of_regsKept hd.kept (lineWord_not_mem_timeWords (by simp only [TC_CNT]; omega))
        (lineWord_not_mem_timeWords (by simp only [TC_CNT]; omega))
    obtain ⟨h1, h0, hmiss, hl⟩ := processFrame_lost_keeps (e := e) hc hh (countMiss e c (s.until (frameDue s e c)))
    rw [count_countMiss, hcnt] at h1
    rw [count_countMiss_other, hcnt] at h0
    rw [ch_countMiss, hd.misses] at hmiss
    refine ⟨h1, h0, hmiss, hl.trans ?_⟩
    refine (isSet_of_regsKept hk ?_).trans ((isSet_of_regsKept hd.kept ?_).trans hlock)
    · simp [Fld.bit, TC_DS_STATUS_LOCK, TC_DS_STATUS, TC_CNT]; omega
    · exact lineWord_not_mem_timeWords (by simp only [Fld.bit, TC_DS_STATUS_LOCK, TC_DS_STATUS]; omega)
  · intro e c f u w s _ hc hunt hlock hpm hv htol hh hb hp hx hfrag hu hlf hmk hpar hkey hport hent hon henc hbond hlen hmin
      hmax hfcs
    have hclean : CleanUnit e c u w s := ⟨hc, hfrag, hlf, hmk, hpar, hkey, hport, hent, hon, henc, hbond, hlen, hmin, hmax, hfcs⟩
    refine ⟨_, (exec_downstreamFrame e c f s).trans (execDownstreamFrame_found hunt hlock hpm htol), ?_⟩
    obtain ⟨hd, h10, h15⟩ := processFrame_cleanUnit hclean.found hh hb hp hx hu (sfcValid_foundState hv)
    rw [down_foundState] at hd
    rw [count_foundState] at h10 h15
    exact ⟨hd, h10, h15⟩
  · intro e c f s hlock
    rw [exec_downstreamFrame, execDownstreamFrame, if_neg (by simp [hlock])]

end Sys2Proof.Proofs.Downstream
end

section
/-! What the shared operations of the bonding layer do: streams and their records, the buffer gauge, release toward the hub
(R108 to R114). -/
namespace Sys2Proof.Proofs.Bonding
open Sys2Proof Sys2Proof.Machine Sys2Proof.Proofs.Downstream

variable {s : State} {e : Engine} {c : Ch} {st n : Nat} {x : BondSdu}

/-! ### Counters -/

/-- A counter that stands above every word written keeps its value. -/
theorem count_of_regsKept_below {t : State} {as : List Nat} {a : Nat} (h : regsKept as s t) (ha : ∀ b ∈ as, b < a) :
    t.count a = s.count a :=
  count_of_regsKept h (fun m => Nat.lt_irrefl a (ha a m)) (fun m => absurd (ha _ m) (by omega))

/-! ### Streams and the buffer gauge -/

theorem stream_setStream (e : Engine) (st : Nat) (v : Stream) (s : State) : (setStream e st v s).stream e st = v := by
  rw [State.stream, setStream, State.line_modLine_same, sget_sset_same]

theorem down_setStream (e : Engine) (st : Nat) (v : Stream) (s : State) :
    ((setStream e st v s).line e).down = (s.line e).down := by
  rw [setStream, State.line_modLine_same]
  rfl

theorem regsKept_showBuf (e : Engine) (s : State) : regsKept [BOND_BUF e.n] s (showBuf e s) :=
  regsKept_trans (regsKept_put (f := BOND_BUF_USED e.n) _ List.mem_cons_self)
    (regsKept_put (f := BOND_BUF_HWM e.n) _ List.mem_cons_self)

/-- A stream's record is replaced and the buffer gauge follows. -/
def recordStream (e : Engine) (st : Nat) (v : Stream) (s : State) : State := showBuf e (setStream e st v s)

theorem stream_recordStream (e : Engine) (st : Nat) (v : Stream) (s : State) : (recordStream e st v s).stream e st = v :=
  stream_setStream e st v s

theorem down_recordStream (e : Engine) (st : Nat) (v : Stream) (s : State) :
    ((recordStream e st v s).line e).down = (s.line e).down :=
  down_setStream e st v s

theorem regsKept_recordStream (e : Engine) (st : Nat) (v : Stream) (s : State) :
    regsKept [BOND_BUF e.n] s (recordStream e st v s) :=
  regsKept_trans (regsKept_of_regs_eq rfl) (regsKept_showBuf e (setStream e st v s))

theorem count_recordStream (e : Engine) (st : Nat) (v : Stream) (s : State) {a : Nat} (h : BOND_BUF e.n < a) :
    (recordStream e st v s).count a = s.count a :=
  count_of_regsKept_below (regsKept_recordStream e st v s) (List.forall_mem_singleton.mpr h)

/-! ### What flags, counters and gap fills leave alone -/

theorem ch_bondFlag (e : Engine) (b : Nat) (d : Engine) (c : Ch) (s : State) : (bondFlag e b s).ch d c = s.ch d c := rfl

theorem count_bondFlag (e : Engine) (b : Nat) (s : State) {a : Nat} (h : BOND_FLAGS e.n < a) :
    (bondFlag e b s).count a = s.count a :=
  count_of_regsKept_below (regsKept_raise b _ List.mem_cons_self) (List.forall_mem_singleton.mpr h)

theorem isSet_bondFlag (e : Engine) {b : Nat} (h : b < 32) (s : State) :
    (bondFlag e b s).isSet ⟨BOND_FLAGS e.n, b, b⟩ = true := by
  rw [bondFlag, isSet_raise _ _ _ _ _ h h, decide_eq_true rfl, Bool.true_or]

theorem count_modCh (e : Engine) (c : Ch) (f : Chan → Chan) (a : Nat) (s : State) : (s.modCh e c f).count a = s.count a := rfl

theorem line_noteLag (e : Engine) (c : Ch) (lag : Nat) (s : State) : (noteLag e c lag s).line e = s.line e := rfl

theorem count_noteLag (e : Engine) (c : Ch) (lag a : Nat) (s : State) : (noteLag e c lag s).count a = s.count a := rfl

/-! ### Release toward the hub (R110) -/

/-- A release advances RELEASED. -/
theorem count_releaseSdu (e : Engine) (chan : Nat) (x : BondSdu) (s : State) :
    (releaseSdu e chan x s).count (BOND_CNT e.n 0) = (s.count (BOND_CNT e.n 0) + 1) % 2 ^ 48 := by
  rw [releaseSdu, count_sendUp, State.count_bump]

theorem regsKept_releaseSdu (e : Engine) (chan : Nat) (x : BondSdu) (s : State) :
    regsKept [BOND_CNT e.n 0, BOND_CNT e.n 0 + 4] s (releaseSdu e chan x s) :=
  regsKept_trans (regsKept_bump 1 List.mem_cons_self (List.mem_cons_of_mem _ List.mem_cons_self)) (regsKept_of_regs_eq rfl)

theorem down_releaseSdu (e : Engine) (chan : Nat) (x : BondSdu) (s : State) :
    ((releaseSdu e chan x s).line e).down = (s.line e).down ++ [⟨chan, true, x.portId, x.keyIdx, x.data⟩] :=
  down_sendUp_data e _ _

/-- An SDU goes toward the hub and its stream's record becomes `v`. -/
def passOn (e : Engine) (st chan : Nat) (x : BondSdu) (v : Stream) (s : State) : State :=
  recordStream e st v (releaseSdu e chan x s)

/-- What passing an SDU on shows: the SDU behind those under way, the stream's record, and one more in RELEASED. -/
theorem passOn_shown (e : Engine) (st chan : Nat) (x : BondSdu) (v : Stream) (s : State) :
    ((passOn e st chan x v s).line e).down = (s.line e).down ++ [⟨chan, true, x.portId, x.keyIdx, x.data⟩] ∧
      (passOn e st chan x v s).stream e st = v ∧
      (passOn e st chan x v s).count (BOND_CNT e.n 0) = (s.count (BOND_CNT e.n 0) + 1) % 2 ^ 48 :=
  ⟨(down_recordStream e st v _).trans (down_releaseSdu e chan x s), stream_recordStream e st v _,
    (count_recordStream e st v _ (by simp only [BOND_BUF, BOND_CNT]; omega)).trans (count_releaseSdu e chan x s)⟩

/-- A counter beyond RELEASED keeps its value. -/
theorem count_passOn_other (e : Engine) (st chan : Nat) (x : BondSdu) (v : Stream) (s : State) {a : Nat}
    (h : BOND_CNT e.n 0 + 4 < a) : (passOn e st chan x v s).count a = s.count a := by
  have hcnt : BOND_CNT e.n 0 < a := by omega
  have hbuf : BOND_BUF e.n < a := by simp only [BOND_BUF, BOND_CNT] at h ⊢; omega
  rw [passOn, count_recordStream e st v _ hbuf]
  exact count_of_regsKept_below (regsKept_releaseSdu e chan x s) (by simp [hcnt, h])

/-! ### An arriving SDU whose tag is good (R108, R109) -/

theorem exec_bondedSduArrival (e : Engine) (c : Ch) (x : BondSdu) (s : State) :
    exec (.bondedSduArrival e c x) s = .next (bondedArrival e c x s) := by
  rfl

/-- Those that wait for the reorder logic behind an SDU that it takes. -/
def othersWaiting (c : Ch) (x : BondSdu) (ys : List (Nat × BondSdu)) : List (Nat × BondSdu) :=
  ys.eraseP (fun y => y.1 = c.val && y.2.tag = x.tag && y.2.data = x.data)

/-- The reorder logic takes an SDU from those that wait. -/
def dequeued (e : Engine) (c : Ch) (x : BondSdu) (s : State) : State :=
  s.modLine e (fun l => { l with bondIn := othersWaiting c x l.bondIn })

theorem line_dequeued (e : Engine) (c : Ch) (x : BondSdu) (s : State) :
    (dequeued e c x s).line e = { s.line e with bondIn := othersWaiting c x (s.line e).bondIn } :=
  State.line_modLine_same s e _

theorem count_dequeued (e : Engine) (c : Ch) (x : BondSdu) (a : Nat) (s : State) : (dequeued e c x s).count a = s.count a := rfl

/-- The state in which an SDU with a good tag is placed: it is counted in BONDED_IN, and DS_CHMAP follows its tag. -/
def accepted (e : Engine) (c : Ch) (x : BondSdu) (s : State) : State :=
  noteChmap e (tagChmap x.tag) ((dequeued e c x s).bump (BOND_CHCNT e.n c.val 0))

theorem bondedArrival_goodTag (hg : tagGood x.tag = true) (s : State) :
    bondedArrival e c x s = placeSdu e c (tagStream x.tag) x 65536 (adoptSeq e (tagStream x.tag) (tagRs x.tag) (tagSeq x.tag)
      ((accepted e c x s).when (tagRs x.tag) (fun s => s.bump (BOND_CNT e.n 6)))) :=
  if_pos hg

theorem bondedArrival_accepted (hg : tagGood x.tag = true) (hr : tagRs x.tag = false) (s : State) :
    bondedArrival e c x s =
      placeSdu e c (tagStream x.tag) x 65536 (adoptSeq e (tagStream x.tag) false (tagSeq x.tag) (accepted e c x s)) := by
  rw [bondedArrival_goodTag hg, hr, when_false]

/-- DS_CHMAP's word and the flag of a change are all that following a tag writes. -/
theorem noteChmap_kept (e : Engine) (m : Nat) (s : State) :
    regsKept [BOND_DS_CHMAP e.n, BOND_FLAGS e.n] s (noteChmap e m s) ∧ (noteChmap e m s).lines = s.lines ∧
      (noteChmap e m s).chans = s.chans ∧ (noteChmap e m s).now = s.now := by
  unfold noteChmap
  dsimp only
  generalize (s.isSet (BOND_DS_CHMAP_VALID e.n) && decide (s.get (BOND_DS_CHMAP_CHMAP e.n) ≠ m)) = change
  have hput : regsKept [BOND_DS_CHMAP e.n, BOND_FLAGS e.n] s
      ((s.putB (BOND_DS_CHMAP_VALID e.n) true).put (BOND_DS_CHMAP_CHMAP e.n) m) :=
    regsKept_trans (regsKept_putB (f := BOND_DS_CHMAP_VALID e.n) true List.mem_cons_self)
      (regsKept_put (f := BOND_DS_CHMAP_CHMAP e.n) m List.mem_cons_self)
  cases change
  · exact ⟨hput, rfl, rfl, rfl⟩
  · exact ⟨regsKept_trans hput (regsKept_raise _ _ (List.mem_cons_of_mem _ List.mem_cons_self)), rfl, rfl, rfl⟩

theorem line_accepted (e : Engine) (c : Ch) (x : BondSdu) (s : State) :
    (accepted e c x s).line e = { s.line e with bondIn := othersWaiting c x (s.line e).bondIn } := by
  have hl := (noteChmap_kept e (tagChmap x.tag) ((dequeued e c x s).bump (BOND_CHCNT e.n c.val 0))).2.1
  rw [accepted, State.line, hl]
  exact line_dequeued e c x s

theorem stream_accepted (e : Engine) (c : Ch) (x : BondSdu) (s : State) (st : Nat) :
    (accepted e c x s).stream e st = s.stream e st := by
  rw [State.stream, line_accepted]
  rfl

theorem bondCells_accepted (e : Engine) (c : Ch) (x : BondSdu) (s : State) : (accepted e c x s).bondCells e = s.bondCells e := by
  rw [State.bondCells, line_accepted]
  rfl

theorem down_accepted (e : Engine) (c : Ch) (x : BondSdu) (s : State) :
    ((accepted e c x s).line e).down = (s.line e).down := by
  rw [line_accepted]
  rfl

theorem now_accepted (e : Engine) (c : Ch) (x : BondSdu) (s : State) : (accepted e c x s).now = s.now :=
  (noteChmap_kept e _ _).2.2.2

theorem ch_accepted (e : Engine) (c : Ch) (x : BondSdu) (s : State) : (accepted e c x s).ch e c = s.ch e c := by
  rw [State.ch, accepted, (noteChmap_kept e _ _).2.2.1]
  rfl

/-- The words of BONDED_IN of a channel, of DS_CHMAP and of the flags. -/
def acceptWords (e : Engine) (c : Ch) : List Nat :=
  [BOND_CHCNT e.n c.val 0, BOND_CHCNT e.n c.val 0 + 4, BOND_DS_CHMAP e.n, BOND_FLAGS e.n]

theorem regsKept_accepted (e : Engine) (c : Ch) (x : BondSdu) (s : State) :
    regsKept (acceptWords e c) s (accepted e c x s) := by
  have hb : regsKept (acceptWords e c) s ((dequeued e c x s).bump (BOND_CHCNT e.n c.val 0)) :=
    regsKept_trans (regsKept_of_regs_eq rfl)
      (regsKept_bump (s := dequeued e c x s) 1 (by simp [acceptWords]) (by simp [acceptWords]))
  exact regsKept_trans hb (regsKept_mono (noteChmap_kept e _ _).1 (by simp [acceptWords]))

/-- A word apart from BONDED_IN's two, DS_CHMAP's and the flags' is not written. -/
theorem not_mem_acceptWords {c : Ch} {a : Nat} (h0 : a ≠ BOND_CHCNT e.n c.val 0 ∧ a ≠ BOND_CHCNT e.n c.val 0 + 4)
    (h1 : a ≠ BOND_DS_CHMAP e.n ∧ a ≠ BOND_FLAGS e.n) : a ∉ acceptWords e c := by
  simp [acceptWords, h0, h1]

theorem skewWin_accepted (e : Engine) (c : Ch) (x : BondSdu) (s : State) :
    (accepted e c x s).get (BOND_CFG_SKEW_WIN e.n) = s.get (BOND_CFG_SKEW_WIN e.n) :=
  get_of_regsKept (regsKept_accepted e c x s) (not_mem_acceptWords
    (by simp only [BOND_CFG_SKEW_WIN, BOND_CFG, BOND_CHCNT]; omega)
    (by simp only [BOND_CFG_SKEW_WIN, BOND_CFG, BOND_DS_CHMAP, BOND_FLAGS]; omega))

/-- The engine's counters stand below those of its channels. -/
theorem count_accepted (e : Engine) (c : Ch) (x : BondSdu) (s : State) {k : Nat} (hk : k < 32) :
    (accepted e c x s).count (BOND_CNT e.n k) = s.count (BOND_CNT e.n k) := by
  refine count_of_regsKept (regsKept_accepted e c x s) (not_mem_acceptWords ?_ ?_) (not_mem_acceptWords ?_ ?_) <;>
  · simp only [BOND_CNT, BOND_CHCNT, BOND_DS_CHMAP, BOND_FLAGS]
    omega

/-- BONDED_IN counts the SDU. -/
theorem count_bondedIn_accepted (e : Engine) (c : Ch) (x : BondSdu) (s : State) :
    (accepted e c x s).count (BOND_CHCNT e.n c.val 0) = (s.count (BOND_CHCNT e.n c.val 0) + 1) % 2 ^ 48 := by
  refine (count_of_regsKept_below (noteChmap_kept e _ _).1 ?_).trans (by rw [State.count_bump, count_dequeued])
  simp only [List.forall_mem_cons, List.not_mem_nil, false_imp_iff, forall_const, and_true, BOND_CHCNT, BOND_DS_CHMAP, BOND_FLAGS]
  omega

/-- LATE keeps its value. -/
theorem count_late_accepted (e : Engine) (c : Ch) (x : BondSdu) (s : State) :
    (accepted e c x s).count (BOND_CHCNT e.n c.val 1) = s.count (BOND_CHCNT e.n c.val 1) := by
  refine count_of_regsKept (regsKept_accepted e c x s) (not_mem_acceptWords ?_ ?_) (not_mem_acceptWords ?_ ?_) <;>
  · simp only [BOND_CHCNT, BOND_DS_CHMAP, BOND_FLAGS]
    omega

end Sys2Proof.Proofs.Bonding
end

section
/-! The downstream reorder: where an SDU goes whose stream holds nothing, and the end of a skew window (R110 to R117). -/
namespace Sys2Proof.Proofs.Bonding
open Sys2Proof Sys2Proof.Machine Sys2Proof.Proofs.Downstream

variable {s : State} {e : Engine} {c : Ch} {st n : Nat} {x : BondSdu}

/-! ### Placing an SDU whose stream holds nothing (R110) -/

/-- Nothing held waits behind a gap. -/
theorem gapLag_nil (s : State) (o : Option Nat) (next d : Nat) : gapLag s ⟨o, []⟩ next d = 0 := rfl

theorem adoptSeq_state {o : Nat} (h : s.stream e st = ⟨some o, []⟩) (seq : Nat) : adoptSeq e st false seq s = s := by
  simp [adoptSeq, h]

theorem adoptSeq_fresh (h : s.stream e st = ⟨none, []⟩) (seq : Nat) :
    adoptSeq e st false seq s = recordStream e st ⟨some seq, []⟩ s := by
  simp [adoptSeq, h, recordStream, State.each]

/-- The expected SDU is passed on, and the next number is expected. -/
theorem placeSdu_expected (h : s.stream e st = ⟨some (tagSeq x.tag), []⟩) (fuel : Nat) :
    placeSdu e c st x (fuel + 1) s =
      passOn e st c.val x ⟨some ((tagSeq x.tag + 1) % 2 ^ 24), []⟩ (noteLag e c 0 s) := by
  have hd : (tagSeq x.tag + 2 ^ 24 - tagSeq x.tag) % 2 ^ 24 = 0 := by omega
  simp only [placeSdu, h, Option.getD_some, hd, if_true, gapLag_nil, releaseRun]
  rfl

/-- What is held of an SDU that came ahead of its number. -/
def heldOf (s : State) (e : Engine) (c : Ch) (x : BondSdu) : HeldSdu :=
  ⟨tagSeq x.tag, x, s.now, s.get (BOND_CFG_SKEW_WIN e.n) * 1000, c.val⟩

/-- An SDU ahead of the expected one is held where the buffer has room. -/
theorem placeSdu_ahead (h : s.stream e st = ⟨some n, []⟩) (h0 : 0 < (tagSeq x.tag + 2 ^ 24 - n) % 2 ^ 24)
    (h1 : (tagSeq x.tag + 2 ^ 24 - n) % 2 ^ 24 < 2 ^ 23)
    (hroom : s.bondCells e + heldCells (heldOf s e c x) ≤ 32768) (fuel : Nat) :
    placeSdu e c st x (fuel + 1) s = recordStream e st ⟨some n, [heldOf s e c x]⟩ (noteLag e c 0 s) := by
  unfold heldOf at hroom ⊢
  simp only [placeSdu, h, Option.getD_some, if_neg (Nat.ne_of_gt h0), if_pos h1, List.any_nil, if_pos hroom, gapLag_nil,
    insertHeld]
  rfl

/-- A late SDU is counted and flagged, and the channel's open window notes it. -/
def countLate (e : Engine) (c : Ch) (s : State) : State :=
  bondFlag e 13 ((s.bump (BOND_CHCNT e.n c.val 1)).modCh e c (fun y => { y with lateN := y.lateN + 1 }))

theorem line_countLate (e : Engine) (c : Ch) (s : State) : (countLate e c s).line e = s.line e := rfl

/-- What a late SDU shows (R110, R117). -/
theorem countLate_shown (e : Engine) (c : Ch) (s : State) :
    (countLate e c s).count (BOND_CHCNT e.n c.val 1) = (s.count (BOND_CHCNT e.n c.val 1) + 1) % 2 ^ 48 ∧
      (countLate e c s).isSet ⟨BOND_FLAGS e.n, 13, 13⟩ = true ∧ ((countLate e c s).ch e c).lateN = (s.ch e c).lateN + 1 := by
  refine ⟨?_, isSet_bondFlag e (by omega) _, ?_⟩
  · rw [countLate, count_bondFlag _ _ _ (by simp only [BOND_FLAGS, BOND_CHCNT]; omega), count_modCh, State.count_bump]
  · rw [countLate, ch_bondFlag, State.ch_modCh_same, ch_bump]

/-- An SDU behind the expected one is late. -/
theorem placeSdu_late (h : s.stream e st = ⟨some n, []⟩) (h1 : 2 ^ 23 ≤ (tagSeq x.tag + 2 ^ 24 - n) % 2 ^ 24) (fuel : Nat) :
    placeSdu e c st x (fuel + 1) s = countLate e c s := by
  have h0 : (tagSeq x.tag + 2 ^ 24 - n) % 2 ^ 24 ≠ 0 := by omega
  simp only [placeSdu, h, Option.getD_some, if_neg h0, if_neg (Nat.not_lt.mpr h1), countLate]

/-! ### The arrival (R110, R112) -/

/-- An SDU of a stream with a state is placed in the state that its acceptance leaves. -/
theorem bondedArrival_state (hg : tagGood x.tag = true) (hr : tagRs x.tag = false)
    (h : s.stream e (tagStream x.tag) = ⟨some n, []⟩) :
    bondedArrival e c x s = placeSdu e c (tagStream x.tag) x (65535 + 1) (accepted e c x s) := by
  rw [bondedArrival_accepted hg hr, adoptSeq_state ((stream_accepted e c x s _).trans h)]

/-- The first SDU of a stream is adopted, and so expected. -/
theorem bondedArrival_fresh (hg : tagGood x.tag = true) (hr : tagRs x.tag = false)
    (h : s.stream e (tagStream x.tag) = ⟨none, []⟩) :
    bondedArrival e c x s = passOn e (tagStream x.tag) c.val x ⟨some ((tagSeq x.tag + 1) % 2 ^ 24), []⟩
      (noteLag e c 0 (recordStream e (tagStream x.tag) ⟨some (tagSeq x.tag), []⟩ (accepted e c x s))) := by
  rw [bondedArrival_accepted hg hr, adoptSeq_fresh ((stream_accepted e c x s _).trans h)]
  exact placeSdu_expected (stream_recordStream e _ _ _) 65535

theorem dequeued_nil (h : (s.line e).bondIn = []) (c : Ch) (x : BondSdu) :
    dequeued e c x s = s.modLine e (fun l => { l with bondIn := [] }) := by
  rw [dequeued, State.modLine, h]
  rfl

/-- An SDU with a bad tag is counted and leaves every stream as it was (R108). -/
theorem bondedArrival_badTag (hg : tagGood x.tag = false) (h : (s.line e).bondIn = []) :
    bondedArrival e c x s =
      bondFlag e 15 (((s.modLine e (fun l => { l with bondIn := [] })).bump (BOND_CHCNT e.n c.val 0)).bump (BOND_CNT e.n 3)) := by
  simp only [bondedArrival, hg, ← dequeued_nil h c x, Bool.false_eq_true, if_false, dequeued, othersWaiting]

/-! ### The end of a skew window (R110, R115) -/

theorem exec_skewWindowExpiry (e : Engine) (st : Slot) (s : State) :
    exec (.skewWindowExpiry e st) s = execSkewWindowExpiry e st s := by
  rfl

/-- The numbers before a held SDU are given up: LOST counts them, and its flag is set where there are any. -/
def loseTo (e : Engine) (n seq : Nat) (s : State) : State :=
  (s.bump (BOND_CNT e.n 1) ((seq + 2 ^ 24 - n) % 2 ^ 24)).when ((seq + 2 ^ 24 - n) % 2 ^ 24 ≠ 0) (bondFlag e 14)

theorem line_loseTo (e : Engine) (n seq : Nat) (s : State) : (loseTo e n seq s).line e = s.line e := by
  unfold loseTo State.when
  split <;> rfl

theorem count_loseFlag (e : Engine) (n seq : Nat) (s : State) {a : Nat} (h : BOND_FLAGS e.n < a) :
    (loseTo e n seq s).count a = (s.bump (BOND_CNT e.n 1) ((seq + 2 ^ 24 - n) % 2 ^ 24)).count a := by
  unfold loseTo State.when
  split
  · exact count_bondFlag e 14 _ h
  · rfl

theorem count_loseTo (e : Engine) (n seq : Nat) (s : State) :
    (loseTo e n seq s).count (BOND_CNT e.n 1) = (s.count (BOND_CNT e.n 1) + (seq + 2 ^ 24 - n) % 2 ^ 24) % 2 ^ 48 ∧
      (loseTo e n seq s).count (BOND_CNT e.n 0) = s.count (BOND_CNT e.n 0) := by
  refine ⟨?_, ?_⟩
  · rw [count_loseFlag _ _ _ _ (by simp only [BOND_FLAGS, BOND_CNT]; omega), State.count_bump]
  · rw [count_loseFlag _ _ _ _ (by simp only [BOND_FLAGS, BOND_CNT]; omega)]
    refine count_of_regsKept (regsKept_bump (as := [BOND_CNT e.n 1, BOND_CNT e.n 1 + 4]) _ (by simp) (by simp)) ?_ ?_ <;>
    · simp only [List.mem_cons, List.not_mem_nil, or_false, BOND_CNT]
      omega

/-- The expiry step of a stream that holds one sound SDU gives up the numbers before it and passes it on. -/
theorem expiryStep_single {h : HeldSdu} (hs : s.stream e st = ⟨some n, [h]⟩) (hp : h.sdu.parity = false) :
    expiryStep e st s = passOn e st h.chan h.sdu ⟨some ((h.seq + 1) % 2 ^ 24), []⟩ (loseTo e n h.seq s) := by
  simp only [expiryStep, hs, releaseRun, releaseHeld, hp, if_true]
  rfl

theorem execSkewWindowExpiry_single {st : Slot} {h : HeldSdu} (hs : s.stream e st.val = ⟨some n, [h]⟩)
    (hp : h.sdu.parity = false) :
    execSkewWindowExpiry e st s =
      .next (passOn e st.val h.chan h.sdu ⟨some ((h.seq + 1) % 2 ^ 24), []⟩ (loseTo e n h.seq s)) := by
  rw [← expiryStep_single hs hp]
  simp [execSkewWindowExpiry, hs, leastHeld, expireUntil]

/-- Settles O20: one case per clause, an arrival by where its number stands to the expected one. -/
theorem reorderBuffer : Obligations.ReorderBuffer := by
  unfold Obligations.ReorderBuffer
  refine ⟨?_, ?_, ?_, ?_, ?_, ?_, ?_, ?_⟩
  · intro e c x s hg hin
    rw [exec_bondedSduArrival, bondedArrival_badTag hg hin]
  · rintro e c x n s _ hg hr hst rfl
    refine ⟨_, exec_bondedSduArrival e c x s, ?_⟩
    rw [bondedArrival_state hg hr hst, placeSdu_expected ((stream_accepted e c x s _).trans hst)]
    obtain ⟨hdown, hnext, hrel⟩ := passOn_shown e (tagStream x.tag) c.val x ⟨some ((tagSeq x.tag + 1) % 2 ^ 24), []⟩
      (noteLag e c 0 (accepted e c x s))
    rw [line_noteLag, down_accepted] at hdown
    rw [count_noteLag, count_accepted e c x s (by omega)] at hrel
    refine ⟨hdown, hnext, hrel, ?_⟩
    rw [count_passOn_other e _ _ x _ _ (by simp only [BOND_CNT, BOND_CHCNT]; omega), count_noteLag, count_bondedIn_accepted]
  · intro e c x n s _ hg hr hst h0 h1 hroom
    refine ⟨_, exec_bondedSduArrival e c x s, ?_⟩
    have hcells : (accepted e c x s).bondCells e + heldCells (heldOf (accepted e c x s) e c x) ≤ 32768 :=
      (bondCells_accepted e c x s).symm ▸ hroom
    rw [bondedArrival_state hg hr hst, placeSdu_ahead ((stream_accepted e c x s _).trans hst) h0 h1 hcells, heldOf,
      now_accepted, skewWin_accepted, down_recordStream, line_noteLag, down_accepted, stream_recordStream,
      count_recordStream e _ _ _ (by simp only [BOND_BUF, BOND_CNT]; omega), count_noteLag, count_accepted e c x s (by omega)]
    exact ⟨rfl, rfl, rfl⟩
  · intro e c x n s _ hg hr hst h1
    refine ⟨_, exec_bondedSduArrival e c x s, ?_⟩
    rw [bondedArrival_state hg hr hst, placeSdu_late ((stream_accepted e c x s _).trans hst) h1]
    obtain ⟨hlate, hflag, hn⟩ := countLate_shown e c (accepted e c x s)
    rw [count_late_accepted] at hlate
    rw [ch_accepted] at hn
    rw [line_countLate, down_accepted, State.stream, line_countLate]
    exact ⟨rfl, (stream_accepted e c x s _).trans hst, hlate, hflag, hn⟩
  · intro e c x s _ hg hr hst
    refine ⟨_, exec_bondedSduArrival e c x s, ?_⟩
    rw [bondedArrival_fresh hg hr hst]
    obtain ⟨hdown, hnext, _⟩ := passOn_shown e (tagStream x.tag) c.val x ⟨some ((tagSeq x.tag + 1) % 2 ^ 24), []⟩
      (noteLag e c 0 (recordStream e (tagStream x.tag) ⟨some (tagSeq x.tag), []⟩ (accepted e c x s)))
    rw [line_noteLag, down_recordStream, down_accepted] at hdown
    exact ⟨hdown, hnext⟩
  · intro e st n h s _ hs hp
    refine ⟨_, (exec_skewWindowExpiry e st s).trans (execSkewWindowExpiry_single hs hp), ?_⟩
    obtain ⟨hdown, hnext, hrel⟩ := passOn_shown e st.val h.chan h.sdu ⟨some ((h.seq + 1) % 2 ^ 24), []⟩ (loseTo e n h.seq s)
    obtain ⟨hlost, hkept⟩ := count_loseTo e n h.seq s
    rw [line_loseTo] at hdown
    rw [hkept] at hrel
    refine ⟨hdown, hnext, ?_, hrel⟩
    rw [count_passOn_other e _ _ _ _ _ (by simp only [BOND_CNT]; omega), hlost]
  · intro e st s hs
    rw [exec_skewWindowExpiry, execSkewWindowExpiry, hs]
    rfl
  · intro e c s
    rfl

end Sys2Proof.Proofs.Bonding
end

section
/-! Membership of the bond: the member mask while the engine is held in reset (R8, R33, R131). -/
namespace Sys2Proof.Proofs.Bonding
open Sys2Proof Sys2Proof.Machine Sys2Proof.Proofs.Downstream

variable {s : State} {e : Engine}

/-- A channel that leaves the bond writes its state and its flag. -/
theorem bondLeave_kept (e : Engine) (c : Ch) (s : State) :
    regsKept [BOND_CH_STATE e.n, BOND_FLAGS e.n] s (bondLeave e c s) ∧ (bondLeave e c s).kp = s.kp := by
  unfold bondLeave setBond
  split
  · split
    · exact ⟨regsKept_refl _ s, rfl⟩
    · exact ⟨regsKept_trans (regsKept_put (f := bondStateF e c) 0 List.mem_cons_self)
        (regsKept_raise _ _ (List.mem_cons_of_mem _ List.mem_cons_self)), rfl⟩
  · exact ⟨regsKept_refl _ s, rfl⟩

/-- The member mask writes MEMBER's word, and the states and flags of channels that leave. -/
def memberWords (e : Engine) : List Nat := [BOND_CTRL e.n, BOND_CH_STATE e.n, BOND_FLAGS e.n]

theorem regsKept_setMember (e : Engine) (m : Nat) (s : State) : regsKept (memberWords e) s (setMember e m s) := by
  refine regsKept_trans (regsKept_put (f := BOND_CTRL_MEMBER e.n) m List.mem_cons_self) (regsKept_each _ (fun c _ s => ?_) _)
  split
  · exact regsKept_refl _ s
  · exact regsKept_mono (bondLeave_kept e c s).1 (List.subset_cons_self _ _)

theorem kp_setMember (e : Engine) (m : Nat) (s : State) : (setMember e m s).kp = s.kp := by
  refine each_keeps State.kp channels (fun c _ s => ?_) _
  split
  · rfl
  · exact (bondLeave_kept e c s).2

theorem setChJoin_held (h : s.engineHeld e = true) (c : Ch) (v : Bool) : setChJoin e c v s = s := by
  simp [setChJoin, h]

theorem engineHeld_setMember (e : Engine) (m : Nat) (s : State) : (setMember e m s).engineHeld e = s.engineHeld e := by
  simp only [State.engineHeld, State.carrierHeld, State.moduleHeld, kp_setMember]

/-- While the engine is held in reset the mask reaches MEMBER, and CH_JOIN takes no write. -/
theorem execMemberMaskSet_held (h : s.engineHeld e = true) (m : BitVec 4) :
    execMemberMaskSet e m s = .next (setMember e m.toNat s) := by
  have hj : ∀ (c : Ch) (v : Bool), setChJoin e c v (setMember e m.toNat s) = setMember e m.toNat s :=
    setChJoin_held ((engineHeld_setMember e _ s).trans h)
  simp only [execMemberMaskSet, sideChannels, List.foldl_cons, List.foldl_nil, hj]

theorem exec_memberMaskSet (e : Engine) (m : BitVec 4) (s : State) :
    exec (.memberMaskSet e m) s = execMemberMaskSet e m s := by
  rfl

/-- The terminal after reset with a reset of line engine LA standing (bit 13 of Table 19-5). -/
def laHeld : State := State.reset.modKp (fun k => { k with asserted := 2 ^ 13 })

/-- With LA held, a mask that names channel 1 leaves channel 1's CH_JOIN bit at its reset value 0 (R8, R54). -/
theorem chJoin_laHeld : (setMember .la 2 laHeld).isSet ((TC_ACT_CTRL_CH_JOIN 0).bit 0) = false := by
  rw [isSet_of_regsKept (regsKept_setMember .la 2 laHeld) (by decide)]
  decide

/-- Refutes O21 by its last clause, which says of every state that the mask reaches CH_JOIN: an engine held in reset takes no write
of those bits (R8, R33). -/
theorem not_bondMembership : ¬ Obligations.BondMembership := by
  unfold Obligations.BondMembership
  rintro ⟨_, _, _, _, _, _, _, _, _, _, _, _, hmask⟩
  obtain ⟨t, ht, _, hjoin⟩ := hmask .la 2 laHeld (State.ok_modKp State.ok_reset _)
  rw [exec_memberMaskSet, execMemberMaskSet_held (by decide), Host.Outcome.next.injEq] at ht
  have h1 := hjoin 1 (by decide)
  rw [← ht] at h1
  exact absurd (chJoin_laHeld.symm.trans h1) (by decide)

end Sys2Proof.Proofs.Bonding
end
